-- ==== Sys2Proof/Word.lean ====
section
/-! DEFINITION. The words the part's ports carry.

A quantity of the manual is an integer (00_scope.md, Arithmetic) and is a `Nat` or an `Int` in the
model; only what crosses a port or a page as bits is a bit vector. -/

namespace Sys2Proof

/-- One byte of a command port frame, a feeder line payload or a session record. -/
abbrev Byte := BitVec 8

/-- A two-byte field. -/
abbrev Word16 := BitVec 16

/-- A four-byte field. -/
abbrev Word32 := BitVec 32

end Sys2Proof
end

