-- ==== Sys2Proof/Syntax.lean ====
section
/-! DEFINITION. The commands and events of the part: one constructor of `Instr` for each row of
spec/opcode_table.json, with the row's operands at the widths they have at the part's boundary. -/

namespace Sys2Proof

/-- A half-bridge of the power stage: front-end legs U, V, W and the DC stage leg D. -/
inductive Leg
  | u | v | w | d
  deriving DecidableEq, Repr

/-- A device of a leg. -/
inductive Device
  | upper | lower
  deriving DecidableEq, Repr

/-- A phase of the grid. -/
inductive Phase
  | u | v | w
  deriving DecidableEq, Repr

/-- The two relays PSQ commands (R4). -/
inductive PlugRelay
  | precharge | contactor
  deriving DecidableEq, Repr

/-- What ended on the pilot sense input (R7). -/
inductive PilotSpan
  | pulse | rest
  deriving DecidableEq, Repr

/-- The five fields of one slot in CONFIGURE's payload (12.4, fields 33 to 112). -/
structure SlotPayload where
  offset : Word16
  gain   : Word32
  low    : Word16
  high   : Word16
  action : Byte
  deriving DecidableEq, Repr

/-- The 224-byte payload of CONFIGURE, field by field (12.4). -/
structure ConfigPayload where
  station     : Byte
  fc          : Word16
  divider     : Byte
  deadTime    : Word16
  feLevel     : Byte
  dcLevel     : Byte
  heaterLevel : Byte
  floatOnTrip : Byte
  extFilter   : Byte
  eta         : Word16
  margin      : Word16
  riseStep    : Byte
  joinCurrent : Byte
  fallback    : Byte
  policy      : Byte
  vPre        : Word16
  vLinkTarget : Word16
  linkCeiling : Word16
  iFull       : Word16
  kCv         : Byte
  rUp         : Byte
  kpLink      : Word16
  kiLink      : Word16
  kpBat       : Word16
  kiBat       : Word16
  tCold       : Word16
  rc          : Word16
  rm          : Byte
  uInj        : Byte
  tHalfMax    : Byte
  rWarn       : Word16
  rAlarm      : Word16
  slots       : List SlotPayload
  deriving DecidableEq, Repr

/-- The rows of spec/opcode_table.json. A received frame carries its sender's station number (the
low six bits of the arbitration field), its feeder id and its payload fields (R28, R29). -/
inductive Instr
  | powerOn
  | brownOut
  | resetLine
  | chipSelectAssert
  | readOnlyTransaction (received : List Byte)
  | requestRejected (received : List Byte)
  | configure (payload : ConfigPayload)
  | getStatus
  | readEvents
  | setCharge (iReq vMax : Word16)
  | setBatteryLimit (iBms : Word16)
  | setHeating (tOn tOff pHmax : Word16) (permission : Byte) (pBattMax : Word16) (clear : Byte)
  | goIdentify
  | goEnergize (slot : Byte) (stamp : Word32)
  | goStop
  | goIdle
  | cancel
  | tripClear
  | writeDescriptor (slot flags : Byte) (quota duration rateChg rateCond : Word16) (next : Byte)
  | extend (next : Byte)
  | sessionSplit (slot : Byte) (stamp : Word32)
  | readReport
  | removeReport
  | readMeter
  | readPeers
  | readShare
  | readMeasure (slot clear : Byte)
  | readInsulation
  | clearInsulation
  | carrierTrough
  | loopComputationEvent
  | linePeriodLapse
  | legCommandChange (leg : Leg) (position : Nat)
  | deadTimeEnd (leg : Leg)
  | gateFeedbackChange (leg : Leg) (device : Device) (reads : Bool)
  | legConflictTimerExpiry (leg : Leg)
  | heaterPeriodStart
  | heaterDutyEnd
  | extTripLineChange (active : Bool)
  | extTripFilterExpiry
  | extInactiveTimerExpiry
  | gridSupervisionExpiry
  | slowScanTimerExpiry
  | pairConversionDone (first second : Word16)
  | spanLapse (phase : Phase)
  | plugSettleComplete
  | pilotCodeComplete
  | identTimeout
  | prechargeTimeout
  | contactorTimeout
  | relayFeedbackChange (relay : PlugRelay) (closed : Bool)
  | openSupervisionExpiry (relay : PlugRelay)
  | batteryLowTimeout
  | stopTimerExpiry
  | txAttemptStart
  | txArbitrationLost
  | txBitError
  | txComplete (acknowledged : Bool)
  | silentTimerExpiry
  | frameDropped (bits : List Bool)
  | beaconReceived (station : BitVec 6) (feeder : Byte) (demand draw : Word16) (flags : Byte)
      (resistance : Word16) (leader : Byte)
  | leaveReceived (station : BitVec 6) (feeder : Byte)
  | alertReceived (station : BitVec 6) (feeder : Byte) (resistance : Word16)
  | sweepStepReceived (station : BitVec 6) (feeder target index : Byte)
  | sweepAnswerReceived (station : BitVec 6) (feeder target code : Byte)
  | sweepResultReceived (station : BitVec 6) (feeder outcome found unresponsive : Byte)
  | measureStartReceived (station : BitVec 6) (feeder polarity half : Byte)
  | measureResultReceived (station : BitVec 6) (feeder : Byte) (resistance : Word16) (flags : Byte)
  | beaconPeriodEvent
  | peerAgedOut
  | overflowEnd
  | measuringRoleTake
  | backoffEnd
  | rampEvent
  | freshnessTimerExpiry
  | heaterEvent
  | relaySettleExpiry
  | heaterOpenDetect
  | unmonitoredTimerExpiry
  | sweepAnswerTimeout
  | sweepCycleTimeout
  | leaderSilenceExpiry
  | sweepHoldExpiry
  | meterSample
  | meteringInterval
  | storeWriteComplete
  | pilotSenseEdge (span : PilotSpan) (width : Nat)
  | powerLoss
  deriving DecidableEq, Repr

end Sys2Proof
end

