-- ==== Sys2Proof/Decode.lean ====
section
/-! DEFINITION. The two readings of bits the part has: the opcode table's (no row gives bits, so nothing
decodes; log 38) and the command port's request frames with their check byte (R194, 12.3, 12.6). -/

namespace Sys2Proof

/-- No row of spec/opcode_table.json gives bits. -/
def decodeTableWord (_nbits _w : Nat) : Option Instr := none

/-! ## The check byte -/

/-- One bit of the CRC-8 register, generator x^8 + x^2 + x + 1 (R194). -/
def crc8Shift (r : Byte) : Byte :=
  if r.msb then (r <<< 1) ^^^ 0x07#8 else r <<< 1

/-- One byte into the register, most significant bit first. -/
def crc8Byte (r b : Byte) : Byte :=
  let x := r ^^^ b
  crc8Shift (crc8Shift (crc8Shift (crc8Shift (crc8Shift (crc8Shift (crc8Shift (crc8Shift x)))))))

/-- The register over a string of bytes, from `r`. -/
def crc8From (r : Byte) (bs : List Byte) : Byte := bs.foldl crc8Byte r

/-- The CRC-8 of R194: the register starts at 0 and nothing is inverted. -/
def crc8 (bs : List Byte) : Byte := crc8From 0#8 bs

/-! ## Multi-byte fields, most significant byte first -/

/-- A two-byte field from its bytes. -/
def be16 (a b : Byte) : Word16 := a ++ b
/-- A four-byte field from its bytes. -/
def be32 (a b c d : Byte) : Word32 := (be16 a b) ++ (be16 c d)

/-- The bytes of a two-byte field, the most significant first (12.4; DEDUCED for the other requests and for the
replies, log 73). -/
def bytes16 (w : Word16) : List Byte := [w.extractLsb' 8 8, w.extractLsb' 0 8]

/-- The bytes of a four-byte field, the most significant first (log 73). -/
def bytes32 (w : Word32) : List Byte :=
  [w.extractLsb' 24 8, w.extractLsb' 16 8, w.extractLsb' 8 8, w.extractLsb' 0 8]

/-! ## Requests -/

/-- A transaction is read-only when its first byte is 0x00 or no whole byte came (R193). -/
def readOnlyBytes : List Byte → Bool
  | []     => true
  | b :: _ => b == 0

/-- The request payload length of a command code (12.3); none outside 1 to 23. -/
def payloadLength (code : Byte) : Option Nat :=
  match code.toNat with
  | 1 => some 224
  | 2 | 3 | 7 | 9 | 10 | 11 | 12 | 16 | 17 | 18 | 19 | 20 | 22 | 23 => some 0
  | 4 => some 4
  | 5 => some 2
  | 6 => some 10
  | 8 | 15 => some 5
  | 13 => some 11
  | 14 => some 1
  | 21 => some 2
  | _ => none

/-- The checks of R194 in their order; none when the request passes them all. -/
inductive RequestFault
  | frameError | unknown
  deriving DecidableEq, Repr

/-- R194, checks 1 to 5. -/
def requestFault (bs : List Byte) : Option RequestFault :=
  match bs with
  | code :: hi :: lo :: rest =>
    if rest = [] ∨ 256 < bs.length then some .frameError
    else if (be16 hi lo).toNat ≠ bs.length - 4 then some .frameError
    else if crc8 bs ≠ 0#8 then some .frameError
    else match payloadLength code with
      | none => some .unknown
      | some n => if (be16 hi lo).toNat = n then none else some .frameError
  | _ => some .frameError

/-- One slot's eleven bytes (12.4). -/
def slotOfBytes : List Byte → Option SlotPayload
  | [a, b, c, d, e, f, g, h, i, j, k] =>
    some ⟨be16 a b, be32 c d e f, be16 g h, be16 i j, k⟩
  | _ => none

/-- The bytes of one slot. -/
def slotBytes (p : SlotPayload) : List Byte :=
  bytes16 p.offset ++ bytes32 p.gain ++ bytes16 p.low ++ bytes16 p.high ++ [p.action]

/-- `n` slots of eleven bytes each, and nothing after them. -/
def slotsOfBytes : Nat → List Byte → Option (List SlotPayload)
  | 0, [] => some []
  | 0, _ :: _ => none
  | n + 1, bs => do
    let p ← slotOfBytes (bs.take 11)
    let ps ← slotsOfBytes n (bs.drop 11)
    return p :: ps

/-- The payload of CONFIGURE from its 224 bytes (12.4). -/
def configOfBytes : List Byte → Option ConfigPayload
  | st :: f0 :: f1 :: dv :: d0 :: d1 :: fe :: dc :: he :: fl :: ef :: e0 :: e1 :: m0 :: m1 :: rs :: jc
      :: fb :: po :: p0 :: p1 :: l0 :: l1 :: c0 :: c1 :: i0 :: i1 :: kc :: ru :: a0 :: a1 :: b0 :: b1
      :: g0 :: g1 :: h0 :: h1 :: t0 :: t1 :: r0 :: r1 :: rm :: ui :: th :: w0 :: w1 :: x0 :: x1
      :: rest =>
    (slotsOfBytes 16 rest).map fun slots =>
      { station := st, fc := be16 f0 f1, divider := dv, deadTime := be16 d0 d1, feLevel := fe,
        dcLevel := dc, heaterLevel := he, floatOnTrip := fl, extFilter := ef, eta := be16 e0 e1,
        margin := be16 m0 m1, riseStep := rs, joinCurrent := jc, fallback := fb, policy := po,
        vPre := be16 p0 p1, vLinkTarget := be16 l0 l1, linkCeiling := be16 c0 c1,
        iFull := be16 i0 i1, kCv := kc, rUp := ru, kpLink := be16 a0 a1, kiLink := be16 b0 b1,
        kpBat := be16 g0 g1, kiBat := be16 h0 h1, tCold := be16 t0 t1, rc := be16 r0 r1, rm := rm,
        uInj := ui, tHalfMax := th, rWarn := be16 w0 w1, rAlarm := be16 x0 x1, slots := slots }
  | _ => none

/-- The 224 bytes of CONFIGURE's payload (12.4). -/
def configBytes (p : ConfigPayload) : List Byte :=
  [p.station] ++ bytes16 p.fc ++ [p.divider] ++ bytes16 p.deadTime
    ++ [p.feLevel, p.dcLevel, p.heaterLevel, p.floatOnTrip, p.extFilter]
    ++ bytes16 p.eta ++ bytes16 p.margin
    ++ [p.riseStep, p.joinCurrent, p.fallback, p.policy]
    ++ bytes16 p.vPre ++ bytes16 p.vLinkTarget ++ bytes16 p.linkCeiling ++ bytes16 p.iFull
    ++ [p.kCv, p.rUp] ++ bytes16 p.kpLink ++ bytes16 p.kiLink ++ bytes16 p.kpBat ++ bytes16 p.kiBat
    ++ bytes16 p.tCold ++ bytes16 p.rc ++ [p.rm, p.uInj, p.tHalfMax]
    ++ bytes16 p.rWarn ++ bytes16 p.rAlarm ++ p.slots.flatMap slotBytes

/-- The command of a code with its payload (12.3). -/
def commandOf (code : Byte) (payload : List Byte) : Option Instr :=
  match code.toNat, payload with
  | 1, bs => (configOfBytes bs).map .configure
  | 2, [] => some .getStatus
  | 3, [] => some .readEvents
  | 4, [a, b, c, d] => some (.setCharge (be16 a b) (be16 c d))
  | 5, [a, b] => some (.setBatteryLimit (be16 a b))
  | 6, [a, b, c, d, e, f, g, h, i, j] =>
    some (.setHeating (be16 a b) (be16 c d) (be16 e f) g (be16 h i) j)
  | 7, [] => some .goIdentify
  | 8, [a, b, c, d, e] => some (.goEnergize a (be32 b c d e))
  | 9, [] => some .goStop
  | 10, [] => some .goIdle
  | 11, [] => some .cancel
  | 12, [] => some .tripClear
  | 13, [a, b, c, d, e, f, g, h, i, j, k] =>
    some (.writeDescriptor a b (be16 c d) (be16 e f) (be16 g h) (be16 i j) k)
  | 14, [a] => some (.extend a)
  | 15, [a, b, c, d, e] => some (.sessionSplit a (be32 b c d e))
  | 16, [] => some .readReport
  | 17, [] => some .removeReport
  | 18, [] => some .readMeter
  | 19, [] => some .readPeers
  | 20, [] => some .readShare
  | 21, [a, b] => some (.readMeasure a b)
  | 22, [] => some .readInsulation
  | 23, [] => some .clearInsulation
  | _, _ => none

/-- The code and payload of a host command; none for the rows that are no host command. -/
def codeAndPayload : Instr → Option (Byte × List Byte)
  | .configure p => some (1, configBytes p)
  | .getStatus => some (2, [])
  | .readEvents => some (3, [])
  | .setCharge i v => some (4, bytes16 i ++ bytes16 v)
  | .setBatteryLimit i => some (5, bytes16 i)
  | .setHeating a b c d e f =>
    some (6, bytes16 a ++ bytes16 b ++ bytes16 c ++ [d] ++ bytes16 e ++ [f])
  | .goIdentify => some (7, [])
  | .goEnergize a b => some (8, [a] ++ bytes32 b)
  | .goStop => some (9, [])
  | .goIdle => some (10, [])
  | .cancel => some (11, [])
  | .tripClear => some (12, [])
  | .writeDescriptor a b c d e f g =>
    some (13, [a, b] ++ bytes16 c ++ bytes16 d ++ bytes16 e ++ bytes16 f ++ [g])
  | .extend a => some (14, [a])
  | .sessionSplit a b => some (15, [a] ++ bytes32 b)
  | .readReport => some (16, [])
  | .removeReport => some (17, [])
  | .readMeter => some (18, [])
  | .readPeers => some (19, [])
  | .readShare => some (20, [])
  | .readMeasure a b => some (21, [a, b])
  | .readInsulation => some (22, [])
  | .clearInsulation => some (23, [])
  | _ => none

/-- The code, the length and the payload of a request or reply frame, before its check byte (12.6). -/
def frameHead (code : Byte) (payload : List Byte) : List Byte :=
  code :: (bytes16 (BitVec.ofNat 16 payload.length) ++ payload)

/-- A frame with its check byte (12.6). -/
def frameBytes (code : Byte) (payload : List Byte) : List Byte :=
  frameHead code payload ++ [crc8 (frameHead code payload)]

/-- The request frame of a host command (12.6). -/
def requestBytes (i : Instr) : Option (List Byte) :=
  (codeAndPayload i).map fun cp => frameBytes cp.1 cp.2

/-- The command of a request that passes R194's checks. -/
def requestOf (bs : List Byte) : Option Instr :=
  match requestFault bs, bs with
  | none, code :: _ :: _ :: rest => commandOf code rest.dropLast
  | _, _ => none

end Sys2Proof
end

