-- ==== Sys2Proof/Config.lean ====
section
/-! DEFINITION. What the manual leaves open, as constants without a body: nothing can evaluate one or
prove a value of it, so whatever is proved holds for every value. -/

namespace Sys2Proof

/-- The bytes of a reply payload whose byte layout the manual does not give (R197, R66, R67, R114,
R152, R191, R121, R104 list contents only). Log 10. -/
opaque Config.openLayout {α : Type} (contents : α) : List Byte

/-- The time left on the sweep hold that R168 reports, as a fresh value for each reading, in ms. The
model keeps no clock. Log 11. -/
opaque Config.holdTimeLeft : Nat → Nat

/-- What a four-byte field of a session record holds for a value that needs more than 32 bits
(12.6 gives the width and no rule for such a value). Log 46. -/
opaque Config.wideField : Nat → Word32

end Sys2Proof
end

