-- ==== Sys2Proof/Machine/State.lean ====
section
/-! DEFINITION. The state of the part: one record for each block, holding what the opening list of the
block's chapter names, the settings of CONFIGURE, and the queue of commands that wait. Plain data.

A timer is a `Bool` that says whether it runs (log 1); what the manual counts is a `Nat`. -/

namespace Sys2Proof.Machine

/-! ## Shapes for three phases and four legs -/

/-- One value for each phase. -/
structure PerPhase (α : Type) where
  u : α
  v : α
  w : α
  deriving DecidableEq, Repr

/-- One value for each leg. -/
structure PerLeg (α : Type) where
  u : α
  v : α
  w : α
  d : α
  deriving DecidableEq, Repr

/-! ## Command port (chapter 12) -/

/-- The 24 event kinds, in the order of the READ_EVENTS payload (R195, 12.6). -/
inductive EventKind
  | plug | seqState | identDone | trip | limit | limitStale | gridRange | gridFreq
  | shareFallback | peers | lineFault | duplicate | foreignFeeder | insulation | sweep | heater
  | lowQuota | sessionEnd | reportReady | storeTorn | configDone | storeBusy | lineResumed
  | measureFault
  deriving DecidableEq, Repr

/-- The status codes of 12.6. -/
inductive Status
  | accepted | frameError | unknown | notConfigured | locked | badConfig | badValue | badSlot
  | badWindow | wrongState | busy | tripLatched | tripPersists | insulationFault
  | insulationUnknown | backlog | contactorClosed | tooLate | inUseLater | noSession | suspended
  | alreadyChained | ending | splitDone | none | noReply | notCancelable
  deriving DecidableEq, Repr

/-- The reset causes of R200. -/
inductive ResetCause
  | powerOn | brownOut | resetLine
  deriving DecidableEq, Repr

/-! ## Plug sequencer (chapter 1) -/

/-- The proximity levels of R2. -/
inductive ProxLevel
  | latched | release | none
  deriving DecidableEq, Repr

/-- The phases of SWEEP_ISOLATED (1.10). -/
inductive IsoPhase
  | isoRamp | isoOpen | isoWait | isoRejoin
  deriving DecidableEq, Repr

/-- The eleven sequencer states (1.1); SWEEP_ISOLATED carries its phase. -/
inductive SeqState
  | unplugged | plugSettle | plugged | identifying | identified | precharge | active | suspended
  | stopping
  | sweepIsolated (phase : IsoPhase)
  | fault
  deriving DecidableEq, Repr

/-- The fault causes of R20. -/
inductive FaultCause
  | identFail | prechargeFail | contactorFail | contactorWeld | relayStuck | trip
  deriving DecidableEq, Repr

/-- The thirteen end causes of R185. -/
inductive EndCause
  | hostStop | hostIdle | released | unplugged | trip | insulation | quotaEnd | chainBroken
  | lineLimit | split | batteryLow | contactorWeld | powerLost
  deriving DecidableEq, Repr

/-- The identification result (R8); feeder id 0 is unknown, the capacity is in dA. -/
structure Identification where
  feederId    : Nat
  capacity    : Nat
  ratingClass : Nat
  lenient     : Bool
  deriving DecidableEq, Repr

/-- The assembly of a pilot code (R7): waiting for a start rest, the bits taken since it (first bit
first; twenty are a complete code not yet taken), or a complete code already taken. -/
inductive PilotAssembly
  | waiting
  | collecting (bits : List Bool)
  | complete
  deriving DecidableEq, Repr

/-- The state the sweep isolation returns to (R22). -/
inductive ReturnState
  | active | suspended
  deriving DecidableEq, Repr

/-- What PSQ holds. -/
structure Psq where
  prox           : ProxLevel
  settleMs       : Nat
  seq            : SeqState
  ident          : Option Identification
  prechargeCmd   : Bool
  contactorCmd   : Bool
  cancelPending  : Bool
  /-- The pending cancel commanded the contactor open, too (R16). -/
  cancelContactor : Bool
  faultCause     : Option FaultCause
  stopCause      : Option EndCause
  forced         : Bool
  start          : Option (Fin 16 × Word32)
  isoReturn      : Option ReturnState
  batteryLow     : Bool
  query          : Bool
  assembly       : PilotAssembly
  prevCode       : Option (List Bool)
  identTimer     : Bool
  prechargeTimer : Bool
  contactorTimer : Bool
  stopTimer      : Bool
  contactorSup   : Bool
  prechargeSup   : Bool
  /-- The contactor's auxiliary contact reads closed (an input). -/
  contactorFb    : Bool
  /-- The precharge relay's contact reads closed (an input). -/
  prechargeFb    : Bool
  deriving DecidableEq, Repr

/-! ## Feeder line (chapter 2) -/

/-- The line states of R36. -/
inductive LineState
  | offline | listen | online | silent
  deriving DecidableEq, Repr

/-- A frame's kind with its payload fields after the feeder id (R28, R29). -/
inductive FrameBody
  | alert (resistance : Word16)
  | sweepStep (target index : Byte)
  | sweepAnswer (target code : Byte)
  | sweepResult (outcome found unresponsive : Byte)
  | measureStart (polarity half : Byte)
  | measureResult (resistance : Word16) (flags : Byte)
  | beacon (demand draw : Word16) (flags : Byte) (resistance : Word16) (leader : Byte)
  | leave
  deriving DecidableEq, Repr

/-- A frame: the station number of its arbitration field, the feeder id and the body. -/
structure Frame where
  station : BitVec 6
  feeder  : Byte
  body    : FrameBody
  deriving DecidableEq, Repr

/-- A place in the transmit queue. `inAttempt` says that the attempt in progress started from this
very frame; a newer frame of the kind that replaces it has it false (R40). -/
structure Queued where
  frame     : Frame
  inAttempt : Bool
  deriving DecidableEq, Repr

/-- What FLI holds. -/
structure Fli where
  line            : LineState
  silentTimer     : Bool
  queue           : List Queued
  attempt         : Option Frame
  errorCount      : Nat
  duplicate       : Bool
  /-- Outcomes of completed beacons, newest first; `true` is heard (R32). -/
  ackHistory      : List Bool
  foreignReported : Bool
  departed        : Bool
  /-- Stopped, or the ms from its last setting to the next expiry (R42). -/
  beaconTimer     : Option Nat
  /-- The acknowledge slot of the last frame received was driven dominant (R33). -/
  ackDriven       : Bool
  deriving DecidableEq, Repr

/-! ## Share unit (chapter 3) -/

/-- The insulation states a beacon carries (R29). -/
inductive ImState
  | ok | warn | alarm | sweep
  deriving DecidableEq, Repr

/-- An entry of the peer table (R45). -/
structure PeerEntry where
  station    : Nat
  feeder     : Nat
  demand     : Nat
  draw       : Nat
  session    : Bool
  joint      : Bool
  measurer   : Bool
  imState    : ImState
  resistance : Option Nat
  leader     : Option Nat
  age        : Nat
  heard      : Nat
  deriving DecidableEq, Repr

/-- SHU's copy of the identification (R44). -/
structure IdentCopy where
  feederId : Nat
  capacity : Nat
  rating   : Nat
  deriving DecidableEq, Repr

/-- The four fallback conditions (R61). -/
structure FallbackConds where
  line          : Bool
  overflow      : Bool
  unknownFeeder : Bool
  unheard       : Bool
  deriving DecidableEq, Repr

/-- SHU is in fallback while any condition holds (R61). -/
def FallbackConds.any (c : FallbackConds) : Bool :=
  c.line || c.overflow || c.unknownFeeder || c.unheard

/-- What SHU holds. -/
structure Shu where
  peers       : List PeerEntry
  identCopy   : Option IdentCopy
  session     : Bool
  joint       : Bool
  /-- d_own as handed, limited to the outlet rating (R53). -/
  dOwnHanded  : Nat
  sweepTarget : Bool
  sNew        : Nat
  activeCount : Nat
  sEff        : Nat
  /-- The pending value P; the hold count beside it is 1 (R59). -/
  pendingRise : Option Nat
  joining     : Nat
  overflow    : Nat
  conds       : FallbackConds
  deriving DecidableEq, Repr

/-! ## Charge regulator (chapter 4) -/

/-- The priority of R78. -/
inductive Priority
  | heatFirst | chargeFirst
  deriving DecidableEq, Repr

/-- What CRG holds. -/
structure Crg where
  iReq       : Nat
  vMax       : Nat
  iBms       : Nat
  stale      : Bool
  freshTimer : Bool
  vPh        : Nat
  rmsSeen    : PerPhase Bool
  gridRange  : Bool
  pAllow     : Nat
  pChgReq    : Nat
  priority   : Priority
  pC         : Nat
  pH         : Nat
  iTherm     : Nat
  iCv        : Nat
  iShare     : Nat
  iTarget    : Nat
  /-- P_heat_req as HTR last handed it. -/
  pHeatReq   : Nat
  /-- T_bat as HTR last handed it; `none` is the sensor fault state. -/
  tBat       : Option Int
  /-- d_own as the latest evaluation formed it. -/
  dOwn       : Nat
  /-- d_own as last handed to SHU. -/
  dOwnLast   : Nat
  setpoint   : Nat
  linkI      : Int
  batI       : Int
  aFe        : Nat
  dcDuty     : Nat
  pMeter     : Nat
  deriving DecidableEq, Repr

/-! ## Power timing unit (chapter 5) -/

/-- The four values of the compare buffer (R91). -/
structure Compare where
  u : Nat
  v : Nat
  w : Nat
  d : Nat
  deriving DecidableEq, Repr

/-- The leg commands of R90. -/
inductive LegCommand
  | upper | lower | off
  deriving DecidableEq, Repr

/-- The continuous conflict timing of a leg (R96): out of conflict; in conflict and timing; raised;
out of conflict after a raising and timing. -/
inductive ConflictTiming
  | clear | timing | raised | leaving
  deriving DecidableEq, Repr

/-- A dead-time interval that runs, with the device that turned off at its start, if one did (R92). -/
structure DeadTime where
  turnedOff : Option Device
  deriving DecidableEq, Repr

/-- One leg: its command, its devices and its timings. -/
structure LegState where
  command  : LegCommand
  upperOn  : Bool
  lowerOn  : Bool
  deadTime : Option DeadTime
  conflict : ConflictTiming
  deriving DecidableEq, Repr

/-- The readings of a leg's feedback inputs (5.5); leg D has no lower one. -/
structure Feedback where
  upper : Bool
  lower : Bool
  deriving DecidableEq, Repr

/-- A trip cause together with its leg or slot (5.7). -/
inductive TripCause
  | ext
  | legConflict (leg : Leg)
  | limit (slot : Fin 16)
  | plugLost
  | gridLost
  | linkOver
  deriving DecidableEq, Repr

/-- The trip latch while it is set (R99). -/
structure TripLatch where
  first : TripCause
  also  : List TripCause
  deriving DecidableEq, Repr

/-- The external line's filter timer (R100): at zero, running, or passed in the present active period. -/
inductive FilterTimer
  | zero | running | passed
  deriving DecidableEq, Repr

/-- What PTU holds. -/
structure Ptu where
  fc           : Nat
  divider      : Nat
  /-- The carrier frequency and divider accepted by CONFIGURE and in use from the next trough (R89). -/
  nextTiming   : Option (Nat × Nat)
  position     : Nat
  troughCount  : Nat
  buffer       : Compare
  inUse        : Compare
  heaterBuffer : Nat
  heaterInUse  : Nat
  /-- The on-time of output H within the heater period runs (R93). -/
  heaterOnTime : Bool
  legs         : PerLeg LegState
  feedback     : PerLeg Feedback
  enable       : Bool
  trip         : Option TripLatch
  /-- The external trip line reads active (an input). -/
  extActive    : Bool
  extFilter    : FilterTimer
  /-- The inactive timer has reached 10 ms (R100). -/
  extInactive  : Bool
  gridTimer    : Bool
  deriving DecidableEq, Repr

/-! ## Measurement sequencer (chapter 6) -/

/-- The limit actions of R111. -/
inductive LimitAction
  | none | event | trip
  deriving DecidableEq, Repr

/-- A slot's settings (R110). -/
structure SlotSettings where
  offset : Int
  gain   : Nat
  low    : Int
  high   : Int
  action : LimitAction
  deriving DecidableEq, Repr

/-- A slot record. `next` holds settings accepted by CONFIGURE until the slot's next publication. -/
structure SlotRecord where
  latest   : Int
  inUse    : SlotSettings
  next     : Option SlotSettings
  lowSeen  : Bool
  highSeen : Bool
  deriving DecidableEq, Repr

/-- The two scans of R108. -/
inductive ScanKind
  | fast | slow
  deriving DecidableEq, Repr

/-- A phase's crossing detector, span accumulators and RMS values (R115, R116). -/
structure PhaseMeter where
  armed : Bool
  seen  : Bool
  sumV  : Nat
  sumI  : Nat
  count : Nat
  rmsV  : Nat
  rmsI  : Nat
  deriving DecidableEq, Repr

/-- What MSQ holds. -/
structure Msq where
  slots      : Vector SlotRecord 16
  /-- The raw counts of the pairs done in the fast scan in progress. -/
  fastScan   : Option (List (Word16 × Word16))
  /-- The raw counts of the pairs done in the slow scan in progress. -/
  slowScan   : Option (List (Word16 × Word16))
  /-- Which scan's next pair the converters work on. -/
  converting : Option ScanKind
  phases     : PerPhase PhaseMeter
  troughs    : Nat
  period     : Nat
  outOfRange : Bool
  theta      : Nat
  tbat1Valid : Bool
  tbat2Valid : Bool
  tcoolValid : Bool
  slowTimer  : Bool
  deriving DecidableEq, Repr

/-! ## Heater controller (chapter 7) -/

/-- The source permissions of R121. -/
inductive Permission
  | off | gridOnly | gridOrBattery
  deriving DecidableEq, Repr

/-- The heater states of 7.3. -/
inductive HeaterState
  | isolated | heaterFault | off | sensorFault | heating | coasting
  deriving DecidableEq, Repr

/-- The sources of the budget (R127). -/
inductive HeatSource
  | none | grid | battery
  deriving DecidableEq, Repr

/-- What HTR holds. -/
structure Htr where
  tOn         : Int
  tOff        : Int
  pHmax       : Nat
  permission  : Permission
  pBattMax    : Nat
  tBat        : Option Int
  state       : HeaterState
  pHeatReq    : Nat
  budget      : Nat
  source      : HeatSource
  duty        : Nat
  relay       : Bool
  settleTimer : Bool
  accSum      : Nat
  accCount    : Nat
  overcurrent : Bool
  openLatch   : Bool
  openMs      : Nat
  isolateReq  : Bool
  deriving DecidableEq, Repr

/-! ## Insulation monitor (chapters 8 and 9) -/

/-- The modes of R138; JOINT-measurer holds the measuring role. -/
inductive ImnMode
  | localMode | measurer | passive
  deriving DecidableEq, Repr

/-- The injection driver's levels (R137). -/
inductive DriverLevel
  | zero | plus | minus
  deriving DecidableEq, Repr

/-- Where an injection cycle stands (R139): started and waiting for the VISO sample with which its
positive half begins, in the positive half, or in the negative half. -/
inductive CycleHalf
  | awaiting | positive | negative
  deriving DecidableEq, Repr

/-- The injection cycle in progress (R139, R140). -/
structure Cycle where
  half     : CycleHalf
  count    : Nat
  run      : Nat
  prev     : Option Int
  uPlus    : Option Int
  estimate : Bool
  deriving DecidableEq, Repr

/-- A LOCAL or JOINT result (R142, R144). -/
structure InsResult where
  rf       : Nat
  estimate : Bool
  uPlus    : Option Int
  uMinus   : Option Int
  deriving DecidableEq, Repr

/-- The states of an evaluation (R143). -/
inductive InsState
  | ok | warn | alarm
  deriving DecidableEq, Repr

/-- An evaluation; `none` is no result yet (R143). -/
structure Evaluation where
  state   : Option InsState
  lowRun  : Nat
  highRun : Nat
  deriving DecidableEq, Repr

/-- The self-check state with its count of passed results (R149). -/
inductive SelfCheck
  | idle | pending
  | running (passed : Nat)
  deriving DecidableEq, Repr

/-- The step phases of a leader (9, opening list). -/
inductive StepPhase
  | awaitingAnswer | measuring | ownStep
  deriving DecidableEq, Repr

/-- The leader record. `ownResults` counts the LOCAL results of the own step (R162). -/
structure LeaderRecord where
  list         : List Nat
  index        : Nat
  phase        : StepPhase
  unresponsive : Nat
  answerTimer  : Bool
  cycleTimer   : Bool
  ownResults   : Nat
  deriving DecidableEq, Repr

/-- The sweep roles (R154, R155). A follower's leader-silence timer runs from the moment it follows
until it leaves. -/
inductive SweepRole
  | none
  | leading (r : LeaderRecord)
  | following (leader : Nat) (silenceTimer : Bool)
  deriving DecidableEq, Repr

/-- The target record while this station is the target (R158, R159). -/
structure TargetRecord where
  index   : Nat
  verdict : Option Nat
  deriving DecidableEq, Repr

/-- The last outcome of a sweep (R163). -/
inductive SweepOutcome
  | none
  | found (station : Nat)
  | notFound
  | abandoned
  deriving DecidableEq, Repr

/-- What IMN holds. -/
structure Imn where
  mode            : ImnMode
  contactorClosed : Bool
  coupling        : Bool
  driver          : DriverLevel
  cycle           : Option Cycle
  halfIndex       : Byte
  localResult     : Option InsResult
  jointResult     : Option InsResult
  /-- A JOINT result was taken since this station last took the role (R151). -/
  resultInRole    : Bool
  localFlag       : Bool
  net             : Evaluation
  own             : Evaluation
  unmonitored     : Bool
  unmonTimer      : Bool
  clearCount      : Nat
  backoff         : Nat
  /-- A measurer's frame was delivered since the last beacon period event (R146). -/
  measurerHeard   : Bool
  ownFault        : Bool
  heaterIsolated  : Bool
  selfCheck       : SelfCheck
  clearing        : Bool
  /-- The last clearing's outcome; `true` is passed (R150). -/
  lastClearing    : Option Bool
  measureFaults   : Nat
  sweep           : SweepRole
  target          : Option TargetRecord
  pendingRelease  : Bool
  outcome         : SweepOutcome
  disagreement    : Bool
  hold            : Bool
  deriving DecidableEq, Repr

/-! ## Tariff meter (chapter 10) -/

/-- A tariff descriptor (R172). -/
structure Descriptor where
  valid      : Bool
  quota      : Nat
  duration   : Nat
  rateChg    : Nat
  rateCond   : Nat
  next       : Fin 16
  chain      : Bool
  notice     : Bool
  endSuspend : Bool
  deriving DecidableEq, Repr

/-- A descriptor copy with the slot it was read from. -/
structure DescCopy where
  slot : Fin 16
  desc : Descriptor
  deriving DecidableEq, Repr

/-- The running descriptor copy with R, D and the near-end flag (R175). -/
structure Running where
  copy      : DescCopy
  quotaLeft : Nat
  timeLeft  : Nat
  nearEnd   : Bool
  deriving DecidableEq, Repr

/-- A line item with its exact price accumulator and its own rates (R175, R177). The overrun is a
charging and a conditioning energy. -/
structure LineItem where
  slot     : Fin 16
  rateChg  : Nat
  rateCond : Nat
  charging : Nat
  conditioning : Nat
  accumulator  : Nat
  overrun  : Option (Nat × Nat)
  deriving DecidableEq, Repr

/-- The session flags (R174, R185). -/
structure SessionFlags where
  reverseFlow  : Bool
  fallbackUsed : Bool
  identLenient : Bool
  insulation   : Bool
  forcedStop   : Bool
  estimated    : Bool
  deriving DecidableEq, Repr

/-- The fields a session context, a snapshot and a record share (R174, R185, R186). -/
structure SessionBase where
  number      : Nat
  station     : Nat
  feederId    : Nat
  ratingClass : Nat
  stamp       : Word32
  elapsed     : Nat
  flags       : SessionFlags
  items       : List LineItem
  deriving DecidableEq, Repr

/-- The session context while a session is open. -/
structure Session where
  base    : SessionBase
  running : Option Running
  deriving DecidableEq, Repr

/-- A line item of a record: the accumulator has become a price (R180). -/
structure RecordItem where
  slot     : Fin 16
  charging : Nat
  conditioning : Nat
  price    : Nat
  overrun  : Option (Nat × Nat)
  deriving DecidableEq, Repr

/-- A session record (R185). -/
structure SessionRecord where
  number      : Nat
  station     : Nat
  feederId    : Nat
  ratingClass : Nat
  stamp       : Word32
  duration    : Nat
  endCause    : EndCause
  flags       : SessionFlags
  items       : List RecordItem
  totalEnergy : Nat
  totalCond   : Nat
  totalPrice  : Nat
  deriving DecidableEq, Repr

/-- What MTR holds. -/
structure Mtr where
  sampleCount  : Nat
  powerSum     : Int
  heaterSum    : Nat
  importCarry  : Nat
  heaterCarry  : Nat
  table        : Vector Descriptor 16
  session      : Option Session
  prefetched   : Option DescCopy
  deriving DecidableEq, Repr

/-! ## Meter store (chapter 11) -/

/-- The counters of one counters copy (R186). -/
structure Counters where
  imported : Nat
  conditioning : Nat
  sessions : Nat
  deriving DecidableEq, Repr

/-- The contents of a checkpoint copy (R186). -/
inductive Checkpoint
  | empty
  | opened (snapshot : SessionBase)
  | closed (snapshot : SessionBase) (cause : EndCause)
  deriving DecidableEq, Repr

/-- One copy of a doubled entry with its 32-bit write count (R186, log 9). -/
structure EntryCopy (α : Type) where
  count   : Word32
  content : α
  deriving DecidableEq, Repr

/-- What a copy or a place reads as: its contents with a matching check value, or torn (R186). -/
inductive Stored (α : Type)
  | valid (a : α)
  | torn
  deriving DecidableEq, Repr

/-- A doubled entry (R186). -/
structure Doubled (α : Type) where
  a : Stored (EntryCopy α)
  b : Stored (EntryCopy α)
  deriving DecidableEq, Repr

/-- A record in a report place, with its 32-bit placement number (R186, log 9). -/
structure Placed where
  placement : Word32
  record    : SessionRecord
  deriving DecidableEq, Repr

/-- The five report places: 1 to 4 are the queue, 5 is the stacked slot. -/
inductive Place
  | p1 | p2 | p3 | p4 | p5
  deriving DecidableEq, Repr

/-- The non-volatile page (R186). A place holds a record or the empty mark. -/
structure Page where
  counters   : Doubled Counters
  checkpoint : Doubled Checkpoint
  p1 : Stored (Option Placed)
  p2 : Stored (Option Placed)
  p3 : Stored (Option Placed)
  p4 : Stored (Option Placed)
  p5 : Stored (Option Placed)
  deriving DecidableEq, Repr

/-- A page write: its target with the contents it carries (R187). `thenClear` on a place says that its
completion queues the EMPTY checkpoint (R189, R190). -/
inductive PageWrite
  | counters (c : Counters)
  | checkpoint (c : Checkpoint)
  | place (p : Place) (content : Option Placed) (thenClear : Bool)
  deriving DecidableEq, Repr

/-- The copies of a doubled entry. -/
inductive CopyName
  | a | b
  deriving DecidableEq, Repr

/-- The write in flight; for a doubled entry with the copy chosen and its write count (R187). -/
structure Flight where
  write : PageWrite
  copy  : CopyName
  count : Word32
  deriving DecidableEq, Repr

/-- A queued record with the place it has on the page. -/
structure Report where
  place  : Place
  placed : Placed
  deriving DecidableEq, Repr

/-- What MST holds. -/
structure Mst where
  page          : Page
  working       : Counters
  queue         : List Report
  stacked       : Option SessionRecord
  waiting       : Option SessionRecord
  nextPlacement : Word32
  sessionEnergy : Nat
  lifeEnergy    : Nat
  writes        : List PageWrite
  inFlight      : Option Flight
  torn          : Bool
  deriving DecidableEq, Repr

/-! ## Settings of CONFIGURE (12.4) -/

/-- The identification policies (R8). -/
inductive Policy
  | strict | lenient
  deriving DecidableEq, Repr

/-- The active levels of R88. -/
inductive Level
  | high | low
  deriving DecidableEq, Repr

/-- The settings the blocks take from CONFIGURE, those of the carrier and the slots excepted, which
`Ptu` and `Msq` hold in use. -/
structure Settings where
  station     : Nat
  deadTime    : Nat
  feLevel     : Option Level
  dcLevel     : Option Level
  heaterLevel : Option Level
  floatOnTrip : Bool
  extFilter   : Nat
  eta         : Nat
  margin      : Nat
  riseStep    : Nat
  joinCurrent : Nat
  fallback    : Nat
  policy      : Policy
  vPre        : Nat
  vLinkTarget : Nat
  linkCeiling : Nat
  iFull       : Nat
  kCv         : Nat
  rUp         : Nat
  kpLink      : Nat
  kiLink      : Nat
  kpBat       : Nat
  kiBat       : Nat
  tCold       : Int
  rc          : Nat
  rm          : Nat
  uInj        : Nat
  tHalfMax    : Nat
  rWarn       : Nat
  rAlarm      : Nat
  deriving DecidableEq, Repr

/-! ## Replies (R193, R194 and the chapters of the commands) -/

/-- What GET_STATUS reports (R197). -/
structure StatusReport where
  resetCause     : ResetCause
  configured     : Bool
  seq            : SeqState
  faultCause     : Option FaultCause
  trip           : Option TripLatch
  line           : LineState
  sEff           : Nat
  dOwn           : Nat
  fallback       : Bool
  pAllow         : Nat
  pC             : Nat
  pH             : Nat
  priority       : Priority
  gridRange      : Bool
  stale          : Bool
  setpoint       : Nat
  iTarget        : Nat
  heater         : HeaterState
  mode           : ImnMode
  own            : Option InsState
  net            : Option InsState
  roleHeld       : Bool
  ownFault       : Bool
  heaterIsolated : Bool
  unmonitored    : Bool
  sessionOpen    : Bool
  suspended      : Bool
  backlog        : Bool
  storeTorn      : Bool
  deriving DecidableEq, Repr

/-- An entry as READ_PEERS reports it: the network resistance is 65535 and the sweep leader 0 where
absent (R66). -/
structure PeerReport where
  station    : Nat
  feeder     : Nat
  demand     : Nat
  draw       : Nat
  session    : Bool
  joint      : Bool
  measurer   : Bool
  imState    : ImState
  resistance : Nat
  leader     : Nat
  age        : Nat
  heard      : Nat
  deriving DecidableEq, Repr

/-- What READ_SHARE reports (R67). -/
structure ShareReport where
  capacity    : Nat
  margin      : Nat
  available   : Nat
  activeCount : Nat
  sNew        : Nat
  sEff        : Nat
  dOwn        : Nat
  pendingRise : Option Nat
  joining     : Nat
  conds       : FallbackConds
  deriving DecidableEq, Repr

/-- The line timing READ_MEASURE adds for slot 0 (R114). -/
structure LineTiming where
  period     : Nat
  outOfRange : Bool
  theta      : Nat
  deriving DecidableEq, Repr

/-- What READ_MEASURE reports (R114). -/
structure MeasureReport where
  slot     : Fin 16
  latest   : Int
  lowSeen  : Bool
  highSeen : Bool
  settings : SlotSettings
  rms      : Option Nat
  timing   : Option LineTiming
  valid    : Option Bool
  deriving DecidableEq, Repr

/-- What READ_INSULATION reports (R152, R168). -/
structure InsulationReport where
  mode           : ImnMode
  cycle          : Option Cycle
  localResult    : Option InsResult
  jointResult    : Option InsResult
  localFlag      : Bool
  own            : Evaluation
  net            : Evaluation
  unmonitored    : Bool
  clearCount     : Nat
  backoff        : Nat
  ownFault       : Bool
  heaterIsolated : Bool
  selfCheck      : SelfCheck
  lastClearing   : Option Bool
  measureFaults  : Nat
  sweep          : SweepRole
  target         : Option TargetRecord
  pendingRelease : Bool
  outcome        : SweepOutcome
  disagreement   : Bool
  hold           : Bool
  holdTimeLeft   : Nat
  deriving DecidableEq, Repr

/-- What READ_METER reports (R191). -/
structure MeterReport where
  imported : Nat
  conditioning : Nat
  sessions : Nat
  queued   : Nat
  stacked  : Bool
  waiting  : Bool
  pendingWrites : Nat
  storeTorn : Bool
  deriving DecidableEq, Repr

/-- The payload of a reply, before it is laid out in bytes. -/
inductive ReplyBody
  | empty
  | clamped (indices : List Nat)
  | badField (index : Nat)
  | events (kinds : List EventKind)
  | status (r : StatusReport)
  | heating (state : HeaterState) (overcurrent openLatch : Bool)
  | tripCause (c : TripCause)
  | report (p : Placed)
  | meter (r : MeterReport)
  | peers (count overflow : Nat) (entries : List PeerReport)
  | share (r : ShareReport)
  | measure (r : MeasureReport)
  | insulation (r : InsulationReport)
  deriving DecidableEq, Repr

/-- A reply: its status and its payload. -/
structure Reply where
  status : Status
  body   : ReplyBody
  deriving DecidableEq, Repr

/-- What CPT holds. -/
structure Cpt where
  reply       : Reply
  /-- The reply being shifted out while chip select is asserted (R193). -/
  shifting    : Option Reply
  events      : List EventKind
  configured  : Bool
  resetCause  : ResetCause
  deriving DecidableEq, Repr

/-! ## The whole part -/

/-- Running, or held in reset by the supply supervisor (00_scope.md, Electrical Summary). -/
inductive Power
  | running | heldInReset
  deriving DecidableEq, Repr

/-- The state of the part, with the commands that wait, first in first out. -/
structure State where
  power   : Power
  cfg     : Settings
  psq     : Psq
  fli     : Fli
  shu     : Shu
  crg     : Crg
  ptu     : Ptu
  msq     : Msq
  htr     : Htr
  imn     : Imn
  mtr     : Mtr
  mst     : Mst
  cpt     : Cpt
  /-- The model's own counter for fresh free values (log 11). -/
  fresh   : Nat
  pending : List Instr
  deriving DecidableEq, Repr

/-- Why a command could stop the machine. Nothing in the manual does: no command ends in a fault. -/
inductive Fault
  deriving DecidableEq, Repr

/-- Why a command is refused by the model. -/
inductive Refusal
  /-- Raised by `exec` alone for a row that has no meaning yet; safe, since nothing follows from it. -/
  | notModelled (mnemonic : String)
  deriving DecidableEq, Repr

/-! ## The reset state -/

/-- The settings before CONFIGURE: the defaults of R69, R88 and R136, M = 0 (R55), and for the rest
the values log 6 names. -/
def Settings.default : Settings where
  station     := 0
  deadTime    := 1000
  feLevel     := none
  dcLevel     := none
  heaterLevel := none
  floatOnTrip := false
  extFilter   := 4
  eta         := 940
  margin      := 0
  riseStep    := 10
  joinCurrent := 0
  fallback    := 0
  policy      := .strict
  vPre        := 0
  vLinkTarget := 7000
  linkCeiling := 8200
  iFull       := 400
  kCv         := 20
  rUp         := 20
  kpLink      := 512
  kiLink      := 16
  kpBat       := 256
  kiBat       := 8
  tCold       := 0
  rc          := 470
  rm          := 30
  uInj        := 50
  tHalfMax    := 4
  rWarn       := 400
  rAlarm      := 80

/-- R25; the input readings are handed on from before the reset (log 5). -/
def Psq.reset (contactorFb prechargeFb : Bool) : Psq where
  prox           := .none
  settleMs       := 0
  seq            := .unplugged
  ident          := none
  prechargeCmd   := false
  contactorCmd   := false
  cancelPending  := false
  cancelContactor := false
  faultCause     := none
  stopCause      := none
  forced         := false
  start          := none
  isoReturn      := none
  batteryLow     := false
  query          := false
  assembly       := .waiting
  prevCode       := none
  identTimer     := false
  prechargeTimer := false
  contactorTimer := false
  stopTimer      := false
  contactorSup   := false
  prechargeSup   := false
  contactorFb    := contactorFb
  prechargeFb    := prechargeFb

/-- R43. -/
def Fli.reset : Fli where
  line            := .offline
  silentTimer     := false
  queue           := []
  attempt         := none
  errorCount      := 0
  duplicate       := false
  ackHistory      := []
  foreignReported := false
  departed        := false
  beaconTimer     := none
  ackDriven       := false

/-- R68. -/
def Shu.reset : Shu where
  peers       := []
  identCopy   := none
  session     := false
  joint       := false
  dOwnHanded  := 0
  sweepTarget := false
  sNew        := 0
  activeCount := 0
  sEff        := 0
  pendingRise := none
  joining     := 0
  overflow    := 0
  conds       := ⟨true, false, false, false⟩

/-- R87. -/
def Crg.reset : Crg where
  iReq       := 0
  vMax       := 0
  iBms       := 0
  stale      := true
  freshTimer := false
  vPh        := 0
  rmsSeen    := ⟨false, false, false⟩
  gridRange  := true
  pAllow     := 0
  pChgReq    := 0
  priority   := .chargeFirst
  pC         := 0
  pH         := 0
  iTherm     := 0
  iCv        := 0
  iShare     := 0
  iTarget    := 0
  pHeatReq   := 0
  tBat       := none
  dOwn       := 0
  dOwnLast   := 0
  setpoint   := 0
  linkI      := 0
  batI       := 0
  aFe        := 0
  dcDuty     := 0
  pMeter     := 0

/-- The values CRG writes while the output enable is clear (R82, R106). -/
def Compare.neutral : Compare := ⟨2048, 2048, 2048, 0⟩

/-- A leg at reset (R106); a conflict its feedback shows is timed from then on (R96). -/
def LegState.reset (f : Feedback) : LegState :=
  ⟨.off, false, false, none, if f.upper && f.lower then .timing else .clear⟩

/-- R106; the input readings are handed on from before the reset (log 5). -/
def Ptu.reset (feedback : PerLeg Feedback) (extActive : Bool) : Ptu where
  fc           := 16000
  divider      := 1
  nextTiming   := none
  position     := 0
  troughCount  := 0
  buffer       := .neutral
  inUse        := .neutral
  heaterBuffer := 0
  heaterInUse  := 0
  heaterOnTime := false
  legs         := ⟨.reset feedback.u, .reset feedback.v, .reset feedback.w, .reset ⟨false, false⟩⟩
  feedback     := feedback
  enable       := false
  trip         := none
  extActive    := extActive
  extFilter    := if extActive then .running else .zero
  extInactive  := false
  gridTimer    := false

/-- The signed slots of R107: the voltages and currents of the phases, the temperatures and VISO. -/
def signedSlot (i : Nat) : Bool :=
  i ≤ 5 || (10 ≤ i && i ≤ 13)

/-- A slot's range (R107). -/
def slotMin (i : Nat) : Int := if signedSlot i then -32768 else 0
@[inherit_doc slotMin] def slotMax (i : Nat) : Int := if signedSlot i then 32767 else 65535

/-- The default settings of R110. -/
def SlotSettings.default (i : Nat) : SlotSettings :=
  if i = 6 then ⟨0, 65536, 0, 8800, .trip⟩
  else if i = 1 ∨ i = 3 ∨ i = 5 then ⟨0, 65536, -8000, 8000, .trip⟩
  else if i = 8 then ⟨0, 65536, 0, 11000, .trip⟩
  else ⟨0, 65536, slotMin i, slotMax i, .none⟩

/-- A slot at reset (R120). -/
def SlotRecord.reset (i : Nat) : SlotRecord := ⟨0, .default i, none, false, false⟩

/-- A phase at reset (R120). -/
def PhaseMeter.reset : PhaseMeter := ⟨false, false, 0, 0, 0, 0, 0⟩

/-- R120. -/
def Msq.reset : Msq where
  slots      := #v[.reset 0, .reset 1, .reset 2, .reset 3, .reset 4, .reset 5, .reset 6, .reset 7,
                   .reset 8, .reset 9, .reset 10, .reset 11, .reset 12, .reset 13, .reset 14, .reset 15]
  fastScan   := none
  slowScan   := none
  converting := none
  phases     := ⟨.reset, .reset, .reset⟩
  troughs    := 0
  period     := 0
  outOfRange := true
  theta      := 0
  tbat1Valid := false
  tbat2Valid := false
  tcoolValid := false
  slowTimer  := true

/-- R135. -/
def Htr.reset : Htr where
  tOn         := 0
  tOff        := 100
  pHmax       := 0
  permission  := .off
  pBattMax    := 0
  tBat        := none
  state       := .off
  pHeatReq    := 0
  budget      := 0
  source      := .none
  duty        := 0
  relay       := false
  settleTimer := false
  accSum      := 0
  accCount    := 0
  overcurrent := false
  openLatch   := false
  openMs      := 0
  isolateReq  := false

/-- A cycle at its start (R139). -/
def Cycle.fresh : Cycle := ⟨.awaiting, 0, 0, none, none, false⟩

/-- An evaluation with no result yet. -/
def Evaluation.none : Evaluation := ⟨Option.none, 0, 0⟩

/-- R153 and, for the sweep, R168. -/
def Imn.reset : Imn where
  mode            := .localMode
  contactorClosed := false
  coupling        := true
  driver          := .zero
  cycle           := some .fresh
  halfIndex       := 0
  localResult     := none
  jointResult     := none
  resultInRole    := false
  localFlag       := false
  net             := .none
  own             := .none
  unmonitored     := false
  unmonTimer      := false
  clearCount      := 0
  backoff         := 0
  measurerHeard   := false
  ownFault        := false
  heaterIsolated  := false
  selfCheck       := .idle
  clearing        := false
  lastClearing    := none
  measureFaults   := 0
  sweep           := .none
  target          := none
  pendingRelease  := false
  outcome         := .none
  disagreement    := false
  hold            := false

/-- An unwritten descriptor slot (R184). -/
def Descriptor.blank : Descriptor := ⟨false, 0, 0, 0, 0, 0, false, false, false⟩

/-- R184. -/
def Mtr.reset : Mtr where
  sampleCount := 0
  powerSum    := 0
  heaterSum   := 0
  importCarry := 0
  heaterCarry := 0
  table       := #v[.blank, .blank, .blank, .blank, .blank, .blank, .blank, .blank,
                    .blank, .blank, .blank, .blank, .blank, .blank, .blank, .blank]
  session     := none
  prefetched  := none

/-- The page as the part leaves the factory (R186); the write counts are log 7's. -/
def Page.factory : Page where
  counters   := ⟨.valid ⟨0, ⟨0, 0, 0⟩⟩, .valid ⟨0, ⟨0, 0, 0⟩⟩⟩
  checkpoint := ⟨.valid ⟨0, .empty⟩, .valid ⟨0, .empty⟩⟩
  p1 := .valid none
  p2 := .valid none
  p3 := .valid none
  p4 := .valid none
  p5 := .valid none

/-- The working state before the start-up read of R192, over a page. -/
def Mst.blank (page : Page) : Mst where
  page          := page
  working       := ⟨0, 0, 0⟩
  queue         := []
  stacked       := none
  waiting       := none
  nextPlacement := 1
  sessionEnergy := 0
  lifeEnergy    := 0
  writes        := []
  inFlight      := none
  torn          := false

/-- R200. -/
def Cpt.reset (cause : ResetCause) : Cpt where
  reply      := ⟨.noReply, .empty⟩
  shifting   := none
  events     := []
  configured := false
  resetCause := cause

/-- Every block at its reset state, over a page and the input readings, before the start-up read. -/
def State.blank (cause : ResetCause) (page : Page) (s : Psq) (p : Ptu) (fresh : Nat)
    (pending : List Instr) : State where
  power   := .running
  cfg     := .default
  psq     := .reset s.contactorFb s.prechargeFb
  fli     := .reset
  shu     := .reset
  crg     := .reset
  ptu     := .reset p.feedback p.extActive
  msq     := .reset
  htr     := .reset
  imn     := .reset
  mtr     := .reset
  mst     := .blank page
  cpt     := .reset cause
  fresh   := fresh
  pending := pending

/-- The part right after its first power-on: the factory page, every contact open, every gate feedback
off and the external trip line inactive (log 5, log 7). The start-up read of R192 finds nothing in that
page, so it leaves the blank working state. -/
def State.reset : State :=
  .blank .powerOn .factory (.reset false false)
    (.reset ⟨⟨false, false⟩, ⟨false, false⟩, ⟨false, false⟩, ⟨false, false⟩⟩ false) 0 []

end Sys2Proof.Machine
end

