-- ==== Sys2Proof/Machine/Ops.lean ====
section
/-! DEFINITION. Operations every block uses: raising an event, answering the host, reading a slot,
reading and writing one phase or one leg, and the manual's arithmetic (00_scope.md, Arithmetic). -/

namespace Sys2Proof.Machine

/-! ## Arithmetic -/

/-- ceil(a / b). -/
def ceilDiv (a b : Nat) : Nat := (a + b - 1) / b

/-- clamp(x, a, b). -/
def clampInt (x a b : Int) : Int := if x < a then a else if b < x then b else x

/-- clamp(x, a, b) of naturals. -/
def clampNat (x a b : Nat) : Nat := if x < a then a else if b < x then b else x

/-- The integer square root of `n` whose bits from `bits` up are `acc`'s. -/
def isqrtFrom (n : Nat) : (bits acc : Nat) → Nat
  | 0, acc => acc
  | b + 1, acc =>
    if (acc + 2 ^ b) * (acc + 2 ^ b) ≤ n then isqrtFrom n b (acc + 2 ^ b) else isqrtFrom n b acc

/-- The greatest integer whose square is not above `n` (R116). -/
def isqrt (n : Nat) : Nat := isqrtFrom n (n.log2 / 2 + 1) 0

/-! ## Phases and legs -/

/-- The value of one phase. -/
def PerPhase.get {α : Type} (p : PerPhase α) : Phase → α
  | .u => p.u
  | .v => p.v
  | .w => p.w

/-- Replace the value of one phase. -/
def PerPhase.set {α : Type} (p : PerPhase α) (k : Phase) (a : α) : PerPhase α :=
  match k with
  | .u => { p with u := a }
  | .v => { p with v := a }
  | .w => { p with w := a }

/-- The value of one leg. -/
def PerLeg.get {α : Type} (p : PerLeg α) : Leg → α
  | .u => p.u
  | .v => p.v
  | .w => p.w
  | .d => p.d

/-- Replace the value of one leg. -/
def PerLeg.set {α : Type} (p : PerLeg α) (k : Leg) (a : α) : PerLeg α :=
  match k with
  | .u => { p with u := a }
  | .v => { p with v := a }
  | .w => { p with w := a }
  | .d => { p with d := a }

/-- One function on every leg. -/
def PerLeg.map {α β : Type} (f : Leg → α → β) (p : PerLeg α) : PerLeg β :=
  ⟨f .u p.u, f .v p.v, f .w p.w, f .d p.d⟩

/-! ## Steps under a condition -/

/-- `f` where `c` holds, and nothing otherwise. -/
def onlyIf {σ : Type} (c : Bool) (f : σ → σ) (s : σ) : σ := if c then f s else s

/-- While the supervisor holds the part in reset, nothing is taken (log 4). -/
def whenRunning (f : State → State) (s : State) : Host.Outcome State Fault Refusal :=
  match s.power with
  | .running => .next (f s)
  | .heldInReset => .next s

/-- A row that changes the reading of an input pin: in reset only the reading follows, by `held`
(log 5). -/
def whenRunningOr (held f : State → State) (s : State) : Host.Outcome State Fault Refusal :=
  match s.power with
  | .running => .next (f s)
  | .heldInReset => .next (held s)

/-! ## Events (R195) -/

/-- The 24 kinds in the order of 12.6. -/
def EventKind.all : List EventKind :=
  [.plug, .seqState, .identDone, .trip, .limit, .limitStale, .gridRange, .gridFreq,
   .shareFallback, .peers, .lineFault, .duplicate, .foreignFeeder, .insulation, .sweep, .heater,
   .lowQuota, .sessionEnd, .reportReady, .storeTorn, .configDone, .storeBusy, .lineResumed,
   .measureFault]

/-- The set `es` with `k` in it. A set is the list of its kinds in the order of 12.6, each once. -/
def insertEvent (k : EventKind) (es : List EventKind) : List EventKind :=
  EventKind.all.filter fun e => e == k || es.contains e

/-- R195: the set gains the kind; a kind already in it leaves it as it is. -/
def raiseEvent (k : EventKind) (s : State) : State :=
  { s with cpt.events := insertEvent k s.cpt.events }

/-! ## Replies (R193, R194) -/

/-- The reply to a request taken, which ends the transaction that carried it. -/
def answer (status : Status) (body : ReplyBody) (s : State) : State :=
  { s with cpt.reply := ⟨status, body⟩, cpt.shifting := none }

/-- A reply without a payload. -/
def answerEmpty (status : Status) (s : State) : State := answer status .empty s

/-! ## Reading what several blocks read -/

/-- A slot's latest result (R107). -/
def slotValue (i : Fin 16) (s : State) : Int := s.msq.slots[i].latest

/-- An unsigned slot's latest result. -/
def slotNat (i : Fin 16) (s : State) : Nat := (slotValue i s).toNat

/-- VLINK, VBAT, IBAT and IHEAT (R107). -/
def vLink (s : State) : Nat := slotNat 6 s
/-- VBAT. -/
def vBat (s : State) : Nat := slotNat 7 s
/-- IBAT. -/
def iBat (s : State) : Nat := slotNat 8 s
/-- IHEAT. -/
def iHeat (s : State) : Nat := slotNat 9 s

/-- A session is open (R174, R183). -/
def sessionOpen (s : State) : Bool := s.mtr.session.isSome

/-- The part is in the trip latch (R99). -/
def tripped (s : State) : Bool := s.ptu.trip.isSome

/-- The sequencer is isolated for a sweep, in whatever phase. -/
def SeqState.isolated : SeqState → Bool
  | .sweepIsolated _ => true
  | _ => false

/-- The mode of the measuring role (R138). -/
def roleHeld (s : State) : Bool := s.imn.mode == .measurer

/-- R_warn's companion R_ok (R136). -/
def rOk (cfg : Settings) : Nat := cfg.rWarn + cfg.rWarn / 4

/-- The outlet rating of SHU's copy; 0 with an empty copy (R44, log 29). -/
def outletRating (s : State) : Nat := (s.shu.identCopy.map (·.rating)).getD 0

/-- The outlet currents of the rating classes, in dA (R7). -/
def ratingOfClass : Nat → Nat
  | 0 => 60 | 1 => 100 | 2 => 130 | 3 => 160 | 4 => 200
  | 5 => 250 | 6 => 320 | 7 => 400 | 8 => 500 | 9 => 630
  | _ => 0

/-- An entry of the station's own feeder (R44). -/
def sameFeeder (s : State) (e : PeerEntry) : Bool :=
  match s.shu.identCopy with
  | some c => c.feederId != 0 && e.feeder == c.feederId
  | none => false

/-- A peer that may hold the measuring role (R146). -/
def eligiblePeer (s : State) (e : PeerEntry) : Bool :=
  sameFeeder s e && e.joint && e.age ≤ 1

/-- The lapse of a span or of the trough count (R116, R117). -/
def lapseCount (s : State) : Nat := s.ptu.fc / 45 + 1

/-! ## Insulation events to the meter, and flags of the session context (R174) -/

/-- Change the flags of an open session. -/
def markSession (f : SessionFlags → SessionFlags) (s : State) : State :=
  { s with mtr.session := s.mtr.session.map fun ss =>
      { ss with base := { ss.base with flags := f ss.base.flags } } }

end Sys2Proof.Machine
end

