-- ==== Sys2Proof/Machine/Power.lean ====
section
/-! DEFINITION. The Power Timing Unit (chapter 5) on its own: leg commands, dead time, output enable, the
trip latch's record, output levels. The trip's effects on other blocks are in Trip.lean. -/

namespace Sys2Proof.Machine

/-! ## Leg commands and dead time (R90, R92) -/

/-- The value in use of a leg (R91). -/
def Compare.leg (c : Compare) : Leg → Nat
  | .u => c.u
  | .v => c.v
  | .w => c.w
  | .d => c.d

/-- The leg command of a carrier position and a value in use (R90). -/
def commandAt (enable : Bool) (position value : Nat) : LegCommand :=
  if !enable then .off else if 4096 < position + value then .upper else .lower

/-- A leg's command changes (R92): the device that is on turns off at once and its dead time starts;
with both off, a dead time starts before the named device turns on; a running interval runs on. -/
def LegState.take (c : LegCommand) (l : LegState) : LegState :=
  if l.command = c then l
  else if l.upperOn ∧ c ≠ .upper then
    { l with command := c, upperOn := false, deadTime := some ⟨some .upper⟩ }
  else if l.lowerOn ∧ c ≠ .lower then
    { l with command := c, lowerOn := false, deadTime := some ⟨some .lower⟩ }
  else if c = .off ∨ l.deadTime.isSome ∨ l.upperOn ∨ l.lowerOn then { l with command := c }
  else { l with command := c, deadTime := some ⟨none⟩ }

/-- The device the command names turns on at the end of the interval (R92). -/
def LegState.endDeadTime (l : LegState) : LegState :=
  { l with
    deadTime := none
    upperOn := l.command == .upper
    lowerOn := l.command == .lower }

/-! ## The continuous check (R96) -/

/-- The lower output of leg D is at its active level (R94, R96, log 36). -/
def lowerOfDActive (s : State) : Bool :=
  s.cfg.dcLevel.isSome && !tripped s && s.ptu.enable && s.ptu.legs.d.lowerOn

/-- A leg is in conflict (R96). -/
def inConflict (s : State) (k : Leg) : Bool :=
  match k with
  | .d => s.ptu.feedback.d.upper && lowerOfDActive s
  | _ => (s.ptu.feedback.get k).upper && (s.ptu.feedback.get k).lower

/-- The 50 ns timings follow the leg's conflict (R96). -/
def ConflictTiming.follow (conflict : Bool) : ConflictTiming → ConflictTiming
  | .clear => if conflict then .timing else .clear
  | .timing => if conflict then .timing else .clear
  | .raised => if conflict then .raised else .leaving
  | .leaving => if conflict then .raised else .leaving

/-- Every leg's timing follows its conflict. -/
def watchConflicts (s : State) : State :=
  { s with ptu.legs := s.ptu.legs.map fun k l =>
      { l with conflict := l.conflict.follow (inConflict s k) } }

/-- The legs' commands are formed from the carrier's position (R90). -/
def formCommands (s : State) : State :=
  watchConflicts
    { s with ptu.legs := s.ptu.legs.map fun k l =>
        l.take (commandAt s.ptu.enable s.ptu.position (s.ptu.inUse.leg k)) }

/-! ## Output enable (R82, R97, R98) -/

/-- The output enable is cleared (R98): devices off, commands OFF, grid supervision stopped, and the
Charge Regulator's neutral values (R81, R82). -/
def clearEnable (s : State) : State :=
  if s.ptu.enable then
    formCommands
      { s with
        ptu.enable := false
        ptu.gridTimer := false
        ptu.buffer := .neutral
        crg.setpoint := 0
        crg.linkI := 0
        crg.batI := 0
        crg.aFe := 0
        crg.dcDuty := 0 }
  else s

/-- An arm request, taken while the trip latch is clear (R97, R101). The commands are formed from the carrier
position that the last CARRIER_TROUGH or LEG_COMMAND_CHANGE left (DESIGN CHOICE, log 66). -/
def armEnable (s : State) : State :=
  if s.ptu.enable ∨ tripped s then s
  else formCommands { s with ptu.enable := true, ptu.gridTimer := true }

/-! ## The heater duty (R91, R125, R129) -/

/-- HTR's duty, written to the heater duty buffer. -/
def writeHeaterDuty (d : Nat) (s : State) : State :=
  { s with htr.duty := d, ptu.heaterBuffer := d }

/-! ## The trip latch's record (R99, R104) -/

/-- The order the also-set is kept in, so that equal sets are equal data. -/
def TripCause.rank : TripCause → Nat
  | .ext => 0
  | .legConflict .u => 1
  | .legConflict .v => 2
  | .legConflict .w => 3
  | .legConflict .d => 4
  | .limit i => 5 + i.val
  | .plugLost => 21
  | .gridLost => 22
  | .linkOver => 23

/-- A cause into the also-set, in the order of ranks. -/
def insertCause (c : TripCause) : List TripCause → List TripCause
  | [] => [c]
  | x :: xs =>
    if c = x then x :: xs else if c.rank < x.rank then c :: x :: xs else x :: insertCause c xs

/-- The latch with a later cause (R99). -/
def TripLatch.add (c : TripCause) (t : TripLatch) : TripLatch :=
  if c = t.first then t else { t with also := insertCause c t.also }

/-- A cause is in the latch, as the first or in the also-set (R103). -/
def TripLatch.holds (t : TripLatch) (c : TripCause) : Bool := t.first == c || t.also.contains c

/-- A slot's latest result lies outside its limits (R104, R111). -/
def SlotRecord.outside (r : SlotRecord) : Bool :=
  decide (r.latest < r.inUse.low) || decide (r.inUse.high < r.latest)

/-- The first slot whose LIMIT is in the latch and whose latest result is outside its limits (R104). -/
def persistingLimit (t : TripLatch) (s : State) : Option (Fin 16) :=
  (List.finRange 16).find? fun i => t.holds (.limit i) && s.msq.slots[i].outside

/-- A leg one of whose feedback inputs reads on (R104). -/
def feedbackOn (s : State) : Option Leg :=
  [Leg.u, Leg.v, Leg.w, Leg.d].find? fun k =>
    (s.ptu.feedback.get k).upper || (s.ptu.feedback.get k).lower

/-- The condition that refuses TRIP_CLEAR, in R104's order. -/
def tripPersists (t : TripLatch) (s : State) : Option TripCause :=
  if !s.ptu.extInactive then some .ext
  else match persistingLimit t s with
    | some i => some (.limit i)
    | none => match feedbackOn s with
      | some k => some (.legConflict k)
      | none => if s.cfg.linkCeiling < vLink s then some .linkOver else none

/-- TRIP_CLEAR (R104). -/
def tripClear (s : State) : State :=
  match s.ptu.trip with
  | none => answerEmpty .accepted s
  | some t => match tripPersists t s with
    | some c => answer .tripPersists (.tripCause c) s
    | none => answerEmpty .accepted (watchConflicts { s with ptu.trip := none })

@[inherit_doc tripClear]
def execTripClear (s : State) : Host.Outcome State Fault Refusal := whenRunning tripClear s

/-! ## Output levels (R94) -/

/-- What an output pin is driven at. -/
inductive PinLevel
  | floating | high | low
  deriving DecidableEq, Repr

/-- A pin of a group at its active or its inactive level. -/
def driven (active : Level) (on : Bool) : PinLevel :=
  match active, on with
  | .high, true => .high
  | .high, false => .low
  | .low, true => .low
  | .low, false => .high

/-- The active level of a leg's group. -/
def legLevel (s : State) : Leg → Option Level
  | .d => s.cfg.dcLevel
  | _ => s.cfg.feLevel

/-- A device is on. -/
def LegState.on (l : LegState) : Device → Bool
  | .upper => l.upperOn
  | .lower => l.lowerOn

/-- The output of a leg's device at its pin (R94). -/
def gateOutput (s : State) (k : Leg) (d : Device) : PinLevel :=
  match legLevel s k with
  | none => .floating
  | some l =>
    if tripped s then (if s.cfg.floatOnTrip then .floating else driven l false)
    else if s.ptu.enable then driven l ((s.ptu.legs.get k).on d)
    else driven l false

/-- Output H at its pin (R93, R94). After a TRIP_CLEAR it follows the on-time of the heater period again, in the
period of the trip too (DESIGN CHOICE, log 70). -/
def heaterOutput (s : State) : PinLevel :=
  match s.cfg.heaterLevel with
  | none => .floating
  | some l =>
    if tripped s then (if s.cfg.floatOnTrip then .floating else driven l false)
    else driven l s.ptu.heaterOnTime

/-! ## Rows of the unit that touch no other block -/

/-- A carrier position turns one leg's command (R90, R92, log 35). -/
def legCommandChange (k : Leg) (position : Nat) (s : State) : State :=
  let p := min position 4096
  watchConflicts
    { s with
      ptu.position := p
      ptu.legs := s.ptu.legs.set k
        ((s.ptu.legs.get k).take (commandAt s.ptu.enable p (s.ptu.inUse.leg k))) }

@[inherit_doc legCommandChange]
def execLegCommandChange (leg : Leg) (position : Nat) (s : State) :
    Host.Outcome State Fault Refusal :=
  whenRunning (legCommandChange leg position) s

/-- A gate feedback input's new reading (5.5); leg D has no lower one. -/
def readFeedback (k : Leg) (d : Device) (reads : Bool) (s : State) : State :=
  let f := s.ptu.feedback.get k
  match d, k with
  | .lower, .d => s
  | .lower, _ => { s with ptu.feedback := s.ptu.feedback.set k { f with lower := reads } }
  | .upper, _ => { s with ptu.feedback := s.ptu.feedback.set k { f with upper := reads } }

/-- A gate feedback input changes (R96). -/
def gateFeedbackChange (k : Leg) (d : Device) (reads : Bool) (s : State) : State :=
  watchConflicts (readFeedback k d reads s)

@[inherit_doc gateFeedbackChange]
def execGateFeedbackChange (leg : Leg) (device : Device) (reads : Bool) (s : State) :
    Host.Outcome State Fault Refusal :=
  whenRunningOr (readFeedback leg device reads) (gateFeedbackChange leg device reads) s

/-- The start of a heater period (R93). -/
def heaterPeriodStart (s : State) : State :=
  { s with ptu.heaterInUse := s.ptu.heaterBuffer, ptu.heaterOnTime := s.ptu.heaterBuffer != 0 }

@[inherit_doc heaterPeriodStart]
def execHeaterPeriodStart (s : State) : Host.Outcome State Fault Refusal :=
  whenRunning heaterPeriodStart s

/-- The end of the on-time within the heater period (R93). -/
def heaterDutyEnd (s : State) : State := { s with ptu.heaterOnTime := false }

@[inherit_doc heaterDutyEnd]
def execHeaterDutyEnd (s : State) : Host.Outcome State Fault Refusal := whenRunning heaterDutyEnd s

/-- The external trip line's reading changes (R100). -/
def extLineChange (active : Bool) (s : State) : State :=
  if active = s.ptu.extActive then s
  else
    { s with
      ptu.extActive := active
      ptu.extFilter := if active then .running else .zero
      ptu.extInactive := false }

@[inherit_doc extLineChange]
def execExtTripLineChange (active : Bool) (s : State) : Host.Outcome State Fault Refusal :=
  whenRunningOr (fun s => { s with ptu.extActive := active }) (extLineChange active) s

/-- The inactive timer reaches 10 ms (R100). -/
def extInactiveExpiry (s : State) : State :=
  if s.ptu.extActive then s else { s with ptu.extInactive := true }

@[inherit_doc extInactiveExpiry]
def execExtInactiveTimerExpiry (s : State) : Host.Outcome State Fault Refusal :=
  whenRunning extInactiveExpiry s

end Sys2Proof.Machine
end

