-- ==== Sys2Proof/Machine/Share.lean ====
section
/-! DEFINITION. The Share Unit's arithmetic (chapter 3): the active set, the share computation, and what a
full or an extra computation makes of its result. -/

namespace Sys2Proof.Machine

/-- A station's demand or its share, in dA. -/
structure Amount where
  station : Nat
  amount  : Nat
  deriving DecidableEq, Repr

/-! ## The share computation (R54 to R56) -/

/-- Before in the walk's order: lower demand, then lower station number (R55, step 2). -/
def Amount.before (a b : Amount) : Bool :=
  a.amount < b.amount || (a.amount == b.amount && a.station < b.station)

/-- A demand at its place in the walk's order. -/
def insertAmount (a : Amount) : List Amount → List Amount
  | [] => [a]
  | b :: bs => if a.before b then a :: b :: bs else b :: insertAmount a bs

/-- The active set in the walk's order (R55, step 2). -/
def walkOrder (as : List Amount) : List Amount := as.foldr insertAmount []

/-- How many of these stations have a lower number. -/
def lowerNumbers (station : Nat) (as : List Amount) : Nat :=
  (as.filter fun a => a.station < station).length

/-- The stations that take `f`, the `r` of the lowest numbers one more (R56). -/
def handOut (f r : Nat) (as : List Amount) : List Amount :=
  as.map fun a => ⟨a.station, if lowerNumbers a.station as < r then f + 1 else f⟩

/-- The walk of R55 over what remains, with the remainder of R56 handed out where it stops. -/
def walk : (rem : Nat) → List Amount → List Amount
  | _, [] => []
  | rem, a :: rest =>
    let n := rest.length + 1
    let f := rem / n
    if a.amount ≤ f then a :: walk (rem - a.amount) rest
    else handOut f (rem - f * n) (a :: rest)

/-- The allocation of A among an active set (R55, R56). -/
def allocate (available : Nat) (active : List Amount) : List Amount :=
  walk available (walkOrder active)

/-- A station's line of an allocation; 0 where it has none. -/
def shareOf (station : Nat) (as : List Amount) : Nat :=
  ((as.find? fun a => a.station == station).map (·.amount)).getD 0

/-- d_own as R53 gives it. -/
def dOwnInUse (s : State) : Nat := if s.shu.sweepTarget then 0 else s.shu.dOwnHanded

/-- L, 0 with an empty copy (R44). -/
def feederCapacity (s : State) : Nat := (s.shu.identCopy.map (·.capacity)).getD 0

/-- A = L − M, and 0 where that is negative (R55, step 1). -/
def available (s : State) : Nat := feederCapacity s - s.cfg.margin

/-- The active set (R54). -/
def activeSet (s : State) : List Amount :=
  (if s.shu.session then [⟨s.cfg.station, dOwnInUse s⟩] else [])
    ++ (s.shu.peers.filter fun e => sameFeeder s e && e.session).map fun e => ⟨e.station, e.demand⟩

/-- S_new of the state as it stands: 0 with the own station out of the active set (R55). -/
def newShare (s : State) : Nat :=
  if s.shu.session then shareOf s.cfg.station (allocate (available s) (activeSet s)) else 0

/-- A share computation (R54 to R56). -/
def computeShare (s : State) : State :=
  { s with shu.sNew := newShare s, shu.activeCount := (activeSet s).length }

/-! ## From S_new to S_eff (R58 to R60, R63) -/

/-- min(d_own, F). -/
def fallbackShare (s : State) : Nat := min (dOwnInUse s) s.cfg.fallback

/-- In fallback with SESSION set, S_eff is min(d_own, F) (R63). -/
def keepFallback (s : State) : State :=
  if s.shu.session ∧ s.shu.conds.any then { s with shu.sEff := fallbackShare s } else s

/-- The fall rule of an extra computation (R60). -/
def fallOnly (s : State) : State :=
  if ¬ s.shu.session then s
  else if s.shu.conds.any then keepFallback s
  else if s.shu.sNew < s.shu.sEff then { s with shu.sEff := s.shu.sNew }
  else s

/-- An extra computation (R60). -/
def extraComputation (s : State) : State := fallOnly (computeShare s)

/-- The rise rule (R59). -/
def riseRule (s : State) : State :=
  if s.shu.sNew ≤ s.shu.sEff then { s with shu.sEff := s.shu.sNew, shu.pendingRise := none }
  else match s.shu.pendingRise with
    | none => { s with shu.pendingRise := some s.shu.sNew }
    | some p =>
      { s with
        shu.sEff := min (min p s.shu.sNew) (s.shu.sEff + s.cfg.riseStep)
        shu.pendingRise := none }

/-- What a full computation makes of S_new (R58, R59, R63). -/
def fullRule (s : State) : State :=
  if ¬ s.shu.session then s
  else if s.shu.conds.any then
    keepFallback { s with shu.joining := min 2 (s.shu.joining + 1), shu.pendingRise := none }
  else if s.shu.joining < 2 then
    { s with
      shu.joining := s.shu.joining + 1
      shu.sEff := min s.shu.sNew s.cfg.joinCurrent
      shu.pendingRise := none }
  else riseRule s

/-- A full computation (R57, step 3). -/
def fullComputation (s : State) : State := fullRule (computeShare s)

/-! ## The peer table (R45 to R50) -/

/-- An entry at its place in station order; one of the same station is replaced. -/
def putPeer (e : PeerEntry) : List PeerEntry → List PeerEntry
  | [] => [e]
  | x :: xs =>
    if e.station < x.station then e :: x :: xs
    else if e.station = x.station then e :: xs
    else x :: putPeer e xs

/-- The entry of a station. -/
def findPeer (station : Nat) (ps : List PeerEntry) : Option PeerEntry :=
  ps.find? fun e => e.station == station

/-- Aging and removal at age 4 (R50). -/
def agePeers (ps : List PeerEntry) : List PeerEntry :=
  (ps.map fun e => { e with age := e.age + 1 }).filter fun e => e.age < 4

/-- The unheard condition (R62). -/
def unheard (s : State) : Bool :=
  s.fli.ackHistory == [false, false, false]
    && s.shu.peers.any fun e => sameFeeder s e && e.age ≤ 1

/-- The four conditions as they stand (R61). -/
def fallbackConds (s : State) : FallbackConds where
  line := s.fli.line != .online
  overflow := 0 < s.shu.overflow
  unknownFeeder := (s.shu.identCopy.map fun c => c.feederId == 0).getD false
  unheard := unheard s

/-! ## Reading (R66, R67) -/

/-- An entry in READ_PEERS's reply (R66). -/
def PeerEntry.report (e : PeerEntry) : PeerReport where
  station    := e.station
  feeder     := e.feeder
  demand     := e.demand
  draw       := e.draw
  session    := e.session
  joint      := e.joint
  measurer   := e.measurer
  imState    := e.imState
  resistance := e.resistance.getD 65535
  leader     := e.leader.getD 0
  age        := e.age
  heard      := e.heard

/-- READ_PEERS (R66). -/
def readPeers (s : State) : State :=
  answer .accepted
    (.peers s.shu.peers.length s.shu.overflow (s.shu.peers.map PeerEntry.report)) s

@[inherit_doc readPeers]
def execReadPeers (s : State) : Host.Outcome State Fault Refusal := whenRunning readPeers s

/-- READ_SHARE (R67). -/
def readShare (s : State) : State :=
  answer .accepted
    (.share
      { capacity := feederCapacity s
        margin := s.cfg.margin
        available := available s
        activeCount := s.shu.activeCount
        sNew := s.shu.sNew
        sEff := s.shu.sEff
        dOwn := dOwnInUse s
        pendingRise := s.shu.pendingRise
        joining := s.shu.joining
        conds := s.shu.conds }) s

@[inherit_doc readShare]
def execReadShare (s : State) : Host.Outcome State Fault Refusal := whenRunning readShare s

end Sys2Proof.Machine
end

