-- ==== Sys2Proof/Machine/Regulate.lean ====
section
/-! DEFINITION. The Charge Regulator (chapter 4) with what its chain reaches: the heater's budget (R127),
the hand-over of d_own (R77) with the extra computation it may cause (R53, R60), the control loops, and
the evaluation of SHU's fallback conditions (R61 to R63). -/

namespace Sys2Proof.Machine

/-! ## The chain's formulas (R74 to R80) -/

/-- I_bms as the formulas count it: 0 while stale (R71). -/
def iBmsCounted (s : State) : Nat := if s.crg.stale then 0 else s.crg.iBms

/-- I_therm (R75). -/
def iThermOf (s : State) : Nat :=
  let t := slotValue 12 s
  if !s.msq.tcoolValid then 0
  else if t ≤ 700 then s.cfg.iFull
  else if t < 850 then s.cfg.iFull * (850 - t).toNat / 150
  else 0

/-- I_cv (R75). -/
def iCvOf (s : State) : Nat := (s.crg.vMax - vBat s) * s.cfg.kCv

/-- P_allow (R74). -/
def pAllowOf (s : State) : Nat :=
  if s.crg.gridRange then 0 else 3 * s.crg.vPh * s.shu.sEff * s.cfg.eta / 100000

/-- P_chg_req (R76). -/
def pChgReqOf (s : State) : Nat :=
  min (min s.crg.iReq (iBmsCounted s)) (min (iThermOf s) (iCvOf s)) * vBat s / 100

/-- d_own (R77). -/
def dOwnOf (s : State) : Nat :=
  if s.psq.seq = .active ∧ ¬ s.crg.gridRange then
    min (outletRating s)
      (ceilDiv ((pChgReqOf s + s.crg.pHeatReq) * 100000) (3 * s.crg.vPh * s.cfg.eta))
  else 0

/-- The priority (R78). -/
def priorityOf (s : State) : Priority :=
  match s.crg.tBat with
  | some t => if t < s.cfg.tCold then .heatFirst else .chargeFirst
  | none => .chargeFirst

/-- The split: P_c and P_h (R79). -/
def splitOf (s : State) : Nat × Nat :=
  if s.psq.seq ≠ .active then (0, 0)
  else match priorityOf s with
    | .heatFirst =>
      (pAllowOf s - min s.crg.pHeatReq (pAllowOf s), min s.crg.pHeatReq (pAllowOf s))
    | .chargeFirst =>
      (min (pChgReqOf s) (pAllowOf s),
        min s.crg.pHeatReq (pAllowOf s - min (pChgReqOf s) (pAllowOf s)))

/-- I_share (R80). -/
def iShareOf (s : State) : Nat := if vBat s < 2000 then 0 else (splitOf s).1 * 100 / vBat s

/-- I_target (R80). -/
def iTargetOf (s : State) : Nat :=
  min (min s.crg.iReq (iBmsCounted s)) (min (iShareOf s) (min (iThermOf s) (iCvOf s)))

/-- The results of an evaluation, with the setpoint's fall (R73, R81). -/
def chain (s : State) : Crg :=
  { s.crg with
    pAllow := pAllowOf s
    pChgReq := pChgReqOf s
    priority := priorityOf s
    pC := (splitOf s).1
    pH := (splitOf s).2
    iTherm := iThermOf s
    iCv := iCvOf s
    iShare := iShareOf s
    iTarget := iTargetOf s
    dOwn := dOwnOf s
    setpoint := min s.crg.setpoint (iTargetOf s) }

/-! ## The heater's budget (R127) -/

/-- The budget and its source by the table of R127. -/
def budgetOf (s : State) : Nat × HeatSource :=
  match s.htr.permission, s.psq.seq with
  | .off, _ => (0, .none)
  | _, .active => (s.crg.pH, .grid)
  | .gridOrBattery, _ => (min s.htr.pHeatReq s.htr.pBattMax, .battery)
  | .gridOnly, _ => (0, .none)

/-- The budget is formed; where the budget in use becomes 0, the duty does too (R127). -/
def formBudget (s : State) : State :=
  let b := budgetOf s
  onlyIf (s.htr.budget != 0 && b.1 == 0) (writeHeaterDuty 0)
    { s with htr.budget := b.1, htr.source := b.2 }

/-! ## Evaluations (R73, R77) -/

/-- A chain evaluation that hands no d_own: P_h goes to HTR, I_target to the setpoint (R73). -/
def evaluate (s : State) : State := formBudget { s with crg := chain s }

/-- d_own is handed to SHU, which keeps it limited to the outlet rating (R53, R63). -/
def handDOwn (s : State) : State :=
  keepFallback
    { s with
      shu.dOwnHanded := min s.crg.dOwn (outletRating s)
      crg.dOwnLast := s.crg.dOwn }

/-- An extra computation, and the evaluation with the S_eff it leaves (R60, R64, R73). -/
def extraAndEvaluate (s : State) : State := evaluate (extraComputation s)

/-- A hand-over that lowers the value in use causes an extra computation (R53); either way the chain is
evaluated with the S_eff it leaves. -/
def handLower (s : State) : State :=
  let t := handDOwn s
  if dOwnInUse t < dOwnInUse s then extraAndEvaluate t else evaluate t

/-- An evaluation that hands a d_own lower than the one last handed (R77). -/
def evaluateAndHand (s : State) : State :=
  let t := evaluate s
  if t.crg.dOwn < t.crg.dOwnLast then handLower t else t

/-! ## The own station's flags at SHU (R52, R53) -/

/-- SESSION is set (R41, R52). -/
def setSession (s : State) : State :=
  { s with
    shu.session := true
    shu.joining := 0
    shu.pendingRise := none
    fli.departed := false }

/-- SESSION and JOINT are cleared; S_eff falls to 0 at once (R52, R64), and the chain is evaluated with it
before the sequencer's state changes (log 53). -/
def clearSession (s : State) : State :=
  evaluate
    { s with
      shu.session := false
      shu.joint := false
      shu.sEff := 0
      shu.pendingRise := none
      shu.joining := 0 }

/-- The sweep-target report begins, with its extra computation (R53, R158). -/
def reportTarget (s : State) : State := extraAndEvaluate { s with shu.sweepTarget := true }

/-- The sweep-target report ends; no computation (R53). -/
def endTargetReport (s : State) : State := { s with shu.sweepTarget := false }

/-! ## Fallback (R61 to R63) -/

/-- Entry to fallback (R63, R174). -/
def enterFallback (s : State) : State :=
  evaluate (keepFallback (markSession (fun f => { f with fallbackUsed := true })
    (raiseEvent .shareFallback { s with shu.pendingRise := none })))

/-- The conditions are evaluated again, and SHU enters or leaves fallback (R61, R63). -/
def updateFallback (s : State) : State :=
  let t := { s with shu.conds := fallbackConds s }
  match s.shu.conds.any, t.shu.conds.any with
  | false, true => enterFallback t
  | true, false => evaluate (raiseEvent .shareFallback t)
  | _, _ => t

/-! ## The grid voltage (R72) -/

/-- V_ph of the latest three RMS voltages (R72). -/
def vPhOf (s : State) : Nat :=
  if s.crg.rmsSeen.u && s.crg.rmsSeen.v && s.crg.rmsSeen.w then
    (s.msq.phases.u.rmsV + s.msq.phases.v.rmsV + s.msq.phases.w.rmsV) / 3
  else 0

/-- The grid range condition as it stands (R72). -/
def gridRangeOf (vPh : Nat) (outOfRange : Bool) : Bool :=
  vPh < 1800 || 2650 < vPh || outOfRange

/-- A phase's RMS voltage is new (R72): V_ph, the condition, GRID_RANGE, and the evaluation. -/
def newRms (k : Phase) (s : State) : State :=
  let seen := s.crg.rmsSeen.set k true
  let v := vPhOf { s with crg.rmsSeen := seen }
  let g := gridRangeOf v s.msq.outOfRange
  let t := onlyIf (g && !s.crg.gridRange) (raiseEvent .gridRange)
    { s with crg.rmsSeen := seen, crg.vPh := v, crg.gridRange := g }
  if g = s.crg.gridRange then evaluate t else evaluateAndHand t

/-- MSQ hands the line period out-of-range condition (R72, R117): GRID_RANGE is not raised. -/
def takeOutOfRange (b : Bool) (s : State) : State :=
  let g := gridRangeOf s.crg.vPh b
  let t := { s with msq.outOfRange := b, crg.gridRange := g }
  if g = s.crg.gridRange then t else evaluateAndHand t

/-! ## The setpoint's rise (R81) -/

/-- The 10 ms ramp event (R81). -/
def rampEvent (s : State) : State :=
  let t := evaluate s
  if t.ptu.enable ∧ t.crg.setpoint < t.crg.iTarget then
    { t with crg.setpoint := min (t.crg.setpoint + t.cfg.rUp) t.crg.iTarget }
  else t

@[inherit_doc rampEvent]
def execRampEvent (s : State) : Host.Outcome State Fault Refusal := whenRunning rampEvent s

/-! ## The control loops (R83 to R85) -/

/-- The integrator's bound. -/
def integratorBound : Int := 8388608

/-- The unlimited output u (R83, step 2). -/
def piRaw (kp : Nat) (e i : Int) : Int := (kp * e + i) / 256

/-- The integrator after a computation (R83, step 3). -/
def piIntegrator (kp ki : Nat) (e i : Int) : Int :=
  let u := piRaw kp e i
  if (3891 < u ∧ 0 < e) ∨ (u < 0 ∧ e < 0) then i
  else clampInt (i + ki * e) (-integratorBound) integratorBound

/-- The output (R83, step 4). -/
def piOutput (kp : Nat) (e i : Int) : Nat := (clampInt (piRaw kp e i) 0 3891).toNat

/-- The first quarter of the sine table, entries 0 to 64 (R85). -/
def sineQuarter : List Nat :=
  [0, 50, 100, 151, 201, 251, 300, 350, 399, 449, 497, 546, 594]
   ++ [642, 690, 737, 783, 830, 875, 920, 965, 1009, 1052, 1095, 1137, 1179]
   ++ [1219, 1259, 1299, 1337, 1375, 1411, 1447, 1483, 1517, 1550, 1582, 1614, 1644]
   ++ [1674, 1702, 1729, 1756, 1781, 1805, 1828, 1850, 1871, 1891, 1910, 1927, 1944]
   ++ [1959, 1973, 1986, 1997, 2008, 2017, 2025, 2032, 2037, 2041, 2045, 2046, 2047]

/-- Entry `i` of the sine table, the nearest integer to 2047 × sin(2π i / 256) (R85). -/
def sine (i : Nat) : Int :=
  let j := i % 256
  if j ≤ 64 then (sineQuarter.getD j 0 : Nat)
  else if j ≤ 128 then (sineQuarter.getD (128 - j) 0 : Nat)
  else if j ≤ 192 then -(sineQuarter.getD (j - 128) 0 : Nat)
  else -(sineQuarter.getD (256 - j) 0 : Nat)

/-- C_k (R85). -/
def compareValue (aFe theta k : Nat) : Nat :=
  (clampInt (2048 + (aFe * sine ((theta + 85 * k) % 256)) / 2048) 0 4095).toNat

/-- The link loop's error (R83, R84). -/
def linkError (s : State) : Int := (s.cfg.vLinkTarget : Int) - vLink s
/-- The battery loop's error (R83, R84). -/
def batError (s : State) : Int := (s.crg.setpoint : Int) - (iBat s / 10 : Nat)

/-- Both loops, and the write of their values (R82 to R85). -/
def runLoops (s : State) : State :=
  let a := piOutput s.cfg.kpLink (linkError s) s.crg.linkI
  let d := piOutput s.cfg.kpBat (batError s) s.crg.batI
  { s with
    crg.aFe := a
    crg.dcDuty := d
    crg.linkI := piIntegrator s.cfg.kpLink s.cfg.kiLink (linkError s) s.crg.linkI
    crg.batI := piIntegrator s.cfg.kpBat s.cfg.kiBat (batError s) s.crg.batI
    ptu.buffer :=
      ⟨compareValue a s.msq.theta 0, compareValue a s.msq.theta 1, compareValue a s.msq.theta 2, d⟩ }

/-- The loop computation event is due: the trough counter has reached N (R105). -/
def loopDue (s : State) : Bool := s.ptu.divider ≤ s.ptu.troughCount

/-- The loop computation event, where it is due (R82, R105, log 2). -/
def loopEvent (s : State) : State :=
  if loopDue s then
    onlyIf s.ptu.enable runLoops { s with ptu.troughCount := 0 }
  else s

@[inherit_doc loopEvent]
def execLoopComputationEvent (s : State) : Host.Outcome State Fault Refusal :=
  whenRunning loopEvent s

/-! ## The host's requests (R70, R71) -/

/-- SET_CHARGE (R70). -/
def setCharge (iReq vMax : Word16) (s : State) : State :=
  if 1000 < iReq.toNat ∨ 10000 < vMax.toNat then answerEmpty .badValue s
  else answerEmpty .accepted
    (evaluateAndHand { s with crg.iReq := iReq.toNat, crg.vMax := vMax.toNat })

@[inherit_doc setCharge]
def execSetCharge (iReq vMax : Word16) (s : State) : Host.Outcome State Fault Refusal :=
  whenRunning (setCharge iReq vMax) s

/-- SET_BATTERY_LIMIT (R71). -/
def setBatteryLimit (iBms : Word16) (s : State) : State :=
  if 1000 < iBms.toNat then answerEmpty .badValue s
  else answerEmpty .accepted
    (evaluateAndHand
      { s with crg.iBms := iBms.toNat, crg.stale := false, crg.freshTimer := true })

@[inherit_doc setBatteryLimit]
def execSetBatteryLimit (iBms : Word16) (s : State) : Host.Outcome State Fault Refusal :=
  whenRunning (setBatteryLimit iBms) s

/-- The freshness timer expires (R71). -/
def freshnessExpiry (s : State) : State :=
  if s.crg.freshTimer then
    evaluateAndHand
      (raiseEvent .limitStale { s with crg.freshTimer := false, crg.stale := true })
  else s

@[inherit_doc freshnessExpiry]
def execFreshnessTimerExpiry (s : State) : Host.Outcome State Fault Refusal :=
  whenRunning freshnessExpiry s

/-! ## The draw (R86) -/

/-- The draw for a beacon (R86). -/
def draw (s : State) : Nat :=
  if s.crg.gridRange ∨ s.crg.vPh = 0 then 0 else s.crg.pMeter * 100 / (3 * s.crg.vPh)

end Sys2Proof.Machine
end

