-- ==== Sys2Proof/Machine/Heater.lean ====
section
/-! DEFINITION. The Heater Controller (chapter 7). -/

namespace Sys2Proof.Machine

/-! ## State, relay and request (R123 to R126) -/

/-- The temperature state of a battery temperature, from the state held (R124). -/
def temperatureState (old : HeaterState) (t tOn tOff : Int) : HeaterState :=
  match old with
  | .heating => if tOff ≤ t then .coasting else .heating
  | _ => if t < tOn then .heating else .coasting

/-- The state HTR selects, with the isolate request taken as `isolate` (R123). -/
def heaterChoice (isolate : Bool) (s : State) : HeaterState :=
  if isolate then .isolated
  else if s.htr.overcurrent ∨ s.htr.openLatch then .heaterFault
  else if s.htr.permission = .off ∨ ¬ s.cpt.configured then .off
  else match s.htr.tBat with
    | none => .sensorFault
    | some t => temperatureState s.htr.state t s.htr.tOn s.htr.tOff

/-- The temperature states (R123). -/
def HeaterState.relayClosed : HeaterState → Bool
  | .heating => true
  | .coasting => true
  | _ => false

/-- The heater is available (R134). -/
def heaterAvailable (s : State) : Bool := (heaterChoice false s).relayClosed

/-- P_heat_req of a state and a battery temperature (R126). -/
def heatRequest (h : Htr) : Nat :=
  match h.state, h.tBat with
  | .heating, some t =>
    if t ≤ h.tOn then h.pHmax
    else if t < h.tOff then h.pHmax * (h.tOff - t).toNat / (h.tOff - h.tOn).toNat
    else 0
  | _, _ => 0

/-- The relay follows the state (R125): it opens with the duty at 0, which stops a settle timer that runs
(log 54), and closes with its settle timer. -/
def followRelay (s : State) : State :=
  match s.htr.relay, s.htr.state.relayClosed with
  | true, false => writeHeaterDuty 0 { s with htr.relay := false, htr.settleTimer := false }
  | false, true => writeHeaterDuty 0 { s with htr.relay := true, htr.settleTimer := true }
  | _, _ => s

/-- P_heat_req is formed anew (R126), and the budget from it (R127). -/
def formRequest (s : State) : State :=
  formBudget { s with htr.pHeatReq := heatRequest s.htr }

/-- P_heat_req is handed to the Charge Regulator, which evaluates the chain (R73, R126). -/
def handHeatRequest (s : State) : State :=
  evaluateAndHand { s with crg.pHeatReq := s.htr.pHeatReq }

/-- HTR selects its state anew (R123); a change of state is handed on (R126). -/
def selectHeater (s : State) : State :=
  let h := heaterChoice s.htr.isolateReq s
  let t := formRequest (followRelay { s with htr.state := h })
  if h = s.htr.state then t else handHeatRequest t

/-- The isolate request is set or withdrawn (R134). -/
def setIsolate (b : Bool) (s : State) : State :=
  if b = s.htr.isolateReq then s else selectHeater { s with htr.isolateReq := b }

/-! ## Battery temperature (R122) -/

/-- T_bat of the two sensors (R122). -/
def batteryTemperature (s : State) : Option Int :=
  match s.msq.tbat1Valid, s.msq.tbat2Valid with
  | true, true => some (min (slotValue 10 s) (slotValue 11 s))
  | true, false => some (slotValue 10 s)
  | false, true => some (slotValue 11 s)
  | false, false => none

/-- The slow scan's temperatures are taken and handed on (R122, R123, R126). -/
def takeTemperature (s : State) : State :=
  let t := selectHeater { s with htr.tBat := batteryTemperature s }
  handHeatRequest { t with crg.tBat := t.htr.tBat }

/-! ## Faults (R131 to R133) -/

/-- The overcurrent indication (R131). -/
def heaterOvercurrent (s : State) : State :=
  onlyIf (!s.htr.overcurrent) (raiseEvent .heater)
    (selectHeater { s with htr.overcurrent := true })

/-- The open timer has reached 1 s (R132). -/
def heaterOpenDue (s : State) : Bool := 1000 ≤ s.htr.openMs && !s.htr.openLatch

/-- HTR is told that the trip latch is set (R130): the duty is 0, and so is the open timer, but for one
that has reached 1 s before the trip and is still to be taken (log 2). -/
def heaterTripped (s : State) : State :=
  writeHeaterDuty 0 { s with htr.openMs := if heaterOpenDue s then s.htr.openMs else 0 }

/-- The OPEN latch is set, where it is due (R132, R133, log 2). -/
def heaterOpenDetect (s : State) : State :=
  if heaterOpenDue s then
    raiseEvent .heater (selectHeater { s with htr.openLatch := true })
  else s

@[inherit_doc heaterOpenDetect]
def execHeaterOpenDetect (s : State) : Host.Outcome State Fault Refusal :=
  whenRunning heaterOpenDetect s

/-! ## The heater event (R128, R129, R132) -/

/-- The mean heater current (R128). -/
def meanHeat (h : Htr) : Nat := if h.accCount = 0 then 0 else h.accSum / h.accCount

/-- P_meas (R128). -/
def pMeas (s : State) : Nat := vBat s * meanHeat s.htr / 1000

/-- The adjusted duty (R129). -/
def adjustedDuty (s : State) : Nat :=
  if tripped s ∨ ¬ s.htr.relay ∨ s.htr.settleTimer then 0
  else if s.htr.budget = 0 then 0
  else if pMeas s < s.htr.budget - s.htr.budget / 50 then min 4095 (s.htr.duty + 16)
  else if s.htr.budget < pMeas s then s.htr.duty - 64
  else min 4095 s.htr.duty

/-- The open timer's advance (R130, R132); the duty is the one found (log 25). -/
def openAdvance (s : State) : Nat :=
  if ¬ tripped s ∧ 2048 ≤ s.htr.duty ∧ 0 < s.htr.budget ∧ 20 * pMeas s < s.htr.budget then
    s.htr.openMs + 10
  else 0

/-- The work of one heater event (R128, R129, R132). -/
def regulateHeater (s : State) : State :=
  writeHeaterDuty (adjustedDuty s)
    { s with htr.accSum := 0, htr.accCount := 0, htr.openMs := openAdvance s }

/-- The heater event; an open heater due from the event before is taken first (log 2). -/
def heaterEvent (s : State) : State := regulateHeater (heaterOpenDetect s)

@[inherit_doc heaterEvent]
def execHeaterEvent (s : State) : Host.Outcome State Fault Refusal := whenRunning heaterEvent s

/-- The relay settle timer expires (R125). -/
def relaySettleExpiry (s : State) : State := { s with htr.settleTimer := false }

@[inherit_doc relaySettleExpiry]
def execRelaySettleExpiry (s : State) : Host.Outcome State Fault Refusal :=
  whenRunning relaySettleExpiry s

/-! ## SET_HEATING (R121) -/

/-- The permission of its code (R121). -/
def permissionOf (b : Byte) : Option Permission :=
  match b.toNat with
  | 0 => some .off
  | 1 => some .gridOnly
  | 2 => some .gridOrBattery
  | _ => none

/-- A window bound lies in −400 to 1200 (R121). -/
def windowBound (w : Word16) : Bool := decide (-400 ≤ w.toInt) && decide (w.toInt ≤ 1200)

/-- The settings of an accepted SET_HEATING take effect (R121). -/
def applyHeating (tOn tOff : Int) (pHmax : Nat) (p : Permission) (pBattMax : Nat) (clear : Bool)
    (s : State) : State :=
  selectHeater
    { s with
      htr.tOn := tOn
      htr.tOff := tOff
      htr.pHmax := pHmax
      htr.permission := p
      htr.pBattMax := pBattMax
      htr.overcurrent := s.htr.overcurrent && !clear
      htr.openLatch := s.htr.openLatch && !clear
      htr.openMs := if clear then 0 else s.htr.openMs }

/-- The answer of an accepted SET_HEATING (R121). -/
def answerHeating (s : State) : State :=
  answer .accepted (.heating s.htr.state s.htr.overcurrent s.htr.openLatch) s

/-- SET_HEATING (R121). -/
def setHeating (tOn tOff pHmax : Word16) (permission : Byte) (pBattMax : Word16) (clear : Byte)
    (s : State) : State :=
  if ¬ s.cpt.configured then answerEmpty .notConfigured s
  else match permissionOf permission with
    | none => answerEmpty .badValue s
    | some p =>
      if windowBound tOn ∧ windowBound tOff ∧ pHmax.toNat ≤ 12000 ∧ pBattMax.toNat ≤ 12000
          ∧ clear.toNat ≤ 1 then
        if tOn.toInt < tOff.toInt then
          answerHeating
            (applyHeating tOn.toInt tOff.toInt pHmax.toNat p pBattMax.toNat (clear == 1) s)
        else answerEmpty .badWindow s
      else answerEmpty .badValue s

@[inherit_doc setHeating]
def execSetHeating (tOn tOff pHmax : Word16) (permission : Byte) (pBattMax : Word16) (clear : Byte)
    (s : State) : Host.Outcome State Fault Refusal :=
  whenRunning (setHeating tOn tOff pHmax permission pBattMax clear) s

end Sys2Proof.Machine
end

