-- ==== Sys2Proof/Machine/LineCodec.lean ====
section
/-! DEFINITION. A feeder line frame as bits (R26 to R29, R33, 12.6): fields, check, stuffing, and what a
receiver makes of the bits it reads. A bit is `true` for recessive (1) and `false` for dominant (0). -/

namespace Sys2Proof.Machine

/-! ## Kinds, classes and payloads (R28, R29) -/

/-- The kind codes of R28. -/
def FrameBody.code : FrameBody → Nat
  | .alert .. => 1
  | .sweepStep .. => 2
  | .sweepAnswer .. => 3
  | .sweepResult .. => 4
  | .measureStart .. => 5
  | .measureResult .. => 6
  | .beacon .. => 7
  | .leave => 8

/-- The class of a kind code (R28). -/
def classOfCode (code : Nat) : Nat :=
  if code ≤ 4 then 0 else if code ≤ 6 then 1 else if code = 7 then 2 else 3

/-- A frame's class. -/
def FrameBody.cls (b : FrameBody) : Nat := classOfCode b.code

/-- The high and low byte of a two-byte field. -/
def hiByte (w : Word16) : Byte := w.extractLsb' 8 8
/-- The low byte. -/
def loByte (w : Word16) : Byte := w.extractLsb' 0 8

/-- The payload after the feeder id (R28, R29). -/
def FrameBody.fields : FrameBody → List Byte
  | .alert r => [hiByte r, loByte r]
  | .sweepStep n i => [n, i]
  | .sweepAnswer n c => [n, c]
  | .sweepResult o n u => [o, n, u]
  | .measureStart p i => [p, i]
  | .measureResult r f => [hiByte r, loByte r, f]
  | .beacon d w f r l => [hiByte d, loByte d, hiByte w, loByte w, f, hiByte r, loByte r, l]
  | .leave => []

/-- A frame's payload, the feeder id first (R27). -/
def Frame.payload (f : Frame) : List Byte := f.feeder :: f.body.fields

/-- Every field lies in the range R28 or R29 gives for it (R33). A SWEEP_ANSWER's target is held to its range
alone, and not to its sender's number (DESIGN CHOICE, log 74). -/
def Frame.inRange (f : Frame) : Bool :=
  1 ≤ f.feeder.toNat &&
  match f.body with
  | .alert _ => true
  | .sweepStep n i => 1 ≤ n.toNat && n.toNat ≤ 62 && i.toNat ≤ 32
  | .sweepAnswer n c => 1 ≤ n.toNat && n.toNat ≤ 62 && 1 ≤ c.toNat && c.toNat ≤ 3
  | .sweepResult o n u => 1 ≤ o.toNat && o.toNat ≤ 3 && n.toNat ≤ 62 && u.toNat ≤ 33
  | .measureStart p _ => p.toNat ≤ 1
  | .measureResult _ f => f.toNat ≤ 1
  | .beacon d w _ _ l => d.toNat ≤ 630 && w.toNat ≤ 630 && l.toNat ≤ 62
  | .leave => true

/-! ## Bits and the check (R27) -/

/-- The `n` low bits of a number, most significant first. -/
def bitsOf (n w : Nat) : List Bool := (List.range n).reverse.map fun i => w.testBit i

/-- The number of a string of bits, most significant first. -/
def natOfBits (bs : List Bool) : Nat := bs.foldl (fun n b => 2 * n + b.toNat) 0

/-- One bit into the check register, generator x^16 + x^12 + x^5 + 1 (R27, log 48). -/
def crc16Bit (r : BitVec 16) (b : Bool) : BitVec 16 :=
  if r.msb != b then (r <<< 1) ^^^ 0x1021#16 else r <<< 1

/-- The check of a string of bits: the register starts with all sixteen bits set (R27). -/
def crc16 (bs : List Bool) : BitVec 16 := bs.foldl crc16Bit 0xFFFF#16

/-- The bits from the first arbitration bit through the last payload bit (R27). -/
def Frame.checkedBits (f : Frame) : List Bool :=
  bitsOf 2 f.body.cls ++ bitsOf 6 f.station.toNat ++ bitsOf 4 f.body.code
    ++ bitsOf 4 f.payload.length ++ f.payload.flatMap fun b => bitsOf 8 b.toNat

/-- The stuffed part before stuffing: start bit, checked bits, check (R26, R27). -/
def Frame.plainBits (f : Frame) : List Bool :=
  false :: f.checkedBits ++ bitsOf 16 (crc16 f.checkedBits).toNat

/-! ## Stuffing (R26) -/

/-- The bits with the inserted ones, after `run` bits at the level `last`. -/
def stuffAfter : (last : Bool) → (run : Nat) → List Bool → List Bool
  | _, _, [] => []
  | last, run, b :: bs =>
    let run' := if b = last then run + 1 else 1
    if run' = 5 then b :: (!b) :: stuffAfter (!b) 1 bs else b :: stuffAfter b run' bs

/-- One bit of the opposite level after every five equal ones (R26). -/
def stuff (bs : List Bool) : List Bool := stuffAfter true 0 bs

/-- What the sender drives: the stuffed part, the acknowledge slot left recessive, the end (R27). -/
def Frame.bits (f : Frame) : List Bool := stuff f.plainBits ++ true :: List.replicate 7 true

/-- `need` bits of the stuffed part with the inserted ones removed, and the bits after it; none at a
stuff error or where the bits run out (R26, R33). `run` bits at the level `last` have been read. -/
def unstuff : (need : Nat) → (last : Bool) → (run : Nat) → List Bool → Option (List Bool × List Bool)
  | 0, _, run, [] => if run = 5 then none else some ([], [])
  | _ + 1, _, _, [] => none
  | need, last, run, b :: bs =>
    if run = 5 then
      if b = last then none else unstuff need b 1 bs
    else match need with
      | 0 => some ([], b :: bs)
      | n + 1 =>
        (unstuff n b (if b = last then run + 1 else 1) bs).map fun x => (b :: x.1, x.2)

/-! ## Receiving (R33) -/

/-- A frame as read: class, station, kind code and payload. -/
structure RawFrame where
  cls     : Nat
  station : BitVec 6
  code    : Nat
  payload : List Byte
  deriving DecidableEq, Repr

/-- The bytes of a string of `8 n` bits. -/
def bytesOfBits : (n : Nat) → List Bool → List Byte
  | 0, _ => []
  | n + 1, bs => BitVec.ofNat 8 (natOfBits (bs.take 8)) :: bytesOfBits n (bs.drop 8)

/-- The payload length of a frame's bits, where its length field is 0 to 12 (R33). -/
def lengthField (bits : List Bool) : Option Nat :=
  (unstuff 17 true 0 bits).bind fun x =>
    let n := natOfBits (x.1.drop 13)
    if n ≤ 12 then some n else none

/-- The frame whose check matches, from the start bit on, with the end field recessive to its last bit or
not; none at a stuff error, a length of 13 to 15, or a check that does not match (R33). -/
def receiveChecked (bits : List Bool) : Option (RawFrame × Bool) :=
  (lengthField bits).bind fun n =>
    (unstuff (33 + 8 * n) true 0 bits).bind fun x =>
      let body := (x.1.drop 1).take (16 + 8 * n)
      let check := natOfBits (x.1.drop (17 + 8 * n))
      if (crc16 body).toNat = check then
        some
          ({ cls := natOfBits (body.take 2)
             station := BitVec.ofNat 6 (natOfBits ((body.drop 2).take 6))
             code := natOfBits ((body.drop 8).take 4)
             payload := bytesOfBits n (body.drop 16) },
            (x.2.drop 1).take 7 == List.replicate 7 true)
      else none

/-- The good frame a receiver reads from the line: its check matches and its end field is recessive
(R33). -/
def receiveBits (bits : List Bool) : Option RawFrame :=
  (receiveChecked bits).bind fun x => if x.2 then some x.1 else none

/-- A kind's fields from the payload after the feeder id; none where the kind or the length is not one
of R28. -/
def bodyOfFields (code : Nat) (bs : List Byte) : Option FrameBody :=
  match code, bs with
  | 1, [a, b] => some (.alert (a ++ b))
  | 2, [a, b] => some (.sweepStep a b)
  | 3, [a, b] => some (.sweepAnswer a b)
  | 4, [a, b, c] => some (.sweepResult a b c)
  | 5, [a, b] => some (.measureStart a b)
  | 6, [a, b, c] => some (.measureResult (a ++ b) c)
  | 7, [a, b, c, d, e, f, g, h] => some (.beacon (a ++ b) (c ++ d) e (f ++ g) h)
  | 8, [] => some .leave
  | _, _ => none

/-- The well-formed frame of a good one (R33): kind, class, length and every field's range. -/
def RawFrame.frame? (r : RawFrame) : Option Frame :=
  match r.payload with
  | [] => none
  | id :: rest =>
    (bodyOfFields r.code rest).bind fun b =>
      let f : Frame := ⟨r.station, id, b⟩
      if r.cls = b.cls ∧ f.inRange then some f else none

end Sys2Proof.Machine
end

