-- ==== Sys2Proof/Machine/Line.lean ====
section
/-! DEFINITION. The feeder line's transmit queue and line state on their own (R36, R37, R39, R40): what
other blocks do at a change of line state is in LineState.lean. -/

namespace Sys2Proof.Machine

/-! ## The transmit queue (R39) -/

/-- Two frames of one kind. -/
def FrameBody.sameKind (a b : FrameBody) : Bool := a.code == b.code

/-- A frame at the end of its class. -/
def joinClass (q : Queued) : List Queued → List Queued
  | [] => [q]
  | x :: xs =>
    if q.frame.body.cls < x.frame.body.cls then q :: x :: xs else x :: joinClass q xs

/-- The lowest-priority class queued. -/
def lastClass (qs : List Queued) : Nat := (qs.getLast?.map fun q => q.frame.body.cls).getD 0

/-- A taken enqueue request (R39): same kind, room, full and outranking, full and not outranking. -/
def enqueueFrame (f : Frame) (qs : List Queued) : List Queued :=
  let q : Queued := ⟨f, false⟩
  if qs.any fun x => x.frame.body.sameKind f.body then
    qs.map fun x => if x.frame.body.sameKind f.body then q else x
  else if qs.length < 4 then joinClass q qs
  else if f.body.cls < lastClass qs then joinClass q qs.dropLast
  else qs

/-- The feeder id of the identification PSQ holds; 0 with none. -/
def heldFeeder (s : State) : Nat := (s.psq.ident.map (·.feederId)).getD 0

/-- The frame of a body, as it is fixed when it is queued (R27, R28). -/
def frameOf (b : FrameBody) (s : State) : Frame :=
  ⟨BitVec.ofNat 6 s.cfg.station, BitVec.ofNat 8 (heldFeeder s), b⟩

/-- A BEACON. -/
def FrameBody.isBeacon : FrameBody → Bool
  | .beacon .. => true
  | _ => false

/-- A LEAVE. -/
def FrameBody.isLeave : FrameBody → Bool
  | .leave => true
  | _ => false

/-- A MEASURE_START or a MEASURE_RESULT. -/
def FrameBody.isMeasure : FrameBody → Bool
  | .measureStart .. => true
  | .measureResult .. => true
  | _ => false

/-- An enqueue request, taken in ONLINE, a BEACON not while departed (R39, R41). -/
def enqueue (b : FrameBody) (s : State) : State :=
  if s.fli.line = .online ∧ ¬ (b.isBeacon ∧ s.fli.departed) then
    { s with fli.queue := enqueueFrame (frameOf b s) s.fli.queue }
  else s

/-- The measurer's frames leave the queue when it drops the role (R39, R147). -/
def removeMeasureFrames (s : State) : State :=
  { s with fli.queue := s.fli.queue.filter fun q => !q.frame.body.isMeasure }

/-! ## Attempts (R30 to R32, R40) -/

/-- The line allows this queued frame's sending: in ONLINE every frame, but no BEACON while departed, and in
LISTEN a LEAVE (R30, R41). -/
def mayBeSent (s : State) (q : Queued) : Bool :=
  match s.fli.line with
  | .online => !(q.frame.body.isBeacon && s.fli.departed)
  | .listen => q.frame.body.isLeave
  | _ => false

/-- No queued frame is the attempt's any more. -/
def unmark (qs : List Queued) : List Queued := qs.map fun q => { q with inAttempt := false }

/-- The first frame that may be sent becomes the attempt's, and no other. -/
def markFirst (p : Queued → Bool) : List Queued → List Queued
  | [] => []
  | q :: qs =>
    if p q then { q with inAttempt := true } :: unmark qs
    else { q with inAttempt := false } :: markFirst p qs

/-- An attempt starts with the head of the queue (R30, R40); a BEACON queued before the station departed is
passed over (R41, log 61). -/
def startAttempt (s : State) : State :=
  match s.fli.attempt, s.fli.queue.find? (mayBeSent s) with
  | none, some q =>
    { s with
      fli.attempt := some q.frame
      fli.queue := markFirst (mayBeSent s) s.fli.queue }
  | _, _ => s

/-- An attempt ends without completing; the queue is unchanged (R30, R40). -/
def dropAttempt (s : State) : State :=
  { s with fli.attempt := none, fli.queue := unmark s.fli.queue }

/-- The frame of the completed attempt leaves the queue, unless a newer one of its kind has replaced it
or it was discarded (R40). -/
def leaveQueue (s : State) : State :=
  { s with fli.attempt := none, fli.queue := s.fli.queue.filter fun q => !q.inAttempt }

/-- The newest outcome joins the history of three (R32). -/
def addOutcome (heard : Bool) (h : List Bool) : List Bool := (heard :: h).take 3

/-! ## Line states (R36, R37) -/

/-- The plug is out, or the sequencer has not settled it (R36, item 1). -/
def lineOff (s : State) : Bool :=
  s.psq.prox == .none || s.psq.seq == .unplugged || s.psq.seq == .plugSettle

/-- A condition that holds the line in LISTEN (R36, item 3). -/
def lineListens (s : State) : Bool :=
  !s.cpt.configured || heldFeeder s == 0 || s.fli.duplicate

/-- The line state of R36. -/
def lineTarget (s : State) : LineState :=
  if lineOff s then .offline
  else if s.fli.silentTimer then .silent
  else if lineListens s then .listen
  else .online

/-- What an entry to a line state does to FLI's other state (R37, R42). -/
def enterLine (target : LineState) (station : Nat) (f : Fli) : Fli :=
  match target with
  | .offline =>
    { f with
      line := .offline, silentTimer := false, queue := [], attempt := none, errorCount := 0,
      ackHistory := [], departed := false, beaconTimer := none }
  | .listen =>
    match f.line with
    | .online =>
      let running := (f.attempt.map fun x => x.body.isLeave).getD false
      { f with
        line := .listen
        attempt := if running then f.attempt else none
        queue := (if running then f.queue else unmark f.queue).filter fun q => q.frame.body.isLeave }
    | .offline => { f with line := .listen, beaconTimer := some 250 }
    | _ => { f with line := .listen }
  | .online =>
    { f with
      line := .online, ackHistory := [], departed := false, beaconTimer := some (250 + 3 * station) }
  | .silent => { f with line := .silent }

/-! ## Duplicate detection's own part (R35, R37) -/

/-- Entry to LISTEN by the duplicate flag empties the queue and ends the attempt (R37). -/
def emptyForDuplicate (s : State) : State :=
  { s with fli.queue := [], fli.attempt := none }

end Sys2Proof.Machine
end

