-- ==== Sys2Proof/Machine/Insulation.lean ====
section
/-! DEFINITION. The Insulation Monitor's cycle, modes and evaluations (chapter 8) and the leader's and
target's parts of a sweep (chapter 9), as far as they change no relay. The two things the sequencer does
for a sweep without moving the line or a session stand first: taking the report (R22) and the release
(R23). -/

namespace Sys2Proof.Machine

/-! ## The sequencer's state (R1) -/

/-- The states in which the contactor is being closed (R10, R23). -/
def SeqState.energizes : SeqState → Bool
  | .precharge => true
  | .sweepIsolated .isoRejoin => true
  | _ => false

/-- What PSQ holds of a state it leaves: the query with its code assembly (R6), the battery-low timer
(R13). -/
def leaveState (new : SeqState) (p : Psq) : Psq :=
  let q := match p.seq with
    | .identifying =>
      { p with query := false, identTimer := false, assembly := .waiting, prevCode := none }
    | _ => p
  { q with seq := new, batteryLow := q.batteryLow && new == .active }

/-- The sequencer changes state (R1); the chain is evaluated (R73). HTR sees the new state and the budget
of 0 the regulator hands it in one step, the state first (log 53). -/
def setSeq (new : SeqState) (s : State) : State :=
  if s.psq.seq = new then s
  else evaluateAndHand (raiseEvent .seqState { s with psq := leaveState new s.psq })

/-- The phase within SWEEP_ISOLATED changes (R1). -/
def setPhase (p : IsoPhase) (s : State) : State :=
  raiseEvent .seqState { s with psq.seq := .sweepIsolated p }

/-- The sequencer takes the sweep-target report (R22). -/
def enterIsolation (ret : ReturnState) (s : State) : State :=
  setSeq (.sweepIsolated .isoRamp)
    { s with
      psq.isoReturn := some ret
      psq.stopTimer := true
      psq.stopCause := none
      psq.forced := false }

/-- The state a sweep isolation would return to; none where PSQ does not take the report (R22). -/
def returnStateOf : SeqState → Option ReturnState
  | .active => some .active
  | .suspended => some .suspended
  | _ => none

/-- The release, taken in ISO_WAIT and nowhere else (R23): ISO_REJOIN's precharge starts. -/
def takeRelease (s : State) : State :=
  if s.psq.seq = .sweepIsolated .isoWait then
    setPhase .isoRejoin { s with psq.prechargeCmd := true, psq.prechargeTimer := true }
  else s

/-! ## The injection cycle (R137, R139) -/

/-- A cycle starts: the relay closes, and the positive half waits for the next sample (R139, log 19). -/
def startCycle (s : State) : State :=
  { s with imn.cycle := some .fresh, imn.coupling := true }

/-- No injection: no cycle, driver at 0 V, relay open (R137). -/
def stopInjection (s : State) : State :=
  { s with imn.cycle := none, imn.coupling := false, imn.driver := .zero }

/-! ## Evaluations (R143) -/

/-- One result into an evaluation (R143, steps 1 to 6). -/
def judge (cfg : Settings) (r : Nat) (e : Evaluation) : Evaluation :=
  let low := if r < cfg.rAlarm then min 2 (e.lowRun + 1) else 0
  let high := if rOk cfg < r then min 2 (e.highRun + 1) else 0
  let st := e.state.getD .ok
  { state := some
      (if low = 2 then .alarm
       else if st = .ok then (if r < cfg.rWarn then .warn else .ok)
       else if high = 2 then .ok else st)
    lowRun := low
    highRun := high }

/-- OK with no runs, as a passed self-check or clearing leaves it (R149, R150). -/
def Evaluation.good : Evaluation := ⟨some .ok, 0, 0⟩

/-- A change of either state raises INSULATION; to WARN or ALARM it marks an open session (R143). -/
def noteChange (old new : Evaluation) (s : State) : State :=
  let o := old.state.getD .ok
  let n := new.state.getD .ok
  if o = n then s
  else raiseEvent .insulation
    (onlyIf (n != .ok) (markSession fun f => { f with insulation := true }) s)

/-- A result into the own state (R145). -/
def judgeOwn (r : Nat) (s : State) : State :=
  let e := judge s.cfg r s.imn.own
  noteChange s.imn.own e { s with imn.own := e }

/-- The network state becomes OK (R167). -/
def becomesOk (old new : Evaluation) : Bool := new.state == some .ok && old.state != some .ok

/-- A result into the network state (R143, R144); its becoming OK clears the hold (R167). -/
def judgeNet (r : Nat) (s : State) : State :=
  let e := judge s.cfg r s.imn.net
  noteChange s.imn.net e
    { s with imn.net := e, imn.hold := s.imn.hold && !becomesOk s.imn.net e }

/-! ## The NETWORK_UNMONITORED condition (R144) -/

/-- The condition ends, and its timer stops. -/
def endUnmonitored (s : State) : State :=
  onlyIf s.imn.unmonitored (raiseEvent .insulation)
    { s with imn.unmonitored := false, imn.unmonTimer := false }

/-! ## Self-check and clearing at a change of mode (R149, R150) -/

/-- A pending self-check starts in LOCAL, or ends at once as failed (R149, log 21). -/
def startSelfCheck (s : State) : State :=
  if s.imn.selfCheck = .pending then
    if s.imn.heaterIsolated ∨ ¬ heaterAvailable s then { s with imn.selfCheck := .idle }
    else startCycle (setIsolate true { s with imn.selfCheck := .running 0 })
  else s

/-- A running self-check fails: the heater is connected again (R149). -/
def failSelfCheck (s : State) : State :=
  raiseEvent .insulation (setIsolate false { s with imn.selfCheck := .idle })

/-- A running clearing fails: a heater isolated before stays so (R150). -/
def failClearing (s : State) : State :=
  raiseEvent .insulation
    (onlyIf s.imn.heaterIsolated (setIsolate true)
      { s with imn.clearing := false, imn.lastClearing := some false })

/-- A self-check is running. -/
def SelfCheck.isRunning : SelfCheck → Bool
  | .running _ => true
  | _ => false

/-- What runs in LOCAL fails at a change of mode out of it (R149, R150). -/
def endLocalChecks (s : State) : State :=
  onlyIf s.imn.clearing failClearing (onlyIf s.imn.selfCheck.isRunning failSelfCheck s)

/-! ## The end of a sweep (R162, R163, R166) -/

/-- The target record, the pending-release flag and the report to SHU are cleared (R160, R162). -/
def clearTarget (s : State) : State :=
  endTargetReport { s with imn.target := none, imn.pendingRelease := false }

/-- The sweep role becomes NONE with its outcome; FOUND and NOT_FOUND start the hold (R163, R167). -/
def endSweep (o : SweepOutcome) (hold : Bool) (s : State) : State :=
  raiseEvent .sweep
    { s with imn.sweep := .none, imn.outcome := o, imn.hold := s.imn.hold || hold }

/-- The outcome codes of SWEEP_RESULT (R28). -/
def outcomeCode : SweepOutcome → Byte
  | .found _ => 1
  | .notFound => 2
  | .abandoned => 3
  | .none => 0

/-- The station SWEEP_RESULT names, 0 for none (R28). -/
def outcomeStation : SweepOutcome → Byte
  | .found n => BitVec.ofNat 8 n
  | _ => 0

/-- The leader's SWEEP_RESULT is queued and its sweep ends (R156, R157, R162, R163). Before the own step too
it clears a pending release left from a follower's (DESIGN CHOICE, log 68). -/
def endLeading (r : LeaderRecord) (o : SweepOutcome) (hold : Bool) (s : State) : State :=
  clearTarget (endSweep o hold
    (enqueue (.sweepResult (outcomeCode o) (outcomeStation o) (BitVec.ofNat 8 r.unresponsive)) s))

/-- Entry of the line to OFFLINE ends the station's part in any sweep (R166). -/
def sweepOffline (s : State) : State :=
  clearTarget { s with imn.sweep := .none, imn.hold := false }

/-! ## The leader's steps (R154, R156, R162) -/

/-- The step's target; 0 past the list's end, which no step reaches. -/
def LeaderRecord.stepTarget (r : LeaderRecord) : Nat := r.list.getD r.index 0

/-- The leader's own step ends NOT_FOUND, and its sequencer gets the release (R162). -/
def ownNotFound (r : LeaderRecord) (s : State) : State :=
  takeRelease (endLeading r .notFound true s)

/-- The leader's own step starts (R162). -/
def startOwnStep (r : LeaderRecord) (s : State) : State :=
  let r' := { r with phase := .ownStep, answerTimer := false, cycleTimer := false, ownResults := 0 }
  let t := raiseEvent .sweep
    (enqueue (.sweepStep (BitVec.ofNat 8 s.cfg.station) (BitVec.ofNat 8 r.index))
      { s with imn.sweep := .leading r' })
  match returnStateOf s.psq.seq with
  | some ret =>
    reportTarget (enterIsolation ret { t with imn.target := some ⟨r.index, none⟩ })
  | none => ownNotFound { r' with unresponsive := r.unresponsive + 1 } t

/-- The step at the record's index starts (R156, R162). -/
def startStep (r : LeaderRecord) (s : State) : State :=
  if r.index + 1 = r.list.length then startOwnStep r s
  else
    let r' := { r with phase := .awaitingAnswer, answerTimer := true, cycleTimer := false }
    raiseEvent .sweep
      (enqueue (.sweepStep (BitVec.ofNat 8 r.stepTarget) (BitVec.ofNat 8 r.index))
        { s with imn.sweep := .leading r' })

/-- The leader goes on to the next index (R156). -/
def nextStep (r : LeaderRecord) (s : State) : State := startStep { r with index := r.index + 1 } s

/-- The sweep list: the eligible peers in ascending number, the own station last (R154). -/
def sweepList (s : State) : List Nat :=
  (s.shu.peers.filter (eligiblePeer s)).map (·.station) ++ [s.cfg.station]

/-- The latest JOINT result's R_f; 65535 with none (R154, R151). -/
def jointRf (s : State) : Nat := (s.imn.jointResult.map (·.rf)).getD 65535

/-- A sweep starts (R154, steps 1 to 4). -/
def startSweep (s : State) : State :=
  startStep ⟨sweepList s, 0, .awaitingAnswer, 0, false, false, 0⟩
    (raiseEvent .sweep (enqueue (.alert (BitVec.ofNat 16 (jointRf s)))
      { s with imn.outcome := .none, imn.disagreement := false }))

/-- The conditions of R154. -/
def sweepReady (s : State) : Bool :=
  s.imn.sweep == .none && s.imn.mode == .measurer && !s.imn.hold && s.imn.net.state == some .alarm

/-- R154's check. -/
def checkSweepStart (s : State) : State := onlyIf (sweepReady s) startSweep s

/-! ## Dropping the role (R147, R148, R164) -/

/-- A leader abandons its sweep (R164); in its own step too nothing is left of the target (R162,
log 22), and before it no pending release (log 68). -/
def abandonSweep (s : State) : State :=
  match s.imn.sweep with
  | .leading r => endLeading r .abandoned false s
  | _ => s

/-- The role is dropped to JOINT-passive (R147), and a sweep led is abandoned (R164), after the measurer's
frames have left the queue (log 64). -/
def yieldRole (s : State) : State :=
  if s.imn.mode = .measurer then
    abandonSweep (removeMeasureFrames (stopInjection
      { s with imn.mode := .passive, imn.clearCount := 0, imn.unmonTimer := true }))
  else s

/-- Interference (R148). -/
def interference (s : State) : State :=
  raiseEvent .insulation { yieldRole s with imn.backoff := 8 }

/-- The role is taken (R146, R154). -/
def takeRole (s : State) : State :=
  checkSweepStart (startCycle (endUnmonitored
    { s with imn.mode := .measurer, imn.clearCount := 0, imn.resultInRole := false }))

/-! ## Changes of mode (R138) -/

/-- The contactor report becomes closed (R138). -/
def contactorClosed (s : State) : State :=
  let t := { s with imn.contactorClosed := true }
  if s.imn.mode = .localMode then
    stopInjection
      { endLocalChecks t with imn.mode := .passive, imn.clearCount := 0, imn.unmonTimer := true }
  else t

/-- The network state at entry to LOCAL (R144). -/
def forgetNet (s : State) : State :=
  onlyIf (s.imn.net.state == some .warn || s.imn.net.state == some .alarm) (raiseEvent .insulation)
    { s with imn.net := .none }

/-- Entry to LOCAL (R138, R144, R149); the clear count starts at 0 here, too (log 63). -/
def enterLocal (s : State) : State :=
  startSelfCheck (startCycle (forgetNet (endUnmonitored
    { s with imn.mode := .localMode, imn.clearCount := 0 })))

/-- The loss of the role by the contactor report ends a sweep, but not the leader's own step (R162, R164). At a
live loss of plug it comes before the line's entry to OFFLINE, so the sweep ends ABANDONED with SWEEP (DESIGN
CHOICE, log 71). -/
def loseRole (s : State) : State :=
  match s.imn.sweep with
  | .leading r => if r.phase = .ownStep then s else abandonSweep s
  | _ => s

/-- The contactor report becomes open (R138, R147, R164). -/
def contactorOpened (s : State) : State :=
  let t := { s with imn.contactorClosed := false }
  match s.imn.mode with
  | .localMode => t
  | .passive => enterLocal t
  | .measurer => loseRole (enterLocal (removeMeasureFrames t))

/-! ## The target (R158 to R160) -/

/-- The target is released (R158). What becomes of a pending release set with a stop recorded is log 67's. -/
def releaseTarget (s : State) : State :=
  match s.imn.target with
  | none => s
  | some _ =>
    let t := endTargetReport { s with imn.target := none }
    match s.psq.seq with
    | .sweepIsolated .isoWait => takeRelease t
    | .sweepIsolated .isoRamp => { t with imn.pendingRelease := true }
    | .sweepIsolated .isoOpen => { t with imn.pendingRelease := true }
    | _ => t

/-- The sequencer reports that it has reached ISO_WAIT (R159, R162). -/
def isolationReached (s : State) : State :=
  if s.imn.pendingRelease then takeRelease { s with imn.pendingRelease := false }
  else match s.imn.sweep, s.imn.target with
    | .leading r, _ =>
      startCycle { s with imn.sweep := .leading { r with cycleTimer := true, ownResults := 0 } }
    | _, some t =>
      startCycle (enqueue (.sweepAnswer (BitVec.ofNat 8 s.cfg.station) 1)
        { s with imn.target := some { t with verdict := none } })
    | _, none => s

/-- The station has left the sweep as a target (R160); in the leader's own step its sweep ends
ABANDONED (R162), at the trip of a live loss of plug too (DESIGN CHOICE, log 71). -/
def leftSweep (s : State) : State :=
  match s.imn.sweep with
  | .leading r =>
    if r.phase = .ownStep then checkSweepStart (endLeading r .abandoned false s) else clearTarget s
  | _ => clearTarget s

/-- The sequencer leaves the state `q` in an orderly stop's, GO_IDLE's or FAULT's way (R160): a station on
its way to isolation, or in it, is no longer a target. -/
def leaveTarget (q : SeqState) (s : State) : State :=
  match q with
  | .active => clearTarget s
  | .suspended => clearTarget s
  | .sweepIsolated _ => leftSweep s
  | _ => s

end Sys2Proof.Machine
end

