-- ==== Sys2Proof/Machine/Flags.lean ====
section
/-! DEFINITION. The flags and codes that cross the part's ports as bits: the event set's three bytes, the
beacon's flags, the record's flags, status codes and end causes (R29, R65, R151, 12.6). -/

namespace Sys2Proof.Machine

/-- A byte of bits, the lowest first. -/
def byteOfBits (bs : List Bool) : Byte :=
  BitVec.ofNat 8 (bs.foldr (fun b n => 2 * n + b.toNat) 0)

/-! ## Events (12.6) -/

/-- Eight kinds as a byte of the READ_EVENTS payload. -/
def eventByte (kinds es : List EventKind) : Byte := byteOfBits (kinds.map fun k => es.contains k)

/-- The READ_EVENTS payload (12.6). -/
def eventBytes (es : List EventKind) : List Byte :=
  [eventByte (EventKind.all.take 8) es, eventByte ((EventKind.all.drop 8).take 8) es,
   eventByte (EventKind.all.drop 16) es]

/-- The attention line is driven low while the set holds a kind (R195). -/
def attentionLow (s : State) : Bool := !s.cpt.events.isEmpty

/-! ## The beacon (R29, R65, R151) -/

/-- The insulation state a beacon carries (R151). -/
def beaconState (s : State) : ImState :=
  if s.imn.sweep ≠ .none then .sweep
  else
    let e := if s.imn.mode = .localMode then s.imn.own else s.imn.net
    match e.state with
    | some .warn => .warn
    | some .alarm => .alarm
    | _ => .ok

/-- The codes of bits 3 to 4 of the flags (R29). -/
def ImState.code : ImState → Nat
  | .ok => 0
  | .warn => 1
  | .alarm => 2
  | .sweep => 3

/-- The state of a code (R29). -/
def imStateOf (n : Nat) : ImState :=
  match n with
  | 0 => .ok
  | 1 => .warn
  | 2 => .alarm
  | _ => .sweep

/-- The flags byte of the own beacon (R29, R65, R155). -/
def beaconFlags (s : State) : Byte :=
  let c := (beaconState s).code
  byteOfBits
    [s.shu.session, s.shu.joint, roleHeld s, c.testBit 0, c.testBit 1, s.imn.target.isSome]

/-- The sweep leader a beacon names (R155). -/
def beaconLeader (s : State) : Nat :=
  match s.imn.sweep with
  | .none => 0
  | .leading _ => s.cfg.station
  | .following l _ => l

/-- The network resistance a beacon carries (R65, R151). -/
def beaconResistance (s : State) : Nat :=
  if roleHeld s ∧ s.imn.resultInRole then jointRf s else 65535

/-- The demand a beacon carries (R65). -/
def beaconDemand (s : State) : Nat := if s.shu.session then dOwnInUse s else 0

/-- The own beacon (R29, R65). -/
def ownBeacon (s : State) : FrameBody :=
  .beacon (BitVec.ofNat 16 (beaconDemand s)) (BitVec.ofNat 16 (min 630 (draw s))) (beaconFlags s)
    (BitVec.ofNat 16 (beaconResistance s)) (BitVec.ofNat 8 (beaconLeader s))

/-! ## Status codes and records (12.6) -/

/-- The value of a status code (12.6). -/
def Status.code : Status → Byte
  | .accepted => 0
  | .frameError => 1
  | .unknown => 2
  | .notConfigured => 3
  | .locked => 4
  | .badConfig => 5
  | .badValue => 6
  | .badSlot => 7
  | .badWindow => 8
  | .wrongState => 9
  | .busy => 10
  | .tripLatched => 11
  | .tripPersists => 12
  | .insulationFault => 13
  | .insulationUnknown => 14
  | .backlog => 15
  | .contactorClosed => 16
  | .tooLate => 17
  | .inUseLater => 18
  | .noSession => 19
  | .suspended => 20
  | .alreadyChained => 21
  | .ending => 22
  | .splitDone => 23
  | .none => 24
  | .noReply => 25
  | .notCancelable => 26

/-- The value of an end cause (12.6). -/
def EndCause.code : EndCause → Byte
  | .hostStop => 1
  | .hostIdle => 2
  | .released => 3
  | .unplugged => 4
  | .trip => 5
  | .insulation => 6
  | .quotaEnd => 7
  | .chainBroken => 8
  | .lineLimit => 9
  | .split => 10
  | .batteryLow => 11
  | .contactorWeld => 12
  | .powerLost => 13

/-- The flags byte of a record (12.6). -/
def SessionFlags.byte (f : SessionFlags) : Byte :=
  byteOfBits
    [f.reverseFlow, f.fallbackUsed, f.identLenient, f.insulation, f.forcedStop, f.estimated]

end Sys2Proof.Machine
end

