-- ==== Sys2Proof/Machine/LineState.lean ====
section
/-! DEFINITION. A change of line state with what it does at SHU and IMN (R36, R37, R51, R147, R166), and
the change of the sequencer's state with what it does to the identification (R8, R44) and to the line. -/

namespace Sys2Proof.Machine

/-- Entry to OFFLINE empties the peer table (R51). -/
def emptyPeers (s : State) : State :=
  onlyIf (!s.shu.peers.isEmpty) (raiseEvent .peers)
    { s with shu.peers := [], shu.overflow := 0 }

/-- The line changes state (R37), and SHU and IMN are handed the change (R36, R51, R147, R166). -/
def changeLine (target : LineState) (s : State) : State :=
  let old := s.fli.line
  let t := { s with fli := enterLine target s.cfg.station s.fli }
  onlyIf (old == .online) yieldRole
    (onlyIf (target == .offline) (fun x => sweepOffline (emptyPeers x))
      (onlyIf (target == .online && old == .silent) (raiseEvent .lineResumed) t))

/-- The line state is decided anew (R36), and SHU's conditions with it (R61). -/
def refreshLine (s : State) : State :=
  updateFallback (if lineTarget s = s.fli.line then s else changeLine (lineTarget s) s)

/-- The identification is forgotten, by PSQ, SHU and FLI (R8, R34, R44). -/
def forgetIdent (s : State) : State :=
  { s with psq.ident := none, shu.identCopy := none, fli.foreignReported := false }

/-- SHU takes the identification at entry to IDENTIFIED (R44). -/
def copyIdent (s : State) : State :=
  { s with shu.identCopy := s.psq.ident.map fun i =>
      { feederId := i.feederId, capacity := i.capacity, rating := ratingOfClass i.ratingClass } }

/-- What an entry to a state does to the identification (R8, R44). -/
def identOnEntry (q : SeqState) (s : State) : State :=
  match q with
  | .plugged => forgetIdent s
  | .unplugged => forgetIdent s
  | .identified => copyIdent s
  | _ => s

/-- The sequencer enters a state. -/
def enterSeq (q : SeqState) (s : State) : State := refreshLine (setSeq q (identOnEntry q s))

end Sys2Proof.Machine
end

