-- ==== Sys2Proof/Machine/Store.lean ====
section
/-! DEFINITION. The Meter Store (chapter 11): the page and its writes, counters and checkpoints, the
placing of a record, the removal of a report, and the start-up read. -/

namespace Sys2Proof.Machine

/-! ## Records (R180, R185) -/

/-- The rounded price of an accumulator (R180). -/
def priceOf (accumulator : Nat) : Nat := (accumulator + 500000) / 1000000

/-- A record's line item from a context's (R180). -/
def recordItem (i : LineItem) : RecordItem where
  slot := i.slot
  charging := i.charging
  conditioning := i.conditioning
  price := priceOf i.accumulator
  overrun := i.overrun

/-- A line item's conditioning with its overrun's. -/
def RecordItem.allConditioning (i : RecordItem) : Nat :=
  i.conditioning + (i.overrun.map (·.2)).getD 0

/-- A line item's energy with its overrun's. -/
def RecordItem.allEnergy (i : RecordItem) : Nat :=
  i.charging + i.conditioning + (i.overrun.map fun o => o.1 + o.2).getD 0

/-- The record of a context or snapshot (R180, R183, R185). -/
def recordOf (b : SessionBase) (cause : EndCause) : SessionRecord :=
  let items := b.items.map recordItem
  { number := b.number, station := b.station, feederId := b.feederId, ratingClass := b.ratingClass,
    stamp := b.stamp, duration := b.elapsed, endCause := cause, flags := b.flags, items := items,
    totalEnergy := (items.map (·.allEnergy)).sum, totalCond := (items.map (·.allConditioning)).sum,
    totalPrice := (items.map (·.price)).sum }

/-! ## The page (R186, R187) -/

/-- The copy in force with its write count and contents (R186); copy A on a tie (log 7). -/
def Doubled.inForce {α : Type} (d : Doubled α) : Option (CopyName × EntryCopy α) :=
  match d.a, d.b with
  | .valid x, .valid y => if x.count < y.count then some (.b, y) else some (.a, x)
  | .valid x, .torn => some (.a, x)
  | .torn, .valid y => some (.b, y)
  | .torn, .torn => none

/-- The copy a write goes to and the count it carries (R187; past 2^32 − 1 the count wraps, log 9). -/
def Doubled.target {α : Type} (d : Doubled α) : CopyName × Word32 :=
  match d.inForce with
  | some (.a, x) => (.b, x.count + 1)
  | some (.b, y) => (.a, y.count + 1)
  | none => (.a, 1)

/-- Replace one copy. -/
def Doubled.put {α : Type} (d : Doubled α) (c : CopyName) (x : Stored (EntryCopy α)) : Doubled α :=
  match c with
  | .a => { d with a := x }
  | .b => { d with b := x }

/-- A place of the page. -/
def Page.place (g : Page) : Place → Stored (Option Placed)
  | .p1 => g.p1
  | .p2 => g.p2
  | .p3 => g.p3
  | .p4 => g.p4
  | .p5 => g.p5

/-- Replace a place of the page. -/
def Page.putPlace (g : Page) (p : Place) (x : Stored (Option Placed)) : Page :=
  match p with
  | .p1 => { g with p1 := x }
  | .p2 => { g with p2 := x }
  | .p3 => { g with p3 := x }
  | .p4 => { g with p4 := x }
  | .p5 => { g with p5 := x }

/-- The page once the write in flight has completed. -/
def Page.complete (g : Page) (f : Flight) : Page :=
  match f.write with
  | .counters c => { g with counters := g.counters.put f.copy (.valid ⟨f.count, c⟩) }
  | .checkpoint c => { g with checkpoint := g.checkpoint.put f.copy (.valid ⟨f.count, c⟩) }
  | .place p x _ => g.putPlace p (.valid x)

/-- The page when power is lost during the write in flight: its target is torn (R187). -/
def Page.tear (g : Page) (f : Flight) : Page :=
  match f.write with
  | .counters _ => { g with counters := g.counters.put f.copy .torn }
  | .checkpoint _ => { g with checkpoint := g.checkpoint.put f.copy .torn }
  | .place p _ _ => g.putPlace p .torn

/-! ## The write queue (R187) -/

/-- Two writes with one target. -/
def PageWrite.sameTarget : PageWrite → PageWrite → Bool
  | .counters _, .counters _ => true
  | .checkpoint _, .checkpoint _ => true
  | .place p _ _, .place q _ _ => p == q
  | _, _ => false

/-- The queue with `w` in it: in its target's place, or at the end (R187). It keeps that place also where R188
or R189 would have a checkpoint later (DESIGN CHOICE, log 57), or R189 or R190 a place (DESIGN CHOICE,
log 69). -/
def putWrite (w : PageWrite) (ws : List PageWrite) : List PageWrite :=
  if ws.any w.sameTarget then ws.map fun x => if w.sameTarget x then w else x else ws ++ [w]

/-- The flight of a write as it starts. -/
def flightOf (g : Page) (w : PageWrite) : Flight :=
  match w with
  | .counters _ => ⟨w, g.counters.target.1, g.counters.target.2⟩
  | .checkpoint _ => ⟨w, g.checkpoint.target.1, g.checkpoint.target.2⟩
  | .place _ _ _ => ⟨w, .a, 0⟩

/-- The next write starts where none is in flight. -/
def Mst.startNext (m : Mst) : Mst :=
  match m.inFlight, m.writes with
  | none, w :: ws => { m with inFlight := some (flightOf m.page w), writes := ws }
  | _, _ => m

/-- A write is queued, and starts at once where none is in flight. -/
def Mst.queueWrite (w : PageWrite) (m : Mst) : Mst :=
  { m with writes := putWrite w m.writes }.startNext

/-- A write is queued; STORE_BUSY is raised when the queue comes to hold seven (R195, log 27). -/
def queueWrite (w : PageWrite) (s : State) : State :=
  let m := s.mst.queueWrite w
  onlyIf (s.mst.writes.length < 7 && m.writes.length == 7) (raiseEvent .storeBusy)
    { s with mst := m }

/-- The counters write of R188 and R189. -/
def queueCounters (s : State) : State := queueWrite (.counters s.mst.working) s

/-- A place write without its clear. -/
def PageWrite.keepSnapshot : PageWrite → PageWrite
  | .place p x _ => .place p x false
  | w => w

/-- A checkpoint write of a later session or of a waiting record takes the place of the clear (R189). -/
def cancelClears (s : State) : State :=
  { s with
    mst.writes := s.mst.writes.map (·.keepSnapshot)
    mst.inFlight := s.mst.inFlight.map fun f => { f with write := f.write.keepSnapshot } }

/-- An OPEN or CLOSED checkpoint write. -/
def queueSnapshot (c : Checkpoint) (s : State) : State := queueWrite (.checkpoint c) (cancelClears s)

/-- The completion of the write in flight (R187, R189, R190). The EMPTY checkpoint joins the queue and the
next write starts in one step, so STORE_BUSY is not raised here (log 59). -/
def completeWrite (s : State) : State :=
  match s.mst.inFlight with
  | none => s
  | some f =>
    let s₁ := { s with mst.page := s.mst.page.complete f, mst.inFlight := none }
    match f.write with
    | .place _ _ true => queueWrite (.checkpoint .empty) s₁
    | _ => { s₁ with mst := s₁.mst.startNext }

/-! ## Counters and checkpoints (R188) -/

/-- A 48-bit counter holds at its largest value. -/
def addHeld (a b : Nat) : Nat := min (a + b) (2 ^ 48 - 1)

/-- The interval's energies into the counters; `cond` is absent with no session open (R171, R188). -/
def countInterval (e : Nat) (cond : Option Nat) (s : State) : State :=
  { s with
    mst.working.imported := addHeld s.mst.working.imported e
    mst.working.conditioning := addHeld s.mst.working.conditioning (cond.getD 0)
    mst.lifeEnergy := s.mst.lifeEnergy + e
    mst.sessionEnergy := if sessionOpen s then s.mst.sessionEnergy + e else s.mst.sessionEnergy }

/-- A checkpoint is taken (R188). -/
def takeCheckpoint (s : State) : State :=
  let s₁ := queueCounters s
  let s₂ := match s.mtr.session with
    | some ss => queueSnapshot (.opened ss.base) s₁
    | none => s₁
  { s₂ with mst.sessionEnergy := 0, mst.lifeEnergy := 0 }

/-- The checkpoint an interval event may bring (R188). -/
def checkpointIfDue (s : State) : State :=
  let due := if sessionOpen s then 100000 ≤ s.mst.sessionEnergy else 100000 ≤ s.mst.lifeEnergy
  onlyIf due takeCheckpoint s

/-- The session counter rises at an opening, and a counters write is queued (R188). -/
def raiseSessionCounter (s : State) : State :=
  queueCounters { s with mst.working.sessions := (s.mst.working.sessions + 1) % 65536 }

/-! ## Placing a record (R189) -/

/-- The lowest-numbered place among 1 to 4 that no queued record has. -/
def freePlace (q : List Report) : Place :=
  let used (p : Place) : Bool := q.any fun r => r.place == p
  if !used .p1 then .p1 else if !used .p2 then .p2 else if !used .p3 then .p3 else .p4

/-- A record at the end of the queue with the next placement number, in the working view. -/
def joinQueue (p : Place) (r : SessionRecord) (s : State) : State :=
  raiseEvent .reportReady
    { s with
      mst.queue := s.mst.queue ++ [⟨p, ⟨s.mst.nextPlacement, r⟩⟩]
      mst.nextPlacement := s.mst.nextPlacement + 1 }

/-- R189, the first case that applies. `snapshot` and `cause` are the final context's, for the record
that must wait; `stored` says that its CLOSED checkpoint is on the page already (log 40). A write of the place
that is pending keeps its place, ahead of the counters write (DESIGN CHOICE, log 69). -/
def placeRecord (snapshot : SessionBase) (cause : EndCause) (stored : Bool) (s : State) : State :=
  let r := recordOf snapshot cause
  if s.mst.queue.length < 4 then
    let p := freePlace s.mst.queue
    queueWrite (.place p (some ⟨s.mst.nextPlacement, r⟩) true)
      (queueCounters (joinQueue p r s))
  else if s.mst.stacked = none then
    queueWrite (.place .p5 (some ⟨0, r⟩) true)
      (queueCounters { s with mst.stacked := some r })
  else
    onlyIf (!stored) (queueSnapshot (.closed snapshot cause))
      (queueCounters { s with mst.waiting := some r })

/-! ## Removing a report (R190) -/

/-- A pending write of this place whose completion would queue the clear (log 26). -/
def pendingClear (p : Place) (ws : List PageWrite) : Bool :=
  ws.any fun
    | .place q _ true => q == p
    | _ => false

/-- The record that R190 moves from the stacked slot, with the next placement number. -/
def movedRecord (s : State) : Option Placed :=
  s.mst.stacked.map fun r => ⟨s.mst.nextPlacement, r⟩

/-- Steps 2 and 3 of a removal in the working view (R190). -/
def moveStacked (oldest : Place) (s : State) : State :=
  match s.mst.stacked with
  | none => s
  | some r => joinQueue oldest r { s with mst.stacked := s.mst.waiting, mst.waiting := none }

/-- REMOVE_REPORT on a queue whose oldest record is `oldest` (R190): the removed record's place is written
with the moved record or empty, then place 5 with the waiting record or empty. Where place 5 has a write
pending already, R187 keeps its earlier place, so place 5 can be overwritten before the moved record is on the
page (DESIGN CHOICE, log 69). A clear still due moves with its record (log 26). -/
def removeOldest (oldest : Report) (rest : List Report) (s : State) : State :=
  let clear := pendingClear oldest.place s.mst.writes || pendingClear .p5 s.mst.writes
  queueWrite (.place .p5 (s.mst.waiting.map fun w => ⟨0, w⟩) s.mst.waiting.isSome)
    (queueWrite (.place oldest.place (movedRecord s) clear)
      (moveStacked oldest.place { s with mst.queue := rest }))

/-! ## Power loss and start-up (R187, R192) -/

/-- The page as a power loss leaves it. -/
def pageAfterPowerLoss (m : Mst) : Page :=
  match m.inFlight with
  | some f => m.page.tear f
  | none => m.page

/-- The page as the reset line finds it: the write in flight completes first (R187, log 45). -/
def pageAfterResetLine (m : Mst) : Page :=
  match m.inFlight with
  | some f => m.page.complete f
  | none => m.page

/-- Some copy or place of the page is torn. -/
def Page.anyTorn (g : Page) : Bool :=
  g.counters.a == .torn || g.counters.b == .torn || g.checkpoint.a == .torn
    || g.checkpoint.b == .torn || g.p1 == .torn || g.p2 == .torn || g.p3 == .torn || g.p4 == .torn
    || g.p5 == .torn

/-- The record of a place, where it holds one. -/
def Stored.record : Stored (Option Placed) → Option Placed
  | .valid x => x
  | .torn => none

/-- A report into a queue in ascending placement number. -/
def insertReport (r : Report) : List Report → List Report
  | [] => [r]
  | x :: xs => if r.placed.placement < x.placed.placement then r :: x :: xs else x :: insertReport r xs

/-- The queue the places 1 to 4 form (R192, step 3). -/
def startupQueue (g : Page) : List Report :=
  let found (p : Place) : List Report := ((g.place p).record.map fun x => ⟨p, x⟩).toList
  (found .p1 ++ found .p2 ++ found .p3 ++ found .p4).foldl (fun q r => insertReport r q) []

/-- The same session: number and start stamp (R192). -/
def sameSession (number : Nat) (stamp : Word32) (r : SessionRecord) : Bool :=
  r.number == number && r.stamp == stamp

/-- The stacked record, unless its move into the queue was completed (R192, step 3). -/
def startupStacked (g : Page) (q : List Report) : Option SessionRecord :=
  match g.p5.record with
  | some x =>
    if q.any fun r => sameSession x.record.number x.record.stamp r.placed.record then none
    else some x.record
  | none => none

/-- One above the highest placement number found, or 1 (R192, step 3; log 9). -/
def startupPlacement (g : Page) : Word32 :=
  let found (p : Place) : Nat := ((g.place p).record.map fun x => x.placement.toNat).getD 0
  BitVec.ofNat 32
    (max (found .p1) (max (found .p2) (max (found .p3) (max (found .p4) (found .p5)))) + 1)

/-- The working state from the page, before the snapshot (R192, steps 1 to 3). -/
def startupView (g : Page) : Mst :=
  let q := startupQueue g
  { Mst.blank g with
    working := (g.counters.inForce.map (·.2.content)).getD ⟨0, 0, 0⟩
    queue := q
    stacked := startupStacked g q
    nextPlacement := startupPlacement g
    torn := g.anyTorn }

/-- A held record of this session. -/
def holdsSession (m : Mst) (b : SessionBase) : Bool :=
  (m.queue.any fun r => sameSession b.number b.stamp r.placed.record)
    || (m.stacked.map (sameSession b.number b.stamp)).getD false

/-- The leftover checkpoint becomes a record (R192, step 4). One that is discarded stays on the page as it stands,
with no write of it queued (DESIGN CHOICE, log 76). -/
def startupSnapshot (s : State) : State :=
  match (s.mst.page.checkpoint.inForce.map (·.2.content)).getD .empty with
  | .empty => s
  | .opened b =>
    if holdsSession s.mst b then s
    else placeRecord { b with flags := { b.flags with estimated := true } } .powerLost false s
  | .closed b cause => if holdsSession s.mst b then s else placeRecord b cause true s

/-- The start-up read (R192). -/
def startupRead (s : State) : State :=
  let s₁ := { s with mst := startupView s.mst.page }
  let s₂ := onlyIf s₁.mst.torn (raiseEvent .storeTorn) s₁
  let s₃ := startupSnapshot s₂
  onlyIf (!s₃.mst.queue.isEmpty) (raiseEvent .reportReady) s₃

/-- A store write completes (R187). -/
def execStoreWriteComplete (s : State) : Host.Outcome State Fault Refusal :=
  whenRunning completeWrite s

/-! ## The store's commands (R190, R191) -/

/-- READ_REPORT (R190). -/
def readReport (s : State) : State :=
  match s.mst.queue with
  | [] => answerEmpty .none s
  | r :: _ => answer .accepted (.report r.placed) s

@[inherit_doc readReport]
def execReadReport (s : State) : Host.Outcome State Fault Refusal := whenRunning readReport s

/-- REMOVE_REPORT (R190). -/
def removeReport (s : State) : State :=
  match s.mst.queue with
  | [] => answerEmpty .none s
  | r :: rest => answerEmpty .accepted (removeOldest r rest s)

@[inherit_doc removeReport]
def execRemoveReport (s : State) : Host.Outcome State Fault Refusal := whenRunning removeReport s

/-- READ_METER (R191). -/
def readMeter (s : State) : State :=
  answer .accepted
    (.meter
      { imported := s.mst.working.imported
        conditioning := s.mst.working.conditioning
        sessions := s.mst.working.sessions
        queued := s.mst.queue.length
        stacked := s.mst.stacked.isSome
        waiting := s.mst.waiting.isSome
        pendingWrites := s.mst.writes.length
        storeTorn := s.mst.torn }) s

@[inherit_doc readMeter]
def execReadMeter (s : State) : Host.Outcome State Fault Refusal := whenRunning readMeter s

end Sys2Proof.Machine
end

