-- ==== Sys2Proof/Machine/Meter.lean ====
section
/-! DEFINITION. The Tariff Meter (chapter 10), but for the rows that reach the Plug Sequencer: samples,
the interval's arithmetic, descriptors, the application of an interval, sessions. What the meter asks of
the sequencer at a chain end comes back as a `MeterRequest`. -/

namespace Sys2Proof.Machine

/-- What MTR asks of the Plug Sequencer at the end of a chain (R179). -/
inductive MeterRequest
  | suspend
  | stop (cause : EndCause)
  deriving DecidableEq, Repr

/-- Milliwatt-samples in one milliwatt-hour (R170). -/
def samplesPerMwh : Nat := 28800000

/-! ## Samples (R169) -/

/-- The power sample p, in mW (R169). -/
def powerSample (s : State) : Int :=
  slotValue 0 s * slotValue 1 s + slotValue 2 s * slotValue 3 s + slotValue 4 s * slotValue 5 s

/-- The heater sample h, in mW, where it is added (R169). -/
def heaterSample (s : State) : Nat :=
  if s.htr.source = .grid then vBat s * iHeat s else 0

/-- One meter sampling event (R169). -/
def takeSample (s : State) : State :=
  { s with
    mtr.powerSum := s.mtr.powerSum + powerSample s
    mtr.heaterSum := s.mtr.heaterSum + heaterSample s
    mtr.sampleCount := s.mtr.sampleCount + 1 }

/-- The metering interval event is due (R169). -/
def intervalDue (s : State) : Bool := 8000 ≤ s.mtr.sampleCount

/-! ## Descriptors (R172, R175, R176) -/

/-- The slot of an index operand, where it names one. -/
def slotOf (b : Byte) : Option (Fin 16) := if h : b.toNat < 16 then some ⟨b.toNat, h⟩ else none

/-- The copy of a slot as it stands, where it is valid. -/
def copySlot (i : Fin 16) (s : State) : Option DescCopy :=
  if s.mtr.table[i].valid then some ⟨i, s.mtr.table[i]⟩ else none

/-- The slot of an index operand that holds a valid descriptor (R9, R181, R182). -/
def validCopy (b : Byte) (s : State) : Option DescCopy := (slotOf b).bind fun i => copySlot i s

/-- The running descriptor is near its end (R176). -/
def Running.near (r : Running) : Bool :=
  (r.copy.desc.quota != 0 && r.quotaLeft ≤ max (r.copy.desc.quota * 100) 1000)
    || (r.copy.desc.duration != 0 && r.timeLeft ≤ 10)

/-- A copy as it becomes the running descriptor (R175, step 2). -/
def Running.start (c : DescCopy) : Running := ⟨c, c.desc.quota * 1000, c.desc.duration, false⟩

/-- A new line item (R175, step 3). -/
def LineItem.start (c : DescCopy) : LineItem := ⟨c.slot, c.desc.rateChg, c.desc.rateCond, 0, 0, 0, none⟩

/-- The near-end check of R176. -/
def nearEndCheck (s : State) : State :=
  match s.mtr.session with
  | some ⟨base, some r⟩ =>
    let near := r.nearEnd || r.near
    let prefetched :=
      if near && r.copy.desc.chain && s.mtr.prefetched.isNone then copySlot r.copy.desc.next s
      else s.mtr.prefetched
    onlyIf (near && !r.nearEnd && r.copy.desc.notice) (raiseEvent .lowQuota)
      { s with
        mtr.session := some ⟨base, some { r with nearEnd := near }⟩
        mtr.prefetched := prefetched }
  | _ => s

/-- The end of a chain (R179): nothing runs and nothing is prefetched. -/
def endChain (s : State) : State :=
  { s with
    mtr.session := s.mtr.session.map fun ss => { ss with running := none }
    mtr.prefetched := none }

/-- What a chain end asks, by its cause and the ended copy's END_SUSPEND (R179). -/
def chainEndRequest (cause : EndCause) (endSuspend : Bool) : MeterRequest :=
  if cause ≠ .lineLimit ∧ endSuspend then .suspend else .stop cause

/-- The event of a chain end that asks to suspend (R179). -/
def chainEndEvent (r : MeterRequest) (s : State) : State :=
  match r with
  | .suspend => raiseEvent .sessionEnd s
  | .stop _ => s

/-- A chain ends with its cause (R179). -/
def chainEnd (cause : EndCause) (endSuspend : Bool) (s : State) : State × Option MeterRequest :=
  let r := chainEndRequest cause endSuspend
  (chainEndEvent r (endChain s), some r)

/-- Activation of a copy (R175), with the check that follows it (R176). -/
def activate (c : DescCopy) (s : State) : State × Option MeterRequest :=
  match s.mtr.session with
  | none => (s, none)
  | some ss =>
    if 16 ≤ ss.base.items.length then chainEnd .lineLimit false s
    else
      let base := { ss.base with items := ss.base.items ++ [LineItem.start c] }
      (nearEndCheck (takeCheckpoint
        { s with
          mtr.session := some ⟨base, some (Running.start c)⟩
          mtr.prefetched := none }), none)

/-- The prefetched copy is activated, where one is held (R11, R174). -/
def activatePrefetched (s : State) : State × Option MeterRequest :=
  match s.mtr.prefetched with
  | some c => activate c s
  | none => (s, none)

/-! ## Applying an interval (R177, R178) -/

/-- Change the last of a list. -/
def updateLast {α : Type} (f : α → α) : List α → List α
  | [] => []
  | [x] => [f x]
  | x :: y :: xs => x :: updateLast f (y :: xs)

/-- A portion into a line item (R177, step 3). -/
def LineItem.add (chg cond : Nat) (i : LineItem) : LineItem :=
  { i with
    charging := i.charging + chg
    conditioning := i.conditioning + cond
    accumulator := i.accumulator + chg * i.rateChg + cond * i.rateCond }

/-- A pair into a line item's overrun (R177, R179); a zero pair makes none (log 37). -/
def LineItem.addOverrun (e c : Nat) (i : LineItem) : LineItem :=
  if e = 0 ∧ c = 0 then i
  else
    let o := i.overrun.getD (0, 0)
    { i with
      overrun := some (o.1 + (e - c), o.2 + c)
      accumulator := i.accumulator + (e - c) * i.rateChg + c * i.rateCond }

/-- Change the last line item of the open session. -/
def onLastItem (f : LineItem → LineItem) (s : State) : State :=
  { s with mtr.session := s.mtr.session.map fun ss =>
      { ss with base := { ss.base with items := updateLast f ss.base.items } } }

/-- One descriptor's part of the interval (R177, steps 1 to 4): the running descriptor after it, and the
portion's charging and conditioning. -/
def Running.take (r : Running) (first : Bool) (e c : Nat) : Running × Nat × Nat :=
  let q := if r.copy.desc.quota = 0 then e else min e r.quotaLeft
  let cond := min c q
  ({ r with
      quotaLeft := if r.copy.desc.quota = 0 then r.quotaLeft else r.quotaLeft - q
      timeLeft := if r.copy.desc.duration ≠ 0 ∧ first then r.timeLeft - 1 else r.timeLeft },
    q - cond, cond)

/-- The descriptor ends (R177, step 5). -/
def Running.ended (r : Running) : Bool :=
  (r.copy.desc.quota != 0 && r.quotaLeft == 0) || (r.copy.desc.duration != 0 && r.timeLeft == 0)

/-- The successor of an ended copy with CHAIN (R178). -/
def successor (c : DescCopy) (s : State) : Option DescCopy :=
  match s.mtr.prefetched with
  | some p => some p
  | none => copySlot c.desc.next s

/-- The pair applied to the running descriptor and, as descriptors end, to its successors (R177, R178).
`fuel` bounds the descriptors of one interval; each activation adds one of at most 16 line items. -/
def applyPair : (fuel : Nat) → (first : Bool) → (e c : Nat) → State → State × Option MeterRequest
  | 0, _, _, _, s => (s, none)
  | fuel + 1, first, e, c, s =>
    match s.mtr.session with
    | none => (s, none)
    | some ⟨_, none⟩ => (onLastItem (.addOverrun e c) s, none)
    | some ⟨base, some r⟩ =>
      let t := r.take first e c
      let s₁ := onLastItem (.add t.2.1 t.2.2)
        { s with mtr.session := some ⟨base, some t.1⟩ }
      let e' := e - (t.2.1 + t.2.2)
      let c' := c - t.2.2
      if t.1.ended then
        if r.copy.desc.chain then
          match successor r.copy s₁ with
          | none =>
            let x := chainEnd .chainBroken r.copy.desc.endSuspend s₁
            (onLastItem (.addOverrun e' c') x.1, x.2)
          | some d =>
            match activate d s₁ with
            | (s₂, some q) => (onLastItem (.addOverrun e' c') s₂, some q)
            | (s₂, none) =>
              if e' = 0 ∧ c' = 0 then (s₂, none) else applyPair fuel false e' c' s₂
        else
          let x := chainEnd .quotaEnd r.copy.desc.endSuspend s₁
          (onLastItem (.addOverrun e' c') x.1, x.2)
      else (nearEndCheck s₁, none)

/-! ## The interval's arithmetic (R170, R171) -/

/-- The whole milliwatt-hours of a sum with its carry, and the new carry (R170). -/
def wholeMwh (a : Int) : Nat × Nat :=
  if a ≤ 0 then (0, 0) else (a.toNat / samplesPerMwh, a.toNat % samplesPerMwh)

/-- The sums become energies (R170): the state with its carries and emptied sums, ΔE and ΔH. -/
def formEnergies (s : State) : State × Nat × Nat :=
  let a := (s.mtr.importCarry : Int) + s.mtr.powerSum
  let h := s.mtr.heaterCarry + s.mtr.heaterSum
  let s₁ := onlyIf (decide (a < -(samplesPerMwh : Int)))
    (markSession fun f => { f with reverseFlow := true }) s
  ({ s₁ with
      mtr.importCarry := (wholeMwh a).2
      mtr.heaterCarry := h % samplesPerMwh
      mtr.powerSum := 0
      mtr.heaterSum := 0
      mtr.sampleCount := 0 },
    (wholeMwh a).1, h / samplesPerMwh)

/-- The elapsed interval count rises (R171). -/
def countElapsed (s : State) : State :=
  { s with mtr.session := s.mtr.session.map fun ss =>
      { ss with base := { ss.base with elapsed := ss.base.elapsed + 1 } } }

/-- The metering interval event, but for what the sequencer is asked (R86, R170, R171, R177, R188). The
energy since the last checkpoint is judged after the interval's activations, whose checkpoints have zeroed
it (log 56), and before the sequencer takes the request of a chain end (DESIGN CHOICE, log 72). -/
def meterInterval (s : State) : State × Option MeterRequest :=
  let f := formEnergies s
  let e := f.2.1
  let cond := min e f.2.2
  let s₁ := { f.1 with crg.pMeter := e * 3600 / 1000 }
  let s₂ := countInterval e (if sessionOpen s₁ then some cond else none) s₁
  let x := applyPair 18 true e cond (countElapsed s₂)
  (checkpointIfDue x.1, x.2)

/-! ## Sessions (R174, R182, R183) -/

/-- The context of a new session (R174). -/
def newSession (number : Nat) (stamp : Word32) (s : State) : Session where
  base :=
    { number := number
      station := s.cfg.station
      feederId := (s.psq.ident.map (·.feederId)).getD 0
      ratingClass := (s.psq.ident.map (·.ratingClass)).getD 0
      stamp := stamp
      elapsed := 0
      flags :=
        { reverseFlow := false
          fallbackUsed := s.shu.conds.any
          identLenient := (s.psq.ident.map (·.lenient)).getD false
          insulation := false
          forcedStop := false
          estimated := false }
      items := [] }
  running := none

/-- A session opens and its first copy is activated (R174, R175). -/
def openSession (stamp : Word32) (c : Option DescCopy) (s : State) : State × Option MeterRequest :=
  let s₁ := raiseSessionCounter s
  let s₂ := { s₁ with mtr.session := some (newSession s₁.mst.working.sessions stamp s₁) }
  match c with
  | some c => activate c s₂
  | none => (s₂, none)

/-- The open session closes (R183); with none open, nothing happens. -/
def closeSession (cause : EndCause) (forced : Bool) (s : State) : State :=
  match s.mtr.session with
  | none => s
  | some ss =>
    let base := { ss.base with flags := { ss.base.flags with forcedStop := forced } }
    raiseEvent .sessionEnd
      (placeRecord base cause false { s with mtr.session := none, mtr.prefetched := none })

/-- The prefetched copy of an energizing is dropped (R174). -/
def dropPrefetched (s : State) : State := { s with mtr.prefetched := none }

/-! ## The meter's commands (R173, R181, R182) -/

/-- The descriptor WRITE_DESCRIPTOR writes (R172, R173); `next` is in range. -/
def descriptorOf (flags : Byte) (quota duration rateChg rateCond : Word16) (next : Fin 16) :
    Descriptor where
  valid := flags.getLsbD 0
  quota := quota.toNat
  duration := duration.toNat
  rateChg := rateChg.toNat
  rateCond := rateCond.toNat
  next := next
  chain := flags.getLsbD 1
  notice := flags.getLsbD 2
  endSuspend := flags.getLsbD 3

/-- The slot is the source of the running or of a prefetched copy (R173). -/
def slotInUse (i : Fin 16) (s : State) : Bool :=
  (s.mtr.prefetched.map fun c => c.slot == i).getD false
    || ((s.mtr.session.bind (·.running)).map fun r => r.copy.slot == i).getD false

/-- WRITE_DESCRIPTOR (R173). -/
def writeDescriptor (slot flags : Byte) (quota duration rateChg rateCond : Word16) (next : Byte)
    (s : State) : State :=
  match slotOf slot with
  | none => answerEmpty .badSlot s
  | some i =>
    match slotOf next with
    | none => answerEmpty .badValue s
    | some n =>
      if flags.toNat < 16 then
        answerEmpty (if slotInUse i s then .inUseLater else .accepted)
          { s with mtr.table :=
              s.mtr.table.set i (descriptorOf flags quota duration rateChg rateCond n) }
      else answerEmpty .badValue s

@[inherit_doc writeDescriptor]
def execWriteDescriptor (slot flags : Byte) (quota duration rateChg rateCond : Word16) (next : Byte)
    (s : State) : Host.Outcome State Fault Refusal :=
  whenRunning (writeDescriptor slot flags quota duration rateChg rateCond next) s

/-- EXTEND (R181). -/
def extend (next : Byte) (s : State) : State :=
  match s.mtr.session with
  | none => answerEmpty .noSession s
  | some ss =>
    if s.psq.seq = .suspended then answerEmpty .suspended s
    else match ss.running with
      | none => answerEmpty .noSession s
      | some r =>
        if r.copy.desc.chain then answerEmpty .alreadyChained s
        else match validCopy next s with
          | none => answerEmpty .badSlot s
          | some c =>
            let d := { r.copy.desc with chain := true, next := c.slot }
            answerEmpty .accepted
              { s with
                mtr.session := some { ss with running := some { r with copy := ⟨r.copy.slot, d⟩ } } }

@[inherit_doc extend]
def execExtend (next : Byte) (s : State) : Host.Outcome State Fault Refusal :=
  whenRunning (extend next) s

/-- A stop is in progress (R182). -/
def stopInProgress (s : State) : Bool :=
  s.psq.seq == .stopping || (s.psq.seq.isolated && s.psq.stopCause.isSome)

/-- SESSION_SPLIT (R182). -/
def sessionSplit (slot : Byte) (stamp : Word32) (s : State) : State :=
  if !sessionOpen s then answerEmpty .noSession s
  else if stopInProgress s then answerEmpty .ending s
  else if s.mst.stacked.isSome then answerEmpty .backlog s
  else match validCopy slot s with
    | none => answerEmpty .badSlot s
    | some c => answerEmpty .splitDone (openSession stamp (some c) (closeSession .split false s)).1

@[inherit_doc sessionSplit]
def execSessionSplit (slot : Byte) (stamp : Word32) (s : State) :
    Host.Outcome State Fault Refusal :=
  whenRunning (sessionSplit slot stamp) s

end Sys2Proof.Machine
end

