-- ==== Sys2Proof/Machine/Sequence.lean ====
section
/-! DEFINITION. The Plug Sequencer's operations (chapter 1): relays, stops, faults, trips, energizing,
sweep isolation, the loss of plug. The rows that reach them are in the files that follow. -/

namespace Sys2Proof.Machine

/-! ## Relay commands (R4, R5) -/

/-- The contactor is commanded open: its supervision starts, SHU clears JOINT, IMN is told (R4, R5, R52,
R138). -/
def openContactor (s : State) : State :=
  if s.psq.contactorCmd then
    contactorOpened
      { s with psq.contactorCmd := false, psq.contactorSup := true, shu.joint := false }
  else s

/-- The precharge relay is commanded open, with its supervision (R4, R5). -/
def openPrecharge (s : State) : State :=
  if s.psq.prechargeCmd then { s with psq.prechargeCmd := false, psq.prechargeSup := true } else s

/-- Both relays are commanded open. -/
def openRelays (s : State) : State := openContactor (openPrecharge s)

/-- The timers of an energizing, a rejoin or a stop stop. -/
def stopTimers (s : State) : State :=
  { s with psq.prechargeTimer := false, psq.contactorTimer := false, psq.stopTimer := false }

/-- Nothing is kept of a stop, an energizing or an isolation that has ended. -/
def forgetStop (s : State) : State :=
  { s with
    psq.stopCause := none
    psq.forced := false
    psq.start := none
    psq.isoReturn := none
    psq.cancelPending := false
    psq.cancelContactor := false }

/-- The open session closes with the forced flag as it is recorded (at an entry to FAULT and at GO_IDLE
log 51's), and SHU clears SESSION and JOINT (R52, R183). -/
def endSession (cause : EndCause) (s : State) : State :=
  clearSession (closeSession cause s.psq.forced s)

/-! ## FAULT (R20) -/

/-- The end cause of a session open at an entry to FAULT (R20). -/
def faultEndCause : FaultCause → EndCause
  | .contactorWeld => .contactorWeld
  | _ => .trip

/-- An entry to FAULT (R20): relays open, enable clear, session closed, IMN told (R160). IMN is told before the
line follows the plug, so a leader's own step ends ABANDONED at a live loss of plug as at any trip (DESIGN
CHOICE, log 71). -/
def enterFault (cause : FaultCause) (s : State) : State :=
  let t := stopTimers (openRelays (clearEnable s))
  let u := leaveTarget s.psq.seq (endSession (faultEndCause cause) t)
  enterSeq .fault { forgetStop (dropPrefetched u) with psq.faultCause := some cause }

/-- A contactor that reads closed while it is commanded open and not supervised is a weld at once, but in
FAULT (R5, log 12). -/
def weldAtOnce (s : State) : State :=
  if s.psq.contactorFb ∧ ¬ s.psq.contactorCmd ∧ ¬ s.psq.contactorSup ∧ s.psq.seq ≠ .fault then
    enterFault .contactorWeld s
  else s

/-! ## Trips (R19, R99, R130) -/

/-- The states a trip takes to FAULT (R19). -/
def SeqState.tripsToFault : SeqState → Bool
  | .precharge | .active | .suspended | .stopping => true
  | .sweepIsolated _ => true
  | _ => false

/-- PSQ is told that the trip latch is set (R19). -/
def tripTold (s : State) : State :=
  onlyIf s.psq.seq.tripsToFault (enterFault .trip) s

/-- The latch is set by its first cause (R99). -/
def setTrip (c : TripCause) (s : State) : State :=
  heaterTripped
    (tripTold (raiseEvent .trip (clearEnable { s with ptu.trip := some ⟨c, []⟩ })))

/-- A trip cause is taken (R99). -/
def raiseTrip (c : TripCause) (s : State) : State :=
  match s.ptu.trip with
  | none => setTrip c s
  | some t => { s with ptu.trip := some (t.add c) }

/-! ## Stops (R13, R14, R22, R24) -/

/-- A stop completes: the session closes with the recorded cause, IDENTIFIED is entered, and RELEASED
queues LEAVE (R14, R24). A pending release goes with the isolation it was for (R160); a target record made in
ISO_OPEN after the stop was recorded stays (R160). Both are log 67's (DESIGN CHOICE). -/
def finishStop (s : State) : State :=
  let cause := s.psq.stopCause.getD .hostStop
  let t := enterSeq .identified
    (forgetStop (stopTimers (endSession cause { s with imn.pendingRelease := false })))
  onlyIf (cause == .released) (enqueue .leave) t

/-- The contactor reads open in ISO_OPEN (R22, R24). -/
def isolationOpen (s : State) : State :=
  if s.psq.stopCause.isSome then finishStop s else isolationReached (setPhase .isoWait s)

/-- Both relays read open. -/
def bothOpen (s : State) : Bool := !s.psq.contactorFb && !s.psq.prechargeFb

/-- What the contactor reading open completes: a stop or ISO_OPEN (R14, R22). -/
def contactorReadsOpen (s : State) : State :=
  if s.psq.contactorCmd ∨ s.psq.contactorFb then s
  else match s.psq.seq with
    | .stopping => finishStop s
    | .sweepIsolated .isoOpen => isolationOpen s
    | _ => s

/-- Step 2 of a stop or the end of ISO_RAMP, by current or by timer (R14, R22, log 14). -/
def rampDown (expired : Bool) (s : State) : State :=
  match s.psq.seq with
  | .stopping =>
    if s.psq.contactorCmd then
      contactorReadsOpen
        (openContactor (clearEnable
          { s with psq.stopTimer := false, psq.forced := s.psq.forced || expired }))
    else s
  | .sweepIsolated .isoRamp =>
    let forced := s.psq.forced || (expired && s.psq.stopCause.isSome)
    contactorReadsOpen (setPhase .isoOpen
      (openContactor (clearEnable { s with psq.stopTimer := false, psq.forced := forced })))
  | _ => s

/-- A recorded stop in ISO_REJOIN completes when both feedbacks read open (R24). -/
def rejoinStopped (s : State) : State :=
  if s.psq.seq = .sweepIsolated .isoRejoin ∧ s.psq.stopCause.isSome ∧ bothOpen s then finishStop s
  else s

/-- What a stop recorded in SWEEP_ISOLATED does in its phase (R24). -/
def isolatedStop (s : State) : State :=
  match s.psq.seq with
  | .sweepIsolated .isoWait => finishStop s
  | .sweepIsolated .isoRejoin => rejoinStopped (openRelays (stopTimers s))
  | _ => s

/-- A stop request in SWEEP_ISOLATED that records its cause (R24); IMN is told once (log 28). -/
def recordIsolatedStop (cause : EndCause) (s : State) : State :=
  let first := s.psq.stopCause.isNone
  isolatedStop (onlyIf first leftSweep
    { s with psq.stopCause := some cause, psq.forced := s.psq.forced && !first })

/-- A stop request starts a stop in ACTIVE or SUSPENDED (R13, R14, R160). -/
def startStop (cause : EndCause) (s : State) : State :=
  enterSeq .stopping
    { leaveTarget s.psq.seq s with
      psq.stopCause := some cause
      psq.forced := false
      psq.stopTimer := true }

/-- A stop request (R13, R24). -/
def stopRequest (cause : EndCause) (s : State) : State :=
  match s.psq.seq with
  | .active => startStop cause s
  | .suspended => startStop cause s
  | .sweepIsolated _ => if s.psq.stopCause.isSome then s else recordIsolatedStop cause s
  | _ => s

/-- A suspend request of the Tariff Meter (R12). -/
def suspendRequest (s : State) : State :=
  match s.psq.seq with
  | .active => enterSeq .suspended s
  | .sweepIsolated .isoRamp => { s with psq.isoReturn := some .suspended }
  | _ => s

/-- What the Tariff Meter asks at a chain end (R12, R13, R179). -/
def takeRequest (r : Option MeterRequest) (s : State) : State :=
  match r with
  | none => s
  | some .suspend => suspendRequest s
  | some (.stop c) => stopRequest c s

/-! ## Energizing (R10, R11, R23) -/

/-- PRECHARGE is entered (R10, step 1). -/
def startPrecharge (s : State) : State :=
  enterSeq .precharge { s with psq.prechargeCmd := true, psq.prechargeTimer := true }

/-- The hand-offs of both ways the contactor closes: JOINT, the output enable, IMN (R11, R23). -/
def joinNetwork (s : State) : State :=
  contactorClosed (armEnable { s with shu.joint := true })

/-- The stamp kept by GO_ENERGIZE. -/
def startStamp (s : State) : Word32 := (s.psq.start.map (·.2)).getD 0

/-- ACTIVE is entered from PRECHARGE (R10, R11, R174). -/
def becomeActive (s : State) : State :=
  let t := openPrecharge { s with psq.contactorTimer := false }
  let u := (openSession (startStamp t) t.mtr.prefetched t).1
  joinNetwork (enterSeq .active (setSession { u with psq.start := none }))

/-- ISO_REJOIN returns to the recorded state (R23). -/
def rejoin (s : State) : State :=
  let ret := match s.psq.isoReturn with
    | some .suspended => SeqState.suspended
    | _ => SeqState.active
  joinNetwork (enterSeq ret
    (openPrecharge { s with psq.contactorTimer := false, psq.isoReturn := none }))

/-- The contactor reads closed within the contactor timer (R10, R23). -/
def contactorReadsClosed (s : State) : State :=
  if s.psq.contactorTimer ∧ s.psq.contactorFb then
    match s.psq.seq with
    | .precharge => becomeActive s
    | .sweepIsolated .isoRejoin => rejoin s
    | _ => s
  else s

/-- A VLINK result against V_pre (R10, step 2; R23). -/
def prechargeResult (s : State) : State :=
  if s.psq.prechargeTimer ∧ s.cfg.vPre ≤ vLink s then
    contactorReadsClosed
      { s with psq.contactorCmd := true, psq.prechargeTimer := false, psq.contactorTimer := true }
  else s

/-! ## Cancelling (R16, R21) -/

/-- PRECHARGE is withdrawn: timers stop, relays open, the prefetched copy is dropped (R16). -/
def withdraw (s : State) : State := dropPrefetched (openRelays (stopTimers s))

/-- Every relay the cancel commanded open reads open: the precharge relay, and the contactor where it had
been commanded closed (R16). -/
def cancelOpen (s : State) : Bool :=
  !s.psq.prechargeFb && !(s.psq.cancelContactor && s.psq.contactorFb)

/-- A cancel completes when every relay it commanded open reads open (R16, log 14). -/
def cancelComplete (s : State) : State :=
  onlyIf (s.psq.cancelPending && cancelOpen s)
    (fun s => enterSeq .identified (forgetStop s)) s

/-- PSQ is told that the own-side fault latch is set (R21). -/
def ownFaultTold (s : State) : State :=
  match s.psq.seq with
  | .precharge => enterSeq .identified (forgetStop (withdraw s))
  | .active => startStop .insulation s
  | .suspended => startStop .insulation s
  | .sweepIsolated _ => recordIsolatedStop .insulation s
  | _ => s

/-! ## The plug (R2, R3, R17, R18) -/

/-- The proximity level of a VPROX result (R2). -/
def classify (v : Int) : ProxLevel :=
  if v < 2000 then .latched else if v < 3500 then .release else .none

/-- The settle timer has reached 100 ms (R3). -/
def settleDue (s : State) : Bool :=
  s.psq.seq == .plugSettle && s.psq.prox == .latched && 100 ≤ s.psq.settleMs

/-- PLUGGED is entered from PLUG_SETTLE, where it is due (R3, log 2). -/
def plugSettled (s : State) : State :=
  if settleDue s then raiseEvent .plug (enterSeq .plugged s) else s

/-- The release button (R17). -/
def releaseButton (s : State) : State :=
  match s.psq.seq with
  | .active => stopRequest .released s
  | .suspended => stopRequest .released s
  | .sweepIsolated _ => stopRequest .released s
  | .unplugged => s
  | .plugSettle => s
  | _ => enqueue .leave s

/-- The open supervisions that run end (R5). -/
def endSupervisions (s : State) : State :=
  { s with psq.contactorSup := false, psq.prechargeSup := false }

/-- A dead loss of plug (R18). -/
def deadLoss (s : State) : State :=
  enterSeq .unplugged (forgetStop (stopTimers (dropPrefetched (endSession .unplugged s))))

/-- What a loss of plug with its supervisions ended does (R18); a live one keeps the identification (log 15),
and ends a leader's sweep by its trip, in its own step and in an earlier one, where a dead one ends it by the line's
entry to OFFLINE (R160, R162, R164, R166; DESIGN CHOICE, log 71). -/
def plugLost (s : State) : State :=
  if s.psq.contactorCmd ∨ s.psq.prechargeCmd then raiseTrip .plugLost s
  else match s.psq.seq with
    | .fault => forgetIdent s
    | .unplugged => s
    | _ => deadLoss s

/-- A loss of plug (R5, R18): it ends the open supervisions, and a contactor that still reads closed is then
a weld (log 12). -/
def lossOfPlug (s : State) : State := weldAtOnce (plugLost (endSupervisions s))

/-- The states of plug detection at a level (R3). -/
def detectPlug (old new : ProxLevel) (s : State) : State :=
  match s.psq.seq, new with
  | .unplugged, .latched =>
    if old = .latched then s else enterSeq .plugSettle { s with psq.settleMs := 0 }
  | .plugSettle, .latched => { s with psq.settleMs := s.psq.settleMs + 10 }
  | .plugSettle, .release => { s with psq.settleMs := 0 }
  | _, _ => s

/-- A new VPROX result (R2, R3, R17, R18). -/
def takeProximity (v : Int) (s : State) : State :=
  let s := plugSettled s
  let old := s.psq.prox
  let new := classify v
  let t := detectPlug old new { s with psq.prox := new }
  if old = new then t
  else refreshLine (match old, new with
    | .latched, .release => releaseButton t
    | _, .none => lossOfPlug t
    | _, _ => t)

/-! ## The battery's voltage and current (R13, R14) -/

/-- A VBAT result (R13). -/
def batteryResult (s : State) : State :=
  { s with psq.batteryLow := s.psq.seq == .active && decide (vBat s < 2000) }

/-- An IBAT result (R14, R22). -/
def currentResult (s : State) : State := onlyIf (decide (iBat s < 100)) (rampDown false) s

/-- A VLINK result against the link ceiling (R102). -/
def linkResult (s : State) : State :=
  onlyIf (decide (s.cfg.linkCeiling < vLink s)) (raiseTrip .linkOver) s

end Sys2Proof.Machine
end

