-- ==== Sys2Proof/Machine/Monitor.lean ====
section
/-! DEFINITION. The Insulation Monitor's results (R140 to R145, R149, R150), the steps of a sweep they
decide (R157, R162), and the monitor's own rows. -/

namespace Sys2Proof.Machine

/-! ## The own-side fault latch (R145) -/

/-- The latch is set, where it is clear: PSQ is told, the self-check is made pending and starts in LOCAL
(R21, R145, R149). -/
def setOwnFault (s : State) : State :=
  if s.imn.ownFault then s
  else
    let t := ownFaultTold (raiseEvent .insulation { s with imn.ownFault := true })
    let u := { t with imn.selfCheck := .pending }
    if u.imn.mode = .localMode then startSelfCheck u else u

/-! ## Deciding a self-check and a clearing (R149, R150) -/

/-- The self-check passes (R149). -/
def passSelfCheck (s : State) : State :=
  raiseEvent .insulation
    { s with
      imn.ownFault := false
      imn.heaterIsolated := true
      imn.own := .good
      imn.selfCheck := .idle }

/-- A LOCAL result taken by a running self-check with `passed` results (R149). -/
def selfCheckResult (rf passed : Nat) (s : State) : State :=
  if rf ≤ s.cfg.rWarn then failSelfCheck s
  else if passed = 0 then { s with imn.selfCheck := .running 1 }
  else passSelfCheck s

/-- The clearing passes (R150). -/
def passClearing (s : State) : State :=
  raiseEvent .insulation
    { s with
      imn.ownFault := false
      imn.heaterIsolated := false
      imn.own := .good
      imn.clearing := false
      imn.lastClearing := some true }

/-- A LOCAL result decides a clearing (R150). -/
def clearingResult (rf : Nat) (s : State) : State :=
  if rf ≤ s.cfg.rWarn then failClearing s else passClearing s

/-! ## The leader's own step and the target's verdict (R159, R162) -/

/-- The own step with its LOCAL results awaited: ISO_WAIT has been reached (R162). -/
def ownStepMeasuring (s : State) : Option LeaderRecord :=
  match s.imn.sweep with
  | .leading r => if r.phase = .ownStep ∧ r.cycleTimer then some r else none
  | _ => none

/-- A LOCAL result decides the own step (R162). -/
def ownStepResult (r : LeaderRecord) (s : State) : State :=
  if s.imn.own.state = some .alarm then
    setOwnFault (endLeading r (.found s.cfg.station) true s)
  else if 1 ≤ r.ownResults then ownNotFound r s
  else { s with imn.sweep := .leading { r with ownResults := r.ownResults + 1 } }

/-- The verdict of a target (R159). -/
def noteVerdict (rf : Nat) (s : State) : State :=
  { s with imn.target := s.imn.target.map fun t => { t with verdict := some rf } }

/-- What a LOCAL result does by the own state: the own step, or the latch at an entry to ALARM (R145,
R162). -/
def ownConsequence (before : Evaluation) (s : State) : State :=
  match ownStepMeasuring s with
  | some r => ownStepResult r s
  | none =>
    onlyIf (s.imn.own.state == some .alarm && before.state != some .alarm) setOwnFault s

/-! ## Results (R142) -/

/-- A LOCAL result is taken (R142, R145). -/
def localResult (r : InsResult) (s : State) : State :=
  let t := noteVerdict r.rf (judgeOwn r.rf
    { s with imn.localResult := some r, imn.localFlag := true })
  let u := ownConsequence s.imn.own t
  let v := match s.imn.selfCheck with
    | .running n => selfCheckResult r.rf n u
    | _ => u
  onlyIf s.imn.clearing (clearingResult r.rf) v

/-- A measure fault in LOCAL (R142). -/
def measureFault (s : State) : State :=
  raiseEvent .measureFault { s with imn.measureFaults := min 255 (s.imn.measureFaults + 1) }

/-- A step in MEASURING is decided (R157). -/
def decideStep (rf : Nat) (r : LeaderRecord) (s : State) : State :=
  if s.cfg.rWarn ≤ rf then endLeading r (.found r.stepTarget) true s else nextStep r s

/-- The leader's step that awaits its fresh cycle (R157). -/
def stepMeasuring (s : State) : Option LeaderRecord :=
  match s.imn.sweep with
  | .leading r => if r.phase = .measuring then some r else none
  | _ => none

/-- A change of the network state to ALARM, where R154 is checked. -/
def alarmChange (before : Evaluation) (s : State) : State :=
  onlyIf (before.state != some .alarm && s.imn.net.state == some .alarm) checkSweepStart s

/-- A JOINT result measured by this station (R142, R154, R157). The network state is judged before the step,
so the hold of a step decided FOUND runs on where the same result makes the network OK (log 55). -/
def jointResult (r : InsResult) (s : State) : State :=
  let t := judgeNet r.rf { s with imn.jointResult := some r, imn.resultInRole := true }
  let u := enqueue (.measureResult (BitVec.ofNat 16 r.rf) (if r.estimate then 1 else 0)) t
  match stepMeasuring s with
  | some l => decideStep r.rf l u
  | none => alarmChange s.imn.net u

/-- R_f of a measured step, in kΩ; the step is 0 or more (R141). -/
def resistance (cfg : Settings) (upp : Nat) : Nat :=
  if upp ≤ 10 then 65535
  else min 65534 (cfg.rm * (2000 * cfg.uInj) / upp - cfg.rc - cfg.rm)

/-- A cycle's outcome in the mode in which it ended (R141, R142, R148). -/
def cycleOutcome (uPlus uMinus : Int) (estimate : Bool) (s : State) : State :=
  let upp := uPlus - uMinus
  let r : InsResult := ⟨resistance s.cfg upp.toNat, estimate, some uPlus, some uMinus⟩
  match s.imn.mode with
  | .localMode => if upp < 0 then measureFault s else localResult r s
  | .measurer => if upp < 0 then interference s else jointResult r s
  | .passive => s

/-! ## The halves of a cycle (R139, R140) -/

/-- The polarity codes of MEASURE_START (R28). -/
def polarityCode : CycleHalf → Byte
  | .negative => 1
  | _ => 0

/-- The announcement of a half in JOINT-measurer mode (R139). -/
def announceHalf (h : CycleHalf) (s : State) : State :=
  if s.imn.mode = .measurer then
    let t := enqueue (.measureStart (polarityCode h) s.imn.halfIndex) s
    { t with imn.halfIndex := s.imn.halfIndex + 1 }
  else s

/-- The steady difference of two samples (R140). -/
def settledDifference (x prev : Int) : Bool :=
  decide ((x - prev).natAbs ≤ max 2 (x.natAbs / 100))

/-- A half with one more sample (R140). -/
def Cycle.addSample (v : Int) (c : Cycle) : Cycle :=
  { c with
    count := c.count + 1
    prev := some v
    run := match c.prev with
      | some p => if settledDifference v p then c.run + 1 else 0
      | none => 0 }

/-- The half has settled (R140). -/
def Cycle.settled (c : Cycle) : Bool := 20 ≤ c.count && 8 ≤ c.run

/-- The half ends (R140). -/
def Cycle.ended (cfg : Settings) (c : Cycle) : Bool := c.settled || cfg.tHalfMax * 100 ≤ c.count

/-- The ESTIMATE flag after the half's end (R140, log 18). -/
def Cycle.estimateAtEnd (c : Cycle) : Bool := c.estimate || !c.settled

/-- The positive half that follows a cycle's end at the same sample (R139). -/
def Cycle.following : Cycle := ⟨.positive, 0, 0, none, none, false⟩

/-- A cycle ends with its negative half (R139, R142, log 20). -/
def endCycle (v : Int) (c : Cycle) (s : State) : State :=
  let t := { s with imn.cycle := some .following, imn.driver := .plus }
  let u := cycleOutcome (c.uPlus.getD 0) v c.estimateAtEnd t
  if u.imn.cycle = some .following then announceHalf .positive u else u

/-- A sample within a half; the sample that ends a half belongs to it (R139, R140, log 19). -/
def sampleHalf (v : Int) (c : Cycle) (s : State) : State :=
  let d := c.addSample v
  if d.ended s.cfg then
    match d.half with
    | .negative => endCycle v d s
    | _ =>
      announceHalf .negative
        { s with
          imn.cycle := some ⟨.negative, 0, 0, none, some v, d.estimateAtEnd⟩
          imn.driver := .minus }
  else { s with imn.cycle := some d }

/-- A VISO sample (R139, R140). -/
def takeViso (v : Int) (s : State) : State :=
  match s.imn.cycle with
  | none => s
  | some c =>
    match c.half with
    | .awaiting =>
      announceHalf .positive
        { s with imn.cycle := some ({ c with half := .positive }.addSample v), imn.driver := .plus }
    | _ => sampleHalf v c s

/-! ## Frames delivered to the monitor (R144, R148, R155, R156, R158, R161) -/

/-- A measurer's frame was delivered (R146). -/
def hearMeasurer (s : State) : State := { s with imn.measurerHeard := true }

/-- MEASURE_START from another station (R146, R148). -/
def takeMeasureStart (s : State) : State :=
  let t := hearMeasurer s
  if s.imn.mode = .measurer ∧ s.imn.cycle.isSome then interference t else t

/-- MEASURE_RESULT from another station (R144, R146). -/
def takeMeasureResult (rf : Nat) (estimate : Bool) (s : State) : State :=
  let t := hearMeasurer s
  if s.imn.mode = .passive then
    let u := judgeNet rf { t with imn.jointResult := some ⟨rf, estimate, none, none⟩ }
    { endUnmonitored u with imn.unmonTimer := true }
  else t

/-- This station becomes a follower (R155). -/
def follow (leader : Nat) (s : State) : State :=
  raiseEvent .sweep
    { s with
      imn.sweep := .following leader true
      imn.outcome := .none
      imn.disagreement := false }

/-- ALERT (R155). -/
def takeAlert (sender : Nat) (s : State) : State :=
  match s.imn.sweep with
  | .none => follow sender s
  | .following l _ =>
    if l = sender then { s with imn.sweep := .following l true } else s
  | .leading _ => s

/-- The answer codes of SWEEP_ANSWER (R28). -/
def answerSweep (code : Byte) (s : State) : State :=
  enqueue (.sweepAnswer (BitVec.ofNat 8 s.cfg.station) code) s

/-- A SWEEP_STEP that names this station, with the index it serves (R158); PRECHARGE and ISO_REJOIN answer
REFUSED although the contactor report is open there (log 60). What a record made in ISO_OPEN with a stop
recorded becomes is log 67's. -/
def becomeTarget (index : Nat) (s : State) : State :=
  if (s.imn.target.map (·.index)) = some index then s
  else match returnStateOf s.psq.seq with
    | some ret =>
      raiseEvent .sweep
        (reportTarget (enterIsolation ret { s with imn.target := some ⟨index, none⟩ }))
    | none =>
      if s.imn.contactorClosed ∨ s.psq.seq.energizes then answerSweep 2 s
      else answerSweep 3
        (raiseEvent .sweep { s with imn.target := some ⟨index, none⟩ })

/-- A SWEEP_STEP from the followed leader (R158). -/
def serveStep (target index : Nat) (s : State) : State :=
  if target = s.cfg.station then becomeTarget index s else releaseTarget s

/-- SWEEP_STEP (R155, R158). -/
def takeSweepStep (sender target index : Nat) (s : State) : State :=
  match s.imn.sweep with
  | .none => serveStep target index (follow sender s)
  | .following l _ =>
    if l = sender then serveStep target index { s with imn.sweep := .following l true } else s
  | .leading _ => s

/-- SWEEP_ANSWER, taken by the leader from its step's target (R156). -/
def takeSweepAnswer (sender code : Nat) (s : State) : State :=
  match s.imn.sweep with
  | .leading r =>
    if r.phase = .awaitingAnswer ∧ r.stepTarget = sender then
      let r' := { r with answerTimer := false }
      if code = 2 then nextStep { r' with unresponsive := r.unresponsive + 1 } s
      else startCycle
        { s with imn.sweep := .leading { r' with phase := .measuring, cycleTimer := true } }
    else s
  | _ => s

/-- The outcome of a SWEEP_RESULT (R28, R163). -/
def outcomeOf (code found : Nat) : SweepOutcome :=
  match code with
  | 1 => .found found
  | 2 => .notFound
  | _ => .abandoned

/-- The sweep's result names this station FOUND (R161). -/
def foundHere (o : SweepOutcome) (s : State) : State :=
  let verdict := s.imn.target.bind (·.verdict)
  let disagrees := match verdict with
    | some v => decide (s.cfg.rWarn < v)
    | none => true
  let t := setOwnFault s
  let u := onlyIf disagrees
    (fun x => raiseEvent .insulation { x with imn.disagreement := true }) t
  endSweep o true (clearTarget u)

/-- A SWEEP_RESULT from the followed leader (R158, R161, R163). -/
def takeResult (o : SweepOutcome) (s : State) : State :=
  let u := match o with
    | .found n =>
      if n = s.cfg.station ∧ s.imn.target.isSome then foundHere o s
      else endSweep o true (releaseTarget s)
    | .notFound => endSweep o true (releaseTarget s)
    | _ => endSweep o false (releaseTarget s)
  checkSweepStart u

/-- SWEEP_RESULT (R155, R163). -/
def takeSweepResult (sender code found : Nat) (s : State) : State :=
  match s.imn.sweep with
  | .following l _ => if l = sender then takeResult (outcomeOf code found) s else s
  | _ => s

/-! ## The monitor's timers (R144, R156, R157, R162, R165, R167) -/

/-- The 30 s timer expires (R144). -/
def unmonitoredExpiry (s : State) : State :=
  if s.imn.unmonTimer then
    raiseEvent .insulation { s with imn.unmonTimer := false, imn.unmonitored := true }
  else s

@[inherit_doc unmonitoredExpiry]
def execUnmonitoredTimerExpiry (s : State) : Host.Outcome State Fault Refusal :=
  whenRunning unmonitoredExpiry s

/-- The answer timer expires (R156). -/
def sweepAnswerTimeout (s : State) : State :=
  match s.imn.sweep with
  | .leading r =>
    if r.answerTimer then
      nextStep { r with answerTimer := false, unresponsive := r.unresponsive + 1 } s
    else s
  | _ => s

@[inherit_doc sweepAnswerTimeout]
def execSweepAnswerTimeout (s : State) : Host.Outcome State Fault Refusal :=
  whenRunning sweepAnswerTimeout s

/-- The cycle timer expires (R157, R162). -/
def sweepCycleTimeout (s : State) : State :=
  match s.imn.sweep with
  | .leading r =>
    if r.cycleTimer then
      if r.phase = .ownStep then ownNotFound r s else nextStep { r with cycleTimer := false } s
    else s
  | _ => s

@[inherit_doc sweepCycleTimeout]
def execSweepCycleTimeout (s : State) : Host.Outcome State Fault Refusal :=
  whenRunning sweepCycleTimeout s

/-- The leader-silence timer expires (R165). -/
def leaderSilenceExpiry (s : State) : State :=
  match s.imn.sweep with
  | .following _ true => checkSweepStart (releaseTarget (endSweep .abandoned false s))
  | _ => s

@[inherit_doc leaderSilenceExpiry]
def execLeaderSilenceExpiry (s : State) : Host.Outcome State Fault Refusal :=
  whenRunning leaderSilenceExpiry s

/-- The sweep hold expires (R167). -/
def sweepHoldExpiry (s : State) : State :=
  if s.imn.hold then checkSweepStart { s with imn.hold := false } else s

@[inherit_doc sweepHoldExpiry]
def execSweepHoldExpiry (s : State) : Host.Outcome State Fault Refusal :=
  whenRunning sweepHoldExpiry s

/-! ## CLEAR_INSULATION and READ_INSULATION (R150, R152, R168) -/

/-- A clearing starts (R150). -/
def startClearing (s : State) : State :=
  startCycle (onlyIf s.imn.heaterIsolated (setIsolate false) { s with imn.clearing := true })

/-- CLEAR_INSULATION (R150). -/
def clearInsulation (s : State) : State :=
  if s.imn.mode ≠ .localMode then answerEmpty .wrongState s
  else if s.imn.selfCheck.isRunning ∨ s.imn.clearing then answerEmpty .busy s
  else if ¬ s.imn.ownFault ∧ ¬ s.imn.heaterIsolated then answerEmpty .accepted s
  else answerEmpty .accepted (startClearing s)

@[inherit_doc clearInsulation]
def execClearInsulation (s : State) : Host.Outcome State Fault Refusal :=
  whenRunning clearInsulation s

/-- The time left on the sweep hold, in ms: at most 10 minutes while it runs, and free within that
(R168, log 11). -/
def holdTimeLeft (s : State) : Nat :=
  if s.imn.hold then min 600000 (Config.holdTimeLeft s.fresh) else 0

/-- READ_INSULATION's report (R152, R168). -/
def insulationReport (s : State) : InsulationReport where
  mode := s.imn.mode
  cycle := s.imn.cycle
  localResult := s.imn.localResult
  jointResult := s.imn.jointResult
  localFlag := s.imn.localFlag
  own := s.imn.own
  net := s.imn.net
  unmonitored := s.imn.unmonitored
  clearCount := s.imn.clearCount
  backoff := s.imn.backoff
  ownFault := s.imn.ownFault
  heaterIsolated := s.imn.heaterIsolated
  selfCheck := s.imn.selfCheck
  lastClearing := s.imn.lastClearing
  measureFaults := s.imn.measureFaults
  sweep := s.imn.sweep
  target := s.imn.target
  pendingRelease := s.imn.pendingRelease
  outcome := s.imn.outcome
  disagreement := s.imn.disagreement
  hold := s.imn.hold
  holdTimeLeft := holdTimeLeft s

/-- READ_INSULATION (R152); the counter of free values advances (log 11). -/
def readInsulation (s : State) : State :=
  { answer .accepted (.insulation (insulationReport s)) s with fresh := s.fresh + 1 }

@[inherit_doc readInsulation]
def execReadInsulation (s : State) : Host.Outcome State Fault Refusal := whenRunning readInsulation s

end Sys2Proof.Machine
end

