-- ==== Sys2Proof/Machine/Delivery.lean ====
section
/-! DEFINITION. The feeder line's rows: received frames (R33 to R35) with their delivery to SHU (R46 to R49)
and IMN, attempts (R30 to R32, R38), and the beacon period event with the election (R50, R57, R146). -/

namespace Sys2Proof.Machine

/-! ## Beacons and departures at SHU (R46, R47, R49) -/

/-- The entry a beacon fills (R45, R46); `heard` is the heard count. -/
def entryOf (station feeder : Nat) (demand draw : Word16) (flags : Byte) (resistance : Word16)
    (leader : Byte) (heard : Nat) : PeerEntry where
  station := station
  feeder := feeder
  demand := demand.toNat
  draw := draw.toNat
  session := flags.getLsbD 0
  joint := flags.getLsbD 1
  measurer := flags.getLsbD 2
  imState := imStateOf ((flags.getLsbD 3).toNat + 2 * (flags.getLsbD 4).toNat)
  resistance :=
    if flags.getLsbD 2 ∧ resistance.toNat ≠ 65535 then some resistance.toNat else none
  leader := if leader.toNat = 0 then none else some leader.toNat
  age := 0
  heard := heard

/-- An entry is put into the table, and an extra computation follows where `extra` holds (R46). -/
def putEntry (e : PeerEntry) (extra : Bool) (s : State) : State :=
  let t := updateFallback { s with shu.peers := putPeer e s.shu.peers }
  if extra then extraAndEvaluate t else t

/-- The extra computation an update calls for (R46). -/
def updateNeedsExtra (old new : PeerEntry) : Bool :=
  (!old.session && new.session) || old.demand < new.demand

/-- A beacon at SHU (R46, R47). -/
def takeBeacon (station feeder : Nat) (demand draw : Word16) (flags : Byte) (resistance : Word16)
    (leader : Byte) (s : State) : State :=
  if station = s.cfg.station ∨ station = 0 ∨ station = 63 then s
  else match findPeer station s.shu.peers with
    | some old =>
      let e := entryOf station feeder demand draw flags resistance leader (min 2 (old.heard + 1))
      putEntry e (updateNeedsExtra old e) s
    | none =>
      if s.shu.peers.length < 32 then
        raiseEvent .peers
          (putEntry (entryOf station feeder demand draw flags resistance leader 1) true s)
      else updateFallback { s with shu.overflow := 4 }

/-- A LEAVE at SHU (R49). -/
def takeLeave (station : Nat) (s : State) : State :=
  if (findPeer station s.shu.peers).isSome then
    raiseEvent .peers
      (updateFallback { s with shu.peers := s.shu.peers.filter fun e => e.station != station })
  else s

/-! ## The election at a beacon (R146, R147) -/

/-- An eligible peer of a lower number stands in the table (R146, R147). -/
def lowerEligible (s : State) : Bool :=
  s.shu.peers.any fun e => eligiblePeer s e && e.station < s.cfg.station

/-- What IMN makes of a delivered beacon after SHU has taken it (R146, R147). -/
def electionAtBeacon (station : Nat) (measurer : Bool) (s : State) : State :=
  let t := onlyIf measurer hearMeasurer s
  onlyIf (lowerEligible t || (measurer && station < t.cfg.station)) yieldRole t

/-! ## Delivery (R34) -/

/-- A frame is delivered to its block (R34). A SWEEP_ANSWER is its sender's, whatever target it names (R156;
DESIGN CHOICE, log 74). -/
def deliver (f : Frame) (s : State) : State :=
  let n := f.station.toNat
  match f.body with
  | .beacon d w g r l =>
    electionAtBeacon n (g.getLsbD 2) (takeBeacon n f.feeder.toNat d w g r l s)
  | .leave => takeLeave n s
  | .alert _ => takeAlert n s
  | .sweepStep t i => takeSweepStep n t.toNat i.toNat s
  | .sweepAnswer _ c => takeSweepAnswer n c.toNat s
  | .sweepResult o x _ => takeSweepResult n o.toNat x.toNat s
  | .measureStart _ _ => takeMeasureStart s
  | .measureResult r g => takeMeasureResult r.toNat (g.getLsbD 0) s

/-- A well-formed frame goes by the feeder id it carries (R34). -/
def route (f : Frame) (s : State) : State :=
  if heldFeeder s = 0 then s
  else if f.feeder.toNat = heldFeeder s then deliver f s
  else if s.fli.foreignReported then s
  else raiseEvent .foreignFeeder { s with fli.foreignReported := true }

/-- Duplicate detection takes a good frame's station number (R35, R37). A duplicate found in LISTEN leaves a
LEAVE and its attempt as they are (log 62). -/
def detectDuplicate (station : BitVec 6) (s : State) : State :=
  if s.cpt.configured ∧ station.toNat = s.cfg.station ∧ ¬ s.fli.duplicate then
    let t := refreshLine (raiseEvent .duplicate { s with fli.duplicate := true })
    onlyIf (s.fli.line == .online) emptyForDuplicate t
  else s

/-- The acknowledge slot of a frame whose check matches (R33). -/
def driveAck (s : State) : State :=
  { s with fli.ackDriven := s.fli.line == .listen || s.fli.line == .online }

/-- A good frame with its well-formed reading, if it has one (R33 to R35). -/
def takeGood (station : BitVec 6) (frame : Option Frame) (s : State) : State :=
  let t := detectDuplicate station (driveAck s)
  match frame with
  | some f => route f t
  | none => t

/-- A frame received good, as the rows of the kinds give it (log 30): in OFFLINE nothing is received. -/
def receive (f : Frame) (s : State) : State :=
  if s.fli.line = .offline then s
  else takeGood f.station (if f.inRange then some f else none) s

/-- The bits of a frame that one check or another may drop (R33, log 44); a frame dropped in its end field
has been acknowledged. -/
def frameBits (bits : List Bool) (s : State) : State :=
  if s.fli.line = .offline then s
  else match receiveChecked bits with
    | none => { s with fli.ackDriven := false }
    | some (_, false) => driveAck s
    | some (r, true) => takeGood r.station r.frame? s

/-- FRAME_DROPPED. -/
def execFrameDropped (bits : List Bool) (s : State) : Host.Outcome State Fault Refusal :=
  whenRunning (frameBits bits) s

/-- BEACON_RECEIVED (R46). -/
def execBeaconReceived (station : BitVec 6) (feeder : Byte) (demand draw : Word16) (flags : Byte)
    (resistance : Word16) (leader : Byte) (s : State) : Host.Outcome State Fault Refusal :=
  whenRunning (receive ⟨station, feeder, .beacon demand draw flags resistance leader⟩) s

/-- LEAVE_RECEIVED (R49). -/
def execLeaveReceived (station : BitVec 6) (feeder : Byte) (s : State) :
    Host.Outcome State Fault Refusal :=
  whenRunning (receive ⟨station, feeder, .leave⟩) s

/-- ALERT_RECEIVED (R155). -/
def execAlertReceived (station : BitVec 6) (feeder : Byte) (resistance : Word16) (s : State) :
    Host.Outcome State Fault Refusal :=
  whenRunning (receive ⟨station, feeder, .alert resistance⟩) s

/-- SWEEP_STEP_RECEIVED (R158). -/
def execSweepStepReceived (station : BitVec 6) (feeder target index : Byte) (s : State) :
    Host.Outcome State Fault Refusal :=
  whenRunning (receive ⟨station, feeder, .sweepStep target index⟩) s

/-- SWEEP_ANSWER_RECEIVED (R156). -/
def execSweepAnswerReceived (station : BitVec 6) (feeder target code : Byte) (s : State) :
    Host.Outcome State Fault Refusal :=
  whenRunning (receive ⟨station, feeder, .sweepAnswer target code⟩) s

/-- SWEEP_RESULT_RECEIVED (R161). -/
def execSweepResultReceived (station : BitVec 6) (feeder outcome found unresponsive : Byte)
    (s : State) : Host.Outcome State Fault Refusal :=
  whenRunning (receive ⟨station, feeder, .sweepResult outcome found unresponsive⟩) s

/-- MEASURE_START_RECEIVED (R148). -/
def execMeasureStartReceived (station : BitVec 6) (feeder polarity half : Byte) (s : State) :
    Host.Outcome State Fault Refusal :=
  whenRunning (receive ⟨station, feeder, .measureStart polarity half⟩) s

/-- MEASURE_RESULT_RECEIVED (R144). -/
def execMeasureResultReceived (station : BitVec 6) (feeder : Byte) (resistance : Word16)
    (flags : Byte) (s : State) : Host.Outcome State Fault Refusal :=
  whenRunning (receive ⟨station, feeder, .measureResult resistance flags⟩) s

/-! ## Attempts (R30 to R32, R38, R40, R41) -/

/-- TX_ATTEMPT_START (R30). -/
def execTxAttemptStart (s : State) : Host.Outcome State Fault Refusal := whenRunning startAttempt s

/-- TX_ARBITRATION_LOST (R30). -/
def execTxArbitrationLost (s : State) : Host.Outcome State Fault Refusal := whenRunning dropAttempt s

/-- The line enters SILENT (R38). -/
def enterSilent (s : State) : State :=
  refreshLine
    (raiseEvent .lineFault
      { s with
        fli.attempt := none
        fli.queue := []
        fli.errorCount := 0
        fli.silentTimer := true })

/-- TX_BIT_ERROR (R31, R38). -/
def bitError (s : State) : State :=
  if s.fli.attempt = none then s
  else
    let t := dropAttempt { s with fli.errorCount := s.fli.errorCount + 1 }
    if 16 ≤ t.fli.errorCount then enterSilent t else t

@[inherit_doc bitError]
def execTxBitError (s : State) : Host.Outcome State Fault Refusal := whenRunning bitError s

/-- The outcome of a completed beacon joins the acknowledge history (R32, R62). -/
def noteOutcome (heard : Bool) (s : State) : State :=
  updateFallback { s with fli.ackHistory := addOutcome heard s.fli.ackHistory }

/-- What the frame of a completed attempt leaves behind (R32, R41). -/
def attemptOutcome (b : FrameBody) (heard : Bool) (s : State) : State :=
  match b with
  | .leave => { s with fli.departed := true }
  | .beacon .. => noteOutcome heard s
  | _ => s

/-- TX_COMPLETE (R31, R32, R40). -/
def txComplete (heard : Bool) (s : State) : State :=
  match s.fli.attempt with
  | none => s
  | some f => attemptOutcome f.body heard (leaveQueue { s with fli.errorCount := 0 })

@[inherit_doc txComplete]
def execTxComplete (acknowledged : Bool) (s : State) : Host.Outcome State Fault Refusal :=
  whenRunning (txComplete acknowledged) s

/-- The SILENT timer expires (R38). -/
def silentExpiry (s : State) : State :=
  if s.fli.silentTimer then refreshLine { s with fli.silentTimer := false } else s

@[inherit_doc silentExpiry]
def execSilentTimerExpiry (s : State) : Host.Outcome State Fault Refusal := whenRunning silentExpiry s

/-! ## The beacon period event (R50, R57, R146, R148) -/

/-- Aging (R50). -/
def ageTable (s : State) : State :=
  let kept := agePeers s.shu.peers
  onlyIf (kept.length < s.shu.peers.length) (raiseEvent .peers) { s with shu.peers := kept }

/-- The overflow count runs down (R48). -/
def lowerOverflow (s : State) : State := { s with shu.overflow := s.shu.overflow - 1 }

/-- The own station is eligible (R146). -/
def ownEligible (s : State) : Bool :=
  s.imn.mode != .localMode && s.fli.line == .online

/-- The clear count may rise (R146). -/
def clearPeriod (s : State) : Bool :=
  ownEligible s && s.imn.backoff == 0 && !lowerEligible s && !s.imn.measurerHeard

/-- IMN's counts at a beacon period event (R146, R148, log 23). -/
def electionCounts (s : State) : State :=
  { s with
    imn.clearCount :=
      if s.imn.mode = .passive then (if clearPeriod s then s.imn.clearCount + 1 else 0)
      else s.imn.clearCount
    imn.backoff := s.imn.backoff - 1
    imn.measurerHeard := false }

/-- The clear count has reached 3 (R146). -/
def roleDue (s : State) : Bool := s.imn.mode == .passive && 3 ≤ s.imn.clearCount

/-- The role is taken, where it is due and still this station's to take (R146, log 2). -/
def measuringRoleTake (s : State) : State :=
  if roleDue s then
    if ownEligible s ∧ ¬ lowerEligible s then takeRole s else { s with imn.clearCount := 0 }
  else s

@[inherit_doc measuringRoleTake]
def execMeasuringRoleTake (s : State) : Host.Outcome State Fault Refusal :=
  whenRunning measuringRoleTake s

/-- SHU's part of the event (R57). -/
def sharePeriod (s : State) : State :=
  let t := updateFallback (lowerOverflow (ageTable s))
  let u := evaluate (fullComputation (handDOwn (evaluate t)))
  enqueue (ownBeacon u) u

/-- The beacon period event, where its timer runs (R42, R57, R146); a role still due is taken first
(log 2). -/
def beaconPeriod (s : State) : State :=
  match s.fli.beaconTimer with
  | none => s
  | some _ =>
    electionCounts (sharePeriod
      (measuringRoleTake { s with fli.beaconTimer := some 250 }))

@[inherit_doc beaconPeriod]
def execBeaconPeriodEvent (s : State) : Host.Outcome State Fault Refusal := whenRunning beaconPeriod s

/-- The removal of entries that have reached age 4 (R50), which the beacon period event has made
(log 2). -/
def removeAged (s : State) : State :=
  let kept := s.shu.peers.filter fun e => e.age < 4
  onlyIf (kept.length < s.shu.peers.length) (raiseEvent .peers)
    (updateFallback { s with shu.peers := kept })

@[inherit_doc removeAged]
def execPeerAgedOut (s : State) : Host.Outcome State Fault Refusal := whenRunning removeAged s

/-- The overflow condition is evaluated again (R48, R61). -/
def execOverflowEnd (s : State) : Host.Outcome State Fault Refusal := whenRunning updateFallback s

/-- The back-off count has run down to 0: `clearPeriod` reads it as it stands (R148, log 2). -/
def execBackoffEnd (s : State) : Host.Outcome State Fault Refusal := whenRunning (fun s => s) s

end Sys2Proof.Machine
end

