-- ==== Sys2Proof/Machine/Measure.lean ====
section
/-! DEFINITION. The Measurement Sequencer (chapter 6): scans and their publication, corrections and
limits, crossings and spans, the line period and the grid angle; and the services of a carrier trough
(R89, R91, R105). -/

namespace Sys2Proof.Machine

/-! ## Correction and limits (R109, R111) -/

/-- The raw count of a slot (R107). -/
def rawCount (i : Fin 16) (w : Word16) : Int := if signedSlot i then w.toInt else w.toNat

/-- The corrected result of a raw count (R109). -/
def corrected (i : Fin 16) (c : SlotSettings) (raw : Int) : Int :=
  clampInt ((raw - c.offset) * c.gain / 65536) (slotMin i) (slotMax i)

/-- A slot record at the publication of a raw count: settings accepted come into use, the result is
corrected, and the statuses are latched (R109 to R111). -/
def SlotRecord.publish (i : Fin 16) (w : Word16) (r : SlotRecord) : SlotRecord :=
  let c := r.next.getD r.inUse
  let x := corrected i c (rawCount i w)
  { latest := x, inUse := c, next := none,
    lowSeen := r.lowSeen || decide (x < c.low), highSeen := r.highSeen || decide (c.high < x) }

/-- The results of a scan from slot `first` on replace the latest ones (R108). -/
def publishSlots : (first : Nat) → List Word16 → Vector SlotRecord 16 → Vector SlotRecord 16
  | _, [], v => v
  | i, w :: ws, v =>
    if h : i < 16 then publishSlots (i + 1) ws (v.set i (v[i].publish ⟨i, h⟩ w)) else v

/-- The limit action of a slot at a result just published (R111, R103). -/
def limitAction (i : Fin 16) (s : State) : State :=
  if s.msq.slots[i].outside then
    match s.msq.slots[i].inUse.action with
    | .none => s
    | .event => raiseEvent .limit s
    | .trip => raiseTrip (.limit i) s
  else s

/-- The slots of a scan in their order. -/
def ScanKind.slots : ScanKind → List (Fin 16)
  | .fast => [0, 1, 2, 3, 4, 5, 6, 7, 8, 9]
  | .slow => [10, 11, 12, 13, 14, 15]

/-- The raw counts of a scan in slot order. -/
def rawCounts (pairs : List (Word16 × Word16)) : List Word16 := pairs.flatMap fun p => [p.1, p.2]

/-- A scan's results are corrected, published and checked (R108 to R111). -/
def publishScan (k : ScanKind) (pairs : List (Word16 × Word16)) (s : State) : State :=
  let first := match k with
    | .fast => 0
    | .slow => 10
  k.slots.foldl (fun t i => limitAction i t)
    { s with msq.slots := publishSlots first (rawCounts pairs) s.msq.slots }

/-! ## Spans and crossings (R115 to R117) -/

/-- The slots of a phase's voltage and current (R107). -/
def voltageSlot : Phase → Fin 16
  | .u => 0
  | .v => 2
  | .w => 4
@[inherit_doc voltageSlot]
def currentSlot : Phase → Fin 16
  | .u => 1
  | .v => 3
  | .w => 5

/-- A phase's RMS values become new, and are handed on (R72, R116). -/
def handRms (k : Phase) (m : PhaseMeter) (s : State) : State :=
  newRms k { s with msq.phases := s.msq.phases.set k m }

/-- The accumulators emptied. -/
def PhaseMeter.emptied (m : PhaseMeter) : PhaseMeter := { m with sumV := 0, sumI := 0, count := 0 }

/-- One sample squared and added (R116). -/
def PhaseMeter.addSample (v i : Int) (m : PhaseMeter) : PhaseMeter :=
  { m with
    sumV := m.sumV + v.natAbs * v.natAbs
    sumI := m.sumI + i.natAbs * i.natAbs
    count := m.count + 1 }

/-- The RMS of a whole span (R116). -/
def PhaseMeter.rms (m : PhaseMeter) : PhaseMeter :=
  { m with rmsV := isqrt (m.sumV / m.count), rmsI := isqrt (m.sumI / m.count) }

/-- A span has run for the lapse (R116). -/
def spanDue (k : Phase) (s : State) : Bool := lapseCount s ≤ (s.msq.phases.get k).count

/-- A span is closed by its lapse, where it is due (R116, log 2). Its count has the crossing's own sample first,
so the lapse comes one trough before the one 6.11 puts it at (DESIGN CHOICE, log 75). -/
def spanLapse (k : Phase) (s : State) : State :=
  if spanDue k s then
    handRms k { (s.msq.phases.get k).emptied with rmsV := 0, rmsI := 0, seen := false } s
  else s

@[inherit_doc spanLapse]
def execSpanLapse (phase : Phase) (s : State) : Host.Outcome State Fault Refusal :=
  whenRunning (spanLapse phase) s

/-- P in range (R117). -/
def periodInRange (fc p : Nat) : Bool := fc ≤ 65 * p && 45 * p ≤ fc

/-- The line period out-of-range condition becomes `b`; GRID_FREQ where it comes to hold (R117). -/
def setOutOfRange (b : Bool) (s : State) : State :=
  takeOutOfRange b (onlyIf (b && !s.msq.outOfRange) (raiseEvent .gridFreq) s)

/-- A rising crossing of VU, with the crossing-seen flag as it was before (R117, R118). The restart of
the grid supervision timer leaves a running timer running (R101, log 1). -/
def lineCrossing (seenBefore : Bool) (s : State) : State :=
  let p := s.msq.troughs
  let t := { s with msq.troughs := 0, msq.theta := 0 }
  if seenBefore then setOutOfRange (!periodInRange s.ptu.fc p) { t with msq.period := p } else t

/-- The detector and accumulators of a phase at a rising crossing (R115, R116). -/
def PhaseMeter.cross (v i : Int) (m : PhaseMeter) : PhaseMeter :=
  let closed := if m.seen then m.rms else m
  ({ closed.emptied with armed := false, seen := true }).addSample v i

/-- The detector and accumulators of a phase at a result that is no crossing (R115, R116). -/
def PhaseMeter.pass (v i : Int) (m : PhaseMeter) : PhaseMeter :=
  ({ m with armed := m.armed || decide (v ≤ -100) }).addSample v i

/-- A rising crossing (R115). -/
def PhaseMeter.crosses (v : Int) (m : PhaseMeter) : Bool := m.armed && decide (0 ≤ v)

/-- A phase's part of a fast publication (R115, R116). At a crossing of VU the new RMS voltage is handed on
before the line period is judged (log 16). -/
def phaseResult (k : Phase) (s : State) : State :=
  let m := s.msq.phases.get k
  let v := slotValue (voltageSlot k) s
  let i := slotValue (currentSlot k) s
  if m.crosses v then
    let t := { s with msq.phases := s.msq.phases.set k (m.cross v i) }
    let u := onlyIf m.seen (newRms k) t
    match k with
    | .u => lineCrossing m.seen u
    | _ => u
  else { s with msq.phases := s.msq.phases.set k (m.pass v i) }

/-- The trough count has reached the lapse without a crossing of VU (R117). -/
def lineLapseDue (s : State) : Bool := lapseCount s ≤ s.msq.troughs && !s.msq.outOfRange

/-- The out-of-range condition comes to hold by the trough count, where it is due (R117, log 2). -/
def linePeriodLapse (s : State) : State := if lineLapseDue s then setOutOfRange true s else s

/-! ## What each publication hands on (R112, log 16) -/

/-- IHEAT into the heater current accumulator (R128). -/
def accumulateHeat (s : State) : State :=
  { s with htr.accSum := s.htr.accSum + iHeat s, htr.accCount := s.htr.accCount + 1 }

/-- Slot 9 reads above its high limit (R111, R131). -/
def heaterOver (s : State) : Bool := decide (s.msq.slots[9].inUse.high < s.msq.slots[9].latest)

/-- The publication of the fast scan (R112); lapses due are taken first (log 2). -/
def publishFast (pairs : List (Word16 × Word16)) (s : State) : State :=
  let t := spanLapse .w (spanLapse .v (spanLapse .u (linePeriodLapse s)))
  let u := currentResult (batteryResult (linkResult (prechargeResult (publishScan .fast pairs t))))
  let h := accumulateHeat u
  let x := onlyIf (heaterOver h) heaterOvercurrent h
  phaseResult .w (phaseResult .v (phaseResult .u x))

/-- A temperature result is valid (R113). -/
def validTemperature (t : Int) : Bool := decide (-400 ≤ t) && decide (t ≤ 1200)

/-- The three sensors are judged (R113). -/
def judgeSensors (s : State) : State :=
  { s with
    msq.tbat1Valid := validTemperature (slotValue 10 s)
    msq.tbat2Valid := validTemperature (slotValue 11 s)
    msq.tcoolValid := validTemperature (slotValue 12 s) }

/-- The publication of the slow scan (R112). -/
def publishSlow (pairs : List (Word16 × Word16)) (s : State) : State :=
  let t := takeTemperature (judgeSensors (publishScan .slow pairs s))
  takeProximity (slotValue 15 t) (takeViso (slotValue 13 t) t)

/-! ## The converters (R108) -/

/-- The converters take the next pair where they are free: the fast scan's first (R108). -/
def handConverters (m : Msq) : Msq :=
  match m.converting, m.fastScan, m.slowScan with
  | some _, _, _ => m
  | none, some _, _ => { m with converting := some .fast }
  | none, none, some _ => { m with converting := some .slow }
  | none, none, none => m

/-- A fast scan starts; one in progress goes on (R108, log 17). -/
def startFastScan (s : State) : State :=
  if s.msq.fastScan.isSome then s
  else { s with msq := handConverters { s.msq with fastScan := some [] } }

/-- The slow-scan timer expires (R108): a slow scan in progress goes on. -/
def slowScanExpiry (s : State) : State :=
  if s.msq.slowScan.isSome then s
  else { s with msq := handConverters { s.msq with slowScan := some [] } }

@[inherit_doc slowScanExpiry]
def execSlowScanTimerExpiry (s : State) : Host.Outcome State Fault Refusal :=
  whenRunning slowScanExpiry s

/-- A pair of the fast scan ends (R108). -/
def fastPair (p : Word16 × Word16) (s : State) : State :=
  let done := s.msq.fastScan.getD [] ++ [p]
  let m := { s.msq with converting := none }
  if done.length < 5 then { s with msq := handConverters { m with fastScan := some done } }
  else publishFast done { s with msq := handConverters { m with fastScan := none } }

/-- A pair of the slow scan ends (R108). -/
def slowPair (p : Word16 × Word16) (s : State) : State :=
  let done := s.msq.slowScan.getD [] ++ [p]
  let m := { s.msq with converting := none }
  if done.length < 3 then { s with msq := handConverters { m with slowScan := some done } }
  else publishSlow done { s with msq := handConverters { m with slowScan := none } }

/-- A conversion of one pair ends with its two raw counts (R108). -/
def pairDone (first second : Word16) (s : State) : State :=
  match s.msq.converting with
  | none => s
  | some .fast => fastPair (first, second) s
  | some .slow => slowPair (first, second) s

@[inherit_doc pairDone]
def execPairConversionDone (first second : Word16) (s : State) :
    Host.Outcome State Fault Refusal :=
  whenRunning (pairDone first second) s

/-! ## The carrier trough (R89, R105, R117 to R119) -/

@[inherit_doc linePeriodLapse]
def execLinePeriodLapse (s : State) : Host.Outcome State Fault Refusal :=
  whenRunning linePeriodLapse s

/-- θ at a trough count (R118). -/
def thetaAt (period troughs : Nat) : Nat :=
  if period = 0 then 0 else min 255 (256 * troughs / period)

/-- The trough count and θ at a trough (R117, R118). -/
def advanceLine (s : State) : State :=
  let n := min 65535 (s.msq.troughs + 1)
  { s with msq.troughs := n, msq.theta := thetaAt s.msq.period n }

/-- The interruption of the line timing (R119). -/
def interruptLine (s : State) : State :=
  let cut (m : PhaseMeter) : PhaseMeter := { m.emptied with seen := false }
  takeOutOfRange true
    { s with
      msq.period := 0
      msq.theta := 0
      msq.troughs := 0
      msq.phases := ⟨cut s.msq.phases.u, cut s.msq.phases.v, cut s.msq.phases.w⟩ }

/-- A carrier frequency and divider accepted by CONFIGURE come into use, with the trough counter at 0
(R89, R105, R119): that trough itself is not counted and gives no loop event (log 52). Otherwise the
counters advance. -/
def troughCounters (s : State) : State :=
  match s.ptu.nextTiming with
  | some (fc, n) =>
    let t := { s with ptu.fc := fc, ptu.divider := n, ptu.nextTiming := none, ptu.troughCount := 0 }
    if fc = s.ptu.fc then advanceLine t else interruptLine t
  | none => advanceLine { s with ptu.troughCount := s.ptu.troughCount + 1 }

/-- The compare buffer is transferred, and the legs follow the trough's position (R89 to R91). -/
def transferCompare (s : State) : State :=
  formCommands { s with ptu.inUse := s.ptu.buffer, ptu.position := 0 }

/-- A carrier trough (R105); a loop event or a lapse still due is taken first (log 2). -/
def carrierTrough (s : State) : State :=
  startFastScan (transferCompare (troughCounters (linePeriodLapse (loopEvent s))))

@[inherit_doc carrierTrough]
def execCarrierTrough (s : State) : Host.Outcome State Fault Refusal := whenRunning carrierTrough s

/-! ## READ_MEASURE (R114) -/

/-- The RMS value of a slot (R114, R116). -/
def rmsOfSlot (i : Fin 16) (s : State) : Option Nat :=
  match i with
  | 0 => some s.msq.phases.u.rmsV
  | 1 => some s.msq.phases.u.rmsI
  | 2 => some s.msq.phases.v.rmsV
  | 3 => some s.msq.phases.v.rmsI
  | 4 => some s.msq.phases.w.rmsV
  | 5 => some s.msq.phases.w.rmsI
  | _ => none

/-- The validity of a temperature slot's sensor (R113, R114). -/
def validityOfSlot (i : Fin 16) (s : State) : Option Bool :=
  match i with
  | 10 => some s.msq.tbat1Valid
  | 11 => some s.msq.tbat2Valid
  | 12 => some s.msq.tcoolValid
  | _ => none

/-- READ_MEASURE's report (R114). -/
def measureReport (i : Fin 16) (s : State) : MeasureReport where
  slot := i
  latest := s.msq.slots[i].latest
  lowSeen := s.msq.slots[i].lowSeen
  highSeen := s.msq.slots[i].highSeen
  settings := s.msq.slots[i].inUse
  rms := rmsOfSlot i s
  timing := if i = 0 then some ⟨s.msq.period, s.msq.outOfRange, s.msq.theta⟩ else none
  valid := validityOfSlot i s

/-- Both statuses of a slot are cleared (R114). -/
def clearSeen (i : Fin 16) (s : State) : State :=
  { s with msq.slots := s.msq.slots.set i { s.msq.slots[i] with lowSeen := false, highSeen := false } }

/-- READ_MEASURE (R114). -/
def readMeasure (slot clear : Byte) (s : State) : State :=
  if h : slot.toNat < 16 then
    if 1 < clear.toNat then answerEmpty .badValue s
    else
      onlyIf (clear == 1) (clearSeen ⟨slot.toNat, h⟩)
        (answer .accepted (.measure (measureReport ⟨slot.toNat, h⟩ s)) s)
  else answerEmpty .badSlot s

@[inherit_doc readMeasure]
def execReadMeasure (slot clear : Byte) (s : State) : Host.Outcome State Fault Refusal :=
  whenRunning (readMeasure slot clear) s

end Sys2Proof.Machine
end

