-- ==== Sys2Proof/Machine/Operands.lean ====
section
/-! DEFINITION. The operands of CONFIGURE: ranges, cross checks and clamps of every field (12.4, R198), and
the settings an accepted payload gives. -/

namespace Sys2Proof.Machine

/-! ## Ranges (12.4) -/

/-- A value lies between two bounds. -/
def within (lo x hi : Int) : Bool := decide (lo ≤ x) && decide (x ≤ hi)

/-- A payload's slot; a slot the payload does not have reads as zeros (no well-formed payload lacks
one). -/
def payloadSlot (p : ConfigPayload) (i : Nat) : SlotPayload := p.slots.getD i ⟨0, 0, 0, 0, 0⟩

/-- The refused fields of a slot with their indices: offset, gain trim, limit action (12.4). -/
def slotChecks (p : ConfigPayload) (i : Nat) : List (Nat × Bool) :=
  let x := payloadSlot p i
  [(33 + 5 * i, within (-2048) x.offset.toInt 2047),
   (34 + 5 * i, within 32768 x.gain.toNat 98304),
   (37 + 5 * i, within 0 x.action.toNat 2)]

/-- The refused fields in index order, each with whether it lies in its range (12.4). -/
def fieldChecks (p : ConfigPayload) : List (Nat × Bool) :=
  [(1, within 1 p.station.toNat 62), (2, within 8000 p.fc.toNat 20000),
   (3, within 1 p.divider.toNat 4), (5, within 0 p.feLevel.toNat 1), (6, within 0 p.dcLevel.toNat 1),
   (7, within 0 p.heaterLevel.toNat 1), (8, within 0 p.floatOnTrip.toNat 1),
   (9, within 1 p.extFilter.toNat 16), (10, within 800 p.eta.toNat 990),
   (15, within 0 p.policy.toNat 1), (16, within 0 p.vPre.toNat 9000),
   (17, within 0 p.vLinkTarget.toNat 9000), (18, within 0 p.linkCeiling.toNat 9500),
   (19, within 0 p.iFull.toNat 1000), (22, within 0 p.kpLink.toNat 4095),
   (23, within 0 p.kiLink.toNat 4095), (24, within 0 p.kpBat.toNat 4095),
   (25, within 0 p.kiBat.toNat 4095), (26, within (-400) p.tCold.toInt 400),
   (27, within 1 p.rc.toNat 2000), (28, within 1 p.rm.toNat 200),
   (31, within 2 p.rWarn.toNat 50000), (32, within 1 p.rAlarm.toNat 49999)]
  ++ (List.range 16).flatMap (slotChecks p)

/-- A limit of a slot, read as its sign says (12.4). -/
def limitOf (i : Nat) (w : Word16) : Int := if signedSlot i then w.toInt else w.toNat

/-- The cross checks in their order: R_alarm below R_warn, then each slot's limits (R198, log 33). -/
def crossChecks (p : ConfigPayload) : List (Nat × Bool) :=
  (32, decide (p.rAlarm.toNat < p.rWarn.toNat)) ::
  (List.range 16).map fun i =>
    (35 + 5 * i, decide (limitOf i (payloadSlot p i).low ≤ limitOf i (payloadSlot p i).high))

/-- The index BAD_CONFIG carries; none for a payload that passes (R198). -/
def badField (p : ConfigPayload) : Option Nat :=
  ((fieldChecks p ++ crossChecks p).find? fun c => !c.2).map (·.1)

/-! ## Clamps (12.4, R198) -/

/-- F in use. -/
def fallbackInUse (p : ConfigPayload) : Nat := clampNat p.fallback.toNat 0 160

/-- The clamped fields in index order: index, value sent, value in use (12.4). -/
def clamps (p : ConfigPayload) : List (Nat × Nat × Nat) :=
  [(4, p.deadTime.toNat, clampNat p.deadTime.toNat 200 3000),
   (11, p.margin.toNat, clampNat p.margin.toNat 0 2000),
   (12, p.riseStep.toNat, clampNat p.riseStep.toNat 10 200),
   (13, p.joinCurrent.toNat, clampNat p.joinCurrent.toNat 0 (fallbackInUse p)),
   (14, p.fallback.toNat, fallbackInUse p),
   (21, p.rUp.toNat, clampNat p.rUp.toNat 1 200),
   (29, p.uInj.toNat, clampNat p.uInj.toNat 25 100),
   (30, p.tHalfMax.toNat, clampNat p.tHalfMax.toNat 1 8)]

/-- The indices of the fields clamped (R198). -/
def clampedFields (p : ConfigPayload) : List Nat :=
  ((clamps p).filter fun c => c.2.1 != c.2.2).map (·.1)

/-! ## The settings of an accepted payload -/

/-- The level of a 0 or 1 (12.4, fields 5 to 7). -/
def levelOf (b : Byte) : Level := if b = 0 then .high else .low

/-- The settings of a payload (12.4). -/
def settingsOf (p : ConfigPayload) : Settings where
  station     := p.station.toNat
  deadTime    := clampNat p.deadTime.toNat 200 3000
  feLevel     := some (levelOf p.feLevel)
  dcLevel     := some (levelOf p.dcLevel)
  heaterLevel := some (levelOf p.heaterLevel)
  floatOnTrip := p.floatOnTrip == 1
  extFilter   := p.extFilter.toNat
  eta         := p.eta.toNat
  margin      := clampNat p.margin.toNat 0 2000
  riseStep    := clampNat p.riseStep.toNat 10 200
  joinCurrent := clampNat p.joinCurrent.toNat 0 (fallbackInUse p)
  fallback    := fallbackInUse p
  policy      := if p.policy = 0 then .strict else .lenient
  vPre        := p.vPre.toNat
  vLinkTarget := p.vLinkTarget.toNat
  linkCeiling := p.linkCeiling.toNat
  iFull       := p.iFull.toNat
  kCv         := p.kCv.toNat
  rUp         := clampNat p.rUp.toNat 1 200
  kpLink      := p.kpLink.toNat
  kiLink      := p.kiLink.toNat
  kpBat       := p.kpBat.toNat
  kiBat       := p.kiBat.toNat
  tCold       := p.tCold.toInt
  rc          := p.rc.toNat
  rm          := p.rm.toNat
  uInj        := clampNat p.uInj.toNat 25 100
  tHalfMax    := clampNat p.tHalfMax.toNat 1 8
  rWarn       := p.rWarn.toNat
  rAlarm      := p.rAlarm.toNat

/-- The limit action of its code (12.4). -/
def actionOf (b : Byte) : LimitAction :=
  match b.toNat with
  | 0 => .none
  | 1 => .event
  | _ => .trip

/-- The settings of a slot (R110, 12.4). -/
def slotSettingsOf (p : ConfigPayload) (i : Nat) : SlotSettings :=
  let x := payloadSlot p i
  { offset := x.offset.toInt, gain := x.gain.toNat, low := limitOf i x.low,
    high := limitOf i x.high, action := actionOf x.action }

/-- Every slot holds its accepted settings until its next publication (R110). -/
def acceptSlots (p : ConfigPayload) (v : Vector SlotRecord 16) : Vector SlotRecord 16 :=
  Vector.ofFn fun i => { v[i] with next := some (slotSettingsOf p i) }

end Sys2Proof.Machine
end

