-- ==== Sys2Proof/Machine/Plug.lean ====
section
/-! DEFINITION. The rows of the Plug Sequencer (chapter 1): the host's commands, the pilot, the timers and
the relay contacts. -/

namespace Sys2Proof.Machine

/-! ## Identification (R6 to R8) -/

/-- GO_IDENTIFY (R6). -/
def goIdentify (s : State) : State :=
  if ¬ s.cpt.configured then answerEmpty .notConfigured s
  else if s.psq.cancelPending then answerEmpty .busy s
  else if s.psq.seq ≠ .plugged then answerEmpty .wrongState s
  else answerEmpty .accepted
    (enterSeq .identifying
      { s with psq.query := true, psq.identTimer := true, psq.assembly := .waiting, psq.prevCode := none })

@[inherit_doc goIdentify]
def execGoIdentify (s : State) : Host.Outcome State Fault Refusal := whenRunning goIdentify s

/-- The number a field of a code stands for, first bit most significant (R7). -/
def codeField (start len : Nat) (bits : List Bool) : Nat := natOfBits ((bits.drop start).take len)

/-- A complete code is valid (R7). -/
def codeValid (bits : List Bool) : Bool :=
  codeField 18 2 bits == ((bits.take 18).filter id).length % 4
    && codeField 14 4 bits ≤ 9 && codeField 0 8 bits != 0 && codeField 8 6 bits != 0

/-- The identification of a valid code (R7, R8). -/
def identOfCode (bits : List Bool) : Identification where
  feederId := codeField 0 8 bits
  capacity := codeField 8 6 bits * 100
  ratingClass := codeField 14 4 bits
  lenient := false

/-- The identification of the LENIENT policy (R8). -/
def lenientIdent : Identification := ⟨0, 0, 0, true⟩

/-- IDENTIFIED is entered with an identification (R8). -/
def identify (i : Identification) (s : State) : State :=
  raiseEvent .identDone (enterSeq .identified { s with psq.ident := some i })

/-- A complete code is taken (R8). -/
def takeCode (bits : List Bool) (s : State) : State :=
  if codeValid bits ∧ s.psq.prevCode = some bits then identify (identOfCode bits) s
  else { s with psq.prevCode := some bits, psq.assembly := .complete }

/-- The complete code, where twenty bits stand assembled and not yet taken (R7, R8, log 2). -/
def pilotCodeComplete (s : State) : State :=
  match s.psq.assembly with
  | .collecting bits => if bits.length = 20 ∧ s.psq.query then takeCode bits s else s
  | _ => s

@[inherit_doc pilotCodeComplete]
def execPilotCodeComplete (s : State) : Host.Outcome State Fault Refusal :=
  whenRunning pilotCodeComplete s

/-- A break: the partial code is discarded and the record of the previous code emptied (R7). -/
def breakCode (p : Psq) : Psq := { p with assembly := .waiting, prevCode := none }

/-- The bit of a pulse width in units of 10 µs (R7). -/
def pulseBit (width : Nat) : Option Bool :=
  if 70 ≤ width ∧ width ≤ 130 then some false
  else if 170 ≤ width ∧ width ≤ 230 then some true
  else none

/-- A pulse has ended (R7). -/
def takePulse (width : Nat) (p : Psq) : Psq :=
  match p.assembly with
  | .waiting => p
  | .complete => breakCode p
  | .collecting bits =>
    match pulseBit width with
    | some b => { p with assembly := .collecting (bits ++ [b]) }
    | none => breakCode p

/-- A rest has ended or reached the start rest (R7). -/
def takeRest (width : Nat) (p : Psq) : Psq :=
  match p.assembly with
  | .collecting _ =>
    if 400 ≤ width then { p with assembly := .collecting [], prevCode := none }
    else if 50 ≤ width ∧ width ≤ 250 then p
    else breakCode p
  | _ => if 400 ≤ width then { p with assembly := .collecting [] } else p

/-- An edge of the pilot sense input, which ends a pulse or a rest of this width (R7); a code that is
complete and not yet taken is taken first (log 2). -/
def pilotEdge (span : PilotSpan) (width : Nat) (s : State) : State :=
  let t := pilotCodeComplete s
  if t.psq.query then
    match span with
    | .pulse => { t with psq := takePulse width t.psq }
    | .rest => { t with psq := takeRest width t.psq }
  else t

@[inherit_doc pilotEdge]
def execPilotSenseEdge (span : PilotSpan) (width : Nat) (s : State) :
    Host.Outcome State Fault Refusal :=
  whenRunning (pilotEdge span width) s

/-- The identification timer reaches 500 ms (R8). -/
def identTimeout (s : State) : State :=
  if s.psq.identTimer then
    match s.cfg.policy with
    | .strict => enterFault .identFail s
    | .lenient => identify lenientIdent s
  else s

@[inherit_doc identTimeout]
def execIdentTimeout (s : State) : Host.Outcome State Fault Refusal := whenRunning identTimeout s

/-! ## GO_ENERGIZE (R9, R11) -/

/-- The checks of R9, in their order: the refusal, or the copy the Tariff Meter takes. -/
def energizeCheck (slot : Byte) (s : State) : Status ⊕ DescCopy :=
  if ¬ s.cpt.configured then .inl .notConfigured
  else if s.psq.cancelPending then .inl .busy
  else if s.psq.seq ≠ .identified ∧ s.psq.seq ≠ .suspended then .inl .wrongState
  else if tripped s then .inl .tripLatched
  else if s.imn.ownFault then .inl .insulationFault
  else if ¬ s.imn.localFlag then .inl .insulationUnknown
  else if s.mst.stacked.isSome then .inl .backlog
  else match validCopy slot s with
    | none => .inl .badSlot
    | some c => .inr c

/-- ACTIVE is resumed from SUSPENDED (R11, R175). -/
def resume (s : State) : State :=
  let x := activatePrefetched (enterSeq .active { s with psq.start := none })
  takeRequest x.2 x.1

/-- GO_ENERGIZE (R9). -/
def goEnergize (slot : Byte) (stamp : Word32) (s : State) : State :=
  match energizeCheck slot s with
  | .inl refusal => answerEmpty refusal s
  | .inr c =>
    let t := { s with mtr.prefetched := some c, psq.start := some (c.slot, stamp) }
    answerEmpty .accepted (if s.psq.seq = .suspended then resume t else startPrecharge t)

@[inherit_doc goEnergize]
def execGoEnergize (slot : Byte) (stamp : Word32) (s : State) : Host.Outcome State Fault Refusal :=
  whenRunning (goEnergize slot stamp) s

/-! ## GO_STOP, GO_IDLE and CANCEL (R13, R15, R16, R20) -/

/-- The states in which a stop request of the host is taken (R13). -/
def SeqState.stoppable : SeqState → Bool
  | .active | .suspended => true
  | .sweepIsolated _ => true
  | _ => false

/-- GO_STOP (R13). -/
def goStop (s : State) : State :=
  if s.psq.cancelPending then answerEmpty .busy s
  else if s.psq.seq.stoppable then answerEmpty .accepted (stopRequest .hostStop s)
  else answerEmpty .wrongState s

@[inherit_doc goStop]
def execGoStop (s : State) : Host.Outcome State Fault Refusal := whenRunning goStop s

/-- The copy of an energizing in progress is dropped (R15, R174). -/
def dropIfEnergizing (s : State) : State := onlyIf (s.psq.seq == .precharge) dropPrefetched s

/-- What GO_IDLE does outside FAULT (R15, R24, R160). -/
def idle (s : State) : State :=
  let t := stopTimers (openRelays (clearEnable s))
  let u := leaveTarget s.psq.seq (endSession .hostIdle (dropIfEnergizing t))
  enterSeq .plugged (forgetStop (enqueue .leave u))

/-- GO_IDLE in FAULT (R20); a station ONLINE queues LEAVE as R15 says (log 49). -/
def idleFromFault (s : State) : State :=
  if tripped s then answerEmpty .tripLatched s
  else if s.psq.contactorFb then answerEmpty .contactorClosed s
  else answerEmpty .accepted
    (enterSeq (if s.psq.prox = .none then .unplugged else .plugged)
      { enqueue .leave s with psq.faultCause := none })

/-- GO_IDLE (R15, R20). -/
def goIdle (s : State) : State :=
  if s.psq.cancelPending then answerEmpty .busy s
  else match s.psq.seq with
    | .unplugged => answerEmpty .wrongState s
    | .plugSettle => answerEmpty .wrongState s
    | .stopping => answerEmpty .wrongState s
    | .fault => idleFromFault s
    | _ => answerEmpty .accepted (idle s)

@[inherit_doc goIdle]
def execGoIdle (s : State) : Host.Outcome State Fault Refusal := whenRunning goIdle s

/-- A cancel in PRECHARGE starts (R16). -/
def startCancel (s : State) : State :=
  cancelComplete
    (withdraw { s with psq.cancelPending := true, psq.cancelContactor := s.psq.contactorCmd })

/-- CANCEL (R16). -/
def cancel (s : State) : State :=
  match s.psq.seq with
  | .identifying => answerEmpty .accepted (enterSeq .plugged s)
  | .precharge =>
    if s.psq.cancelPending then answerEmpty .busy s else answerEmpty .accepted (startCancel s)
  | .active => answerEmpty .tooLate s
  | .stopping => answerEmpty .notCancelable s
  | .sweepIsolated _ => answerEmpty .notCancelable s
  | _ => answerEmpty .wrongState s

@[inherit_doc cancel]
def execCancel (s : State) : Host.Outcome State Fault Refusal := whenRunning cancel s

/-! ## Timers (R3, R10, R13, R14, R22, R23) -/

/-- PLUG_SETTLE ends, where it is due (R3). -/
def execPlugSettleComplete (s : State) : Host.Outcome State Fault Refusal :=
  whenRunning plugSettled s

/-- The precharge timer expires (R10, R23). -/
def prechargeTimeout (s : State) : State :=
  if s.psq.prechargeTimer then enterFault .prechargeFail s else s

@[inherit_doc prechargeTimeout]
def execPrechargeTimeout (s : State) : Host.Outcome State Fault Refusal :=
  whenRunning prechargeTimeout s

/-- The contactor timer expires (R10, R23). -/
def contactorTimeout (s : State) : State :=
  if s.psq.contactorTimer then enterFault .contactorFail s else s

@[inherit_doc contactorTimeout]
def execContactorTimeout (s : State) : Host.Outcome State Fault Refusal :=
  whenRunning contactorTimeout s

/-- The battery-low timer reaches 1 s (R13). -/
def batteryLowTimeout (s : State) : State :=
  if s.psq.batteryLow ∧ s.psq.seq = .active then
    stopRequest .batteryLow { s with psq.batteryLow := false }
  else s

@[inherit_doc batteryLowTimeout]
def execBatteryLowTimeout (s : State) : Host.Outcome State Fault Refusal :=
  whenRunning batteryLowTimeout s

/-- The 3 s timer of STOPPING or ISO_RAMP expires (R14, R22). -/
def stopTimerExpiry (s : State) : State := if s.psq.stopTimer then rampDown true s else s

@[inherit_doc stopTimerExpiry]
def execStopTimerExpiry (s : State) : Host.Outcome State Fault Refusal :=
  whenRunning stopTimerExpiry s

/-! ## Relay contacts (R5, R10, R14, R16, R22 to R24) -/

/-- The contactor's contact closes: a completion, or a weld at once (R5, R10, R23, log 12). -/
def contactorCloses (s : State) : State :=
  if s.psq.contactorCmd then contactorReadsClosed s else weldAtOnce s

/-- The contactor's contact opens (R14, R16, R22, R24). -/
def contactorOpens (s : State) : State :=
  cancelComplete (rejoinStopped (contactorReadsOpen { s with psq.contactorSup := false }))

/-- The precharge relay's contact opens (R16, R24). -/
def prechargeOpens (s : State) : State :=
  cancelComplete (rejoinStopped { s with psq.prechargeSup := false })

/-- A relay feedback contact's new reading. -/
def readContact (relay : PlugRelay) (closed : Bool) (s : State) : State :=
  match relay with
  | .contactor => { s with psq.contactorFb := closed }
  | .precharge => { s with psq.prechargeFb := closed }

/-- A relay feedback contact changes. A row that repeats the reading held changes nothing. -/
def relayFeedback (relay : PlugRelay) (closed : Bool) (s : State) : State :=
  match relay, closed with
  | .contactor, true =>
    if s.psq.contactorFb then s else contactorCloses { s with psq.contactorFb := true }
  | .contactor, false =>
    if s.psq.contactorFb then contactorOpens { s with psq.contactorFb := false } else s
  | .precharge, true => { s with psq.prechargeFb := true }
  | .precharge, false =>
    if s.psq.prechargeFb then prechargeOpens { s with psq.prechargeFb := false } else s

@[inherit_doc relayFeedback]
def execRelayFeedbackChange (relay : PlugRelay) (closed : Bool) (s : State) :
    Host.Outcome State Fault Refusal :=
  whenRunningOr (readContact relay closed) (relayFeedback relay closed) s

/-- 100 ms after a relay was commanded open (R5). -/
def supervisionExpiry (relay : PlugRelay) (s : State) : State :=
  match relay with
  | .contactor =>
    if s.psq.contactorSup then
      onlyIf (s.psq.contactorFb && s.psq.seq != .fault) (enterFault .contactorWeld)
        { s with psq.contactorSup := false }
    else s
  | .precharge =>
    if s.psq.prechargeSup then
      onlyIf (s.psq.prechargeFb && s.psq.seq != .fault) (enterFault .relayStuck)
        { s with psq.prechargeSup := false }
    else s

@[inherit_doc supervisionExpiry]
def execOpenSupervisionExpiry (relay : PlugRelay) (s : State) : Host.Outcome State Fault Refusal :=
  whenRunning (supervisionExpiry relay) s

end Sys2Proof.Machine
end

