-- ==== Sys2Proof/Machine/Port.lean ====
section
/-! DEFINITION. The Command Port (chapter 12): transactions, request checks, events, status, CONFIGURE,
and the reply frame in bytes. -/

namespace Sys2Proof.Machine

/-! ## The reply frame (R193, R194, 12.6) -/

/-- A four-byte field of a record (12.6, log 46). -/
def field32 (n : Nat) : List Byte :=
  bytes32 (if n < 2 ^ 32 then BitVec.ofNat 32 n else Config.wideField n)

/-- One line item of a record (12.6). -/
def itemBytes (i : RecordItem) : List Byte :=
  [BitVec.ofNat 8 i.slot.val, if i.overrun.isSome then 1 else 0]
    ++ field32 i.charging ++ field32 i.conditioning ++ field32 i.price
    ++ field32 ((i.overrun.map (·.1)).getD 0) ++ field32 ((i.overrun.map (·.2)).getD 0)

/-- A session record (12.6), each field with its most significant byte first (DEDUCED, log 73). -/
def recordBytes (r : SessionRecord) : List Byte :=
  bytes16 (BitVec.ofNat 16 r.number)
    ++ [BitVec.ofNat 8 r.station, BitVec.ofNat 8 r.feederId, BitVec.ofNat 8 r.ratingClass]
    ++ bytes32 r.stamp ++ field32 r.duration
    ++ [r.endCause.code, r.flags.byte, BitVec.ofNat 8 r.items.length]
    ++ field32 r.totalEnergy ++ field32 r.totalCond ++ field32 r.totalPrice
    ++ r.items.flatMap itemBytes

/-- The payload of a reply (12.6; log 10 where the manual gives contents and no layout; the clamped
count and indices in one byte each are log 58's). -/
def ReplyBody.bytes : ReplyBody → List Byte
  | .empty => []
  | .clamped indices => BitVec.ofNat 8 indices.length :: indices.map (BitVec.ofNat 8)
  | .events kinds => eventBytes kinds
  | .report p => bytes32 p.placement ++ recordBytes p.record
  | .badField index => Config.openLayout index
  | .status r => Config.openLayout r
  | .heating h overcurrent openLatch => Config.openLayout (h, overcurrent, openLatch)
  | .tripCause c => Config.openLayout c
  | .meter r => Config.openLayout r
  | .peers count overflow entries => Config.openLayout (count, overflow, entries)
  | .share r => Config.openLayout r
  | .measure r => Config.openLayout r
  | .insulation r => Config.openLayout r

/-- A reply frame (12.6). -/
def Reply.bytes (r : Reply) : List Byte := frameBytes r.status.code r.body.bytes

/-- Byte `n` shifted out in the transaction in progress; 0x00 after the frame's end (R193). -/
def shiftedOut (s : State) (n : Nat) : Option Byte :=
  s.cpt.shifting.map fun r => r.bytes.getD n 0

/-! ## Transactions (R193, R194) -/

/-- Chip select is asserted: the reply held at that moment is shifted out (R193, log 43). -/
def chipSelect (s : State) : State := { s with cpt.shifting := some s.cpt.reply }

@[inherit_doc chipSelect]
def execChipSelectAssert (s : State) : Host.Outcome State Fault Refusal := whenRunning chipSelect s

/-- Chip select is released with no request to execute: a read-only transaction leaves the reply held;
a request that fails a check of R194 is answered with that check's code (log 31). -/
def endTransaction (received : List Byte) (s : State) : State :=
  if readOnlyBytes received then { s with cpt.shifting := none }
  else match requestFault received with
    | some .frameError => answerEmpty .frameError s
    | some .unknown => answerEmpty .unknown s
    | none => { s with cpt.shifting := none }

/-- A read-only transaction ends (R193). -/
def execReadOnlyTransaction (received : List Byte) (s : State) : Host.Outcome State Fault Refusal :=
  whenRunning (endTransaction received) s

/-- A request that fails a check ends (R194). -/
def execRequestRejected (received : List Byte) (s : State) : Host.Outcome State Fault Refusal :=
  whenRunning (endTransaction received) s

/-! ## Events and status (R196, R197) -/

/-- READ_EVENTS (R196). -/
def readEvents (s : State) : State :=
  { answer .accepted (.events s.cpt.events) s with cpt.events := [] }

@[inherit_doc readEvents]
def execReadEvents (s : State) : Host.Outcome State Fault Refusal := whenRunning readEvents s

/-- The backlog status (R189). -/
def backlog (s : State) : Bool := s.mst.stacked.isSome

/-- What GET_STATUS reports (R197); its d_own is the value SHU uses (R53, log 65). -/
def statusReport (s : State) : StatusReport where
  resetCause     := s.cpt.resetCause
  configured     := s.cpt.configured
  seq            := s.psq.seq
  faultCause     := s.psq.faultCause
  trip           := s.ptu.trip
  line           := s.fli.line
  sEff           := s.shu.sEff
  dOwn           := dOwnInUse s
  fallback       := s.shu.conds.any
  pAllow         := s.crg.pAllow
  pC             := s.crg.pC
  pH             := s.crg.pH
  priority       := s.crg.priority
  gridRange      := s.crg.gridRange
  stale          := s.crg.stale
  setpoint       := s.crg.setpoint
  iTarget        := s.crg.iTarget
  heater         := s.htr.state
  mode           := s.imn.mode
  own            := s.imn.own.state
  net            := s.imn.net.state
  roleHeld       := roleHeld s
  ownFault       := s.imn.ownFault
  heaterIsolated := s.imn.heaterIsolated
  unmonitored    := s.imn.unmonitored
  sessionOpen    := sessionOpen s
  suspended      := s.psq.seq == .suspended
  backlog        := backlog s
  storeTorn      := s.mst.torn

/-- GET_STATUS (R197). -/
def getStatus (s : State) : State := answer .accepted (.status (statusReport s)) s

@[inherit_doc getStatus]
def execGetStatus (s : State) : Host.Outcome State Fault Refusal := whenRunning getStatus s

/-! ## CONFIGURE (R198, R199) -/

/-- The settings reach every block's state (R199): those of the carrier wait for the next trough, a
slot's for its next publication. -/
def takeSettings (p : ConfigPayload) (s : State) : State :=
  { s with
    cfg := settingsOf p
    cpt.configured := true
    ptu.nextTiming := some (p.fc.toNat, p.divider.toNat)
    msq.slots := acceptSlots p s.msq.slots }

/-- The cycle in progress is abandoned and a new one starts (R136, R139); none in JOINT-passive. -/
def restartCycle (s : State) : State := onlyIf (s.imn.cycle.isSome) startCycle s

/-- The acceptance of CONFIGURE (R199). -/
def applyConfig (p : ConfigPayload) (s : State) : State :=
  selectHeater (refreshLine (restartCycle (watchConflicts
    (raiseEvent .configDone (takeSettings p s)))))

/-- CONFIGURE (R198). -/
def configure (p : ConfigPayload) (s : State) : State :=
  if s.cpt.configured then answerEmpty .locked s
  else match badField p with
    | some i => answer .badConfig (.badField i) s
    | none => answer .accepted (.clamped (clampedFields p)) (applyConfig p s)

@[inherit_doc configure]
def execConfigure (payload : ConfigPayload) (s : State) : Host.Outcome State Fault Refusal :=
  whenRunning (configure payload) s

end Sys2Proof.Machine
end

