-- ==== Sys2Proof/Machine/Reset.lean ====
section
/-! DEFINITION. Resets and power loss (R187, R192, R200). Settings, blocks and port go to their reset
states; the page, the input readings, the model's counter and the queue stay (log 5). -/

namespace Sys2Proof.Machine

/-- The open supervisions that run at a start: of each relay that was commanded closed, and of a contactor whose
feedback reads closed (R5, R25; DESIGN CHOICE, log 77). -/
def superviseAtStart (before : Psq) (s : State) : State :=
  { s with
    psq.contactorSup := before.contactorCmd || before.contactorFb
    psq.prechargeSup := before.prechargeCmd }

/-- Every block at its reset state over a page, with the store's start-up read (R192, R200) and the relays
opening under supervision (R5, log 77). -/
def restart (cause : ResetCause) (page : Page) (s : State) : State :=
  superviseAtStart s.psq (startupRead (.blank cause page s.psq s.ptu s.fresh s.pending))

/-- The supplies rise from off (R200). Power has been off, so a write that was still in flight is torn
(R187, log 45). -/
def powerOn (s : State) : State := restart .powerOn (pageAfterPowerLoss s.mst) s

@[inherit_doc powerOn]
def execPowerOn (s : State) : Host.Outcome State Fault Refusal := .next (powerOn s)

/-- A supply falls below its threshold and recovers (R200): a power loss to the store (R187). -/
def brownOut (s : State) : State := restart .brownOut (pageAfterPowerLoss s.mst) s

@[inherit_doc brownOut]
def execBrownOut (s : State) : Host.Outcome State Fault Refusal := .next (brownOut s)

/-- The reset line is driven low (R200), taken by the store after the write in flight (R187). -/
def resetLine (s : State) : State := restart .resetLine (pageAfterResetLine s.mst) s

@[inherit_doc resetLine]
def execResetLine (s : State) : Host.Outcome State Fault Refusal := whenRunning resetLine s

/-- A supply falls below its threshold (R187): the supervisor holds the part in reset, with the reset
cause kept until the next start (log 4). -/
def powerLoss (s : State) : State :=
  { State.blank s.cpt.resetCause (pageAfterPowerLoss s.mst) s.psq s.ptu s.fresh s.pending with
    power := .heldInReset }

@[inherit_doc powerLoss]
def execPowerLoss (s : State) : Host.Outcome State Fault Refusal := .next (powerLoss s)

end Sys2Proof.Machine
end

