-- ==== Sys2Proof/Machine/Trip.lean ====
section
/-! DEFINITION. The rows that can raise a trip cause on their own (R95, R96, R100, R101), and the meter's two
events, whose chain ends reach the sequencer (R169, R170). -/

namespace Sys2Proof.Machine

/-! ## Dead time and leg conflict (R92, R95, R96) -/

/-- The latched reading of the device that turned off (R95): the lower device of leg D reads off. -/
def latchedFeedback (k : Leg) (d : Option Device) (s : State) : Bool :=
  match d, k with
  | none, _ => false
  | some .upper, _ => (s.ptu.feedback.get k).upper
  | some .lower, .d => false
  | some .lower, _ => (s.ptu.feedback.get k).lower

/-- The end of a leg's dead-time interval (R92, R95). -/
def deadTimeEnd (k : Leg) (s : State) : State :=
  match (s.ptu.legs.get k).deadTime with
  | none => s
  | some i =>
    let t := { s with ptu.legs := s.ptu.legs.set k { s.ptu.legs.get k with deadTime := none } }
    let u := onlyIf (latchedFeedback k i.turnedOff s) (raiseTrip (.legConflict k)) t
    watchConflicts
      { u with ptu.legs := u.ptu.legs.set k (u.ptu.legs.get k).endDeadTime }

@[inherit_doc deadTimeEnd]
def execDeadTimeEnd (leg : Leg) (s : State) : Host.Outcome State Fault Refusal :=
  whenRunning (deadTimeEnd leg) s

/-- A leg's conflict timing becomes `c`. -/
def setConflict (k : Leg) (c : ConflictTiming) (s : State) : State :=
  { s with ptu.legs := s.ptu.legs.set k { s.ptu.legs.get k with conflict := c } }

/-- 50 ns of a leg in conflict, or out of it after a raising (R96, log 36). -/
def conflictExpiry (k : Leg) (s : State) : State :=
  match (s.ptu.legs.get k).conflict with
  | .timing => raiseTrip (.legConflict k) (setConflict k .raised s)
  | .leaving => setConflict k .clear s
  | _ => s

@[inherit_doc conflictExpiry]
def execLegConflictTimerExpiry (leg : Leg) (s : State) : Host.Outcome State Fault Refusal :=
  whenRunning (conflictExpiry leg) s

/-! ## The external line and the grid (R100, R101) -/

/-- The filter timer reaches the external trip filter time (R100). -/
def extFilterExpiry (s : State) : State :=
  if s.ptu.extFilter = .running then raiseTrip .ext { s with ptu.extFilter := .passed } else s

@[inherit_doc extFilterExpiry]
def execExtTripFilterExpiry (s : State) : Host.Outcome State Fault Refusal :=
  whenRunning extFilterExpiry s

/-- The grid supervision timer expires (R101). -/
def gridExpiry (s : State) : State :=
  if s.ptu.gridTimer then raiseTrip .gridLost { s with ptu.gridTimer := false } else s

@[inherit_doc gridExpiry]
def execGridSupervisionExpiry (s : State) : Host.Outcome State Fault Refusal :=
  whenRunning gridExpiry s

/-! ## The meter's events (R169 to R171, R179) -/

/-- The metering interval event with what it asks of the sequencer, where it is due (R169, R170, R179). -/
def meteringInterval (s : State) : State :=
  if intervalDue s then
    let x := meterInterval s
    takeRequest x.2 x.1
  else s

@[inherit_doc meteringInterval]
def execMeteringInterval (s : State) : Host.Outcome State Fault Refusal :=
  whenRunning meteringInterval s

/-- One meter sampling event (R169); an interval event still due is taken first (log 2). -/
def meterSample (s : State) : State := takeSample (meteringInterval s)

@[inherit_doc meterSample]
def execMeterSample (s : State) : Host.Outcome State Fault Refusal := whenRunning meterSample s

end Sys2Proof.Machine
end

