-- ==== Sys2Proof/Machine/Dispatch.lean ====
section
/-! DEFINITION. One arm for each constructor of `Instr`: a direct call of its meaning. -/

namespace Sys2Proof.Machine

/-- The effect of a command or event on everything but the queue. -/
def exec (i : Instr) (s : State) : Host.Outcome State Fault Refusal :=
  match i with
  | .powerOn => Sys2Proof.Machine.execPowerOn s
  | .brownOut => Sys2Proof.Machine.execBrownOut s
  | .resetLine => Sys2Proof.Machine.execResetLine s
  | .chipSelectAssert => Sys2Proof.Machine.execChipSelectAssert s
  | .readOnlyTransaction received => Sys2Proof.Machine.execReadOnlyTransaction received s
  | .requestRejected received => Sys2Proof.Machine.execRequestRejected received s
  | .configure payload => Sys2Proof.Machine.execConfigure payload s
  | .getStatus => Sys2Proof.Machine.execGetStatus s
  | .readEvents => Sys2Proof.Machine.execReadEvents s
  | .setCharge iReq vMax => Sys2Proof.Machine.execSetCharge iReq vMax s
  | .setBatteryLimit iBms => Sys2Proof.Machine.execSetBatteryLimit iBms s
  | .setHeating tOn tOff pHmax permission pBattMax clear => Sys2Proof.Machine.execSetHeating tOn tOff pHmax permission pBattMax clear s
  | .goIdentify => Sys2Proof.Machine.execGoIdentify s
  | .goEnergize slot stamp => Sys2Proof.Machine.execGoEnergize slot stamp s
  | .goStop => Sys2Proof.Machine.execGoStop s
  | .goIdle => Sys2Proof.Machine.execGoIdle s
  | .cancel => Sys2Proof.Machine.execCancel s
  | .tripClear => Sys2Proof.Machine.execTripClear s
  | .writeDescriptor slot flags quota duration rateChg rateCond next => Sys2Proof.Machine.execWriteDescriptor slot flags quota duration rateChg rateCond next s
  | .extend next => Sys2Proof.Machine.execExtend next s
  | .sessionSplit slot stamp => Sys2Proof.Machine.execSessionSplit slot stamp s
  | .readReport => Sys2Proof.Machine.execReadReport s
  | .removeReport => Sys2Proof.Machine.execRemoveReport s
  | .readMeter => Sys2Proof.Machine.execReadMeter s
  | .readPeers => Sys2Proof.Machine.execReadPeers s
  | .readShare => Sys2Proof.Machine.execReadShare s
  | .readMeasure slot clear => Sys2Proof.Machine.execReadMeasure slot clear s
  | .readInsulation => Sys2Proof.Machine.execReadInsulation s
  | .clearInsulation => Sys2Proof.Machine.execClearInsulation s
  | .carrierTrough => Sys2Proof.Machine.execCarrierTrough s
  | .loopComputationEvent => Sys2Proof.Machine.execLoopComputationEvent s
  | .linePeriodLapse => Sys2Proof.Machine.execLinePeriodLapse s
  | .legCommandChange leg position => Sys2Proof.Machine.execLegCommandChange leg position s
  | .deadTimeEnd leg => Sys2Proof.Machine.execDeadTimeEnd leg s
  | .gateFeedbackChange leg device reads => Sys2Proof.Machine.execGateFeedbackChange leg device reads s
  | .legConflictTimerExpiry leg => Sys2Proof.Machine.execLegConflictTimerExpiry leg s
  | .heaterPeriodStart => Sys2Proof.Machine.execHeaterPeriodStart s
  | .heaterDutyEnd => Sys2Proof.Machine.execHeaterDutyEnd s
  | .extTripLineChange active => Sys2Proof.Machine.execExtTripLineChange active s
  | .extTripFilterExpiry => Sys2Proof.Machine.execExtTripFilterExpiry s
  | .extInactiveTimerExpiry => Sys2Proof.Machine.execExtInactiveTimerExpiry s
  | .gridSupervisionExpiry => Sys2Proof.Machine.execGridSupervisionExpiry s
  | .slowScanTimerExpiry => Sys2Proof.Machine.execSlowScanTimerExpiry s
  | .pairConversionDone first second => Sys2Proof.Machine.execPairConversionDone first second s
  | .spanLapse phase => Sys2Proof.Machine.execSpanLapse phase s
  | .plugSettleComplete => Sys2Proof.Machine.execPlugSettleComplete s
  | .pilotCodeComplete => Sys2Proof.Machine.execPilotCodeComplete s
  | .identTimeout => Sys2Proof.Machine.execIdentTimeout s
  | .prechargeTimeout => Sys2Proof.Machine.execPrechargeTimeout s
  | .contactorTimeout => Sys2Proof.Machine.execContactorTimeout s
  | .relayFeedbackChange relay closed => Sys2Proof.Machine.execRelayFeedbackChange relay closed s
  | .openSupervisionExpiry relay => Sys2Proof.Machine.execOpenSupervisionExpiry relay s
  | .batteryLowTimeout => Sys2Proof.Machine.execBatteryLowTimeout s
  | .stopTimerExpiry => Sys2Proof.Machine.execStopTimerExpiry s
  | .txAttemptStart => Sys2Proof.Machine.execTxAttemptStart s
  | .txArbitrationLost => Sys2Proof.Machine.execTxArbitrationLost s
  | .txBitError => Sys2Proof.Machine.execTxBitError s
  | .txComplete acknowledged => Sys2Proof.Machine.execTxComplete acknowledged s
  | .silentTimerExpiry => Sys2Proof.Machine.execSilentTimerExpiry s
  | .frameDropped bits => Sys2Proof.Machine.execFrameDropped bits s
  | .beaconReceived station feeder demand draw flags resistance leader => Sys2Proof.Machine.execBeaconReceived station feeder demand draw flags resistance leader s
  | .leaveReceived station feeder => Sys2Proof.Machine.execLeaveReceived station feeder s
  | .alertReceived station feeder resistance => Sys2Proof.Machine.execAlertReceived station feeder resistance s
  | .sweepStepReceived station feeder target index => Sys2Proof.Machine.execSweepStepReceived station feeder target index s
  | .sweepAnswerReceived station feeder target code => Sys2Proof.Machine.execSweepAnswerReceived station feeder target code s
  | .sweepResultReceived station feeder outcome found unresponsive => Sys2Proof.Machine.execSweepResultReceived station feeder outcome found unresponsive s
  | .measureStartReceived station feeder polarity half => Sys2Proof.Machine.execMeasureStartReceived station feeder polarity half s
  | .measureResultReceived station feeder resistance flags => Sys2Proof.Machine.execMeasureResultReceived station feeder resistance flags s
  | .beaconPeriodEvent => Sys2Proof.Machine.execBeaconPeriodEvent s
  | .peerAgedOut => Sys2Proof.Machine.execPeerAgedOut s
  | .overflowEnd => Sys2Proof.Machine.execOverflowEnd s
  | .measuringRoleTake => Sys2Proof.Machine.execMeasuringRoleTake s
  | .backoffEnd => Sys2Proof.Machine.execBackoffEnd s
  | .rampEvent => Sys2Proof.Machine.execRampEvent s
  | .freshnessTimerExpiry => Sys2Proof.Machine.execFreshnessTimerExpiry s
  | .heaterEvent => Sys2Proof.Machine.execHeaterEvent s
  | .relaySettleExpiry => Sys2Proof.Machine.execRelaySettleExpiry s
  | .heaterOpenDetect => Sys2Proof.Machine.execHeaterOpenDetect s
  | .unmonitoredTimerExpiry => Sys2Proof.Machine.execUnmonitoredTimerExpiry s
  | .sweepAnswerTimeout => Sys2Proof.Machine.execSweepAnswerTimeout s
  | .sweepCycleTimeout => Sys2Proof.Machine.execSweepCycleTimeout s
  | .leaderSilenceExpiry => Sys2Proof.Machine.execLeaderSilenceExpiry s
  | .sweepHoldExpiry => Sys2Proof.Machine.execSweepHoldExpiry s
  | .meterSample => Sys2Proof.Machine.execMeterSample s
  | .meteringInterval => Sys2Proof.Machine.execMeteringInterval s
  | .storeWriteComplete => Sys2Proof.Machine.execStoreWriteComplete s
  | .pilotSenseEdge span width => Sys2Proof.Machine.execPilotSenseEdge span width s
  | .powerLoss => Sys2Proof.Machine.execPowerLoss s

end Sys2Proof.Machine
end

