-- ==== Sys2Proof/Safety.lean ====
section
/-! DEFINITION. What the part keeps safe: conditions on the state that every step is meant to keep. The
statements that it does are in Certificates/Slice0/Obligations.lean. -/

namespace Sys2Proof.Machine

/-! ## The power stages (R14, R19, R97 to R99) -/

/-- The states in which the power stages may switch: from the arming (R97) to the clearing (R98). -/
def SeqState.drives : SeqState → Bool
  | .active | .suspended | .stopping => true
  | .sweepIsolated .isoRamp => true
  | _ => false

/-- The states of a session, from its opening at ACTIVE to its close (R174, R183). -/
def SeqState.holdsSession : SeqState → Bool
  | .active | .suspended | .stopping => true
  | .sweepIsolated _ => true
  | _ => false

/-- A set trip latch holds the output enable clear (R99). -/
abbrev TripCutsOutputs (s : State) : Prop := tripped s = true → s.ptu.enable = false

/-- The output enable is set only in a driving state with the contactor commanded closed (R97, R98), and
each relay is commanded closed only in its states, none of them with the trip latch set (R4, R19). While the
part runs, a contactor that reads closed is commanded closed, supervised or welded (R5). -/
abbrev RelaysSafe (s : State) : Prop :=
  (s.ptu.enable = true → s.psq.contactorCmd = true ∧ s.psq.seq.drives = true) ∧
  (s.psq.contactorCmd = true → s.psq.seq.drives = true ∨ s.psq.seq.energizes = true) ∧
  (s.psq.prechargeCmd = true → s.psq.seq.energizes = true) ∧
  (tripped s = true → s.psq.seq.tripsToFault = false) ∧
  (s.power = .running ∧ s.psq.contactorFb = true →
    s.psq.contactorCmd = true ∨ s.psq.contactorSup = true ∨ s.psq.seq = .fault)

/-- The timers and flags of an energizing, an identification, a cancel and a sweep isolation stand only in
their states; the monitor leaves LOCAL only with the contactor commanded closed, and is in LOCAL while it is
being closed (R138). -/
abbrev TimersSafe (s : State) : Prop :=
  (s.psq.contactorTimer = true → s.psq.contactorCmd = true ∧ s.psq.seq.energizes = true) ∧
  (s.psq.prechargeTimer = true → s.psq.contactorTimer = false ∧ s.psq.seq.energizes = true) ∧
  (s.psq.identTimer = true ∨ s.psq.query = true → s.psq.seq = .identifying) ∧
  (s.psq.cancelPending = true →
    s.psq.seq = .precharge ∧ s.psq.prechargeTimer = false ∧ s.psq.contactorTimer = false ∧
      s.psq.contactorCmd = false ∧ s.psq.prechargeCmd = false) ∧
  (s.psq.seq = .sweepIsolated .isoWait → s.psq.stopCause = none) ∧
  (s.psq.seq = .sweepIsolated .isoRejoin ∧ s.psq.stopCause ≠ none →
    s.psq.prechargeTimer = false ∧ s.psq.contactorTimer = false ∧ s.psq.contactorCmd = false ∧
      s.psq.prechargeCmd = false) ∧
  (s.imn.mode ≠ .localMode → s.psq.contactorCmd = true) ∧
  (s.psq.seq.energizes = true → s.imn.mode = .localMode)

/-- With the own-side fault latched the sequencer neither energizes nor charges, and a sweep isolation is
on its way out (R21, R24). -/
abbrev OwnFaultSafe (s : State) : Prop :=
  s.imn.ownFault = true →
    s.psq.seq ≠ .precharge ∧ s.psq.seq ≠ .active ∧ s.psq.seq ≠ .suspended ∧
      (s.psq.seq.isolated = true → s.psq.stopCause ≠ none)

/-- Before CONFIGURE nothing is identified, heard or opened (R6, R36, R199). -/
abbrev UnconfiguredSafe (s : State) : Prop :=
  s.cpt.configured = false →
    (s.psq.seq = .unplugged ∨ s.psq.seq = .plugSettle ∨ s.psq.seq = .plugged ∨ s.psq.seq = .fault) ∧
      s.psq.ident = none ∧ s.shu.peers = [] ∧ s.shu.session = false

/-- A session is open only in the states of one: in none before the contactor has closed, PRECHARGE among
them, and in none after its close (R174, R183). -/
abbrev SessionSafe (s : State) : Prop :=
  s.mtr.session ≠ none → s.psq.seq.holdsSession = true

/-- What the sequencer, the latch, the relays and the session keep (R4, R5, R19, R21, R97 to R99, R138, R174,
R183). -/
abbrev DriveSafe (s : State) : Prop :=
  TripCutsOutputs s ∧ RelaysSafe s ∧ TimersSafe s ∧ OwnFaultSafe s ∧ UnconfiguredSafe s ∧ SessionSafe s

/-! ## Injection (R137, R147, R164) -/

/-- The part injects only with its coupling relay closed and in LOCAL or holding the measuring role, and
while it holds the role no eligible peer has a lower number (R147); a leader awaits an answer only before
its own step (R162), and before it holds the role (R164). -/
abbrev InjectionSafe (s : State) : Prop :=
  (s.imn.driver ≠ .zero → s.imn.cycle.isSome = true) ∧
  (s.imn.cycle.isSome = true → s.imn.coupling = true ∧ s.imn.mode ≠ .passive) ∧
  (s.imn.mode = .measurer → lowerEligible s = false) ∧
  ∀ r, s.imn.sweep = .leading r →
    (r.phase = .ownStep → r.answerTimer = false) ∧ (r.phase = .ownStep ∨ s.imn.mode = .measurer)

/-! ## The share (R44, R45, R52, R53, R63, R64) -/

/-- S_eff never exceeds d_own, d_own never exceeds the outlet rating, and in fallback S_eff does not exceed
F (R64); with SESSION clear S_eff is 0 (R52); the table never holds the own number (R45). -/
abbrev ShareSafe (s : State) : Prop :=
  s.shu.sEff ≤ dOwnInUse s ∧ s.shu.dOwnHanded ≤ outletRating s ∧
  (s.shu.conds.any = true → s.shu.sEff ≤ s.cfg.fallback) ∧
  (s.shu.session = false → s.shu.sEff = 0) ∧
  s.shu.dOwnHanded ≤ s.crg.dOwnLast ∧ (s.psq.seq ≠ .active → s.shu.dOwnHanded = 0) ∧
  ∀ e ∈ s.shu.peers, e.station ≠ s.cfg.station

/-! ## The heater (R91, R125, R127, R129, R130) -/

/-- The heater's budget and its source are those of R127's table: grid power in ACTIVE alone. -/
abbrev BudgetHeld (s : State) : Prop :=
  s.htr.budget =
    (if s.htr.permission = .off then 0
     else if s.psq.seq = .active then s.crg.pH
     else if s.htr.permission = .gridOrBattery then min s.htr.pHeatReq s.htr.pBattMax
     else 0) ∧
  s.htr.source =
    (if s.htr.permission = .off then .none
     else if s.psq.seq = .active then .grid
     else if s.htr.permission = .gridOrBattery then .battery
     else .none)

/-- The heater duty is 0 while the trip latch is set, the relay is open, its settle timer runs or the budget
is 0, and the duty buffer holds it. -/
abbrev HeaterSafe (s : State) : Prop :=
  (tripped s = true ∨ s.htr.relay = false ∨ s.htr.settleTimer = true ∨ s.htr.budget = 0 →
    s.htr.duty = 0) ∧
  s.ptu.heaterBuffer = s.htr.duty ∧ s.htr.duty ≤ 4095 ∧ BudgetHeld s

/-! ## Ranges (R81, R83, R85, R91, R107, R117, R118) -/

/-- Four compare values in their range. -/
abbrev Compare.inRange (c : Compare) : Prop := c.u ≤ 4095 ∧ c.v ≤ 4095 ∧ c.w ≤ 4095 ∧ c.d ≤ 4095

/-- The setpoint never exceeds I_target, and is 0 while the output enable is clear or the limit is stale
(R81); P_c and P_h stay within P_allow, and P_h is 0 outside ACTIVE (R79). -/
abbrev RegulationSafe (s : State) : Prop :=
  s.crg.setpoint ≤ s.crg.iTarget ∧
  (s.ptu.enable = false ∨ s.crg.stale = true → s.crg.setpoint = 0) ∧
  s.crg.pC + s.crg.pH ≤ s.crg.pAllow ∧ (s.psq.seq ≠ .active → s.crg.pH = 0)

/-- The regulator's and the sequencer's values lie in their ranges. -/
abbrev RangesHold (s : State) : Prop :=
  (-integratorBound ≤ s.crg.linkI ∧ s.crg.linkI ≤ integratorBound) ∧
  (-integratorBound ≤ s.crg.batI ∧ s.crg.batI ≤ integratorBound) ∧
  s.ptu.buffer.inRange ∧ s.ptu.inUse.inRange ∧
  s.msq.theta ≤ 255 ∧ s.msq.troughs ≤ 65535 ∧
  ∀ i : Fin 16, slotMin i ≤ slotValue i s ∧ slotValue i s ≤ slotMax i

/-! ## Queues and tables (R31, R32, R39, R45, R48, R175, R177, R195) -/

/-- The event set is the list of its kinds in the order of 12.6 (R195). -/
abbrev EventsCanonical (s : State) : Prop :=
  s.cpt.events = EventKind.all.filter fun k => s.cpt.events.contains k

/-- The transmit queue: at most four frames, at most one of each kind, in class order (R39). -/
abbrev QueueShape (q : List Queued) : Prop :=
  q.length ≤ 4 ∧
  q.Pairwise fun x y => x.frame.body.code ≠ y.frame.body.code ∧ x.frame.body.cls ≤ y.frame.body.cls

/-- The peer table: at most 32 entries in ascending station number, 1 to 62, aged 0 to 3 and heard once
or twice (R45, R50). -/
abbrev PeersShape (ps : List PeerEntry) : Prop :=
  ps.length ≤ 32 ∧
  (ps.Pairwise fun x y => x.station < y.station) ∧
  ∀ e ∈ ps, 1 ≤ e.station ∧ e.station ≤ 62 ∧ e.age ≤ 3 ∧ 1 ≤ e.heard ∧ e.heard ≤ 2

/-- The session's line items number at most sixteen (R175), and the last of them is the running copy's: it has
the copy's slot and rates, and with a quota holds what the copy has used of it (R175, R177). -/
abbrev ItemsSound (s : State) : Prop :=
  ∀ ss, s.mtr.session = some ss → ss.base.items.length ≤ 16 ∧
    ∀ r, ss.running = some r →
      (ss.base.items.getLast?.map fun i => (i.slot, i.rateChg, i.rateCond)) =
        some (r.copy.slot, r.copy.desc.rateChg, r.copy.desc.rateCond) ∧
      (r.copy.desc.quota ≠ 0 →
        (ss.base.items.getLast?.map fun i => i.charging + i.conditioning + r.quotaLeft) =
          some (r.copy.desc.quota * 1000))

/-- Queues, tables and counts keep their shape. -/
abbrev TablesHold (s : State) : Prop :=
  EventsCanonical s ∧ QueueShape s.fli.queue ∧ PeersShape s.shu.peers ∧ ItemsSound s ∧
  s.fli.errorCount ≤ 15 ∧ s.fli.ackHistory.length ≤ 3 ∧ s.shu.overflow ≤ 4 ∧ s.shu.joining ≤ 2 ∧
  s.imn.clearCount ≤ 3 ∧ s.imn.backoff ≤ 8 ∧ s.imn.measureFaults ≤ 255

/-! ## The meter store (R187, R188, R192) -/

/-- Lifetime counters no higher than others (R188). -/
abbrev Counters.le (a b : Counters) : Prop :=
  a.imported ≤ b.imported ∧ a.conditioning ≤ b.conditioning

/-- Both lifetime counters lie in 48 bits (R188). -/
abbrev Counters.fits (a : Counters) : Prop := a.imported < 2 ^ 48 ∧ a.conditioning < 2 ^ 48

/-- The counters of the copy in force (R186). -/
def storedCounters (g : Page) : Counters := (g.counters.inForce.map (·.2.content)).getD ⟨0, 0, 0⟩

/-- Each doubled entry has a copy in force (R192). -/
abbrev Page.hasForce (g : Page) : Prop :=
  g.counters.inForce.isSome = true ∧ g.checkpoint.inForce.isSome = true

/-- The flight of a doubled entry goes to the copy not in force, one count above it (R187), and a
counters write lies between the stored and the working counters. -/
abbrev FlightSound (m : Mst) (f : Flight) : Prop :=
  (∀ c, f.write = .counters c →
    (f.copy, f.count) = m.page.counters.target ∧ (storedCounters m.page).le c ∧ c.le m.working) ∧
  ∀ c, f.write = .checkpoint c → (f.copy, f.count) = m.page.checkpoint.target

/-- A pending counters write lies above what is stored and in flight, and below the working counters. -/
abbrev WriteSound (m : Mst) (w : PageWrite) : Prop :=
  ∀ c, w = .counters c →
    (storedCounters m.page).le c ∧ c.le m.working ∧
      ∀ f d, m.inFlight = some f → f.write = .counters d → d.le c

/-- The store while the part runs: one pending write a target (R187), and the counters in order. -/
abbrev StoreOrdered (m : Mst) : Prop :=
  m.working.fits ∧ (storedCounters m.page).le m.working ∧
  (m.writes.Pairwise fun x y => x.sameTarget y = false) ∧
  (∀ f, m.inFlight = some f → FlightSound m f) ∧ ∀ w ∈ m.writes, WriteSound m w

/-- The page has its copies in force, and a running part's store is in order; a part held in reset has
nothing pending (R187). -/
abbrev StoreSound (s : State) : Prop :=
  s.mst.page.hasForce ∧ (storedCounters s.mst.page).fits ∧
  (s.power = .running → StoreOrdered s.mst) ∧ (s.power = .heldInReset → s.mst.inFlight = none)

/-! ## The line and the identification (R8, R36, R61) -/

/-- The line state is the one R36 gives, SHU's conditions are the ones R61 gives, and no identification is
held before IDENTIFIED (R8). -/
abbrev LineSettled (s : State) : Prop :=
  s.fli.line = lineTarget s ∧ s.shu.conds = fallbackConds s ∧
  (s.psq.seq = .unplugged ∨ s.psq.seq = .plugSettle ∨ s.psq.seq = .plugged ∨
    s.psq.seq = .identifying → s.psq.ident = none)

/-! ## Words of the statements -/

/-- The outcome is a next state of which `p` holds. -/
def Completes (o : Host.Outcome State Fault Refusal) (p : State → Prop) : Prop :=
  ∃ t, o = .next t ∧ p t

/-- The rows that start the part anew or end its power. -/
def isReset : Instr → Bool
  | .powerOn | .brownOut | .resetLine | .powerLoss => true
  | _ => false

/-- The row that delivers a frame received good (log 30). -/
def receivedRow (f : Frame) : Instr :=
  match f.body with
  | .beacon d w g r l => .beaconReceived f.station f.feeder d w g r l
  | .leave => .leaveReceived f.station f.feeder
  | .alert r => .alertReceived f.station f.feeder r
  | .sweepStep n i => .sweepStepReceived f.station f.feeder n i
  | .sweepAnswer n c => .sweepAnswerReceived f.station f.feeder n c
  | .sweepResult o n u => .sweepResultReceived f.station f.feeder o n u
  | .measureStart p i => .measureStartReceived f.station f.feeder p i
  | .measureResult r g => .measureResultReceived f.station f.feeder r g

/-- `t` differs from `s` at most in what an evaluation of the chain writes: its results and the setpoint
(R73, R81), the hand-over of d_own with its extra computation (R77, R60), and the heater's budget with
the duty that falls to 0 with it (R127). -/
abbrev OnlyChain (s t : State) : Prop :=
  t = { s with
    crg := { s.crg with
      pAllow := t.crg.pAllow, pChgReq := t.crg.pChgReq, priority := t.crg.priority, pC := t.crg.pC,
      pH := t.crg.pH, iTherm := t.crg.iTherm, iCv := t.crg.iCv, iShare := t.crg.iShare,
      iTarget := t.crg.iTarget, dOwn := t.crg.dOwn, dOwnLast := t.crg.dOwnLast,
      setpoint := t.crg.setpoint }
    shu := { s.shu with
      dOwnHanded := t.shu.dOwnHanded, sNew := t.shu.sNew, activeCount := t.shu.activeCount,
      sEff := t.shu.sEff }
    htr := { s.htr with budget := t.htr.budget, source := t.htr.source, duty := t.htr.duty }
    ptu := { s.ptu with heaterBuffer := t.ptu.heaterBuffer } }

/-- The chain's results are those R74 to R80 give for the inputs held beside them. -/
abbrev ChainHolds (s : State) : Prop :=
  s.crg.pAllow =
    (if s.crg.gridRange = true then 0 else 3 * s.crg.vPh * s.shu.sEff * s.cfg.eta / 100000) ∧
  s.crg.iTherm =
    (if s.msq.tcoolValid = false then 0
     else if slotValue 12 s ≤ 700 then s.cfg.iFull
     else if slotValue 12 s < 850 then s.cfg.iFull * (850 - slotValue 12 s).toNat / 150
     else 0) ∧
  s.crg.iCv = (s.crg.vMax - vBat s) * s.cfg.kCv ∧
  s.crg.pChgReq =
    min (min s.crg.iReq (if s.crg.stale = true then 0 else s.crg.iBms)) (min s.crg.iTherm s.crg.iCv)
      * vBat s / 100 ∧
  s.crg.dOwn =
    (if s.psq.seq = .active ∧ s.crg.gridRange = false then
      min (outletRating s)
        (((s.crg.pChgReq + s.crg.pHeatReq) * 100000 + 3 * s.crg.vPh * s.cfg.eta - 1)
          / (3 * s.crg.vPh * s.cfg.eta))
     else 0) ∧
  (s.crg.priority = .heatFirst ↔ ∃ t, s.crg.tBat = some t ∧ t < s.cfg.tCold) ∧
  s.crg.pH =
    (if s.psq.seq ≠ .active then 0
     else if s.crg.priority = .heatFirst then min s.crg.pHeatReq s.crg.pAllow
     else min s.crg.pHeatReq (s.crg.pAllow - s.crg.pC)) ∧
  s.crg.pC =
    (if s.psq.seq ≠ .active then 0
     else if s.crg.priority = .heatFirst then s.crg.pAllow - s.crg.pH
     else min s.crg.pChgReq s.crg.pAllow) ∧
  s.crg.iShare = (if vBat s < 2000 then 0 else s.crg.pC * 100 / vBat s) ∧
  s.crg.iTarget =
    min (min s.crg.iReq (if s.crg.stale = true then 0 else s.crg.iBms))
      (min s.crg.iShare (min s.crg.iTherm s.crg.iCv))

/-- The share computation's own results in a state: S_new of the active set of R54, with A = L − M (R55),
and 0 with SESSION clear. -/
abbrev Computed (s : State) : State :=
  { s with shu := { s.shu with
      sNew :=
        if s.shu.session = true then
          shareOf s.cfg.station
            (allocate ((s.shu.identCopy.map (·.capacity)).getD 0 - s.cfg.margin) (activeSet s))
        else 0
      activeCount := (activeSet s).length } }

/-- An evaluation hands the chain's d_own where it is lower than the one last handed, and no other (R77). SHU
keeps it to the outlet rating; where that lowers the value in use an extra computation runs, and S_eff follows
by R60, and in fallback by R63 at any hand-over (R53). -/
abbrev LowerHanded (s t : State) : Prop :=
  if t.crg.dOwn < s.crg.dOwnLast then
    t.crg.dOwnLast = t.crg.dOwn ∧ t.shu.dOwnHanded = min t.crg.dOwn (outletRating s) ∧
    (if dOwnInUse t < dOwnInUse s then
      t.shu.sNew = (Computed t).shu.sNew ∧ t.shu.activeCount = (Computed t).shu.activeCount
     else t.shu.sNew = s.shu.sNew ∧ t.shu.activeCount = s.shu.activeCount) ∧
    t.shu.sEff =
      (if s.shu.session = false then s.shu.sEff
       else if s.shu.conds.any = true then min (dOwnInUse t) s.cfg.fallback
       else if dOwnInUse t < dOwnInUse s then min s.shu.sEff t.shu.sNew
       else s.shu.sEff)
  else t.crg.dOwnLast = s.crg.dOwnLast ∧ t.shu = s.shu

/-- The heater duty falls to 0 as its budget becomes 0 (R127) or its relay changes (R125), in the buffer too;
otherwise it stays as it was, unless the share has risen within the step. -/
abbrev DutyFollows (s t : State) : Prop :=
  (t.htr.budget = 0 ∨ t.htr.relay ≠ s.htr.relay → t.htr.duty = 0) ∧
  (t.htr.budget ≠ 0 → t.htr.relay = s.htr.relay → t.shu.sEff ≤ s.shu.sEff →
    t.htr.duty = s.htr.duty) ∧
  t.ptu.heaterBuffer = t.htr.duty

/-- An evaluation of the chain, with its results (R74 to R80), the budget and source of R127 and the duty with
them; d_own is handed by R77 where `hands` says that the cause of the evaluation is one that hands it. -/
abbrev ChainFollows (hands : Bool) (s t : State) : Prop :=
  ChainHolds t ∧ BudgetHeld t ∧ (HeaterSafe s → DutyFollows s t) ∧
  if hands = true then LowerHanded s t
  else t.crg.dOwnLast = s.crg.dOwnLast ∧ t.shu = s.shu

/-- The setpoint falls to I_target and no further (R81), unless the share has risen within the step. -/
abbrev SetpointFalls (s t : State) : Prop :=
  t.crg.setpoint ≤ min s.crg.setpoint t.crg.iTarget ∧
  (t.shu.sEff ≤ s.shu.sEff → t.crg.setpoint = min s.crg.setpoint t.crg.iTarget)

/-- A session record is held in the queue, in the stacked slot or waiting (R189). -/
abbrev RecordHeld (r : SessionRecord) (s : State) : Prop :=
  (∃ q ∈ s.mst.queue, q.placed.record = r) ∨ s.mst.stacked = some r ∨ s.mst.waiting = some r

/-- The record of a session that closes with a cause and the forced flag (R180, R183, R185). -/
def closedRecord (ss : Session) (cause : EndCause) (forced : Bool) : SessionRecord :=
  recordOf { ss.base with flags := { ss.base.flags with forcedStop := forced } } cause

/-- No session and no share is left of an open session, and its record is held with its cause (R52,
R183, R189). -/
abbrev SessionEnded (cause : EndCause) (forced : Bool) (s t : State) : Prop :=
  t.mtr.session = none ∧ t.shu.session = false ∧ t.shu.joint = false ∧ t.shu.sEff = 0 ∧
  ∀ ss, s.mtr.session = some ss →
    RecordHeld (closedRecord ss cause forced) t ∧ .sessionEnd ∈ t.cpt.events

/-- A pending self-check has been looked at in LOCAL (R149, log 21): with the heater isolated before, or not
available, it ends at once as failed, and else it runs with a fresh cycle and the isolate request. -/
abbrev SelfCheckStarted (s t : State) : Prop :=
  if s.imn.heaterIsolated = true ∨ heaterAvailable s = false then t.imn.selfCheck = .idle
  else
    t.imn.selfCheck = .running 0 ∧ t.htr.isolateReq = true ∧ t.imn.coupling = true ∧
    t.imn.cycle = some ⟨.awaiting, 0, 0, none, none, false⟩

/-- The monitor has entered LOCAL (R138, R144, R149): a fresh cycle, the network state without a result, the
NETWORK_UNMONITORED condition and its timer ended, the measurer's frames out of the queue (R147), a pending
self-check started; the clear count is 0 (log 63). -/
abbrev EnteredLocal (s t : State) : Prop :=
  t.imn.mode = .localMode ∧ t.imn.cycle = some ⟨.awaiting, 0, 0, none, none, false⟩ ∧
  t.imn.coupling = true ∧ t.imn.net = ⟨none, 0, 0⟩ ∧ t.imn.clearCount = 0 ∧
  t.imn.unmonitored = false ∧ t.imn.unmonTimer = false ∧
  (s.imn.unmonitored = true ∨ s.imn.net.state = some .warn ∨ s.imn.net.state = some .alarm →
    .insulation ∈ t.cpt.events) ∧
  (s.imn.mode = .measurer → ∀ q ∈ t.fli.queue, q.frame.body.isMeasure = false) ∧
  if s.imn.selfCheck = .pending then SelfCheckStarted s t
  else t.imn.selfCheck = s.imn.selfCheck

/-- The monitor has entered JOINT-passive from LOCAL (R137, R138, R144, R149, R150): the cycle is abandoned
and injection stops, the NETWORK_UNMONITORED timer runs and the clear count is 0, and a self-check or a
clearing that ran has failed, with both latches as they were. -/
abbrev EnteredPassive (s t : State) : Prop :=
  t.imn.mode = .passive ∧ t.imn.cycle = none ∧ t.imn.coupling = false ∧ t.imn.driver = .zero ∧
  t.imn.clearCount = 0 ∧ t.imn.unmonTimer = true ∧ t.imn.net = s.imn.net ∧
  t.imn.ownFault = s.imn.ownFault ∧ t.imn.heaterIsolated = s.imn.heaterIsolated ∧
  t.imn.clearing = false ∧
  t.imn.lastClearing = (if s.imn.clearing = true then some false else s.imn.lastClearing) ∧
  t.imn.selfCheck = (if s.imn.selfCheck.isRunning = true then .idle else s.imn.selfCheck) ∧
  t.htr.isolateReq =
    (if s.imn.clearing = true ∧ s.imn.heaterIsolated = true then true
     else if s.imn.selfCheck.isRunning = true then false else s.htr.isolateReq) ∧
  (s.imn.clearing = true ∨ s.imn.selfCheck.isRunning = true → .insulation ∈ t.cpt.events)

/-- Both relays are commanded open, and each that was closed is under its open supervision (R5); with the
contactor the monitor goes to LOCAL, if it was not in it (R138). -/
abbrev RelaysOpened (s t : State) : Prop :=
  t.psq.contactorCmd = false ∧ t.psq.prechargeCmd = false ∧
  (s.psq.contactorCmd = true →
    t.psq.contactorSup = true ∧ t.imn.contactorClosed = false ∧
    (s.imn.mode ≠ .localMode → EnteredLocal s t)) ∧
  (s.psq.prechargeCmd = true → t.psq.prechargeSup = true)

/-- A station on its way to its isolation, or in it, is no sweep target any more (R160). -/
abbrev TargetCleared (s t : State) : Prop :=
  s.psq.seq = .active ∨ s.psq.seq = .suspended ∨ s.psq.seq.isolated = true →
    t.imn.target = none ∧ t.imn.pendingRelease = false ∧ t.shu.sweepTarget = false

/-- A frame of the own kind is queued where the line takes it and there is room for `n` frames (R39). -/
abbrev QueuedRoom (n : Nat) (b : FrameBody) (s t : State) : Prop :=
  s.fli.line = .online → s.fli.queue.length + n ≤ 4 →
    ∃ q ∈ t.fli.queue, q.frame =
      ⟨BitVec.ofNat 6 s.cfg.station, BitVec.ofNat 8 (heldFeeder s), b⟩

/-- A frame of the own kind is queued where the line takes it and there is room (R39). -/
abbrev QueuedOwn (b : FrameBody) (s t : State) : Prop := QueuedRoom 1 b s t

/-- A sweep has ended here with its outcome, and FOUND and NOT_FOUND start the hold (R163, R167). -/
abbrev SweepEnded (o : SweepOutcome) (hold : Bool) (s t : State) : Prop :=
  t.imn.sweep = .none ∧ t.imn.outcome = o ∧ t.imn.hold = (s.imn.hold || hold) ∧
  .sweep ∈ t.cpt.events

/-- The line has entered OFFLINE: nothing is queued or being sent, no error, acknowledge or departure is
remembered and no beacon is due (R37), the peer table is empty, with PEERS where it was not (R51), no
measuring role is left of ONLINE (R147), and nothing of a sweep, its target and its hold (R166). -/
abbrev OfflineEntered (s t : State) : Prop :=
  t.fli.queue = [] ∧ t.fli.attempt = none ∧ t.fli.errorCount = 0 ∧ t.fli.ackHistory = [] ∧
  t.fli.departed = false ∧ t.fli.beaconTimer = none ∧ t.fli.silentTimer = false ∧
  t.shu.peers = [] ∧ t.shu.overflow = 0 ∧ (s.shu.peers ≠ [] → .peers ∈ t.cpt.events) ∧
  (s.fli.line = .online → t.imn.mode ≠ .measurer) ∧ t.imn.sweep = .none ∧ t.imn.target = none ∧
  t.imn.pendingRelease = false ∧ t.shu.sweepTarget = false ∧ t.imn.hold = false

/-- Nothing is left of a target here, as where a leader's sweep ends (R160, R162). -/
abbrev NoTarget (t : State) : Prop :=
  t.imn.target = none ∧ t.imn.pendingRelease = false ∧ t.shu.sweepTarget = false

/-- A leader whose own isolation ends by another path than the release ends its sweep ABANDONED, without a
hold, and reports it (R162). -/
abbrev OwnStepAbandoned (s t : State) : Prop :=
  match s.imn.sweep with
  | .leading r => r.phase = .ownStep →
    SweepEnded .abandoned false s t ∧
    QueuedOwn (.sweepResult 3 0 (BitVec.ofNat 8 r.unresponsive)) s t
  | _ => True

/-- Every output floats or stands at its inactive level, as float-on-trip and its group's active level
say (R94, R99). -/
abbrev OutputsCut (t : State) : Prop :=
  (∀ (k : Leg) (d : Device), gateOutput t k d =
    if t.cfg.floatOnTrip = true then .floating
    else match k, t.cfg.feLevel, t.cfg.dcLevel with
      | .d, _, some .high => .low
      | .d, _, some .low => .high
      | .d, _, none => .floating
      | _, some .high, _ => .low
      | _, some .low, _ => .high
      | _, none, _ => .floating) ∧
  heaterOutput t =
    if t.cfg.floatOnTrip = true then .floating
    else match t.cfg.heaterLevel with
      | some .high => .low
      | some .low => .high
      | none => .floating

/-- FAULT is entered with a cause (R20): relays open, output enable clear, the session closed with the forced
flag as recorded (log 51), nothing prefetched, no longer a sweep target (R160), SEQ_STATE raised. -/
abbrev FaultTaken (cause : FaultCause) (endCause : EndCause) (s t : State) : Prop :=
  t.psq.seq = .fault ∧ t.psq.faultCause = some cause ∧ .seqState ∈ t.cpt.events ∧
  RelaysOpened s t ∧ t.ptu.enable = false ∧ t.crg.setpoint = 0 ∧
  t.mtr.prefetched = none ∧ t.psq.cancelPending = false ∧
  t.psq.query = false ∧ t.psq.prechargeTimer = false ∧ t.psq.contactorTimer = false ∧
  t.psq.stopTimer = false ∧ SessionEnded endCause s.psq.forced s t ∧ TargetCleared s t

/-- FAULT is entered with a cause (R20), and a leader's own step is abandoned with it (R162). -/
abbrev FaultEntered (cause : FaultCause) (endCause : EndCause) (s t : State) : Prop :=
  FaultTaken cause endCause s t ∧ (s.psq.seq.isolated = true → LineSettled s → OwnStepAbandoned s t)

/-- What the trip latch does as it is set (R99): the output enable is cleared with the regulator's values (R82),
the heater duty and open timer are 0 (R130), TRIP is raised, and every output is cut. -/
abbrev LatchActs (s t : State) : Prop :=
  t.ptu.enable = false ∧ t.htr.duty = 0 ∧ t.ptu.heaterBuffer = 0 ∧ .trip ∈ t.cpt.events ∧ OutputsCut t ∧
  (s.htr.openMs < 1000 ∨ s.htr.openLatch = true → t.htr.openMs = 0) ∧
  (s.ptu.enable = true →
    t.ptu.buffer = ⟨2048, 2048, 2048, 0⟩ ∧ t.crg.linkI = 0 ∧ t.crg.batI = 0 ∧
      ∀ k : Leg, (t.ptu.legs.get k).command = .off)

/-- The trip latch has been set within a step: it acts, and a sequencer that energizes or charges enters FAULT
with cause TRIP and closes its session with TRIP (R19, R20); in the other states the sequencer stays. -/
abbrev TripTaken (s t : State) : Prop :=
  LatchActs s t ∧
  match s.psq.seq with
  | .precharge | .active | .suspended | .stopping | .sweepIsolated _ => FaultEntered .trip .trip s t
  | _ =>
    t.psq.seq = s.psq.seq ∧ t.psq.faultCause = s.psq.faultCause ∧ t.mtr.session = s.mtr.session

/-- The latch holds a cause, as its first or in the also-set. -/
abbrev LatchHolds (c : TripCause) (s : State) : Prop :=
  (s.ptu.trip.map fun l => l.holds c) = some true

/-- Within a step the latch has taken exactly the causes `P`, after those it held, the first of which stays
(R99). -/
abbrev LatchTakes (P : TripCause → Prop) (s t : State) : Prop :=
  (∀ c, LatchHolds c t ↔ LatchHolds c s ∨ P c) ∧
  ∀ l, s.ptu.trip = some l → (t.ptu.trip.map (·.first)) = some l.first

/-- A stop begins in ACTIVE or SUSPENDED with its cause (R13, R14): what it leaves, but for the chain. -/
def stopBegun (cause : EndCause) (s : State) : State :=
  raiseEvent .seqState
    { s with
      psq := { s.psq with
        seq := .stopping, stopCause := some cause, forced := false, stopTimer := true,
        batteryLow := false }
      imn := { s.imn with target := none, pendingRelease := false }
      shu.sweepTarget := false }

/-- A stop recorded in SWEEP_ISOLATED as its phase says (R24), with the forced flag it leaves. Where it ends
the isolation at once, no pending release is left of it (R160, log 67). -/
abbrev IsolatedStop (cause : EndCause) (forced : Bool) (s t : State) : Prop :=
  match s.psq.seq with
  | .sweepIsolated .isoWait =>
    t.psq.seq = .identified ∧ t.imn.pendingRelease = false ∧ SessionEnded cause forced s t
  | .sweepIsolated .isoRejoin =>
    RelaysOpened s t ∧ t.psq.prechargeTimer = false ∧ t.psq.contactorTimer = false ∧
    if s.psq.contactorFb = false ∧ s.psq.prechargeFb = false then
      t.psq.seq = .identified ∧ t.imn.pendingRelease = false ∧ SessionEnded cause forced s t
    else t.psq.seq = .sweepIsolated .isoRejoin ∧ t.psq.stopCause = some cause ∧
      t.psq.forced = forced ∧ t.mtr = s.mtr
  | _ => t.psq = { s.psq with stopCause := some cause, forced := forced } ∧ t.mtr = s.mtr

/-! ## Writes, checkpoints and activations -/

/-- Writes queued one after another (R187): each takes the place of a pending write of its target (logs 57,
69), or joins the end; with none in flight and none pending the first is in flight at once. -/
abbrev WritesQueued (ws : List PageWrite) (m n : Mst) : Prop :=
  (m.inFlight ≠ none →
    n.inFlight = m.inFlight ∧ n.writes = ws.foldl (fun q w => putWrite w q) m.writes) ∧
  (m.inFlight = none → m.writes = [] →
    n.inFlight.map (·.write) = ws.head? ∧
      n.writes = ws.tail.foldl (fun q w => putWrite w q) [])

/-- The store with no clear of the checkpoint due any more: a later snapshot takes its place (R189). -/
def snapshotKept (m : Mst) : Mst :=
  { m with
    writes := m.writes.map (·.keepSnapshot)
    inFlight := m.inFlight.map fun f => { f with write := f.write.keepSnapshot } }

/-- A checkpoint of an open session's context has been taken (R188): after the writes of `before`, a counters
write and the OPEN checkpoint are queued, and both energy counts start anew. -/
abbrev CheckpointTaken (before : List PageWrite) (b : SessionBase) (s t : State) : Prop :=
  t.mst.sessionEnergy = 0 ∧ t.mst.lifeEnergy = 0 ∧
  WritesQueued (before ++ [.counters t.mst.working, .checkpoint (.opened b)]) (snapshotKept s.mst) t.mst

/-- A descriptor is near its end with this quota and this time left (R176). -/
abbrev NearEnd (d : Descriptor) (quotaLeft timeLeft : Nat) : Prop :=
  (d.quota ≠ 0 ∧ quotaLeft ≤ max (d.quota * 100) 1000) ∨ (d.duration ≠ 0 ∧ timeLeft ≤ 10)

/-- The copy of a slot as it stands, where it is valid (R176, R178). -/
abbrev SlotCopy (i : Fin 16) (s : State) : Option DescCopy :=
  if s.mtr.table[i].valid = true then some ⟨i, s.mtr.table[i]⟩ else none

/-- A copy is the running descriptor with its whole quota and duration (R175), checked at once (R176): near
its end it has a successor prefetched, where it has CHAIN, and raises LOW_QUOTA, where it has NOTICE. -/
abbrev Activated (c : DescCopy) (s t : State) : Prop :=
  t.mtr.session.bind (·.running) = some
    ⟨c, c.desc.quota * 1000, c.desc.duration,
      decide (NearEnd c.desc (c.desc.quota * 1000) c.desc.duration)⟩ ∧
  t.mtr.prefetched =
    (if NearEnd c.desc (c.desc.quota * 1000) c.desc.duration ∧ c.desc.chain = true then
      SlotCopy c.desc.next s
     else none) ∧
  (.lowQuota ∈ t.cpt.events ↔
    .lowQuota ∈ s.cpt.events ∨
      (NearEnd c.desc (c.desc.quota * 1000) c.desc.duration ∧ c.desc.notice = true))

/-! ## Sweeps -/

/-- The sequencer has taken the sweep-target report from ACTIVE or SUSPENDED, with S_eff's demand reported
as 0 (R22, R53, R158). -/
abbrev Isolating (index : Nat) (s t : State) : Prop :=
  t.imn.target = some ⟨index, none⟩ ∧ t.shu.sweepTarget = true ∧
  t.psq = { s.psq with
    seq := .sweepIsolated .isoRamp, stopTimer := true, stopCause := none, forced := false
    batteryLow := false
    isoReturn := some (if s.psq.seq = .active then .active else .suspended) } ∧
  .seqState ∈ t.cpt.events ∧ .sweep ∈ t.cpt.events

/-- No sweep would start in R154's check. -/
abbrev NoSweepStarts (s : State) : Prop :=
  s.imn.mode ≠ .measurer ∨ s.imn.hold = true ∨ s.imn.net.state ≠ some .alarm

/-- The leader's step at an index has started (R156, R162): a peer's with its answer timer; the own one
with the station isolated from ACTIVE or SUSPENDED, and otherwise as NOT_FOUND at once. -/
abbrev StepStarted (r : LeaderRecord) (s t : State) : Prop :=
  .sweep ∈ t.cpt.events ∧
  QueuedOwn
    (.sweepStep
      (BitVec.ofNat 8 (if r.index + 1 = r.list.length then s.cfg.station else r.list.getD r.index 0))
      (BitVec.ofNat 8 r.index)) s t ∧
  if r.index + 1 ≠ r.list.length then
    t.imn.sweep = .leading { r with phase := .awaitingAnswer, answerTimer := true, cycleTimer := false } ∧
    t.psq = s.psq
  else if s.psq.seq = .active ∨ s.psq.seq = .suspended then
    t.imn.sweep = .leading
      { r with phase := .ownStep, answerTimer := false, cycleTimer := false, ownResults := 0 } ∧
    Isolating r.index s t
  else
    SweepEnded .notFound true s t ∧ NoTarget t ∧
    QueuedRoom 2 (.sweepResult 2 0 (BitVec.ofNat 8 (r.unresponsive + 1))) s t

/-- A sweep has started (R154): its list holds the eligible peers in ascending number and the own station
last, ALERT is queued with the latest JOINT resistance, the last outcome and the disagreement are cleared,
and the first step is under way. -/
abbrev SweepStarted (s t : State) : Prop :=
  t.imn.disagreement = false ∧ (t.imn.sweep ≠ .none → t.imn.outcome = .none) ∧
  QueuedOwn (.alert (BitVec.ofNat 16 ((s.imn.jointResult.map (·.rf)).getD 65535))) s t ∧
  StepStarted
    ⟨((s.shu.peers.filter fun e => sameFeeder s e && e.joint && decide (e.age ≤ 1)).map (·.station))
        ++ [s.cfg.station],
      0, .awaitingAnswer, 0, false, false, 0⟩
    (enqueue (.alert (BitVec.ofNat 16 ((s.imn.jointResult.map (·.rf)).getD 65535))) s) t

/-- A measurer whose contactor report has become open has dropped its role, and a sweep that it led, but for
its own step, is ABANDONED and reported (R138, R147, R164), with no pending release left of it (log 68). -/
abbrev RoleLost (s t : State) : Prop :=
  match s.imn.mode, s.imn.sweep with
  | .measurer, .leading r => r.phase ≠ .ownStep →
    SweepEnded .abandoned false s t ∧ NoTarget t ∧
    QueuedOwn (.sweepResult 3 0 (BitVec.ofNat 8 r.unresponsive)) s t
  | _, _ => True

/-- A measurer has dropped its role at interference (R148, R164; no pending release is left with a sweep it
led, log 68). -/
abbrev Interfered (s t : State) : Prop :=
  t.imn.mode = .passive ∧ t.imn.cycle = none ∧ t.imn.coupling = false ∧ t.imn.driver = .zero ∧
  t.imn.backoff = 8 ∧ t.imn.clearCount = 0 ∧ t.imn.unmonTimer = true ∧
  .insulation ∈ t.cpt.events ∧ (∀ q ∈ t.fli.queue, q.frame.body.isMeasure = false) ∧
  t.psq = s.psq ∧ t.mst = s.mst ∧ t.mtr = s.mtr ∧ t.htr = s.htr ∧ t.cfg = s.cfg ∧
  match s.imn.sweep with
  | .leading _ => SweepEnded .abandoned false s t ∧ NoTarget t
  | _ => t.imn.sweep = s.imn.sweep ∧ t.imn.target = s.imn.target

/-! ## Chain ends -/

/-- A chain has ended with its cause (R12, R13, R179): nothing runs and nothing is prefetched; END_SUSPEND
raises SESSION_END and suspends the station, or has its sweep isolation return to SUSPENDED, and otherwise
the cause is a stop request. -/
abbrev ChainEnded (cause : EndCause) (suspend : Bool) (s t : State) : Prop :=
  t.mtr.prefetched = none ∧ t.mtr.session.bind (·.running) = none ∧
  if suspend = true then
    .sessionEnd ∈ t.cpt.events ∧
    match s.psq.seq with
    | .active =>
      t.psq = { s.psq with seq := .suspended, batteryLow := false } ∧ .seqState ∈ t.cpt.events
    | .sweepIsolated .isoRamp => t.psq = { s.psq with isoReturn := some .suspended }
    | _ => t.psq = s.psq
  else
    match s.psq.seq with
    | .active | .suspended =>
      t.psq = (stopBegun cause s).psq ∧ NoTarget t ∧ .seqState ∈ t.cpt.events
    | .sweepIsolated _ =>
      if s.psq.stopCause ≠ none then t.psq = s.psq
      else NoTarget t ∧ IsolatedStop cause false { s with mtr := t.mtr } t
    | _ => t.psq = s.psq

/-- What no row but a reset, CONFIGURE, a publication or a host setting changes. -/
abbrev SettingsKept (s t : State) : Prop :=
  t.power = s.power ∧ t.cfg = s.cfg ∧ t.cpt.configured = s.cpt.configured ∧
  t.cpt.resetCause = s.cpt.resetCause ∧ t.msq = s.msq ∧ t.mtr.table = s.mtr.table ∧
  t.mst.page = s.mst.page ∧ t.fresh = s.fresh ∧ t.pending = s.pending

end Sys2Proof.Machine
end

