-- ==== Sys2Proof/WellFormed.lean ====
section
/-! DEFINITION. Which terms of `Instr` are commands or events that can occur: the number of slots in a
CONFIGURE payload, the gate feedback inputs that exist, the carrier's range, and which bytes belong to
the two rows that carry a transaction's bytes. `exec` is total and does not rely on these checks. -/

namespace Sys2Proof

/-- The check of one term. -/
def Instr.wellFormed : Instr → Bool
  | .readOnlyTransaction received => readOnlyBytes received
  | .requestRejected received => !readOnlyBytes received
  | .configure payload => payload.slots.length == 16
  | .legCommandChange _ position => position ≤ 4096
  | .gateFeedbackChange leg device _ => !(leg == .d && device == .lower)
  | _ => true

end Sys2Proof
end

