-- ==== Sys2Proof/Certificates/Slice0/Obligations.lean ====
section
/-! DEFINITION. The statements for the provers. -/

open Sys2Proof Sys2Proof.Machine

/-! ## The machine (00_scope.md; log 3, log 4) -/

/-- A step takes the command at the front of the queue and runs it on the queue's rest; on an empty queue
the part idles (log 3). -/
def Obligations.StepTakesTheFront : Prop :=
  (∀ (c : Instr) (rest : List Instr) (s : State),
    s.pending = c :: rest → step s = exec c { s with pending := rest }) ∧
  ∀ s : State, s.pending = [] → step s = .next s

/-- Every command answers a next state in every state, and leaves the queue to `step`. While the supervisor
holds the part in reset only a start or a further power loss is taken (log 4), and the input readings
follow their pins (log 5). -/
def Obligations.EveryCommandCompletes : Prop :=
  ∀ (c : Instr) (s : State), Completes (exec c s) (fun t => t.pending = s.pending) ∧
    (s.power = .heldInReset →
      match c with
      | .powerOn | .brownOut | .powerLoss => True
      | .relayFeedbackChange .contactor b => exec c s = .next { s with psq.contactorFb := b }
      | .relayFeedbackChange .precharge b => exec c s = .next { s with psq.prechargeFb := b }
      | .gateFeedbackChange .d .lower _ => exec c s = .next s
      | .gateFeedbackChange k .lower b =>
        exec c s = .next
          { s with ptu.feedback := s.ptu.feedback.set k { s.ptu.feedback.get k with lower := b } }
      | .gateFeedbackChange k .upper b =>
        exec c s = .next
          { s with ptu.feedback := s.ptu.feedback.set k { s.ptu.feedback.get k with upper := b } }
      | .extTripLineChange b => exec c s = .next { s with ptu.extActive := b }
      | _ => exec c s = .next s)

/-- What the host sets stays until the command that sets it, or a reset, comes again (R70, R71, R121,
R173, R199). -/
def Obligations.HostSettingsHold : Prop :=
  ∀ (c : Instr) (s : State), isReset c = false →
    Completes (exec c s) fun t =>
      t.cpt.resetCause = s.cpt.resetCause ∧
      (match c with
        | .configure _ => True
        | _ => t.cfg = s.cfg ∧ t.cpt.configured = s.cpt.configured) ∧
      (match c with
        | .setCharge _ _ => True
        | _ => t.crg.iReq = s.crg.iReq ∧ t.crg.vMax = s.crg.vMax) ∧
      (match c with
        | .setBatteryLimit _ => True
        | _ => t.crg.iBms = s.crg.iBms) ∧
      (match c with
        | .setHeating _ _ _ _ _ _ => True
        | _ =>
          t.htr.tOn = s.htr.tOn ∧ t.htr.tOff = s.htr.tOff ∧ t.htr.pHmax = s.htr.pHmax ∧
            t.htr.permission = s.htr.permission ∧ t.htr.pBattMax = s.htr.pBattMax) ∧
      match c with
      | .writeDescriptor _ _ _ _ _ _ _ => True
      | _ => t.mtr.table = s.mtr.table

/-! ## Resets and power (R25, R43, R68, R87, R106, R120, R135, R153, R168, R184, R187, R192, R200) -/

/-- A start of the part: power-on and brown-out in any state, the reset line while the part runs. -/
abbrev StartsAnew (c : Instr) (s : State) : Prop :=
  c = .powerOn ∨ c = .brownOut ∨ (c = .resetLine ∧ s.power = .running)

/-- The conflict timing of a leg at a start, by its feedback (R96). -/
abbrev ConflictAtStart (f : Feedback) : ConflictTiming :=
  if f.upper = true ∧ f.lower = true then .timing else .clear

/-- A start brings every block to its reset state (R25, R43, R68, R87, R106, R120, R135, R153, R168, R184,
R200); what those rules do not list is at rest by log 47 (the pilot assembly and previous code, the energizing
timers, the driven acknowledge slot, the active count, I_therm and I_cv, the injection driver, the result in
the role, the measurer heard, the last clearing). The readings of the pins stay (log 5). A start is no weld:
the open supervision runs of each relay that was commanded closed, and of a contactor that reads closed (R5,
R25; the model's choice, log 77). The rest of a slot's limits are its range's ends (R110). It records its
cause, takes NO_REPLY, clears the configured flag, and leaves in the event set only what the store's start-up
raises (R192); the settings are the defaults of R69, R88 and R136, with M = 0 (R55), and every gate output
floats. -/
def Obligations.StartRestoresTheResetState : Prop :=
  ∀ (c : Instr) (s : State), StartsAnew c s → Completes (exec c s) fun t =>
    t.power = .running ∧
    t.psq =
      { prox := .none, settleMs := 0,
        seq := .unplugged, ident := none, prechargeCmd := false, contactorCmd := false,
        cancelPending := false, cancelContactor := false, faultCause := none, stopCause := none,
        forced := false, start := none, isoReturn := none, batteryLow := false, query := false,
        assembly := .waiting, prevCode := none, identTimer := false, prechargeTimer := false,
        contactorTimer := false, stopTimer := false,
        contactorSup := s.psq.contactorCmd || s.psq.contactorFb, prechargeSup := s.psq.prechargeCmd,
        contactorFb := s.psq.contactorFb, prechargeFb := s.psq.prechargeFb } ∧
    t.fli =
      { line := .offline, silentTimer := false, queue := [], attempt := none, errorCount := 0,
        duplicate := false, ackHistory := [], foreignReported := false, departed := false,
        beaconTimer := none, ackDriven := false } ∧
    t.shu =
      { peers := [], identCopy := none, session := false, joint := false, dOwnHanded := 0,
        sweepTarget := false, sNew := 0, activeCount := 0, sEff := 0, pendingRise := none,
        joining := 0, overflow := 0,
        conds := { line := true, overflow := false, unknownFeeder := false, unheard := false } } ∧
    t.crg =
      { iReq := 0, vMax := 0, iBms := 0, stale := true, freshTimer := false, vPh := 0,
        rmsSeen := ⟨false, false, false⟩, gridRange := true, pAllow := 0, pChgReq := 0,
        priority := .chargeFirst, pC := 0, pH := 0, iTherm := 0, iCv := 0, iShare := 0, iTarget := 0,
        pHeatReq := 0, tBat := none, dOwn := 0, dOwnLast := 0, setpoint := 0, linkI := 0, batI := 0,
        aFe := 0, dcDuty := 0, pMeter := 0 } ∧
    t.ptu =
      { fc := 16000, divider := 1, nextTiming := none, position := 0, troughCount := 0,
        buffer := ⟨2048, 2048, 2048, 0⟩, inUse := ⟨2048, 2048, 2048, 0⟩, heaterBuffer := 0,
        heaterInUse := 0, heaterOnTime := false,
        legs :=
          ⟨⟨.off, false, false, none, ConflictAtStart s.ptu.feedback.u⟩,
            ⟨.off, false, false, none, ConflictAtStart s.ptu.feedback.v⟩,
            ⟨.off, false, false, none, ConflictAtStart s.ptu.feedback.w⟩,
            ⟨.off, false, false, none, .clear⟩⟩,
        feedback := s.ptu.feedback, enable := false, trip := none, extActive := s.ptu.extActive,
        extFilter := if s.ptu.extActive then .running else .zero, extInactive := false,
        gridTimer := false } ∧
    t.htr =
      { tOn := 0, tOff := 100, pHmax := 0, permission := .off, pBattMax := 0, tBat := none,
        state := .off, pHeatReq := 0, budget := 0, source := .none, duty := 0, relay := false,
        settleTimer := false, accSum := 0, accCount := 0, overcurrent := false, openLatch := false,
        openMs := 0, isolateReq := false } ∧
    (∀ k d, gateOutput t k d = .floating) ∧ heaterOutput t = .floating ∧
    (∀ i : Fin 16, t.msq.slots[i] =
      { latest := 0
        inUse :=
          { offset := 0, gain := 65536,
            low :=
              if i = 1 ∨ i = 3 ∨ i = 5 then -8000
              else if i = 0 ∨ i = 2 ∨ i = 4 ∨ (10 ≤ i.val ∧ i.val ≤ 13) then -32768 else 0
            high :=
              if i = 6 then 8800 else if i = 8 then 11000
              else if i = 1 ∨ i = 3 ∨ i = 5 then 8000
              else if i = 0 ∨ i = 2 ∨ i = 4 ∨ (10 ≤ i.val ∧ i.val ≤ 13) then 32767 else 65535
            action := if i = 6 ∨ i = 8 ∨ i = 1 ∨ i = 3 ∨ i = 5 then .trip else .none }
        next := none, lowSeen := false, highSeen := false }) ∧
    t.msq = { t.msq with
      fastScan := none, slowScan := none, converting := none,
      phases :=
        ⟨⟨false, false, 0, 0, 0, 0, 0⟩, ⟨false, false, 0, 0, 0, 0, 0⟩, ⟨false, false, 0, 0, 0, 0, 0⟩⟩,
      troughs := 0, period := 0, outOfRange := true, theta := 0, tbat1Valid := false,
      tbat2Valid := false, tcoolValid := false, slowTimer := true } ∧
    t.imn =
      { mode := .localMode, contactorClosed := false, coupling := true, driver := .zero,
        cycle := some ⟨.awaiting, 0, 0, none, none, false⟩, halfIndex := 0, localResult := none,
        jointResult := none, resultInRole := false, localFlag := false, net := ⟨none, 0, 0⟩,
        own := ⟨none, 0, 0⟩, unmonitored := false, unmonTimer := false, clearCount := 0,
        backoff := 0, measurerHeard := false, ownFault := false, heaterIsolated := false,
        selfCheck := .idle, clearing := false, lastClearing := none, measureFaults := 0,
        sweep := .none, target := none, pendingRelease := false, outcome := .none,
        disagreement := false, hold := false } ∧
    t.mtr = { t.mtr with
      sampleCount := 0, powerSum := 0, heaterSum := 0, importCarry := 0, heaterCarry := 0,
      session := none, prefetched := none } ∧
    (∀ i : Fin 16, t.mtr.table[i] = ⟨false, 0, 0, 0, 0, 0, false, false, false⟩) ∧
    t.cpt.reply = ⟨.noReply, .empty⟩ ∧ t.cpt.shifting = none ∧ t.cpt.configured = false ∧
    (∀ k ∈ t.cpt.events, k = .storeTorn ∨ k = .reportReady) ∧
    (c = .powerOn → t.cpt.resetCause = .powerOn) ∧ (c = .brownOut → t.cpt.resetCause = .brownOut) ∧
    (c = .resetLine → t.cpt.resetCause = .resetLine) ∧
    t.cfg.deadTime = 1000 ∧ t.cfg.feLevel = none ∧ t.cfg.dcLevel = none ∧ t.cfg.heaterLevel = none ∧
    t.cfg.extFilter = 4 ∧ t.cfg.eta = 940 ∧ t.cfg.margin = 0 ∧ t.cfg.vLinkTarget = 7000 ∧
    t.cfg.linkCeiling = 8200 ∧ t.cfg.iFull = 400 ∧ t.cfg.kCv = 20 ∧ t.cfg.rUp = 20 ∧
    t.cfg.kpLink = 512 ∧ t.cfg.kiLink = 16 ∧ t.cfg.kpBat = 256 ∧ t.cfg.kiBat = 8 ∧ t.cfg.tCold = 0 ∧
    t.cfg.rc = 470 ∧ t.cfg.rm = 30 ∧ t.cfg.uInj = 50 ∧ t.cfg.tHalfMax = 4 ∧ t.cfg.rWarn = 400 ∧
    t.cfg.rAlarm = 80

/-- A power loss leaves the page as it stands, but for the target of a write in flight, which is torn
(R187); the part is then held in reset (log 4). The reset line is taken after the write in flight. -/
def Obligations.PowerLossTearsTheWriteInFlight : Prop :=
  ∀ s : State, Completes (exec .powerLoss s) fun t => t.power = .heldInReset ∧
    t.mst.inFlight = none ∧ t.mst.writes = [] ∧ t.ptu.enable = false ∧
    t.psq.contactorCmd = false ∧ t.psq.prechargeCmd = false ∧
    (s.mst.inFlight = none → t.mst.page = s.mst.page) ∧
    (∀ f, s.mst.inFlight = some f →
      match f.write with
      | .place p _ _ =>
        t.mst.page.counters = s.mst.page.counters ∧ t.mst.page.checkpoint = s.mst.page.checkpoint ∧
          t.mst.page.place p = .torn ∧ ∀ q, q ≠ p → t.mst.page.place q = s.mst.page.place q
      | .counters _ =>
        t.mst.page.counters = s.mst.page.counters.put f.copy .torn ∧
          t.mst.page.checkpoint = s.mst.page.checkpoint ∧
          ∀ q, t.mst.page.place q = s.mst.page.place q
      | .checkpoint _ =>
        t.mst.page.checkpoint = s.mst.page.checkpoint.put f.copy .torn ∧
          t.mst.page.counters = s.mst.page.counters ∧
          ∀ q, t.mst.page.place q = s.mst.page.place q) ∧
    Completes (exec .resetLine { s with power := .running }) fun u =>
      Completes (exec .storeWriteComplete { s with power := .running }) fun v =>
        u.mst.page = v.mst.page
/-- The reports that the places of a page give (R192, step 3): the valid records of places 1 to 4 in ascending
placement number, the record of place 5 unless its session is queued already, and the next placement number
one above the highest found, or 1 (32 bits, log 9). -/
abbrev ReportsOfPage (g : Page) (q : List Report) (stacked : Option SessionRecord) (next : Word32) :
    Prop :=
  (∀ p r, ⟨p, r⟩ ∈ q ↔ p ≠ .p5 ∧ g.place p = .valid (some r)) ∧ (q.map (·.place)).Nodup ∧
  q.Pairwise (fun a b => a.placed.placement ≤ b.placed.placement) ∧
  (∀ r, stacked = some r ↔
    (∃ n, g.place .p5 = .valid (some ⟨n, r⟩)) ∧
      ∀ x ∈ q, ¬ (x.placed.record.number = r.number ∧ x.placed.record.stamp = r.stamp)) ∧
  (∀ p r, g.place p = .valid (some r) → r.placement ≤ next - 1) ∧
  (next = 1 ∨ ∃ p r, g.place p = .valid (some r) ∧ next = r.placement + 1)

/-- The lowest-numbered of the places 1 to 4 that no queued record has (R189). -/
abbrev LowestFree (p : Place) (q : List Report) : Prop :=
  (([.p1, .p2, .p3, .p4] : List Place).filter fun x => q.all fun r => r.place != x).head? = some p

/-- A valid place of the page holds a record of this session (R192, step 4). -/
abbrev HeldOnPage (g : Page) (b : SessionBase) : Prop :=
  ∃ p r, g.place p = .valid (some r) ∧ r.record.number = b.number ∧ r.record.stamp = b.stamp

/-- The reports after the start-up read with no snapshot left over: those of the page, with nothing waiting
and nothing to write. -/
abbrev NoSnapshot (t : State) : Prop :=
  t.mst.queue = startupQueue t.mst.page ∧
  t.mst.stacked = startupStacked t.mst.page (startupQueue t.mst.page) ∧
  t.mst.nextPlacement = startupPlacement t.mst.page ∧
  t.mst.waiting = none ∧ t.mst.writes = [] ∧ t.mst.inFlight = none

/-- The reports after the start-up read with a snapshot of no held record (R189, R192): its record joins the
queue, or with a full queue takes the stacked slot, or with that occupied too waits; the counters are written
first, then its place with the clear to follow, or `last` for a record that waits. -/
abbrev SnapshotPlaced (r : SessionRecord) (last : List PageWrite) (t : State) : Prop :=
  t.mst.inFlight.map (·.write) = some (.counters t.mst.working) ∧
  if (startupQueue t.mst.page).length < 4 then
    ∃ p : Place, LowestFree p (startupQueue t.mst.page) ∧
      t.mst.queue =
        startupQueue t.mst.page ++ [⟨p, ⟨startupPlacement t.mst.page, r⟩⟩] ∧
      t.mst.stacked = startupStacked t.mst.page (startupQueue t.mst.page) ∧ t.mst.waiting = none ∧
      t.mst.nextPlacement = startupPlacement t.mst.page + 1 ∧
      t.mst.writes = [.place p (some ⟨startupPlacement t.mst.page, r⟩) true]
  else
    t.mst.queue = startupQueue t.mst.page ∧ t.mst.nextPlacement = startupPlacement t.mst.page ∧
    match startupStacked t.mst.page (startupQueue t.mst.page) with
    | none =>
      t.mst.stacked = some r ∧ t.mst.waiting = none ∧
        t.mst.writes = [.place .p5 (some ⟨0, r⟩) true]
    | some x => t.mst.stacked = some x ∧ t.mst.waiting = some r ∧ t.mst.writes = last

/-- The start-up read (R192): torn entries are reported, the counters are those in force, both energy counts
start at 0, and the energies and reports follow the page, the next placement number one above the highest
found or 1 (32 bits, log 9). A leftover snapshot that matches a held record is discarded; any other becomes a
record and is placed as at a close (R189), an OPEN one with POWER_LOST and ESTIMATED. With the queue and the
stacked slot full it waits, and only an OPEN one is written again, as CLOSED with POWER_LOST (log 40). A
record in place 5 has no placement number of its own (log 39). The start writes nothing to the page (R192): it
is as it was, but for a write in flight that the reset line lets complete and a loss of power tears (R187, log
45). -/
def Obligations.StartUpReadsThePage : Prop :=
  ∀ (c : Instr) (s : State), StartsAnew c s → Completes (exec c s) fun t =>
    (s.mst.inFlight = none → t.mst.page = s.mst.page) ∧
    (∀ f, s.mst.inFlight = some f →
      t.mst.page = if c = .resetLine then s.mst.page.complete f else s.mst.page.tear f) ∧
    t.mst.sessionEnergy = 0 ∧ t.mst.lifeEnergy = 0 ∧
    (t.mst.torn = true ↔
      t.mst.page.counters.a = .torn ∨ t.mst.page.counters.b = .torn ∨
        t.mst.page.checkpoint.a = .torn ∨ t.mst.page.checkpoint.b = .torn ∨
        ∃ p, t.mst.page.place p = .torn) ∧
    (.storeTorn ∈ t.cpt.events ↔ t.mst.torn = true) ∧
    (.reportReady ∈ t.cpt.events ↔ t.mst.queue ≠ []) ∧
    (∀ x, t.mst.page.counters.inForce = some x → t.mst.working = x.2.content) ∧
    ReportsOfPage t.mst.page (startupQueue t.mst.page)
      (startupStacked t.mst.page (startupQueue t.mst.page)) (startupPlacement t.mst.page) ∧
    match (t.mst.page.checkpoint.inForce.map fun x => x.2.content : Option Checkpoint) with
    | none | some .empty => NoSnapshot t
    | some (.opened b) =>
      (HeldOnPage t.mst.page b → NoSnapshot t) ∧
      (¬ HeldOnPage t.mst.page b →
        SnapshotPlaced
          (recordOf { b with flags := { b.flags with estimated := true } } .powerLost)
          [.checkpoint
            (.closed { b with flags := { b.flags with estimated := true } } .powerLost)] t)
    | some (.closed b e) =>
      (HeldOnPage t.mst.page b → NoSnapshot t) ∧
      (¬ HeldOnPage t.mst.page b → SnapshotPlaced (recordOf b e) [] t)

/-! ## The command port (R66, R67, R114, R152, R168, R190, R191, R193 to R199) -/

/-- A transaction shifts out the reply held as chip select is asserted, then 0x00; a read-only one leaves
the reply held as it is (R193). -/
def Obligations.TransactionsReturnTheHeldReply : Prop :=
  ∀ (s : State) (bs : List Byte) (n : Nat), s.power = .running →
    exec .chipSelectAssert s = .next { s with cpt.shifting := some s.cpt.reply } ∧
    (∀ r, s.cpt.shifting = some r →
      shiftedOut s n = some (if n < r.bytes.length then r.bytes.getD n 0 else 0)) ∧
    (bs = [] ∨ bs.head? = some 0 →
      exec (.readOnlyTransaction bs) s = .next { s with cpt.shifting := none }) ∧
    (⟨.noReply, .empty⟩ : Reply).bytes = [25, 0, 0, crc8 [25, 0, 0]]

/-- A request that fails a check of R194 is answered by the first check it fails, and nothing is
executed. The worked frame of R194: READ_EVENTS is 03 00 00 BD. -/
def Obligations.BadRequestsAreRefused : Prop :=
  ∀ (s : State) (bs : List Byte),
    (s.power = .running → bs.head? ≠ some 0 → bs ≠ [] →
      match bs with
      | code :: hi :: lo :: _ :: _ =>
        if 256 < bs.length ∨ (be16 hi lo).toNat ≠ bs.length - 4 ∨ crc8 bs ≠ 0 then
          exec (.requestRejected bs) s = .next (answerEmpty .frameError s)
        else if code.toNat < 1 ∨ 23 < code.toNat then
          exec (.requestRejected bs) s = .next (answerEmpty .unknown s)
        else payloadLength code ≠ some (be16 hi lo).toNat →
          exec (.requestRejected bs) s = .next (answerEmpty .frameError s)
      | _ => exec (.requestRejected bs) s = .next (answerEmpty .frameError s)) ∧
    crc8 [0x03] = 0x09 ∧ crc8 [0x03, 0x00] = 0x3F ∧ crc8 [0x03, 0x00, 0x00] = 0xBD ∧
    requestBytes .readEvents = some [0x03, 0x00, 0x00, 0xBD] ∧
    requestOf [0x03, 0x00, 0x00, 0xBD] = some .readEvents

/-- A kind is raised into the set once and changes nothing else, and the attention line is low exactly
while the set holds a kind (R195). READ_EVENTS answers the set in its three bytes and empties it (R196,
12.6). -/
def Obligations.EventsAreHeldUntilRead : Prop :=
  ∀ (k : EventKind) (s : State),
    (∀ e, e ∈ (raiseEvent k s).cpt.events ↔ e = k ∨ e ∈ s.cpt.events) ∧
    (raiseEvent k s).cpt.events.Nodup ∧
    raiseEvent k s = { s with cpt.events := (raiseEvent k s).cpt.events } ∧
    (attentionLow s = true ↔ s.cpt.events ≠ []) ∧
    (s.power = .running →
      Completes (exec .readEvents s) fun t =>
        t = { s with
          cpt := { s.cpt with
            reply := ⟨.accepted, .events s.cpt.events⟩, shifting := none, events := [] } } ∧
        attentionLow t = false ∧
        match (ReplyBody.events s.cpt.events).bytes with
        | [a, b, c] =>
          ∀ i : Fin 8,
            (a.getLsbD i = true ↔ ∃ k, EventKind.all[i.val]? = some k ∧ k ∈ s.cpt.events) ∧
            (b.getLsbD i = true ↔ ∃ k, EventKind.all[8 + i.val]? = some k ∧ k ∈ s.cpt.events) ∧
            (c.getLsbD i = true ↔ ∃ k, EventKind.all[16 + i.val]? = some k ∧ k ∈ s.cpt.events)
        | _ => False)

/-- GET_STATUS, READ_PEERS, READ_SHARE and READ_METER answer what R197, R66, R67 and R191 list, and change
nothing but the reply; an entry's absent resistance is 65535 and its absent leader 0 (R66); the d_own of both
GET_STATUS and READ_SHARE is the value SHU uses, the former by the model's choice (log 65). -/
def Obligations.ReadingCommandsOnlyAnswer : Prop :=
  ∀ s : State, s.power = .running →
    exec .getStatus s = .next (answer .accepted (.status
      { resetCause := s.cpt.resetCause, configured := s.cpt.configured, seq := s.psq.seq,
        faultCause := s.psq.faultCause, trip := s.ptu.trip, line := s.fli.line, sEff := s.shu.sEff,
        dOwn := if s.shu.sweepTarget then 0 else s.shu.dOwnHanded, fallback := s.shu.conds.any,
        pAllow := s.crg.pAllow, pC := s.crg.pC, pH := s.crg.pH, priority := s.crg.priority,
        gridRange := s.crg.gridRange, stale := s.crg.stale, setpoint := s.crg.setpoint,
        iTarget := s.crg.iTarget, heater := s.htr.state, mode := s.imn.mode, own := s.imn.own.state,
        net := s.imn.net.state, roleHeld := s.imn.mode == .measurer, ownFault := s.imn.ownFault,
        heaterIsolated := s.imn.heaterIsolated, unmonitored := s.imn.unmonitored,
        sessionOpen := s.mtr.session.isSome, suspended := s.psq.seq == .suspended,
        backlog := s.mst.stacked.isSome, storeTorn := s.mst.torn }) s) ∧
    exec .readPeers s = .next (answer .accepted (.peers s.shu.peers.length s.shu.overflow
      (s.shu.peers.map fun e =>
        { station := e.station, feeder := e.feeder, demand := e.demand, draw := e.draw,
          session := e.session, joint := e.joint, measurer := e.measurer, imState := e.imState,
          resistance := e.resistance.getD 65535, leader := e.leader.getD 0, age := e.age,
          heard := e.heard })) s) ∧
    exec .readShare s = .next (answer .accepted (.share
      { capacity := (s.shu.identCopy.map (·.capacity)).getD 0, margin := s.cfg.margin,
        available := (s.shu.identCopy.map (·.capacity)).getD 0 - s.cfg.margin,
        activeCount := s.shu.activeCount, sNew := s.shu.sNew, sEff := s.shu.sEff,
        dOwn := if s.shu.sweepTarget then 0 else s.shu.dOwnHanded,
        pendingRise := s.shu.pendingRise, joining := s.shu.joining, conds := s.shu.conds }) s) ∧
    exec .readMeter s = .next (answer .accepted (.meter
      { imported := s.mst.working.imported, conditioning := s.mst.working.conditioning,
        sessions := s.mst.working.sessions, queued := s.mst.queue.length,
        stacked := s.mst.stacked.isSome, waiting := s.mst.waiting.isSome,
        pendingWrites := s.mst.writes.length, storeTorn := s.mst.torn }) s)

/-- READ_MEASURE answers one slot and clears its statuses where the flag asks for it (R114).
READ_INSULATION answers the monitor's state (R152, R168); the time left on the hold is a free value of at
most ten minutes, and 0 where none runs (log 11). -/
def Obligations.MeasureAndInsulationAreRead : Prop :=
  ∀ (s : State) (slot clear : Byte), s.power = .running →
    (15 < slot.toNat → exec (.readMeasure slot clear) s = .next (answerEmpty .badSlot s)) ∧
    (slot.toNat ≤ 15 → 1 < clear.toNat →
      exec (.readMeasure slot clear) s = .next (answerEmpty .badValue s)) ∧
    (∀ i : Fin 16, slot.toNat = i.val → clear.toNat ≤ 1 →
      exec (.readMeasure slot clear) s = .next { s with
        cpt := { s.cpt with
          shifting := none
          reply := ⟨.accepted, .measure
            { slot := i, latest := s.msq.slots[i].latest, lowSeen := s.msq.slots[i].lowSeen,
              highSeen := s.msq.slots[i].highSeen, settings := s.msq.slots[i].inUse
              rms :=
                if i = 0 then some s.msq.phases.u.rmsV else if i = 1 then some s.msq.phases.u.rmsI
                else if i = 2 then some s.msq.phases.v.rmsV
                else if i = 3 then some s.msq.phases.v.rmsI
                else if i = 4 then some s.msq.phases.w.rmsV
                else if i = 5 then some s.msq.phases.w.rmsI else none
              timing :=
                if i = 0 then some ⟨s.msq.period, s.msq.outOfRange, s.msq.theta⟩ else none
              valid :=
                if i = 10 then some s.msq.tbat1Valid else if i = 11 then some s.msq.tbat2Valid
                else if i = 12 then some s.msq.tcoolValid else none }⟩ }
        msq.slots :=
          if clear = 1 then
            s.msq.slots.set i { s.msq.slots[i] with lowSeen := false, highSeen := false }
          else s.msq.slots }) ∧
    Completes (exec .readInsulation s) fun t =>
      t = { s with
        fresh := s.fresh + 1
        cpt := { s.cpt with reply := t.cpt.reply, shifting := none } } ∧
      t.cpt.reply.status = .accepted ∧
      match t.cpt.reply.body with
      | .insulation r =>
        r.holdTimeLeft ≤ 600000 ∧ (s.imn.hold = false → r.holdTimeLeft = 0) ∧
        r =
          { mode := s.imn.mode, cycle := s.imn.cycle, localResult := s.imn.localResult,
            jointResult := s.imn.jointResult, localFlag := s.imn.localFlag, own := s.imn.own,
            net := s.imn.net, unmonitored := s.imn.unmonitored, clearCount := s.imn.clearCount,
            backoff := s.imn.backoff, ownFault := s.imn.ownFault,
            heaterIsolated := s.imn.heaterIsolated, selfCheck := s.imn.selfCheck,
            lastClearing := s.imn.lastClearing, measureFaults := s.imn.measureFaults,
            sweep := s.imn.sweep, target := s.imn.target, pendingRelease := s.imn.pendingRelease,
            outcome := s.imn.outcome, disagreement := s.imn.disagreement, hold := s.imn.hold,
            holdTimeLeft := r.holdTimeLeft }
      | _ => False

/-- The field of index `n` lies in its range, where it is one marked refused (12.4). -/
abbrev FieldOk (p : ConfigPayload) (n : Nat) : Prop :=
  (n = 1 → 1 ≤ p.station.toNat ∧ p.station.toNat ≤ 62) ∧
  (n = 2 → 8000 ≤ p.fc.toNat ∧ p.fc.toNat ≤ 20000) ∧
  (n = 3 → 1 ≤ p.divider.toNat ∧ p.divider.toNat ≤ 4) ∧ (n = 5 → p.feLevel.toNat ≤ 1) ∧
  (n = 6 → p.dcLevel.toNat ≤ 1) ∧ (n = 7 → p.heaterLevel.toNat ≤ 1) ∧
  (n = 8 → p.floatOnTrip.toNat ≤ 1) ∧ (n = 9 → 1 ≤ p.extFilter.toNat ∧ p.extFilter.toNat ≤ 16) ∧
  (n = 10 → 800 ≤ p.eta.toNat ∧ p.eta.toNat ≤ 990) ∧ (n = 15 → p.policy.toNat ≤ 1) ∧
  (n = 16 → p.vPre.toNat ≤ 9000) ∧ (n = 17 → p.vLinkTarget.toNat ≤ 9000) ∧
  (n = 18 → p.linkCeiling.toNat ≤ 9500) ∧ (n = 19 → p.iFull.toNat ≤ 1000) ∧
  (n = 22 → p.kpLink.toNat ≤ 4095) ∧ (n = 23 → p.kiLink.toNat ≤ 4095) ∧
  (n = 24 → p.kpBat.toNat ≤ 4095) ∧ (n = 25 → p.kiBat.toNat ≤ 4095) ∧
  (n = 26 → -400 ≤ p.tCold.toInt ∧ p.tCold.toInt ≤ 400) ∧
  (n = 27 → 1 ≤ p.rc.toNat ∧ p.rc.toNat ≤ 2000) ∧ (n = 28 → 1 ≤ p.rm.toNat ∧ p.rm.toNat ≤ 200) ∧
  (n = 31 → 2 ≤ p.rWarn.toNat ∧ p.rWarn.toNat ≤ 50000) ∧
  (n = 32 → 1 ≤ p.rAlarm.toNat ∧ p.rAlarm.toNat ≤ 49999) ∧
  ∀ (i : Fin 16) (x : SlotPayload), p.slots[i.val]? = some x →
    (n = 33 + 5 * i.val → -2048 ≤ x.offset.toInt ∧ x.offset.toInt ≤ 2047) ∧
    (n = 34 + 5 * i.val → 32768 ≤ x.gain.toNat ∧ x.gain.toNat ≤ 98304) ∧
    (n = 37 + 5 * i.val → x.action.toNat ≤ 2)

/-- The cross check that refuses with index `n` holds, where there is one (R198). -/
abbrev CrossOk (p : ConfigPayload) (n : Nat) : Prop :=
  (n = 32 → p.rAlarm.toNat < p.rWarn.toNat) ∧
  ∀ (i : Fin 16) (x : SlotPayload), p.slots[i.val]? = some x → n = 35 + 5 * i.val →
    if i.val ≤ 5 ∨ (10 ≤ i.val ∧ i.val ≤ 13) then x.low.toInt ≤ x.high.toInt
    else x.low.toNat ≤ x.high.toNat

/-- A CONFIGURE payload that passes: every refused field in its range, R_alarm below R_warn and no slot
with its low limit above its high limit (12.4). -/
abbrev ConfigPasses (p : ConfigPayload) : Prop := ∀ n < 113, FieldOk p n ∧ CrossOk p n

/-- CONFIGURE is refused with LOCKED once accepted, and with BAD_CONFIG where a field or a cross check
fails: its index is that of the first refused field out of its range in index order, and with every field in
range that of the first failing cross check (R198; several of them, log 33). Neither changes a setting. One
that passes is taken by every block (R199): clamped fields at the nearer end of their range, the indices of
the clamped fields in the reply, the carrier's settings waiting for the next trough, the slots' for their
next publication, a new injection cycle, CONFIG_DONE; the sequencer, the meter and the store are unchanged.
-/
def Obligations.ConfigureIsCheckedAndTaken : Prop :=
  ∀ (s : State) (p : ConfigPayload), s.power = .running →
    (s.cpt.configured = true → exec (.configure p) s = .next (answerEmpty .locked s)) ∧
    (s.cpt.configured = false → p.slots.length = 16 →
      (¬ ConfigPasses p → Completes (exec (.configure p) s) fun t =>
        match t.cpt.reply.body with
        | .badField i =>
          1 ≤ i ∧ i ≤ 112 ∧ t = answer .badConfig (.badField i) s ∧
          ((¬ FieldOk p i ∧ ∀ j < i, FieldOk p j) ∨
            ((∀ j < 113, FieldOk p j) ∧ ¬ CrossOk p i ∧ ∀ j < i, CrossOk p j))
        | _ => False)) ∧
    (s.cpt.configured = false → p.slots.length = 16 → ConfigPasses p → LineSettled s →
      UnconfiguredSafe s →
      Completes (exec (.configure p) s) fun t =>
        t.cpt.configured = true ∧ .configDone ∈ t.cpt.events ∧
        t.psq = s.psq ∧ t.mtr = s.mtr ∧ t.mst = s.mst ∧ t.fresh = s.fresh ∧
        t.fli.line = lineTarget t ∧ t.fli.queue = s.fli.queue ∧
        t.cfg.station = p.station.toNat ∧ t.cfg.eta = p.eta.toNat ∧
        t.cfg.floatOnTrip = (p.floatOnTrip == 1) ∧ t.cfg.extFilter = p.extFilter.toNat ∧
        t.cfg.feLevel = some (if p.feLevel = 0 then .high else .low) ∧
        t.cfg.dcLevel = some (if p.dcLevel = 0 then .high else .low) ∧
        t.cfg.heaterLevel = some (if p.heaterLevel = 0 then .high else .low) ∧
        t.cfg.policy = (if p.policy = 0 then .strict else .lenient) ∧
        t.cfg.vPre = p.vPre.toNat ∧ t.cfg.vLinkTarget = p.vLinkTarget.toNat ∧
        t.cfg.linkCeiling = p.linkCeiling.toNat ∧ t.cfg.iFull = p.iFull.toNat ∧
        t.cfg.kCv = p.kCv.toNat ∧ t.cfg.kpLink = p.kpLink.toNat ∧ t.cfg.kiLink = p.kiLink.toNat ∧
        t.cfg.kpBat = p.kpBat.toNat ∧ t.cfg.kiBat = p.kiBat.toNat ∧ t.cfg.tCold = p.tCold.toInt ∧
        t.cfg.rc = p.rc.toNat ∧ t.cfg.rm = p.rm.toNat ∧ t.cfg.rWarn = p.rWarn.toNat ∧
        t.cfg.rAlarm = p.rAlarm.toNat ∧
        t.cfg.deadTime = max 200 (min p.deadTime.toNat 3000) ∧
        t.cfg.margin = min p.margin.toNat 2000 ∧ t.cfg.riseStep = max 10 (min p.riseStep.toNat 200) ∧
        t.cfg.fallback = min p.fallback.toNat 160 ∧
        t.cfg.joinCurrent = min p.joinCurrent.toNat (min p.fallback.toNat 160) ∧
        t.cfg.rUp = max 1 (min p.rUp.toNat 200) ∧ t.cfg.uInj = max 25 (min p.uInj.toNat 100) ∧
        t.cfg.tHalfMax = max 1 (min p.tHalfMax.toNat 8) ∧
        t.cpt.reply = ⟨.accepted, .clamped
          ((if t.cfg.deadTime = p.deadTime.toNat then [] else [4])
            ++ (if t.cfg.margin = p.margin.toNat then [] else [11])
            ++ (if t.cfg.riseStep = p.riseStep.toNat then [] else [12])
            ++ (if t.cfg.joinCurrent = p.joinCurrent.toNat then [] else [13])
            ++ (if t.cfg.fallback = p.fallback.toNat then [] else [14])
            ++ (if t.cfg.rUp = p.rUp.toNat then [] else [21])
            ++ (if t.cfg.uInj = p.uInj.toNat then [] else [29])
            ++ (if t.cfg.tHalfMax = p.tHalfMax.toNat then [] else [30]))⟩ ∧
        t.ptu.nextTiming = some (p.fc.toNat, p.divider.toNat) ∧ t.ptu.fc = s.ptu.fc ∧
        (∀ (i : Fin 16) (x : SlotPayload), p.slots[i.val]? = some x →
          t.msq.slots[i] = { s.msq.slots[i] with
            next := some
              { offset := x.offset.toInt, gain := x.gain.toNat
                low := if signedSlot i then x.low.toInt else x.low.toNat
                high := if signedSlot i then x.high.toInt else x.high.toNat
                action :=
                  if x.action = 0 then .none else if x.action = 1 then .event else .trip } }) ∧
        (s.imn.cycle.isSome = true → t.imn.cycle = some ⟨.awaiting, 0, 0, none, none, false⟩) ∧
        (s.htr.permission = .off → s.htr.isolateReq = false → s.htr.overcurrent = false →
          s.htr.openLatch = false → t.htr.state = .off))

/-! ## Plug sequencer (R1 to R24) -/

/-- Every change of the sequencer's state or of its isolation phase raises SEQ_STATE (R1); a reset and a
power loss empty the set instead (R200). -/
def Obligations.SequencerChangesAreRaised : Prop :=
  ∀ (c : Instr) (s : State), isReset c = false →
    Completes (exec c s) fun t => t.psq.seq ≠ s.psq.seq → .seqState ∈ t.cpt.events

/-- GO_IDENTIFY is refused in R6's order, and taken in PLUGGED: the query is driven, the identification
timer runs, the record of the previous code is empty and IDENTIFYING is entered; nothing else changes but
what the chain's evaluation writes (R73). -/
def Obligations.GoIdentifyStartsTheQuery : Prop :=
  ∀ (s : State), s.power = .running → LineSettled s →
    if s.cpt.configured = false then exec .goIdentify s = .next (answerEmpty .notConfigured s)
    else if s.psq.cancelPending = true then exec .goIdentify s = .next (answerEmpty .busy s)
    else if s.psq.seq ≠ .plugged then exec .goIdentify s = .next (answerEmpty .wrongState s)
    else Completes (exec .goIdentify s) fun t =>
      OnlyChain
        (raiseEvent .seqState (answerEmpty .accepted
          { s with psq := { s.psq with
              seq := .identifying, query := true, identTimer := true, assembly := .waiting,
              prevCode := none, batteryLow := false } })) t

/-- A pilot edge while the query is driven, with no complete code waiting to be taken, assembles, starts,
separates or breaks a code by the widths of R7 (in units of 10 µs); without the query it does nothing. -/
def Obligations.PilotEdgesAssembleTheCode : Prop :=
  ∀ (s : State) (span : PilotSpan) (w : Nat), s.power = .running →
    (s.psq.query = false → exec (.pilotSenseEdge span w) s = .next s) ∧
    (s.psq.query = true →
      match span, s.psq.assembly with
      | .pulse, .waiting => exec (.pilotSenseEdge span w) s = .next s
      | .pulse, .complete =>
        exec (.pilotSenseEdge span w) s = .next
          { s with psq := { s.psq with assembly := .waiting, prevCode := none } }
      | .pulse, .collecting bits =>
        bits.length < 20 → exec (.pilotSenseEdge span w) s = .next
          { s with psq :=
              if 70 ≤ w ∧ w ≤ 130 then { s.psq with assembly := .collecting (bits ++ [false]) }
              else if 170 ≤ w ∧ w ≤ 230 then { s.psq with assembly := .collecting (bits ++ [true]) }
              else { s.psq with assembly := .waiting, prevCode := none } }
      | .rest, .collecting bits =>
        bits.length < 20 → exec (.pilotSenseEdge span w) s = .next
          { s with psq :=
              if 400 ≤ w then { s.psq with assembly := .collecting [], prevCode := none }
              else if 50 ≤ w ∧ w ≤ 250 then s.psq
              else { s.psq with assembly := .waiting, prevCode := none } }
      | .rest, _ =>
        exec (.pilotSenseEdge span w) s = .next
          (if 400 ≤ w then { s with psq.assembly := .collecting [] } else s))

/-- A valid code of twenty bits by R7. -/
abbrev CodeIsValid (bits : List Bool) : Prop :=
  natOfBits ((bits.drop 18).take 2) = (bits.take 18).count true % 4 ∧
  natOfBits ((bits.drop 14).take 4) ≤ 9 ∧ natOfBits (bits.take 8) ≠ 0 ∧
  natOfBits ((bits.drop 8).take 6) ≠ 0

/-- IDENTIFIED is entered with an identification, which PSQ, SHU and the line hold (R8, R44): the query
ends, IDENT_DONE and SEQ_STATE are raised, and the meter and the store are unchanged. -/
abbrev IdentifiedAs (i : Identification) (rating : Nat) (s t : State) : Prop :=
  t.psq = { s.psq with
    seq := .identified, ident := some i, query := false, identTimer := false, assembly := .waiting,
    prevCode := none, batteryLow := false } ∧
  t.shu.identCopy = some ⟨i.feederId, i.capacity, rating⟩ ∧
  .identDone ∈ t.cpt.events ∧ .seqState ∈ t.cpt.events ∧
  t.fli.line = lineTarget t ∧ t.mtr = s.mtr ∧ t.mst = s.mst ∧ t.imn = s.imn ∧ t.msq = s.msq ∧
  t.cfg = s.cfg ∧ t.shu.peers = s.shu.peers

/-- A complete code ends identification where it is valid and equals the previous one, and is remembered
otherwise (R7, R8). At 500 ms the identification policy decides (R8): FAULT with IDENT_FAIL (R20; a session
that is open closes with the forced flag as recorded, log 51), or IDENTIFIED with feeder id 0, capacity 0,
class 0 and the identified-lenient flag. Where nothing waits, the rows do nothing (log 1). -/
def Obligations.CodesAndTimeoutIdentify : Prop :=
  ∀ (s : State), s.power = .running → DriveSafe s → LineSettled s → RegulationSafe s →
    (match s.psq.assembly with
      | .collecting bits =>
        if bits.length = 20 ∧ s.psq.query = true then
          if CodeIsValid bits ∧ s.psq.prevCode = some bits then
            Completes (exec .pilotCodeComplete s) fun t =>
              IdentifiedAs
                ⟨natOfBits (bits.take 8), natOfBits ((bits.drop 8).take 6) * 100,
                  natOfBits ((bits.drop 14).take 4), false⟩
                ([60, 100, 130, 160, 200, 250, 320, 400, 500, 630].getD
                  (natOfBits ((bits.drop 14).take 4)) 0) s t
          else
            exec .pilotCodeComplete s = .next
              { s with psq := { s.psq with prevCode := some bits, assembly := .complete } }
        else exec .pilotCodeComplete s = .next s
      | _ => exec .pilotCodeComplete s = .next s) ∧
    if s.psq.identTimer = false then exec .identTimeout s = .next s
    else Completes (exec .identTimeout s) fun t =>
      match s.cfg.policy with
      | .strict => FaultEntered .identFail .trip s t
      | .lenient => IdentifiedAs ⟨0, 0, 0, true⟩ 60 s t

/-- GO_ENERGIZE is checked in R9's order. One that passes keeps the start slot and stamp and the slot's copy:
from IDENTIFIED it enters PRECHARGE with the precharge relay closed and its timer running (R10); from
SUSPENDED it enters ACTIVE, and the copy becomes a new line item of the same session, which is checkpointed
(R11, R175, R176, R188; in the place of a pending checkpoint, log 57), or, where that holds sixteen, the chain
ends with LINE_LIMIT, which stops the session (R13, R14, R179). -/
def Obligations.GoEnergizeChecksAndStarts : Prop :=
  ∀ (s : State) (slot : Byte) (stamp : Word32), s.power = .running → LineSettled s →
    if s.cpt.configured = false then
      exec (.goEnergize slot stamp) s = .next (answerEmpty .notConfigured s)
    else if s.psq.cancelPending = true then
      exec (.goEnergize slot stamp) s = .next (answerEmpty .busy s)
    else if s.psq.seq ≠ .identified ∧ s.psq.seq ≠ .suspended then
      exec (.goEnergize slot stamp) s = .next (answerEmpty .wrongState s)
    else if s.ptu.trip ≠ none then
      exec (.goEnergize slot stamp) s = .next (answerEmpty .tripLatched s)
    else if s.imn.ownFault = true then
      exec (.goEnergize slot stamp) s = .next (answerEmpty .insulationFault s)
    else if s.imn.localFlag = false then
      exec (.goEnergize slot stamp) s = .next (answerEmpty .insulationUnknown s)
    else if s.mst.stacked ≠ none then
      exec (.goEnergize slot stamp) s = .next (answerEmpty .backlog s)
    else match slotOf slot with
      | none => exec (.goEnergize slot stamp) s = .next (answerEmpty .badSlot s)
      | some i =>
        if s.mtr.table[i].valid = false then
          exec (.goEnergize slot stamp) s = .next (answerEmpty .badSlot s)
        else if s.psq.seq = .identified then
          Completes (exec (.goEnergize slot stamp) s) fun t =>
            OnlyChain
              (raiseEvent .seqState (answerEmpty .accepted
                { s with
                  psq := { s.psq with
                    seq := .precharge, start := some (i, stamp), prechargeCmd := true,
                    prechargeTimer := true, batteryLow := false }
                  mtr.prefetched := some ⟨i, s.mtr.table[i]⟩ })) t ∧
            Completes (exec (.writeDescriptor slot 1 0 0 0 0 0) t) fun u =>
              u.cpt.reply = ⟨.inUseLater, .empty⟩ ∧ u.mtr.prefetched = t.mtr.prefetched
        else
          ∀ ss, s.mtr.session = some ss → Completes (exec (.goEnergize slot stamp) s) fun t =>
            .seqState ∈ t.cpt.events ∧ t.cpt.reply = ⟨.accepted, .empty⟩ ∧
            if 16 ≤ ss.base.items.length then
              t.psq = { s.psq with
                seq := .stopping, start := none, stopCause := some .lineLimit, forced := false
                stopTimer := true, batteryLow := false } ∧
              NoTarget t ∧ t.mtr = { s.mtr with
                prefetched := none, session := some { ss with running := none } } ∧
              t.fli = s.fli ∧ t.mst = s.mst
            else
              t.psq = { s.psq with seq := .active, start := none } ∧
              t.mtr.session.map (·.base) = some { ss.base with
                items := ss.base.items ++
                  [⟨i, s.mtr.table[i].rateChg, s.mtr.table[i].rateCond, 0, 0, 0, none⟩] } ∧
              Activated ⟨i, s.mtr.table[i]⟩ s t ∧
              (∀ b, t.mtr.session.map (·.base) = some b → CheckpointTaken [] b s t) ∧
              t.mst.page = s.mst.page ∧ t.fli = s.fli ∧ t.imn = s.imn ∧ t.msq = s.msq ∧ t.cfg = s.cfg ∧
              t.ptu.enable = s.ptu.enable ∧ t.mst.working = s.mst.working

/-- GO_STOP is refused with BUSY while a cancel is pending and with WRONG_STATE outside its states; in
ACTIVE and SUSPENDED it enters STOPPING with HOST_STOP recorded, the forced flag clear and the 3 s timer
running (R13, R14), a sweep target no more (R160); in SWEEP_ISOLATED it follows the phase, and a second one
has no effect (R24). The target record, the pending release and SHU's report go as the request is recorded,
also in the phases the sequencer then stays in (log 28). A leader whose own step it ends abandons its sweep
and reports it (R162); in ISO_RAMP, the phase in which it may still be a measurer, a network in ALARM starts
the next sweep at once (R154). -/
def Obligations.GoStopStartsAStop : Prop :=
  ∀ (s : State), s.power = .running → DriveSafe s → LineSettled s →
    if s.psq.cancelPending = true then exec .goStop s = .next (answerEmpty .busy s)
    else match s.psq.seq with
      | .active | .suspended => Completes (exec .goStop s) fun t =>
        OnlyChain (stopBegun .hostStop (answerEmpty .accepted s)) t
      | .sweepIsolated _ =>
        if s.psq.stopCause ≠ none then exec .goStop s = .next (answerEmpty .accepted s)
        else Completes (exec .goStop s) fun t =>
          t.cpt.reply = ⟨.accepted, .empty⟩ ∧ t.imn.target = none ∧ t.imn.pendingRelease = false ∧
          t.shu.sweepTarget = false ∧ IsolatedStop .hostStop false s t ∧
          ∀ r, s.imn.sweep = .leading r → r.phase = .ownStep →
            if NoSweepStarts s then OwnStepAbandoned s t
            else s.psq.seq = .sweepIsolated .isoRamp →
              SweepStarted
                (enqueue (.sweepResult 3 0 (BitVec.ofNat 8 r.unresponsive)) { s with psq := t.psq }) t ∧
              (t.imn.sweep ≠ .none →
                QueuedRoom 3 (.sweepResult 3 0 (BitVec.ofNat 8 r.unresponsive)) s t)
      | _ => exec .goStop s = .next (answerEmpty .wrongState s)

/-- GO_IDLE is refused in R15's and R20's order; taken, it opens the relays, clears the enable, closes an
open session with HOST_IDLE (the forced flag as recorded, log 51), ends a target's part in a sweep (R160)
and a leader's own step (R162), takes the monitor to LOCAL (R138; its clear count, log 63),
queues LEAVE in ONLINE where the queue takes it (in FAULT as well, log 49; a leader's SWEEP_RESULT may go
before it), forgets the identification and enters PLUGGED (or, from FAULT without a plug, UNPLUGGED). -/
def Obligations.GoIdleReturnsToPlugged : Prop :=
  ∀ (s : State), s.power = .running → DriveSafe s → LineSettled s →
    if s.psq.cancelPending = true then exec .goIdle s = .next (answerEmpty .busy s)
    else if s.psq.seq = .unplugged ∨ s.psq.seq = .plugSettle ∨ s.psq.seq = .stopping then
      exec .goIdle s = .next (answerEmpty .wrongState s)
    else if s.psq.seq = .fault ∧ s.ptu.trip ≠ none then
      exec .goIdle s = .next (answerEmpty .tripLatched s)
    else if s.psq.seq = .fault ∧ s.psq.contactorFb = true then
      exec .goIdle s = .next (answerEmpty .contactorClosed s)
    else Completes (exec .goIdle s) fun t =>
      t.cpt.reply = ⟨.accepted, .empty⟩ ∧
      t.psq.seq = (if s.psq.seq = .fault ∧ s.psq.prox = .none then .unplugged else .plugged) ∧
      t.psq.ident = none ∧ t.shu.identCopy = none ∧ t.fli.foreignReported = false ∧
      t.psq.query = false ∧ t.psq.identTimer = false ∧
      (s.psq.seq = .fault → t.psq.faultCause = none) ∧
      (s.psq.seq ≠ .fault →
        RelaysOpened s t ∧ t.ptu.enable = false ∧ SessionEnded .hostIdle s.psq.forced s t ∧
          t.psq.stopCause = none ∧ t.psq.stopTimer = false ∧ t.psq.prechargeTimer = false ∧
          t.psq.contactorTimer = false ∧
          t.mtr.prefetched =
            (if s.psq.seq = .precharge ∨ s.mtr.session ≠ none then none else s.mtr.prefetched)) ∧
      TargetCleared s t ∧
      (s.psq.seq.isolated = true → ∀ r, s.imn.sweep = .leading r → r.phase = .ownStep →
        SweepEnded .abandoned false s t) ∧
      (s.fli.line = .online → s.psq.prox ≠ .none →
        s.fli.queue.length < 3 ∨ (s.fli.queue.length < 4 ∧ ∀ r, s.imn.sweep ≠ .leading r) →
          ∃ q ∈ t.fli.queue, q.frame =
            ⟨BitVec.ofNat 6 s.cfg.station, BitVec.ofNat 8 ((s.psq.ident.map (·.feederId)).getD 0),
              .leave⟩) ∧
      t.cfg = s.cfg ∧ t.msq = s.msq ∧ t.mtr.table = s.mtr.table ∧ t.mst.page = s.mst.page

/-- CANCEL is answered by the state it is taken in (R16): it ends a query at once, and in PRECHARGE it
opens the relays, stops the timers and drops the copy, and is done when every relay it commanded open reads
open: the precharge relay, and the contactor where it had been commanded closed. Until then the cancel is
pending. -/
def Obligations.CancelWithdrawsByState : Prop :=
  ∀ (s : State), s.power = .running → DriveSafe s → LineSettled s →
    match s.psq.seq with
    | .identifying => Completes (exec .cancel s) fun t =>
      t.cpt.reply = ⟨.accepted, .empty⟩ ∧ t.psq.seq = .plugged ∧ t.psq.query = false ∧
        t.psq.identTimer = false ∧ .seqState ∈ t.cpt.events ∧ t.mtr = s.mtr ∧ t.mst = s.mst
    | .precharge =>
      if s.psq.cancelPending = true then exec .cancel s = .next (answerEmpty .busy s)
      else Completes (exec .cancel s) fun t =>
        t.cpt.reply = ⟨.accepted, .empty⟩ ∧ RelaysOpened s t ∧ t.psq.prechargeTimer = false ∧
        t.psq.contactorTimer = false ∧ t.mtr.prefetched = none ∧ t.mtr.session = s.mtr.session ∧
        if s.psq.prechargeFb = true ∨ (s.psq.contactorCmd = true ∧ s.psq.contactorFb = true) then
          t.psq.seq = .precharge ∧ t.psq.cancelPending = true ∧
            t.psq.cancelContactor = s.psq.contactorCmd
        else
          t.psq.seq = .identified ∧ t.psq.cancelPending = false ∧
            t.psq.cancelContactor = false ∧ t.psq.start = none ∧ .seqState ∈ t.cpt.events
    | .active => exec .cancel s = .next (answerEmpty .tooLate s)
    | .stopping => exec .cancel s = .next (answerEmpty .notCancelable s)
    | .sweepIsolated _ => exec .cancel s = .next (answerEmpty .notCancelable s)
    | _ => exec .cancel s = .next (answerEmpty .wrongState s)

/-- A live loss of plug is a trip (R18): the latch is set with PLUG_LOST and acts, and the sequencer is in FAULT
with its session closed with TRIP (R19, R20, R99). A sweep that this station led has ended ABANDONED with SWEEP by
the trip, in its own step and in an earlier one (R162, R164, log 71). -/
abbrev LiveLoss (s t : State) : Prop :=
  t.ptu.trip = some ⟨.plugLost, []⟩ ∧ LatchActs s t ∧ FaultTaken .trip .trip s t ∧
  ∀ r, s.imn.sweep = .leading r →
    (if r.phase = .ownStep then s.psq.seq.isolated = true
     else s.imn.mode = .measurer ∧ s.psq.contactorCmd = true) →
    t.imn.outcome = .abandoned ∧ .sweep ∈ t.cpt.events

/-- Each proximity result gives the level of R2; from UNPLUGGED and PLUG_SETTLE it moves plug detection as R3
says, 10 ms a result. The release button, a change from LATCHED to RELEASE, is a stop request with RELEASED in
ACTIVE, SUSPENDED and SWEEP_ISOLATED (R24; the target record and the pending release go as it is recorded,
R160, log 28), and queues LEAVE in ONLINE in the other states (R17). A loss of plug takes the line to OFFLINE
(R36, R37, R51, R166) and ends the open supervisions (R5); with either relay commanded closed it is a trip
with PLUG_LOST, with all that the latch does and FAULT (R18, R19, R99; the end of a sweep led here is log
71's, the forced flag log 51's, LOCAL's clear count log 63's), and otherwise closes the session with UNPLUGGED
and forgets the identification (R18), or is a weld where the contactor still reads closed (R5, log 12). At 100
ms of LATCHED the sequencer enters PLUGGED and raises PLUG and SEQ_STATE (R3). -/
def Obligations.ProximityMovesPlugDetection : Prop :=
  ∀ (s : State) (v : Nat), LineSettled s →
    (settleDue s = false →
      (takeProximity v s).psq.prox =
        (if v < 2000 then .latched else if v < 3500 then .release else .none) ∧
      (s.psq.seq = .unplugged →
        (takeProximity v s).psq.seq =
          (if v < 2000 ∧ s.psq.prox ≠ .latched then .plugSettle
           else if 3500 ≤ v ∧ s.psq.prox ≠ .none ∧ s.psq.contactorFb = true ∧
              s.psq.contactorCmd = false then .fault
           else .unplugged)) ∧
      (s.psq.seq = .plugSettle → s.psq.contactorCmd = false → s.psq.prechargeCmd = false →
        (takeProximity v s).psq.seq =
          (if v < 3500 ∨ s.psq.prox = .none then .plugSettle
           else if s.psq.contactorFb = true then .fault else .unplugged) ∧
        (v < 2000 → (takeProximity v s).psq.settleMs = s.psq.settleMs + 10) ∧
        (2000 ≤ v → v < 3500 → (takeProximity v s).psq.settleMs = 0)) ∧
      (2000 ≤ v → v < 3500 → s.psq.prox = .latched → DriveSafe s →
        match s.psq.seq with
        | .active | .suspended =>
          OnlyChain (stopBegun .released { s with psq.prox := .release }) (takeProximity v s)
        | .sweepIsolated _ =>
          if s.psq.stopCause ≠ none then takeProximity v s = { s with psq.prox := .release }
          else
            (takeProximity v s).imn.target = none ∧ (takeProximity v s).imn.pendingRelease = false ∧
            IsolatedStop .released false { s with psq.prox := .release } (takeProximity v s) ∧
            ((takeProximity v s).psq.seq = .identified → (∀ r, s.imn.sweep ≠ .leading r) →
              QueuedOwn .leave s (takeProximity v s))
        | .unplugged | .plugSettle => True
        | _ =>
          takeProximity v s =
            { s with psq.prox := .release, fli.queue := (takeProximity v s).fli.queue } ∧
          QueuedOwn .leave s (takeProximity v s)) ∧
      (3500 ≤ v → s.psq.prox ≠ .none →
        (takeProximity v s).fli.line = .offline ∧
        (s.fli.line ≠ .offline → OfflineEntered s (takeProximity v s)) ∧
        if s.psq.contactorCmd = true ∨ s.psq.prechargeCmd = true then
          LatchHolds .plugLost (takeProximity v s) ∧ (DriveSafe s → LiveLoss s (takeProximity v s))
        else
          (takeProximity v s).psq.contactorSup = false ∧ (takeProximity v s).psq.prechargeSup = false ∧
          if s.psq.seq = .fault then
            (takeProximity v s).psq.seq = .fault ∧ (takeProximity v s).psq.ident = none
          else
            (takeProximity v s).psq.ident = none ∧
            (s.psq.seq ≠ .unplugged →
              SessionEnded .unplugged s.psq.forced s (takeProximity v s)) ∧
            if s.psq.contactorFb = true then
              (takeProximity v s).psq.seq = .fault ∧
                (takeProximity v s).psq.faultCause = some .contactorWeld
            else (takeProximity v s).psq.seq = .unplugged)) ∧
    (s.power = .running →
      if s.psq.seq = .plugSettle ∧ s.psq.prox = .latched ∧ 100 ≤ s.psq.settleMs then
        Completes (exec .plugSettleComplete s) fun t =>
          t.psq = { s.psq with seq := .plugged, ident := none, batteryLow := false } ∧
          .plug ∈ t.cpt.events ∧ .seqState ∈ t.cpt.events ∧
          t.fli.line = (if s.fli.silentTimer = true then .silent else .listen) ∧
          t.mtr.table = s.mtr.table ∧ t.mst = s.mst ∧ t.msq = s.msq ∧ t.cfg = s.cfg
      else exec .plugSettleComplete s = .next s)

/-- The timers of an energizing and the open supervisions (R5, R10, R23): each expiry of a running timer
enters FAULT with its cause (R20, with R162's end of a leader's own step; a session closes with the forced
flag as recorded, log 51; the clear count of LOCAL is log 63's), a supervision only where the contact still
reads closed, also where the relay has been commanded closed again (log 13); an expiry of a timer that does
not run does nothing (log 1). -/
def Obligations.RelayTimersEnterFault : Prop :=
  ∀ (s : State), s.power = .running → DriveSafe s → RegulationSafe s →
    (if s.psq.prechargeTimer = true then
      Completes (exec .prechargeTimeout s) fun t => FaultEntered .prechargeFail .trip s t
     else exec .prechargeTimeout s = .next s) ∧
    (if s.psq.contactorTimer = true then
      Completes (exec .contactorTimeout s) fun t => FaultEntered .contactorFail .trip s t
     else exec .contactorTimeout s = .next s) ∧
    (if s.psq.contactorSup = true ∧ s.psq.contactorFb = true ∧ s.psq.seq ≠ .fault then
      Completes (exec (.openSupervisionExpiry .contactor) s) fun t =>
        FaultEntered .contactorWeld .contactorWeld s t
     else exec (.openSupervisionExpiry .contactor) s = .next { s with psq.contactorSup := false }) ∧
    (if s.psq.prechargeSup = true ∧ s.psq.prechargeFb = true ∧ s.psq.seq ≠ .fault then
      Completes (exec (.openSupervisionExpiry .precharge) s) fun t =>
        FaultEntered .relayStuck .trip s t
     else exec (.openSupervisionExpiry .precharge) s = .next { s with psq.prechargeSup := false })

/-- The battery-low timer at 1 s in ACTIVE makes the stop request of BATTERY_LOW (R13). The 3 s timer
opens the contactor in STOPPING with the forced flag set, and in ISO_RAMP, where only a recorded stop is
forced (R14, R22). With the contactor the monitor enters LOCAL (R138, R144, R149; its clear count, log 63),
and a measurer drops its role with the sweep it leads, but for its own step (R147, R164; no pending release
is left of it, log 68). -/
def Obligations.StopTimersOpenTheContactor : Prop :=
  ∀ (s : State), s.power = .running → DriveSafe s → LineSettled s →
    (if s.psq.batteryLow = true ∧ s.psq.seq = .active then
      Completes (exec .batteryLowTimeout s) fun t =>
        OnlyChain (stopBegun .batteryLow s) t
     else exec .batteryLowTimeout s = .next s) ∧
    (if s.psq.stopTimer = false then exec .stopTimerExpiry s = .next s
     else match s.psq.seq with
      | .stopping => s.psq.contactorCmd = true → s.psq.contactorFb = true →
        Completes (exec .stopTimerExpiry s) fun t =>
          t.psq = { s.psq with
            contactorCmd := false, contactorSup := true, stopTimer := false, forced := true } ∧
          t.ptu.enable = false ∧ t.shu.joint = false ∧ t.imn.contactorClosed = false ∧
          (s.imn.mode ≠ .localMode → EnteredLocal s t) ∧ RoleLost s t ∧
          t.mtr = s.mtr ∧ t.mst = s.mst
      | .sweepIsolated .isoRamp => s.psq.contactorCmd = true → s.psq.contactorFb = true →
        Completes (exec .stopTimerExpiry s) fun t =>
          t.psq = { s.psq with
            seq := .sweepIsolated .isoOpen, contactorCmd := false, contactorSup := true,
            stopTimer := false, forced := s.psq.forced || s.psq.stopCause.isSome } ∧
          t.ptu.enable = false ∧ t.shu.joint = false ∧ t.imn.contactorClosed = false ∧
          (s.imn.mode ≠ .localMode → EnteredLocal s t) ∧ RoleLost s t ∧
          .seqState ∈ t.cpt.events ∧ t.mtr = s.mtr ∧ t.mst = s.mst
      | _ => True)

/-- The contactor's contact closes: within the contactor timer PRECHARGE becomes ACTIVE with all of R11's
hand-offs and the session's first activation (R174 to R176), whose checkpoint follows the counters write of
the opening (R188), or takes the place of a pending checkpoint ahead of it (R187; the model's choice, log 57),
and ISO_REJOIN the recorded return state with the output enable, JOINT and IMN's report (R23); a monitor in
LOCAL enters JOINT-passive with it (R138, R144, R149, R150); commanded open without a supervision it is a weld
at once (R5; a session closes with the forced flag as recorded, log 51); in FAULT it has no effect. -/
def Obligations.ContactorClosedMakesActive : Prop :=
  ∀ (s : State), s.power = .running → DriveSafe s → LineSettled s → RegulationSafe s →
    (s.psq.contactorFb = true → exec (.relayFeedbackChange .contactor true) s = .next s) ∧
    (s.psq.contactorFb = false → s.psq.contactorCmd = false →
      if s.psq.contactorSup = true ∨ s.psq.seq = .fault then
        exec (.relayFeedbackChange .contactor true) s = .next { s with psq.contactorFb := true }
      else Completes (exec (.relayFeedbackChange .contactor true) s) fun t =>
        FaultEntered .contactorWeld .contactorWeld s t) ∧
    (s.psq.contactorFb = false → s.psq.contactorTimer = true → s.psq.seq = .precharge →
      ∀ k, s.mtr.prefetched = some k →
      Completes (exec (.relayFeedbackChange .contactor true) s) fun t =>
        t.psq = { s.psq with
          seq := .active, contactorFb := true, contactorTimer := false, prechargeCmd := false,
          prechargeSup := s.psq.prechargeCmd || s.psq.prechargeSup, start := none } ∧
        .seqState ∈ t.cpt.events ∧ t.ptu.enable = true ∧
        (s.ptu.enable = false → t.ptu.gridTimer = true) ∧
        t.shu.session = true ∧ t.shu.joint = true ∧ t.fli.departed = false ∧
        t.imn.contactorClosed = true ∧ t.imn.mode ≠ .localMode ∧
        (s.imn.mode = .localMode → EnteredPassive s t) ∧
        t.mtr.session.map (·.base) = some
          { number := (s.mst.working.sessions + 1) % 65536, station := s.cfg.station
            feederId := (s.psq.ident.map (·.feederId)).getD 0
            ratingClass := (s.psq.ident.map (·.ratingClass)).getD 0
            stamp := (s.psq.start.map (·.2)).getD 0, elapsed := 0
            flags :=
              { reverseFlow := false, fallbackUsed := s.shu.conds.any
                identLenient := (s.psq.ident.map (·.lenient)).getD false
                insulation := false, forcedStop := false, estimated := false }
            items := [⟨k.slot, k.desc.rateChg, k.desc.rateCond, 0, 0, 0, none⟩] } ∧
        Activated k s t ∧
        (∀ b, t.mtr.session.map (·.base) = some b →
          CheckpointTaken [.counters t.mst.working] b s t) ∧
        t.mst = { s.mst with
          working := { s.mst.working with sessions := (s.mst.working.sessions + 1) % 65536 }
          sessionEnergy := 0, lifeEnergy := 0, writes := t.mst.writes
          inFlight := t.mst.inFlight }) ∧
    (s.psq.contactorFb = false → s.psq.contactorTimer = true →
      s.psq.seq = .sweepIsolated .isoRejoin →
      Completes (exec (.relayFeedbackChange .contactor true) s) fun t =>
        t.psq = { s.psq with
          seq := if s.psq.isoReturn = some .suspended then .suspended else .active
          contactorFb := true, contactorTimer := false, prechargeCmd := false,
          prechargeSup := s.psq.prechargeCmd || s.psq.prechargeSup, isoReturn := none
          batteryLow := s.psq.batteryLow && s.psq.isoReturn != some .suspended } ∧
        .seqState ∈ t.cpt.events ∧ t.ptu.enable = true ∧
        (s.ptu.enable = false → t.ptu.gridTimer = true) ∧ t.shu.joint = true ∧
        t.shu.session = s.shu.session ∧ t.imn.contactorClosed = true ∧ t.imn.mode ≠ .localMode ∧
        (s.imn.mode = .localMode → EnteredPassive s t) ∧
        t.mtr = s.mtr ∧ t.mst = s.mst ∧ t.fli = s.fli)

/-- A cancel completes (R16): IDENTIFIED with nothing kept of the energizing. -/
abbrev CancelDone (s t : State) : Prop :=
  t.psq = { s.psq with
    seq := .identified, cancelPending := false, cancelContactor := false, stopCause := none
    forced := false, start := none, isoReturn := none, batteryLow := false } ∧
  .seqState ∈ t.cpt.events ∧ t.mtr = s.mtr ∧ t.mst = s.mst ∧ t.cfg = s.cfg ∧ t.ptu.enable = s.ptu.enable

/-- A stop has completed with its recorded cause and forced flag (R14, R24): IDENTIFIED with the
identification kept, no pending release left of an isolation (R160, log 67), and LEAVE queued where the cause
is RELEASED. -/
abbrev StopDone (cause : EndCause) (s t : State) : Prop :=
  t.psq.seq = .identified ∧ t.psq.ident = s.psq.ident ∧ t.psq.stopCause = none ∧
  t.psq.stopTimer = false ∧ t.imn.pendingRelease = false ∧ .seqState ∈ t.cpt.events ∧
  SessionEnded cause s.psq.forced s t ∧
  (cause = .released → QueuedOwn .leave s t) ∧ (cause ≠ .released → t.fli = s.fli) ∧
  t.cfg = s.cfg ∧ t.msq = s.msq

/-- The monitor has been told of ISO_WAIT with no release pending: a fresh LOCAL cycle, for a leader with the
20 s cycle timer of its step and no result of it yet (R162), and for a target with its verdict emptied and
ISOLATED (code 1) answered (R159). With neither, nothing moves. -/
abbrev IsolationReported (s t : State) : Prop :=
  match s.imn.sweep, s.imn.target with
  | .leading l, _ =>
    t.fli = s.fli ∧ t.imn = { s.imn with
      sweep := .leading { l with cycleTimer := true, ownResults := 0 }
      cycle := some ⟨.awaiting, 0, 0, none, none, false⟩, coupling := true }
  | _, some g =>
    QueuedOwn (.sweepAnswer (BitVec.ofNat 8 s.cfg.station) 1) s t ∧ t.imn = { s.imn with
      target := some { g with verdict := none }
      cycle := some ⟨.awaiting, 0, 0, none, none, false⟩, coupling := true }
  | _, none => t.fli = s.fli ∧ t.imn = s.imn

/-- A relay's contact opens. The contactor's completes a stop with its recorded cause and the forced flag, and
LEAVE is queued where the cause is RELEASED (R14); ISO_OPEN becomes ISO_WAIT, which the monitor is told (R159,
R162), or ISO_REJOIN with a pending release (R159), or ends in IDENTIFIED where a stop is recorded (R22, R24).
The later of both contacts completes a stop recorded in ISO_REJOIN (R24), and a pending cancel is done when
every relay it commanded open reads open (R16). Where nothing waits for it, a contact that opens only changes
its reading and ends its supervision; the precharge relay's closing contact is read and nothing more. -/
def Obligations.ContactorOpenCompletesAStop : Prop :=
  ∀ (s : State), s.power = .running → DriveSafe s → LineSettled s →
    (s.psq.contactorFb = false → exec (.relayFeedbackChange .contactor false) s = .next s) ∧
    (s.psq.contactorFb = true → s.psq.contactorCmd = false →
      (s.psq.seq = .stopping ∨ s.psq.seq = .sweepIsolated .isoOpen ∨
          (s.psq.seq = .sweepIsolated .isoRejoin ∧ s.psq.prechargeFb = false) →
        ∀ cause, s.psq.stopCause = some cause →
        Completes (exec (.relayFeedbackChange .contactor false) s) fun t =>
          StopDone cause s t ∧ t.psq.contactorFb = false ∧ t.psq.contactorSup = false) ∧
      (s.psq.seq = .sweepIsolated .isoOpen → s.psq.stopCause = none →
        Completes (exec (.relayFeedbackChange .contactor false) s) fun t =>
          (if s.imn.pendingRelease = true then
            t.psq = { s.psq with
              seq := .sweepIsolated .isoRejoin, contactorFb := false, contactorSup := false,
              prechargeCmd := true, prechargeTimer := true } ∧
            t.imn = { s.imn with pendingRelease := false } ∧ t.fli = s.fli
           else
            t.psq = { s.psq with
              seq := .sweepIsolated .isoWait, contactorFb := false, contactorSup := false } ∧
            IsolationReported s t) ∧
          .seqState ∈ t.cpt.events ∧ t.mtr = s.mtr ∧ t.shu = s.shu) ∧
      (s.psq.cancelPending = true → s.psq.prechargeFb = false →
        Completes (exec (.relayFeedbackChange .contactor false) s) fun t =>
          CancelDone { s with psq := { s.psq with contactorFb := false, contactorSup := false } } t)) ∧
    (s.psq.contactorFb = true →
      s.psq.contactorCmd = true ∨
        (s.psq.seq ≠ .stopping ∧ s.psq.seq ≠ .sweepIsolated .isoOpen ∧
          (s.psq.seq = .sweepIsolated .isoRejoin → s.psq.stopCause = none ∨ s.psq.prechargeFb = true) ∧
          (s.psq.cancelPending = true → s.psq.prechargeFb = true)) →
      exec (.relayFeedbackChange .contactor false) s = .next
        { s with psq := { s.psq with contactorFb := false, contactorSup := false } }) ∧
    exec (.relayFeedbackChange .precharge true) s = .next { s with psq.prechargeFb := true } ∧
    (s.psq.prechargeFb = false → exec (.relayFeedbackChange .precharge false) s = .next s) ∧
    (s.psq.prechargeFb = true →
      if s.psq.seq = .sweepIsolated .isoRejoin ∧ s.psq.stopCause ≠ none ∧ s.psq.contactorFb = false then
        ∀ cause, s.psq.stopCause = some cause →
        Completes (exec (.relayFeedbackChange .precharge false) s) fun t =>
          StopDone cause s t ∧ t.psq.prechargeFb = false ∧ t.psq.prechargeSup = false
      else if s.psq.cancelPending = true ∧
          ¬ (s.psq.cancelContactor = true ∧ s.psq.contactorFb = true) then
        Completes (exec (.relayFeedbackChange .precharge false) s) fun t =>
          CancelDone { s with psq := { s.psq with prechargeFb := false, prechargeSup := false } } t
      else exec (.relayFeedbackChange .precharge false) s = .next
        { s with psq := { s.psq with prechargeFb := false, prechargeSup := false } })

/-! ## Power timing (R88 to R105) -/

/-- A slot's LIMIT is in the latch and its latest result lies outside its limits (R104, condition 2). -/
abbrev LimitPersists (l : TripLatch) (s : State) (i : Fin 16) : Prop :=
  (l.first = .limit i ∨ .limit i ∈ l.also) ∧
  (slotValue i s < s.msq.slots[i].inUse.low ∨ s.msq.slots[i].inUse.high < slotValue i s)

/-- A gate feedback input of a leg reads on. -/
abbrev FeedbackOn (s : State) (k : Leg) : Prop :=
  (s.ptu.feedback.get k).upper = true ∨ (s.ptu.feedback.get k).lower = true

/-- The legs of `t` are those of `s` but for the timing of their conflicts (R96). -/
abbrev LegsButConflicts (s t : State) : Prop :=
  ∀ k : Leg, t.ptu.legs.get k = { s.ptu.legs.get k with conflict := (t.ptu.legs.get k).conflict }

/-- The inactive level of an output, by its group's active level (R94); before CONFIGURE it floats. -/
abbrev inactiveLevel (l : Option Level) : PinLevel :=
  match l with
  | some .high => .low
  | some .low => .high
  | none => .floating

/-- TRIP_CLEAR is answered ACCEPTED while the latch is clear; while it is set, the first of R104's
conditions that holds refuses it and is named, and with none the latch is cleared and nothing else but the
timing of the leg conflicts, which see leg D's output again (R96); with the enable clear, as a set latch
leaves it, the gate outputs return to their inactive level. -/
def Obligations.TripClearChecksItsConditions : Prop :=
  ∀ (s : State), s.power = .running →
    match s.ptu.trip with
    | none => exec .tripClear s = .next (answerEmpty .accepted s)
    | some l =>
      if s.ptu.extInactive = false then
        exec .tripClear s = .next (answer .tripPersists (.tripCause .ext) s)
      else if ∃ i : Fin 16, LimitPersists l s i then
        ∃ i : Fin 16, LimitPersists l s i ∧
          exec .tripClear s = .next (answer .tripPersists (.tripCause (.limit i)) s)
      else if FeedbackOn s .u ∨ FeedbackOn s .v ∨ FeedbackOn s .w ∨ FeedbackOn s .d then
        ∃ k : Leg, FeedbackOn s k ∧
          exec .tripClear s = .next (answer .tripPersists (.tripCause (.legConflict k)) s)
      else if s.cfg.linkCeiling < slotNat 6 s then
        exec .tripClear s = .next (answer .tripPersists (.tripCause .linkOver) s)
      else Completes (exec .tripClear s) fun t =>
        t = answerEmpty .accepted
          { s with ptu := { s.ptu with trip := none, legs := t.ptu.legs } } ∧
        LegsButConflicts s t ∧
        (s.ptu.enable = false → ∀ (k : Leg) (d : Device),
          gateOutput t k d = inactiveLevel (if k = .d then t.cfg.dcLevel else t.cfg.feLevel))

/-- A trip cause is taken (R99). The first one sets the latch: the output enable is cleared with the
regulator's values (R82), the heater duty and open timer are 0 (R130), TRIP is raised, every output is cut,
and a sequencer that energizes or charges enters FAULT with cause TRIP (R19, R20; a session closes with the
forced flag as recorded, log 51). A later one only joins the also-set. -/
abbrev CauseTaken (c : TripCause) (s t : State) : Prop :=
  match s.ptu.trip with
  | none =>
    t.ptu.trip = some ⟨c, []⟩ ∧ LatchActs s t ∧
    (match s.psq.seq with
      | .precharge | .active | .suspended | .stopping | .sweepIsolated _ =>
        FaultEntered .trip .trip s t
      | _ => t.psq = s.psq ∧ t.mtr = s.mtr ∧ t.mst = s.mst) ∧ SettingsKept s t
  | some l =>
    ∀ u, t.ptu.trip = some u →
      u.first = l.first ∧ (∀ x : TripCause, x ∈ u.also ↔ x ∈ l.also ∨ (x = c ∧ c ≠ l.first)) ∧
      t = { s with ptu.trip := some u }

/-- The external line's reading sets the inactive timer back and starts or clears the filter timer, and the
inactive timer stops at 10 ms (R100). The causes that PTU raises itself: EXT after the filter (R100),
GRID_LOST when the supervision timer expires (R101), and LEG_CONFLICT from the continuous check (R96) and from
the feedback latched at the end of a dead time (R95), where neither device of the leg turns on. After a
raising, a leg's conflict that has ended for 50 ns is clear again, leg D's by log 36. A session that the trip
closes has the forced flag as recorded (log 51), and a monitor that enters LOCAL the clear count of log 63. A
row whose timer does not run does nothing (log 1). -/
def Obligations.TripCausesSetTheLatch : Prop :=
  ∀ (s : State) (k : Leg) (active : Bool), s.power = .running → DriveSafe s → RegulationSafe s →
    exec (.extTripLineChange active) s = .next
      (if active = s.ptu.extActive then s
       else if active = true then
        { s with ptu := { s.ptu with
            extActive := true, extFilter := .running, extInactive := false } }
       else
        { s with ptu := { s.ptu with
            extActive := false, extFilter := .zero, extInactive := false } }) ∧
    exec .extInactiveTimerExpiry s = .next
      (if s.ptu.extActive = true then s else { s with ptu.extInactive := true }) ∧
    (if s.ptu.extFilter = .running then
      Completes (exec .extTripFilterExpiry s) fun t =>
        t.ptu.trip ≠ none ∧ CauseTaken .ext { s with ptu.extFilter := .passed } t
     else exec .extTripFilterExpiry s = .next s) ∧
    (if s.ptu.gridTimer = true then
      Completes (exec .gridSupervisionExpiry s) fun t =>
        t.ptu.trip ≠ none ∧ CauseTaken .gridLost { s with ptu.gridTimer := false } t
     else exec .gridSupervisionExpiry s = .next s) ∧
    (match (s.ptu.legs.get k).conflict with
      | .timing => Completes (exec (.legConflictTimerExpiry k) s) fun t =>
        t.ptu.trip ≠ none ∧
        CauseTaken (.legConflict k)
          { s with ptu.legs := s.ptu.legs.set k { s.ptu.legs.get k with conflict := .raised } } t
      | .leaving => exec (.legConflictTimerExpiry k) s = .next
        { s with ptu.legs := s.ptu.legs.set k { s.ptu.legs.get k with conflict := .clear } }
      | _ => exec (.legConflictTimerExpiry k) s = .next s) ∧
    ∀ i, (s.ptu.legs.get k).deadTime = some i →
      (i.turnedOff = some .upper ∧ (s.ptu.feedback.get k).upper = true) ∨
        (i.turnedOff = some .lower ∧ k ≠ .d ∧ (s.ptu.feedback.get k).lower = true) →
      Completes (exec (.deadTimeEnd k) s) fun t =>
        t.ptu.trip ≠ none ∧ CauseTaken (.legConflict k) { s with ptu.legs := t.ptu.legs } t ∧
        (t.ptu.legs.get k).deadTime = none ∧
        (s.ptu.trip = none → s.ptu.enable = true →
          (t.ptu.legs.get k).upperOn = false ∧ (t.ptu.legs.get k).lowerOn = false)

/-- A leg is in conflict (R96): both its feedback inputs read on; for leg D the upper one reads on while
the lower output stands at its active level. -/
abbrev LegInConflict (s : State) (k : Leg) : Prop :=
  (s.ptu.feedback.get k).upper = true ∧
  (k ≠ .d → (s.ptu.feedback.get k).lower = true) ∧
  (k = .d →
    (s.cfg.dcLevel = some .high ∧ gateOutput s .d .lower = .high) ∨
      (s.cfg.dcLevel = some .low ∧ gateOutput s .d .lower = .low))

/-- Each leg's timing follows its conflict: 50 ns in conflict are timed anew at each beginning, and after
a raising 50 ns out of it (R96). -/
abbrev ConflictsFollow (s t : State) : Prop :=
  ∀ k : Leg, (t.ptu.legs.get k).conflict =
    match (s.ptu.legs.get k).conflict with
    | .clear | .timing => if LegInConflict t k then .timing else .clear
    | .raised | .leaving => if LegInConflict t k then .raised else .leaving

/-- The carrier's position, which the row carries and which counts as 4096 above it (log 35), gives each leg
its command (R90). A command that leaves a device turns it off
and starts the dead time; one that names a device with both off starts one too; a running interval runs on
(R92). At its end the device that the command names turns on. Feedback inputs are read, leg D having no
lower one (5.5), and every row times the conflicts anew (R96, leg D's by log 36). -/
def Obligations.LegsSwitchByCommandAndDeadTime : Prop :=
  ∀ (s : State) (k : Leg) (p : Nat) (d : Device) (on : Bool), s.power = .running →
    (Completes (exec (.legCommandChange k p) s) fun t =>
      t = { s with ptu := { s.ptu with position := min p 4096, legs := t.ptu.legs } } ∧
      ConflictsFollow s t ∧
      (∀ j : Leg, j ≠ k →
        t.ptu.legs.get j = { s.ptu.legs.get j with conflict := (t.ptu.legs.get j).conflict }) ∧
      (t.ptu.legs.get k).command =
        (if s.ptu.enable = false then .off
         else if 4096 < min p 4096 + s.ptu.inUse.leg k then .upper else .lower) ∧
      t.ptu.legs.get k =
        (if (t.ptu.legs.get k).command = (s.ptu.legs.get k).command then
          { s.ptu.legs.get k with conflict := (t.ptu.legs.get k).conflict }
         else if (s.ptu.legs.get k).upperOn = true ∧ (t.ptu.legs.get k).command ≠ .upper then
          ⟨(t.ptu.legs.get k).command, false, (s.ptu.legs.get k).lowerOn, some ⟨some .upper⟩,
            (t.ptu.legs.get k).conflict⟩
         else if (s.ptu.legs.get k).lowerOn = true ∧ (t.ptu.legs.get k).command ≠ .lower then
          ⟨(t.ptu.legs.get k).command, (s.ptu.legs.get k).upperOn, false, some ⟨some .lower⟩,
            (t.ptu.legs.get k).conflict⟩
         else
          ⟨(t.ptu.legs.get k).command, (s.ptu.legs.get k).upperOn, (s.ptu.legs.get k).lowerOn,
            if (s.ptu.legs.get k).deadTime = none ∧ (t.ptu.legs.get k).command ≠ .off ∧
                (s.ptu.legs.get k).upperOn = false ∧ (s.ptu.legs.get k).lowerOn = false
            then some ⟨none⟩ else (s.ptu.legs.get k).deadTime,
            (t.ptu.legs.get k).conflict⟩)) ∧
    ((s.ptu.legs.get k).deadTime = none → exec (.deadTimeEnd k) s = .next s) ∧
    (∀ i, (s.ptu.legs.get k).deadTime = some i →
      (i.turnedOff = some .upper → (s.ptu.feedback.get k).upper = false) →
      (i.turnedOff = some .lower → k ≠ .d → (s.ptu.feedback.get k).lower = false) →
      Completes (exec (.deadTimeEnd k) s) fun t =>
        t = { s with ptu.legs := t.ptu.legs } ∧ ConflictsFollow s t ∧
        (∀ j : Leg, j ≠ k →
          t.ptu.legs.get j = { s.ptu.legs.get j with conflict := (t.ptu.legs.get j).conflict }) ∧
        t.ptu.legs.get k =
          ⟨(s.ptu.legs.get k).command, (s.ptu.legs.get k).command == .upper,
            (s.ptu.legs.get k).command == .lower, none, (t.ptu.legs.get k).conflict⟩) ∧
    Completes (exec (.gateFeedbackChange k d on) s) fun t =>
      t = { s with ptu := { s.ptu with legs := t.ptu.legs, feedback := t.ptu.feedback } } ∧
      LegsButConflicts s t ∧ ConflictsFollow s t ∧
      (∀ j : Leg, j ≠ k → t.ptu.feedback.get j = s.ptu.feedback.get j) ∧
      t.ptu.feedback.get k =
        (match d, k with
          | .upper, _ => { s.ptu.feedback.get k with upper := on }
          | .lower, .d => s.ptu.feedback.get k
          | .lower, _ => { s.ptu.feedback.get k with lower := on })

/-- A loop's output and new integrator by R83. -/
abbrev LoopRule (kp ki : Nat) (e i : Int) (out : Nat) (i' : Int) : Prop :=
  (out : Int) = max 0 (min ((kp * e + i) / 256) 3891) ∧
  i' =
    if (3891 < (kp * e + i) / 256 ∧ 0 < e) ∨ ((kp * e + i) / 256 < 0 ∧ e < 0) then i
    else max (-8388608) (min (i + ki * e) 8388608)

/-- The loop computation event, where the trough counter has reached N (R105): with the output enable set
both loops run by R83 and R84 and the four values are written at once (R82, R85); otherwise only the
counter returns to 0. A carrier trough, with no loop event and no lapse left to take (log 2), transfers the
compare buffer, starts the fast scan, raises the trough counter and advances the line timing (R91, R105,
R117, R118); a fast scan that still runs goes on, and no second one starts (log 17). A frequency and divider
from CONFIGURE come into use with the counter at 0, that trough not counted and with no loop event (log 52),
and a new frequency interrupts the line timing (R89, R119). -/
def Obligations.TroughsAndLoopEventsRun : Prop :=
  ∀ (s : State), s.power = .running →
    (if s.ptu.troughCount < s.ptu.divider then exec .loopComputationEvent s = .next s
      else if s.ptu.enable = false then
        exec .loopComputationEvent s = .next { s with ptu.troughCount := 0 }
      else Completes (exec .loopComputationEvent s) fun t =>
        t = { s with
          crg := { s.crg with
            aFe := t.crg.aFe, dcDuty := t.crg.dcDuty, linkI := t.crg.linkI, batI := t.crg.batI }
          ptu := { s.ptu with troughCount := 0, buffer := t.ptu.buffer } } ∧
        LoopRule s.cfg.kpLink s.cfg.kiLink ((s.cfg.vLinkTarget : Int) - slotNat 6 s) s.crg.linkI
          t.crg.aFe t.crg.linkI ∧
        LoopRule s.cfg.kpBat s.cfg.kiBat ((s.crg.setpoint : Int) - (slotNat 8 s / 10 : Nat))
          s.crg.batI t.crg.dcDuty t.crg.batI ∧
        t.ptu.buffer.d = t.crg.dcDuty ∧
        (t.ptu.buffer.u : Int) =
          max 0 (min (2048 + t.crg.aFe * sine (s.msq.theta % 256) / 2048) 4095) ∧
        (t.ptu.buffer.v : Int) =
          max 0 (min (2048 + t.crg.aFe * sine ((s.msq.theta + 85) % 256) / 2048) 4095) ∧
        (t.ptu.buffer.w : Int) =
          max 0 (min (2048 + t.crg.aFe * sine ((s.msq.theta + 170) % 256) / 2048) 4095)) ∧
    (s.ptu.troughCount < s.ptu.divider → s.ptu.buffer.inRange →
      (s.msq.troughs < s.ptu.fc / 45 + 1 ∨ s.msq.outOfRange = true) →
      Completes (exec .carrierTrough s) fun t =>
        t.ptu = { s.ptu with
          fc := (s.ptu.nextTiming.map (·.1)).getD s.ptu.fc
          divider := (s.ptu.nextTiming.map (·.2)).getD s.ptu.divider
          nextTiming := none
          troughCount := if s.ptu.nextTiming = none then s.ptu.troughCount + 1 else 0
          inUse := s.ptu.buffer, position := 0, legs := t.ptu.legs
          heaterBuffer := t.ptu.heaterBuffer } ∧
        (∀ k : Leg,
          (t.ptu.legs.get k).command = if s.ptu.enable = true then .lower else .off) ∧
        t.msq.fastScan = (if s.msq.fastScan = none then some [] else s.msq.fastScan) ∧
        t.msq.converting =
          (if s.msq.fastScan = none ∧ s.msq.converting = none then some .fast
           else s.msq.converting) ∧
        t.msq.slots = s.msq.slots ∧ t.msq.slowScan = s.msq.slowScan ∧
        (if (s.ptu.nextTiming.map (·.1)).getD s.ptu.fc = s.ptu.fc then
          t = { s with ptu := t.ptu, msq := t.msq } ∧ t.ptu.heaterBuffer = s.ptu.heaterBuffer ∧
          t.msq.troughs = min 65535 (s.msq.troughs + 1) ∧
          t.msq.theta =
            (if s.msq.period = 0 then 0 else min 255 (256 * t.msq.troughs / s.msq.period)) ∧
          t.msq = { s.msq with
            troughs := t.msq.troughs, theta := t.msq.theta, fastScan := t.msq.fastScan,
            converting := t.msq.converting }
         else
          t.msq = { s.msq with
            fastScan := t.msq.fastScan, converting := t.msq.converting, period := 0, theta := 0,
            troughs := 0, outOfRange := true, phases := t.msq.phases } ∧
          (∀ k : Phase, t.msq.phases.get k = { s.msq.phases.get k with
            seen := false, sumV := 0, sumI := 0, count := 0 }) ∧
          t.crg.gridRange = true ∧
          OnlyChain { s with ptu := t.ptu, msq := t.msq, crg.gridRange := true } t))

/-! ## Measurement (R107 to R119) -/

/-- A slot after the publication of a raw count (R109 to R111): settings accepted come into use, the
result is corrected and held to the slot's range, and a result outside the limits is latched. -/
abbrev SlotPublished (signed : Bool) (w : Word16) (a b : SlotRecord) : Prop :=
  b.inUse = a.next.getD a.inUse ∧ b.next = none ∧
  b.latest =
    max (if signed = true then -32768 else 0)
      (min (((if signed = true then w.toInt else w.toNat) - b.inUse.offset) * b.inUse.gain / 65536)
        (if signed = true then 32767 else 65535)) ∧
  b.lowSeen = (a.lowSeen || decide (b.latest < b.inUse.low)) ∧
  b.highSeen = (a.highSeen || decide (b.inUse.high < b.latest))

/-- A published result outside its limits acts by its slot's limit action: EVENT raises LIMIT, TRIP has
the latch hold LIMIT with the slot (R103, R111). -/
abbrev LimitActed (t : State) (i : Fin 16) : Prop :=
  slotValue i t < t.msq.slots[i].inUse.low ∨ t.msq.slots[i].inUse.high < slotValue i t →
    (t.msq.slots[i].inUse.action = .event → .limit ∈ t.cpt.events) ∧
    (t.msq.slots[i].inUse.action = .trip → LatchHolds (.limit i) t)

/-- A published result lies outside its limits with action TRIP (R103, R111). -/
abbrev LimitTrips (t : State) (i : Fin 16) : Prop :=
  (slotValue i t < t.msq.slots[i].inUse.low ∨ t.msq.slots[i].inUse.high < slotValue i t) ∧
    t.msq.slots[i].inUse.action = .trip

/-- The heater state R123 and R124 select for what HTR holds. -/
abbrev HeaterSelected (old : HeaterState) (t : State) : Prop :=
  t.htr.state =
    if t.htr.isolateReq = true then .isolated
    else if t.htr.overcurrent = true ∨ t.htr.openLatch = true then .heaterFault
    else if t.htr.permission = .off ∨ t.cpt.configured = false then .off
    else match t.htr.tBat with
      | none => .sensorFault
      | some x =>
        if old = .heating then (if t.htr.tOff ≤ x then .coasting else .heating)
        else if x < t.htr.tOn then .heating else .coasting

/-- The relay is closed in the temperature states alone, a change of it leaves the duty at 0, closing it
starts the settle timer (R125) and opening it stops one that runs (log 54); P_heat_req follows the state and
the battery temperature (R126). -/
abbrev HeaterFollows (s t : State) : Prop :=
  t.htr.relay = (t.htr.state == .heating || t.htr.state == .coasting) ∧
  (t.htr.relay ≠ s.htr.relay → t.htr.duty = 0 ∧ t.htr.settleTimer = t.htr.relay) ∧
  (t.htr.relay = s.htr.relay → t.htr.settleTimer = s.htr.settleTimer) ∧
  (t.htr.duty = s.htr.duty ∨ t.htr.duty = 0) ∧
  t.htr.pHeatReq =
    (if t.htr.state = .heating then
      match t.htr.tBat with
      | none => 0
      | some x =>
        if x ≤ t.htr.tOn then t.htr.pHmax
        else if x < t.htr.tOff then
          t.htr.pHmax * (t.htr.tOff - x).toNat / (t.htr.tOff - t.htr.tOn).toNat
        else 0
     else 0)

/-- What a change of the heater's state, relay and request writes besides the chain. -/
abbrev OnlyHeater (s t : State) : Prop :=
  OnlyChain
    { s with
      htr := { s.htr with
        state := t.htr.state, relay := t.htr.relay, settleTimer := t.htr.settleTimer
        pHeatReq := t.htr.pHeatReq }
      crg.pHeatReq := t.crg.pHeatReq } t

/-- What a fast publication does to the sequencer where no trip comes with it: VLINK at V_pre closes the
contactor, at once where it already reads closed (R10, R23, log 14); IBAT below 10 dA ends the ramp of a stop
and of ISO_RAMP, and what waits for the contactor to open with it (R14, R22); and the battery-low timer
follows VBAT in ACTIVE (R13). -/
abbrev FastMovesSequencer (s t : State) : Prop :=
  if s.psq.prechargeTimer = true ∧ s.cfg.vPre ≤ slotNat 6 t then
    if s.psq.contactorFb = false then
      t.psq = { s.psq with
        contactorCmd := true, prechargeTimer := false, contactorTimer := true, batteryLow := false }
    else
      t.psq.seq =
        (if s.psq.seq = .precharge then .active
         else if s.psq.isoReturn = some .suspended then .suspended else .active) ∧
      t.psq.contactorCmd = true ∧ t.psq.contactorTimer = false ∧ t.psq.prechargeCmd = false ∧
      t.ptu.enable = true ∧ t.shu.joint = true ∧ t.imn.contactorClosed = true ∧
      .seqState ∈ t.cpt.events
  else if slotNat 8 t < 100 ∧ s.psq.contactorCmd = true ∧ s.psq.seq = .stopping then
    t.ptu.enable = false ∧ t.shu.joint = false ∧ t.imn.contactorClosed = false ∧
    if s.psq.contactorFb = true then
      t.psq = { s.psq with
        contactorCmd := false, contactorSup := true, stopTimer := false, batteryLow := false }
    else
      t.psq.seq = .identified ∧ .seqState ∈ t.cpt.events ∧
      ∀ cause, s.psq.stopCause = some cause → SessionEnded cause s.psq.forced s t
  else if slotNat 8 t < 100 ∧ s.psq.contactorCmd = true ∧ s.psq.seq = .sweepIsolated .isoRamp then
    t.ptu.enable = false ∧ t.shu.joint = false ∧ t.imn.contactorClosed = false ∧
    .seqState ∈ t.cpt.events ∧
    if s.psq.contactorFb = true then
      t.psq = { s.psq with
        seq := .sweepIsolated .isoOpen, contactorCmd := false, contactorSup := true
        stopTimer := false, batteryLow := false }
    else (match s.imn.sweep with
        | .leading r => r.phase = .ownStep
        | _ => True) → t.psq.seq =
      (if s.psq.stopCause ≠ none then .identified
       else if s.imn.pendingRelease = true then .sweepIsolated .isoRejoin
       else .sweepIsolated .isoWait)
  else (s.psq.seq = .sweepIsolated .isoRamp → s.psq.contactorCmd = true ∨ 100 ≤ slotNat 8 t) →
    t.psq = { s.psq with
      batteryLow := decide (s.psq.seq = .active ∧ slotNat 7 t < 2000) }

/-- What a fast publication does to the heater: IHEAT joins the accumulator (R128), and slot 9 above its high
limit sets the overcurrent latch, which raises HEATER and opens the relay (R125, R131). -/
abbrev FastMovesHeater (s t : State) : Prop :=
  t.htr.accSum = s.htr.accSum + slotNat 9 t ∧ t.htr.accCount = s.htr.accCount + 1 ∧
  if t.msq.slots[9].inUse.high < slotValue 9 t then
    t.htr.overcurrent = true ∧ t.htr.relay = false ∧ t.htr.pHeatReq = 0 ∧
    (s.htr.relay = true → t.htr.duty = 0) ∧
    t.htr.state = (if t.htr.isolateReq = true then .isolated else .heaterFault) ∧
    (s.htr.overcurrent = false → .heater ∈ t.cpt.events)
  else t.htr.overcurrent = s.htr.overcurrent

/-- A fast publication ends with each phase's crossing or sample (`Obligations.CrossingsAndLapsesCloseSpans`),
which takes the slots just published; with no lapse due (log 2) the phases' meters and the line period are
those the scan found. The order is log 16's. -/
abbrev FastEnds (s t u : State) : Prop :=
  t = phaseResult .w (phaseResult .v (phaseResult .u u)) ∧ u.msq.slots = t.msq.slots ∧
  u.ptu.fc = s.ptu.fc ∧
  ((∀ k : Phase, (s.msq.phases.get k).count < s.ptu.fc / 45 + 1) →
    s.msq.troughs < s.ptu.fc / 45 + 1 ∨ s.msq.outOfRange = true →
    u.msq.phases = s.msq.phases ∧ u.msq.troughs = s.msq.troughs ∧ u.msq.theta = s.msq.theta ∧
      u.msq.period = s.msq.period ∧ u.msq.outOfRange = s.msq.outOfRange)

/-- A slow publication selects the heater's state by the battery temperature of R122 and hands it to the
regulator, which evaluates the chain (R73, R123 to R127); then the monitor takes VISO
(`Obligations.SamplesRunTheHalves`) and the sequencer VPROX (`Obligations.ProximityMovesPlugDetection`), where
no trip came before as they stood at the scan. A limit that trips has set the latch by then, with all that
follows from it. The order is log 16's. -/
abbrev SlowEnds (s t u : State) : Prop :=
  t = takeProximity (slotValue 15 u) (takeViso (slotValue 13 u) u) ∧ u.msq = t.msq ∧
  LatchTakes (fun c => ∃ i : Fin 16, 10 ≤ i.val ∧ LimitTrips u i ∧ c = .limit i) s u ∧
  (s.ptu.trip = none → u.ptu.trip ≠ none → TripTaken s u) ∧
  u.htr.tBat =
    (if u.msq.tbat1Valid = true ∧ u.msq.tbat2Valid = true then
      some (min (slotValue 10 u) (slotValue 11 u))
     else if u.msq.tbat1Valid = true then some (slotValue 10 u)
     else if u.msq.tbat2Valid = true then some (slotValue 11 u)
     else none) ∧
  HeaterSelected s.htr.state u ∧ HeaterFollows s u ∧
  u.crg.tBat = u.htr.tBat ∧ u.crg.pHeatReq = u.htr.pHeatReq ∧
  (u.ptu.trip = none → ChainHolds u ∧ BudgetHeld u ∧ OnlyHeater
    { s with
      msq := u.msq, cpt := u.cpt, htr := { s.htr with tBat := u.htr.tBat }
      crg := { s.crg with tBat := u.crg.tBat } } u)

/-- Scans go pair by pair, the fast scan's first (R108): the timer starts the slow scan, a pair that ends is
kept, and the last pair's end publishes the scan's slots, corrected and checked, and leaves the other scan's
as they are. A result outside its limits with action TRIP is a trip cause (R103, R111), and so is a VLINK
result above the ceiling (R102): the latch takes these and no others, and as they set it, it acts as R99 says,
with FAULT and the session closed with TRIP where R19 has it (the forced flag as recorded, log 51; LOCAL's
clear count, log 63); the slow scan's temperatures are judged (R113). A fast publication moves the sequencer
by VLINK, VBAT and IBAT (R10, R13, R14, R22, R23) and the heater by IHEAT (R128, R131), and ends with the
crossings (R115 to R118); a slow one moves the heater by T_bat, with its budget and source (R122 to R127), and
the chain with it (R73 to R80), the monitor by VISO (R139) and the plug by VPROX (R2). The order in which the
results of one publication act, the phases in the order U, V, W and VISO before VPROX, is the model's (log
16), as is that opening the heater relay stops its settle timer (log 54). -/
def Obligations.ScansConvertAndPublish : Prop :=
  ∀ (s : State) (x y : Word16), s.power = .running → DriveSafe s → LineSettled s →
    exec .slowScanTimerExpiry s = .next
      (if s.msq.slowScan = none then
        { s with msq := { s.msq with
            slowScan := some []
            converting :=
              if s.msq.converting ≠ none then s.msq.converting
              else if s.msq.fastScan = none then some .slow else some .fast } }
       else s) ∧
    match s.msq.converting, s.msq.fastScan, s.msq.slowScan with
    | none, _, _ => exec (.pairConversionDone x y) s = .next s
    | some .fast, some done, _ =>
      (done.length < 4 → exec (.pairConversionDone x y) s = .next
        { s with msq := { s.msq with
            fastScan := some (done ++ [(x, y)]), converting := some .fast } }) ∧
      (done.length = 4 → Completes (exec (.pairConversionDone x y) s) fun t =>
        t.msq.fastScan = none ∧ t.msq.slowScan = s.msq.slowScan ∧
        t.msq.converting = (if s.msq.slowScan = none then none else some .slow) ∧
        (∀ i : Fin 16,
          if i.val < 10 then
            SlotPublished (decide (i.val ≤ 5))
              (((done ++ [(x, y)]).flatMap fun p => [p.1, p.2]).getD i.val 0)
              s.msq.slots[i] t.msq.slots[i] ∧ LimitActed t i
          else t.msq.slots[i] = s.msq.slots[i]) ∧
        LatchTakes
          (fun c => (∃ i : Fin 16, i.val < 10 ∧ LimitTrips t i ∧ c = .limit i) ∨
            (t.cfg.linkCeiling < slotNat 6 t ∧ c = .linkOver)) s t ∧
        (s.ptu.trip = none → t.ptu.trip ≠ none → TripTaken s t) ∧
        (t.ptu.trip = none → FastMovesSequencer s t) ∧ FastMovesHeater s t ∧
        (∃ u, FastEnds s t u) ∧
        t.cfg = s.cfg ∧ t.mtr.table = s.mtr.table ∧ t.mst.page = s.mst.page ∧ t.psq.prox = s.psq.prox)
    | some .slow, _, some done =>
      (done.length < 2 → exec (.pairConversionDone x y) s = .next
        { s with msq := { s.msq with
            slowScan := some (done ++ [(x, y)])
            converting := if s.msq.fastScan = none then some .slow else some .fast } }) ∧
      (done.length = 2 → Completes (exec (.pairConversionDone x y) s) fun t =>
        t.msq.slowScan = none ∧ t.msq.fastScan = s.msq.fastScan ∧
        t.msq.converting = (if s.msq.fastScan = none then none else some .fast) ∧
        (∀ i : Fin 16,
          if 10 ≤ i.val then
            SlotPublished (decide (i.val ≤ 13))
              (((done ++ [(x, y)]).flatMap fun p => [p.1, p.2]).getD (i.val - 10) 0)
              s.msq.slots[i] t.msq.slots[i] ∧ LimitActed t i
          else t.msq.slots[i] = s.msq.slots[i]) ∧
        t.msq.phases = s.msq.phases ∧
        (t.msq.tbat1Valid = true ↔ -400 ≤ slotValue 10 t ∧ slotValue 10 t ≤ 1200) ∧
        (t.msq.tbat2Valid = true ↔ -400 ≤ slotValue 11 t ∧ slotValue 11 t ≤ 1200) ∧
        (t.msq.tcoolValid = true ↔ -400 ≤ slotValue 12 t ∧ slotValue 12 t ≤ 1200) ∧
        t.psq.prox =
          (if slotValue 15 t < 2000 then .latched
           else if slotValue 15 t < 3500 then .release else .none) ∧
        (∃ u, SlowEnds s t u) ∧
        (s.ptu.trip = none → t.ptu.trip ≠ none → t.ptu.enable = false ∧ OutputsCut t ∧
          .trip ∈ t.cpt.events ∧
          (s.psq.seq.tripsToFault = true →
            t.psq.seq = .fault ∧ t.psq.faultCause = some .trip ∧ t.mtr.session = none)) ∧
        t.cfg = s.cfg ∧ t.mtr.table = s.mtr.table ∧ t.mst.page = s.mst.page)
    | _, _, _ => True

/-- V_ph and the grid range condition of new RMS voltages (R72): the mean of the three once each has been
seen, and a range of 1800 to 2650; GRID_RANGE is raised where the condition comes to hold, and nothing else. -/
abbrev GridJudged (s t : State) : Prop :=
  t.crg.vPh =
    (if t.crg.rmsSeen = ⟨true, true, true⟩ then
      (t.msq.phases.u.rmsV + t.msq.phases.v.rmsV + t.msq.phases.w.rmsV) / 3
     else 0) ∧
  (t.crg.gridRange = true ↔ t.crg.vPh < 1800 ∨ 2650 < t.crg.vPh ∨ t.msq.outOfRange = true) ∧
  t.cpt =
    (if s.crg.gridRange = false ∧ t.crg.gridRange = true then (raiseEvent .gridRange s).cpt
     else s.cpt)

/-- The regulator has taken a phase's new RMS voltage (R72): the phase is seen, V_ph and the condition are
judged, and the chain is evaluated, with a hand-over of d_own where the condition has changed (R73, R77). -/
abbrev RmsTaken (k : Phase) (s t : State) : Prop :=
  t.crg.rmsSeen = s.crg.rmsSeen.set k true ∧ GridJudged s t ∧
  ChainFollows (t.crg.gridRange != s.crg.gridRange) s t ∧ SetpointFalls s t ∧
  OnlyChain
    { s with
      msq := t.msq, cpt := t.cpt
      crg := { s.crg with
        rmsSeen := t.crg.rmsSeen, vPh := t.crg.vPh, gridRange := t.crg.gridRange } } t

/-- The line period out-of-range condition has been judged (R117), with GRID_FREQ where it comes to hold, and
the grid range condition follows it without a GRID_RANGE (R72); a change of that evaluates the chain and hands
d_own (R73, R77). -/
abbrev PeriodTaken (s t : State) : Prop :=
  (t.crg.gridRange = true ↔ t.crg.vPh < 1800 ∨ 2650 < t.crg.vPh ∨ t.msq.outOfRange = true) ∧
  t.cpt =
    (if s.msq.outOfRange = false ∧ t.msq.outOfRange = true then (raiseEvent .gridFreq s).cpt
     else s.cpt) ∧
  if t.crg.gridRange = s.crg.gridRange then t = { s with msq := t.msq, cpt := t.cpt }
  else
    ChainFollows true s t ∧ SetpointFalls s t ∧
    OnlyChain { s with msq := t.msq, cpt := t.cpt, crg.gridRange := t.crg.gridRange } t

/-- A phase's meter before and after a rising crossing with the results `v` and `i` (R115, R116): the span
is closed with its RMS values, where a crossing opened it, and the next begins with this sample. -/
abbrev SpanClosed (m n : PhaseMeter) (v i : Int) : Prop :=
  n.armed = false ∧ n.seen = true ∧ n.count = 1 ∧ n.sumV = v.natAbs * v.natAbs ∧
  n.sumI = i.natAbs * i.natAbs ∧
  (if m.seen = true then
    n.rmsV * n.rmsV ≤ m.sumV / m.count ∧ m.sumV / m.count < (n.rmsV + 1) * (n.rmsV + 1) ∧
    n.rmsI * n.rmsI ≤ m.sumI / m.count ∧ m.sumI / m.count < (n.rmsI + 1) * (n.rmsI + 1)
   else n.rmsV = m.rmsV ∧ n.rmsI = m.rmsI)

/-- A phase's part of a publication (R115, R116): a result of 0 or more after one of -100 or less is a rising
crossing, and every other result is squared into the sums; a crossing of VU ends a line period and sets θ to 0
(R117, R118): a first crossing keeps the period, a recorded one out of range raises GRID_FREQ where the
condition did not hold, and the grid supervision timer, restarted, runs on (R101, log 1). A later crossing
hands on its RMS voltage: V_ph and the grid range condition are judged anew, with GRID_RANGE where it comes to
hold, the chain is evaluated, and a change of the condition hands d_own (R72, R73, R77); a crossing of VU then
has the condition follow the period (the order is log 16's). A first crossing hands on nothing. A span that
has run for the lapse is closed with RMS values of 0 and its crossing-seen flag clear (R116), and V_ph is
judged anew in the same way (R72). The trough count's lapse sets the out-of-range condition and raises
GRID_FREQ (R117), and the grid range condition follows. Where neither is due the rows do nothing (log 1). -/
def Obligations.CrossingsAndLapsesCloseSpans : Prop :=
  ∀ (s : State) (k : Phase),
    (if (s.msq.phases.get k).armed = true ∧ 0 ≤ slotValue (voltageSlot k) s then
       SpanClosed (s.msq.phases.get k) ((phaseResult k s).msq.phases.get k)
         (slotValue (voltageSlot k) s) (slotValue (currentSlot k) s) ∧
       (phaseResult k s).msq.phases =
         s.msq.phases.set k ((phaseResult k s).msq.phases.get k) ∧
       ((s.msq.phases.get k).seen = false →
         phaseResult k s = { s with msq := (phaseResult k s).msq }) ∧
       ((s.msq.phases.get k).seen = true →
         if k = .u then
           ∃ u, u.msq = { s.msq with phases := (phaseResult k s).msq.phases } ∧
             RmsTaken k s u ∧ PeriodTaken u (phaseResult k s)
         else RmsTaken k s (phaseResult k s)) ∧
       (k = .u →
         (phaseResult k s).msq.troughs = 0 ∧ (phaseResult k s).msq.theta = 0 ∧
         (phaseResult k s).ptu.gridTimer = s.ptu.gridTimer ∧
         (s.msq.phases.u.seen = false →
           (phaseResult k s).msq.period = s.msq.period ∧
           (phaseResult k s).msq.outOfRange = s.msq.outOfRange) ∧
         (s.msq.phases.u.seen = true →
           (phaseResult k s).msq.period = s.msq.troughs ∧
           ((phaseResult k s).msq.outOfRange = true ↔
             65 * s.msq.troughs < s.ptu.fc ∨ s.ptu.fc < 45 * s.msq.troughs) ∧
           ((phaseResult k s).msq.outOfRange = true → s.msq.outOfRange = false →
             .gridFreq ∈ (phaseResult k s).cpt.events))) ∧
       (phaseResult k s).msq = { s.msq with
         phases := (phaseResult k s).msq.phases, troughs := (phaseResult k s).msq.troughs
         theta := (phaseResult k s).msq.theta, period := (phaseResult k s).msq.period
         outOfRange := (phaseResult k s).msq.outOfRange } ∧
       (k ≠ .u →
         (phaseResult k s).msq = { s.msq with phases := (phaseResult k s).msq.phases })
     else
       phaseResult k s = { s with
         msq.phases := s.msq.phases.set k { s.msq.phases.get k with
           armed :=
             (s.msq.phases.get k).armed || decide (slotValue (voltageSlot k) s ≤ -100)
           sumV :=
             (s.msq.phases.get k).sumV +
               (slotValue (voltageSlot k) s).natAbs * (slotValue (voltageSlot k) s).natAbs
           sumI :=
             (s.msq.phases.get k).sumI +
               (slotValue (currentSlot k) s).natAbs * (slotValue (currentSlot k) s).natAbs
           count := (s.msq.phases.get k).count + 1 } }) ∧
    (s.power = .running →
      (if (s.msq.phases.get k).count < s.ptu.fc / 45 + 1 then exec (.spanLapse k) s = .next s
       else Completes (exec (.spanLapse k) s) fun t =>
        t.msq = { s.msq with
          phases := s.msq.phases.set k ⟨(s.msq.phases.get k).armed, false, 0, 0, 0, 0, 0⟩ } ∧
        RmsTaken k s t) ∧
      (if s.msq.troughs < s.ptu.fc / 45 + 1 ∨ s.msq.outOfRange = true then
        exec .linePeriodLapse s = .next s
       else Completes (exec .linePeriodLapse s) fun t =>
        t.msq = { s.msq with outOfRange := true } ∧ t.crg.gridRange = true ∧ PeriodTaken s t ∧
        OnlyChain
          (raiseEvent .gridFreq { s with msq.outOfRange := true, crg.gridRange := true }) t))

/-! ## Charging and heating (R70 to R82, R121 to R132) -/

/-- SET_CHARGE, SET_BATTERY_LIMIT, the freshness timer and the ramp event: out-of-range values are refused
(R70, R71), values in range are stored and the whole chain follows from them (R73 to R80), with the setpoint
held to I_target (R81); a d_own lower than the last one handed is handed, with its extra computation (R77,
R53, R60, R63), and the heater takes its budget and source, with the duty at 0 where the budget becomes 0
(R127). The ramp event hands nothing, and raises the setpoint by at most R_up towards I_target, with the
output enable set (R81). -/
def Obligations.HostLimitsRunTheChain : Prop :=
  ∀ (s : State) (i v b : Word16), s.power = .running →
    (if 1000 < i.toNat ∨ 10000 < v.toNat then
      exec (.setCharge i v) s = .next (answerEmpty .badValue s)
     else Completes (exec (.setCharge i v) s) fun t =>
      ChainFollows true s t ∧ SetpointFalls s t ∧
      OnlyChain (answerEmpty .accepted { s with crg.iReq := i.toNat, crg.vMax := v.toNat }) t) ∧
    (if 1000 < b.toNat then exec (.setBatteryLimit b) s = .next (answerEmpty .badValue s)
     else Completes (exec (.setBatteryLimit b) s) fun t =>
      ChainFollows true s t ∧ SetpointFalls s t ∧
      OnlyChain
        (answerEmpty .accepted
          { s with crg.iBms := b.toNat, crg.stale := false, crg.freshTimer := true }) t) ∧
    (if s.crg.freshTimer = false then exec .freshnessTimerExpiry s = .next s
     else Completes (exec .freshnessTimerExpiry s) fun t =>
      ChainFollows true s t ∧ SetpointFalls s t ∧
      OnlyChain (raiseEvent .limitStale { s with crg.freshTimer := false, crg.stale := true }) t) ∧
    Completes (exec .rampEvent s) fun t =>
      ChainFollows false s t ∧ OnlyChain s t ∧
      t.crg.setpoint =
        (if s.ptu.enable = true ∧ s.crg.setpoint < t.crg.iTarget then
          min (s.crg.setpoint + s.cfg.rUp) t.crg.iTarget
         else min s.crg.setpoint t.crg.iTarget)

/-- HTR has selected its state anew and formed its request (R123 to R126): the budget and the source are
R127's, and the duty with them. A change of state hands the request to the regulator, which evaluates the chain
and hands a lower d_own (R73, R77, R126); without one the regulator and SHU are as they were. -/
abbrev HeaterHanded (s t : State) : Prop :=
  BudgetHeld t ∧ (HeaterSafe s → DutyFollows s t) ∧
  if t.htr.state = s.htr.state then t.crg = s.crg ∧ t.shu = s.shu
  else
    t.crg.pHeatReq = t.htr.pHeatReq ∧ ChainHolds t ∧ LowerHanded s t ∧ SetpointFalls s t

/-- SET_HEATING is refused in R121's order, and otherwise stores its settings, clears the latches where asked,
and selects the state, the request, the budget and its source anew, with the duty at 0 where the budget
becomes 0 or the relay changes (R123 to R127); a change of state hands the request to the regulator, which
evaluates the chain and hands a d_own lower than the last (R73, R77, R126). The reply reports the state with
the fault latches. That opening the relay stops its settle timer is the model's choice (log 54). -/
def Obligations.SetHeatingSelectsTheState : Prop :=
  ∀ (s : State) (a b m q : Word16) (p c : Byte), s.power = .running →
    if s.cpt.configured = false then
      exec (.setHeating a b m p q c) s = .next (answerEmpty .notConfigured s)
    else if a.toInt < -400 ∨ 1200 < a.toInt ∨ b.toInt < -400 ∨ 1200 < b.toInt ∨ 12000 < m.toNat ∨
        2 < p.toNat ∨ 12000 < q.toNat ∨ 1 < c.toNat then
      exec (.setHeating a b m p q c) s = .next (answerEmpty .badValue s)
    else if b.toInt ≤ a.toInt then
      exec (.setHeating a b m p q c) s = .next (answerEmpty .badWindow s)
    else Completes (exec (.setHeating a b m p q c) s) fun t =>
      t.htr.tOn = a.toInt ∧ t.htr.tOff = b.toInt ∧ t.htr.pHmax = m.toNat ∧ t.htr.pBattMax = q.toNat ∧
      t.htr.permission =
        (if p = 0 then .off else if p = 1 then .gridOnly else .gridOrBattery) ∧
      t.htr.overcurrent = (s.htr.overcurrent && c == 0) ∧
      t.htr.openLatch = (s.htr.openLatch && c == 0) ∧
      HeaterSelected s.htr.state t ∧ HeaterFollows s t ∧ HeaterHanded s t ∧
      t.cpt = { s.cpt with
        reply := ⟨.accepted, .heating t.htr.state t.htr.overcurrent t.htr.openLatch⟩
        shifting := none } ∧
      OnlyHeater
        { s with
          cpt := t.cpt
          htr := { s.htr with
            tOn := t.htr.tOn, tOff := t.htr.tOff, pHmax := t.htr.pHmax
            permission := t.htr.permission, pBattMax := t.htr.pBattMax
            overcurrent := t.htr.overcurrent, openLatch := t.htr.openLatch
            openMs := if c = 0 then s.htr.openMs else 0 } } t

/-- The measured heater power of R128. -/
abbrev measuredHeat (s : State) : Nat := slotNat 7 s * (s.htr.accSum / s.htr.accCount) / 1000

/-- The heater event (R128, R129, R132), with no open heater left to take (log 2): the accumulator is emptied,
the duty moves by the budget and the measured power, and the open timer counts 10 ms or returns to 0. The OPEN
latch at 1 s raises HEATER and takes the state to HEATER_FAULT (R123, R132), with the relay open, its settle
timer stopped (log 54) and the duty at 0, and as the state changes the request is handed to the regulator,
which evaluates the chain and hands a lower d_own (R73, R77, R126). The settle timer ends (R125). Output H,
with the latch clear, is on from a heater period's start for the duty taken there, and not at all at duty 0
(R93, R94); it is so as well in a period in which the latch was set and cleared (log 70). -/
def Obligations.HeaterEventAdjustsTheDuty : Prop :=
  ∀ (s : State), s.power = .running →
    exec .relaySettleExpiry s = .next { s with htr.settleTimer := false } ∧
    exec .heaterPeriodStart s = .next
      { s with ptu := { s.ptu with
          heaterInUse := s.ptu.heaterBuffer, heaterOnTime := s.ptu.heaterBuffer != 0 } } ∧
    exec .heaterDutyEnd s = .next { s with ptu.heaterOnTime := false } ∧
    (s.ptu.trip = none → heaterOutput s =
      match s.cfg.heaterLevel with
      | some .high => if s.ptu.heaterOnTime = true then .high else .low
      | some .low => if s.ptu.heaterOnTime = true then .low else .high
      | none => .floating) ∧
    (s.htr.openMs < 1000 ∨ s.htr.openLatch = true →
      exec .heaterOpenDetect s = .next s ∧
      Completes (exec .heaterEvent s) fun t =>
        t = { s with
          htr := { s.htr with accSum := 0, accCount := 0, duty := t.htr.duty, openMs := t.htr.openMs }
          ptu.heaterBuffer := t.htr.duty } ∧
        t.htr.duty =
          (if s.ptu.trip ≠ none ∨ s.htr.relay = false ∨ s.htr.settleTimer = true ∨ s.htr.budget = 0
            then 0
           else if measuredHeat s < s.htr.budget - s.htr.budget / 50 then min 4095 (s.htr.duty + 16)
           else if s.htr.budget < measuredHeat s then s.htr.duty - 64
           else min 4095 s.htr.duty) ∧
        t.htr.openMs =
          (if s.ptu.trip = none ∧ 2048 ≤ s.htr.duty ∧ s.htr.budget ≠ 0 ∧
              measuredHeat s * 20 < s.htr.budget
            then s.htr.openMs + 10 else 0)) ∧
    (1000 ≤ s.htr.openMs → s.htr.openLatch = false →
      Completes (exec .heaterOpenDetect s) fun t =>
        t.htr.openLatch = true ∧ .heater ∈ t.cpt.events ∧ HeaterSelected s.htr.state t ∧
        HeaterFollows s t ∧ HeaterHanded s t ∧
        OnlyHeater (raiseEvent .heater { s with htr.openLatch := true }) t)

/-! ## The feeder line (R26 to R43) -/

/-- The line state and the departed flag allow a queued frame's sending (R30, R41). -/
abbrev Sendable (s : State) (q : Queued) : Bool :=
  (s.fli.line == .online && !(q.frame.body.isBeacon && s.fli.departed)) ||
  (s.fli.line == .listen && q.frame.body.isLeave)

/-- An attempt starts with the head of the queue in ONLINE, and in LISTEN with a LEAVE (R30, R40, R41); a
departed station sends no BEACON (R41), and passes one that is still queued over (log 61); a lost
arbitration ends it with the queue unchanged (R30); a completed one takes its own frame out and sets the
error count to 0 (R31, R32, R40). A bit error adds one to the count and ends the attempt (R31); the
sixteenth takes the line to SILENT with an empty queue, LINE_FAULT and fallback (R38, R61). When the SILENT
timer expires the line goes on by R36, and LINE_RESUMED is raised where it comes back ONLINE (R37, R38). -/
def Obligations.AttemptsSendOrSilence : Prop :=
  ∀ (s : State) (b : Bool), s.power = .running → LineSettled s →
    (s.fli.attempt = none → exec .txBitError s = .next s) ∧
    (s.fli.attempt ≠ none → s.fli.errorCount < 15 →
      exec .txBitError s = .next
        { s with fli := { s.fli with
            errorCount := s.fli.errorCount + 1, attempt := none
            queue := s.fli.queue.map fun x => { x with inAttempt := false } } }) ∧
    (s.fli.attempt ≠ none → s.fli.errorCount = 15 → s.fli.line ≠ .offline →
      Completes (exec .txBitError s) fun t =>
        t.fli.line = .silent ∧ t.fli.silentTimer = true ∧ t.fli.queue = [] ∧ t.fli.attempt = none ∧
        t.fli.errorCount = 0 ∧ .lineFault ∈ t.cpt.events ∧ t.shu.conds.line = true ∧
        t.fli.beaconTimer = s.fli.beaconTimer ∧ t.psq = s.psq ∧ t.mst = s.mst ∧ t.cfg = s.cfg ∧
        t.shu.peers = s.shu.peers) ∧
    (if s.fli.silentTimer = false then exec .silentTimerExpiry s = .next s
     else s.fli.line = .silent →
      Completes (exec .silentTimerExpiry s) fun t =>
        t.fli.silentTimer = false ∧ t.psq = s.psq ∧ t.mst = s.mst ∧ t.cfg = s.cfg ∧ t.imn = s.imn ∧
        if s.cpt.configured = false ∨ (s.psq.ident.map (·.feederId)).getD 0 = 0 ∨
            s.fli.duplicate = true then
          t.fli = { s.fli with line := .listen, silentTimer := false } ∧ t.shu.conds = s.shu.conds
        else
          t.fli = { s.fli with
            line := .online, silentTimer := false, ackHistory := [], departed := false
            beaconTimer := some (250 + 3 * s.cfg.station) } ∧
          .lineResumed ∈ t.cpt.events ∧ t.shu.conds.line = false) ∧
    (match s.fli.attempt, s.fli.queue.dropWhile fun x => !Sendable s x with
      | none, q :: qs =>
        exec .txAttemptStart s = .next
          { s with fli := { s.fli with
              attempt := some q.frame
              queue :=
                ((s.fli.queue.takeWhile fun x => !Sendable s x).map fun x =>
                  { x with inAttempt := false }) ++
                { q with inAttempt := true } :: qs.map fun x => { x with inAttempt := false } } }
      | _, _ => exec .txAttemptStart s = .next s) ∧
    exec .txArbitrationLost s = .next
      { s with fli := { s.fli with
          attempt := none, queue := s.fli.queue.map fun x => { x with inAttempt := false } } } ∧
    match s.fli.attempt with
    | none => exec (.txComplete b) s = .next s
    | some f => Completes (exec (.txComplete b) s) fun t =>
      t.fli = { s.fli with
        attempt := none, errorCount := 0, queue := s.fli.queue.filter fun q => !q.inAttempt
        ackHistory :=
          if f.body.isBeacon = true then (b :: s.fli.ackHistory).take 3 else s.fli.ackHistory
        departed := if f.body = .leave then true else s.fli.departed } ∧
      (f.body.isBeacon = false → t = { s with fli := t.fli }) ∧
      (f.body.isBeacon = true →
        t.shu.conds.unheard =
          (decide (t.fli.ackHistory = [false, false, false]) &&
            s.shu.peers.any fun e => sameFeeder s e && e.age ≤ 1)) ∧
      t.psq = s.psq ∧ t.imn = s.imn ∧ t.msq = s.msq ∧ t.cfg = s.cfg ∧ t.mst = s.mst ∧
      t.shu.peers = s.shu.peers

/-- The state with the acknowledge slot driven, as a good frame leaves it (R33). -/
abbrev Acked (s : State) : State :=
  { s with fli.ackDriven := s.fli.line == .listen || s.fli.line == .online }

/-- A good frame of this station number sets the duplicate flag (R35). -/
abbrev DuplicateSeen (f : Frame) (s : State) : Prop :=
  s.cpt.configured = true ∧ f.station.toNat = s.cfg.station ∧ s.fli.duplicate = false

/-- A well-formed frame of the held feeder that is delivered (R33, R34), and no duplicate (R35). -/
abbrev Delivered (f : Frame) (s : State) : Prop :=
  s.power = .running ∧ s.fli.line ≠ .offline ∧ f.inRange = true ∧ heldFeeder s ≠ 0 ∧
  f.feeder.toNat = heldFeeder s ∧ ¬ DuplicateSeen f s

/-- A frame received good goes by its feeder id (R34): with none held and with another one it is delivered
to no block, the latter with FOREIGN_FEEDER once; a field out of range drops it (R33); the own station
number sets the duplicate flag, which empties the queue of an ONLINE line and takes it to LISTEN (R35, R37).
OFFLINE receives nothing. Bits that fail a check leave the acknowledge slot recessive and change nothing
else, and a dominant bit in the end field drops the acknowledged frame; bits that pass them all act as the
frame's own row (log 44), and a good frame that is not well-formed is acknowledged and dropped (R33). -/
def Obligations.ReceivedFramesAreRouted : Prop :=
  ∀ (s : State) (f : Frame) (bits : List Bool), s.power = .running → LineSettled s →
    (s.fli.line = .offline → exec (receivedRow f) s = .next s) ∧
    (s.fli.line ≠ .offline → ¬ DuplicateSeen f s →
      (f.inRange = false ∨ heldFeeder s = 0 → exec (receivedRow f) s = .next (Acked s)) ∧
      (f.inRange = true → heldFeeder s ≠ 0 → f.feeder.toNat ≠ heldFeeder s →
        exec (receivedRow f) s = .next
          (if s.fli.foreignReported = true then Acked s
           else raiseEvent .foreignFeeder
            { s with fli := { (Acked s).fli with foreignReported := true } }))) ∧
    (s.fli.line ≠ .offline → DuplicateSeen f s →
      Completes (exec (receivedRow f) s) fun t =>
        t.fli.duplicate = true ∧ .duplicate ∈ t.cpt.events ∧
        t.fli.line = (if s.fli.silentTimer = true then .silent else .listen) ∧
        (s.fli.line = .online → t.fli.queue = [] ∧ t.fli.attempt = none)) ∧
    (s.fli.line = .offline → exec (.frameDropped bits) s = .next s) ∧
    (s.fli.line ≠ .offline → receiveChecked bits = none →
      exec (.frameDropped bits) s = .next { s with fli.ackDriven := false }) ∧
    (s.fli.line ≠ .offline → ∀ r, receiveChecked bits = some (r, false) →
      exec (.frameDropped bits) s = .next (Acked s)) ∧
    ∀ r, receiveBits bits = some r →
      (∀ f, r.frame? = some f → exec (.frameDropped bits) s = exec (receivedRow f) s) ∧
      (r.frame? = none → s.fli.line ≠ .offline → ¬ DuplicateSeen ⟨r.station, 0, .leave⟩ s →
        exec (.frameDropped bits) s = .next (Acked s))

/-! ## The share unit (R44 to R65) -/

/-- The share computation among stations of different numbers (R55, R56): no station gets more than its
demand, what is handed out is A or the whole demand, and a station left short of its demand has no other
above it but by the remainder, which goes by rising station number. -/
def Obligations.ShareWalkIsMaxMinFair : Prop :=
  ∀ (a : Nat) (active : List Amount), (active.map (·.station)).Nodup →
    (∀ x ∈ active, shareOf x.station (allocate a active) ≤ x.amount) ∧
    (active.map fun x => shareOf x.station (allocate a active)).sum =
      min a (active.map (·.amount)).sum ∧
    ∀ x ∈ active, ∀ y ∈ active,
      shareOf x.station (allocate a active) < x.amount →
        shareOf y.station (allocate a active) ≤ shareOf x.station (allocate a active) ∨
          (shareOf y.station (allocate a active) = shareOf x.station (allocate a active) + 1 ∧
            y.station < x.station)

/-- What a full and an extra computation make of S_new (R58 to R60, R63). -/
def Obligations.ComputationsMoveTheShare : Prop :=
  ∀ (s : State),
    activeSet s =
      (if s.shu.session = true then
        [⟨s.cfg.station, if s.shu.sweepTarget = true then 0 else s.shu.dOwnHanded⟩] else []) ++
      (s.shu.peers.filter fun e => sameFeeder s e && e.session).map
        (fun e => ⟨e.station, e.demand⟩) ∧
    fullComputation s =
      (if s.shu.session = false then Computed s
       else if s.shu.conds.any = true then
        { Computed s with shu := { (Computed s).shu with
            sEff := min (dOwnInUse s) s.cfg.fallback, joining := min 2 (s.shu.joining + 1)
            pendingRise := none } }
       else if s.shu.joining < 2 then
        { Computed s with shu := { (Computed s).shu with
            sEff := min (Computed s).shu.sNew s.cfg.joinCurrent, joining := s.shu.joining + 1
            pendingRise := none } }
       else if (Computed s).shu.sNew ≤ s.shu.sEff then
        { Computed s with shu := { (Computed s).shu with
            sEff := (Computed s).shu.sNew, pendingRise := none } }
       else match s.shu.pendingRise with
        | none =>
          { Computed s with shu := { (Computed s).shu with
              pendingRise := some (Computed s).shu.sNew } }
        | some p =>
          { Computed s with shu := { (Computed s).shu with
              sEff := min (min p (Computed s).shu.sNew) (s.shu.sEff + s.cfg.riseStep)
              pendingRise := none } }) ∧
    extraComputation s =
      (if s.shu.session = false then Computed s
       else if s.shu.conds.any = true then
        { Computed s with shu := { (Computed s).shu with
            sEff := min (dOwnInUse s) s.cfg.fallback } }
       else
        { Computed s with shu := { (Computed s).shu with
            sEff := min s.shu.sEff (Computed s).shu.sNew } })

/-- What a frame at SHU leaves as it is. -/
abbrev TableFrame (s t : State) : Prop :=
  t.psq = s.psq ∧ t.msq = s.msq ∧ t.cfg = s.cfg ∧ t.mst = s.mst ∧ t.mtr.table = s.mtr.table ∧
  t.shu.session = s.shu.session ∧ t.shu.identCopy = s.shu.identCopy ∧ t.shu.conds = fallbackConds t

/-- The share after a beacon (R46): the extra computation, where one runs, gives S_new and the size of the
active set (R54 to R56) and moves S_eff as R60 and R63 say; without one S_new stays, and S_eff moves only at
an entry to fallback (R63). -/
abbrev ShareAtBeacon (extra : Bool) (s t : State) : Prop :=
  (if extra = true then
    t.shu.sNew = (Computed { s with shu.peers := t.shu.peers }).shu.sNew ∧
    t.shu.activeCount = (Computed { s with shu.peers := t.shu.peers }).shu.activeCount
   else t.shu.sNew = s.shu.sNew ∧ t.shu.activeCount = s.shu.activeCount) ∧
  t.shu.sEff =
    if s.shu.session = false then s.shu.sEff
    else if t.shu.conds.any = true then
      (if extra = true ∨ s.shu.conds.any = false then min (dOwnInUse s) s.cfg.fallback
       else s.shu.sEff)
    else if extra = true then min s.shu.sEff t.shu.sNew
    else s.shu.sEff

/-- A delivered beacon fills its station's entry, or takes a free one with PEERS, or sets the overflow count
in a full table (R45 to R48); a new entry, a SESSION flag newly set and a higher demand run an extra
computation, which gives S_new and moves S_eff (R46, R60); a MEASURER flag is heard, and a measurer with a
lower eligible peer or a lower measurer drops the role (R146, R147). A LEAVE removes its entry (R49).
Entries of age 4 go (R50). The overflow condition is judged anew, and the back-off's end changes nothing
(log 2). -/
def Obligations.BeaconsFillThePeerTable : Prop :=
  ∀ (s : State) (n : BitVec 6) (id : Byte) (d w r : Word16) (g l : Byte), LineSettled s →
    (Delivered ⟨n, id, .beacon d w g r l⟩ s →
      Completes (exec (.beaconReceived n id d w g r l) s) fun t =>
        TableFrame s t ∧
        t.shu.peers.filter (fun e => e.station != n.toNat) =
          s.shu.peers.filter (fun e => e.station != n.toNat) ∧
        (if n.toNat = s.cfg.station ∨ n = 0 ∨ n = 63 then
          t.shu.peers = s.shu.peers ∧ ShareAtBeacon false s t
         else if findPeer n.toNat s.shu.peers = none ∧ 32 ≤ s.shu.peers.length then
          t.shu.peers = s.shu.peers ∧ t.shu.overflow = 4 ∧ ShareAtBeacon false s t
         else
          t.shu.overflow = s.shu.overflow ∧
          ShareAtBeacon
            (match findPeer n.toNat s.shu.peers with
              | none => true
              | some e => (!e.session && g.getLsbD 0) || decide (e.demand < d.toNat)) s t ∧
          (findPeer n.toNat s.shu.peers = none → .peers ∈ t.cpt.events) ∧
          findPeer n.toNat t.shu.peers = some
            { station := n.toNat, feeder := id.toNat, demand := d.toNat, draw := w.toNat
              session := g.getLsbD 0, joint := g.getLsbD 1, measurer := g.getLsbD 2
              imState :=
                if g.getLsbD 4 = true then (if g.getLsbD 3 = true then .sweep else .alarm)
                else if g.getLsbD 3 = true then .warn else .ok
              resistance := if g.getLsbD 2 = true ∧ r ≠ 65535 then some r.toNat else none
              leader := if l = 0 then none else some l.toNat
              age := 0
              heard :=
                min 2 (((findPeer n.toNat s.shu.peers).map (·.heard)).getD 0 + 1) }) ∧
        (g.getLsbD 2 = true → t.imn.measurerHeard = true) ∧
        (lowerEligible t = true ∨ (g.getLsbD 2 = true ∧ n.toNat < s.cfg.station) →
          t.imn.mode ≠ .measurer)) ∧
    (Delivered ⟨n, id, .leave⟩ s →
      Completes (exec (.leaveReceived n id) s) fun t =>
        TableFrame s t ∧ t.shu.peers = s.shu.peers.filter (fun e => e.station != n.toNat) ∧
        (t.shu.peers ≠ s.shu.peers → .peers ∈ t.cpt.events) ∧ t.imn = s.imn) ∧
    (s.power = .running → Completes (exec .peerAgedOut s) fun t =>
      TableFrame s t ∧ t.shu.peers = s.shu.peers.filter (fun e => decide (e.age < 4)) ∧
      (t.shu.peers ≠ s.shu.peers → .peers ∈ t.cpt.events) ∧ t.imn = s.imn) ∧
    (s.power = .running → exec .overflowEnd s = .next s ∧ exec .backoffEnd s = .next s)

/-- A full computation has run (R57): S_new is the share computation's result (R54 to R56), and S_eff, the
joining count and the pending rise follow from it by R58, R59 and R63. -/
abbrev ShareMoved (s t : State) : Prop :=
  t.shu.sNew = (Computed t).shu.sNew ∧ t.shu.activeCount = (Computed t).shu.activeCount ∧
  if t.shu.session = false then t.shu.sEff = s.shu.sEff ∧ t.shu.joining = s.shu.joining
  else if t.shu.conds.any = true then
    t.shu.sEff = min (dOwnInUse t) s.cfg.fallback ∧
    t.shu.joining = min 2 (s.shu.joining + 1) ∧ t.shu.pendingRise = none
  else if s.shu.joining < 2 then
    t.shu.sEff = min t.shu.sNew s.cfg.joinCurrent ∧
    t.shu.joining = s.shu.joining + 1 ∧ t.shu.pendingRise = none
  else
    t.shu.joining = s.shu.joining ∧
    if t.shu.sNew ≤ s.shu.sEff then t.shu.sEff = t.shu.sNew ∧ t.shu.pendingRise = none
    else match s.shu.pendingRise with
      | none => t.shu.sEff = s.shu.sEff ∧ t.shu.pendingRise = some t.shu.sNew
      | some p =>
        t.shu.sEff = min (min p t.shu.sNew) (s.shu.sEff + s.cfg.riseStep) ∧
        t.shu.pendingRise = none

/-- The own beacon's fields in a state (R29, R65): the demand, 0 with SESSION clear or as a sweep target
(R53); the draw of R86; the flags, whose bits 3 and 4 are the IM state of R151, with SWEEP while the station
takes part in a sweep, and bit 5 is set while the target record stands (R155, log 42); the latest JOINT result
of the role held (R151), and the sweep leader (R155). -/
abbrev BeaconOf (t : State) (demand power resistance : Word16) (flags leader : Byte) : Prop :=
  demand = BitVec.ofNat 16
    (if t.shu.session = false ∨ t.shu.sweepTarget = true then 0 else t.shu.dOwnHanded) ∧
  power = BitVec.ofNat 16
    (if t.crg.gridRange = true ∨ t.crg.vPh = 0 then 0
     else min 630 (t.crg.pMeter * 100 / (3 * t.crg.vPh))) ∧
  flags.getLsbD 0 = t.shu.session ∧ flags.getLsbD 1 = t.shu.joint ∧
  flags.getLsbD 2 = (t.imn.mode == .measurer) ∧
  (flags.getLsbD 3, flags.getLsbD 4) =
    (if t.imn.sweep ≠ .none then (true, true)
     else match (if t.imn.mode = .localMode then t.imn.own else t.imn.net).state with
       | some .warn => (true, false)
       | some .alarm => (false, true)
       | _ => (false, false)) ∧
  flags.getLsbD 5 = t.imn.target.isSome ∧ flags.getLsbD 6 = false ∧ flags.getLsbD 7 = false ∧
  resistance = BitVec.ofNat 16
    (if t.imn.mode = .measurer ∧ t.imn.resultInRole = true then
      (t.imn.jointResult.map (·.rf)).getD 65535
     else 65535) ∧
  leader = BitVec.ofNat 8
    (match t.imn.sweep with
      | .none => 0
      | .leading _ => t.cfg.station
      | .following n _ => n)

/-- The beacon period event, with no role left to take (log 2): the timer is set to 250 ms, the entries age
and go at 4 (R50), the overflow count runs down (R48), the chain's d_own is handed (R53, R77), the full
computation gives the share (R57 to R59, R63), the chain is evaluated with it (R73 to R80, R127), and a beacon
of the state it leaves is queued in ONLINE with its fields (R29, R57, R65, R86, R151); an entry to fallback
and an exit raise SHARE_FALLBACK, and an entry marks the session (R63, R174); the clear count rises only in a
clear period (R146). The clear count is judged with the back-off before its decrement, and after the beacon is
formed (logs 23, 24); the beacon's SWEEP_TARGET flag and leader are those of R155 (log 42). -/
def Obligations.BeaconPeriodRunsTheShare : Prop :=
  ∀ (s : State), s.power = .running → LineSettled s →
    (s.fli.beaconTimer = none → exec .beaconPeriodEvent s = .next s) ∧
    (s.fli.beaconTimer ≠ none → s.imn.mode ≠ .passive ∨ s.imn.clearCount < 3 →
      Completes (exec .beaconPeriodEvent s) fun t =>
        TableFrame s t ∧ t.fli.beaconTimer = some 250 ∧ t.fli.line = s.fli.line ∧
        t.shu.peers =
          (s.shu.peers.map fun e => { e with age := e.age + 1 }).filter (fun e =>
            decide (e.age < 4)) ∧
        (t.shu.peers.length < s.shu.peers.length → .peers ∈ t.cpt.events) ∧
        t.shu.overflow = s.shu.overflow - 1 ∧
        ChainHolds t ∧ t.crg.dOwnLast = t.crg.dOwn ∧
        t.shu.dOwnHanded = min t.crg.dOwnLast (outletRating s) ∧
        ShareMoved s t ∧ BudgetHeld t ∧ t.crg.setpoint ≤ min s.crg.setpoint t.crg.iTarget ∧
        (t.shu.conds.any ≠ s.shu.conds.any → .shareFallback ∈ t.cpt.events) ∧
        t.mtr =
          (if s.shu.conds.any = false ∧ t.shu.conds.any = true then
            (markSession (fun f => { f with fallbackUsed := true }) s).mtr
           else s.mtr) ∧
        OnlyChain
          { s with
            fli := t.fli, shu := t.shu, imn := t.imn, mtr := t.mtr
            cpt := { s.cpt with events := t.cpt.events } } t ∧
        (s.fli.line = .online → s.fli.departed = false → s.fli.queue.length < 4 →
          ∃ q ∈ t.fli.queue, ∃ (d w r : Word16) (g l : Byte), BeaconOf t d w r g l ∧ q.frame =
            ⟨BitVec.ofNat 6 s.cfg.station, BitVec.ofNat 8 (heldFeeder s), .beacon d w g r l⟩) ∧
        t.imn = { s.imn with
          backoff := s.imn.backoff - 1, measurerHeard := false
          clearCount :=
            if s.imn.mode ≠ .passive then s.imn.clearCount
            else if s.fli.line = .online ∧ s.imn.backoff = 0 ∧ lowerEligible t = false ∧
                s.imn.measurerHeard = false then s.imn.clearCount + 1
            else 0 })

/-! ## The insulation monitor (R136 to R168) -/

/-- One result into an evaluation (R143): ALARM at the second result in a row below R_alarm, WARN from OK
below R_warn, back to OK at the second in a row above R_ok. -/
abbrev Judged (cfg : Settings) (r : Nat) (e f : Evaluation) : Prop :=
  f.lowRun = (if r < cfg.rAlarm then min 2 (e.lowRun + 1) else 0) ∧
  f.highRun = (if cfg.rWarn + cfg.rWarn / 4 < r then min 2 (e.highRun + 1) else 0) ∧
  f.state = some
    (if f.lowRun = 2 then .alarm
     else if e.state = none ∨ e.state = some .ok then (if r < cfg.rWarn then .warn else .ok)
     else if f.highRun = 2 then .ok
     else e.state.getD .ok)

/-- An evaluation's change of state raises INSULATION (R143). -/
abbrev ChangeRaised (e f : Evaluation) (t : State) : Prop :=
  e.state.getD .ok ≠ f.state.getD .ok → .insulation ∈ t.cpt.events

/-- A half with one more sample and its run of settled differences (R140). -/
abbrev sampled (v : Int) (c : Cycle) : Cycle :=
  { c with
    count := c.count + 1, prev := some v
    run :=
      match c.prev with
      | none => 0
      | some p => if (v - p).natAbs ≤ max 2 (v.natAbs / 100) then c.run + 1 else 0 }

/-- A half has begun with the driver's new side (R139): a measurer announces it, with its polarity and the
half's running index, and another station does not. -/
abbrev HalfStarted (polarity : Byte) (s t : State) : Prop :=
  if s.imn.mode = .measurer then
    t.imn.halfIndex = s.imn.halfIndex + 1 ∧ QueuedOwn (.measureStart polarity s.imn.halfIndex) s t
  else t.imn.halfIndex = s.imn.halfIndex ∧ t.fli = s.fli

/-- The frames of a JOINT result and of the half that follows it are queued where there is room (R39, R139,
R142). -/
abbrev JointSent (r : InsResult) (s t : State) : Prop :=
  QueuedOwn (.measureResult (BitVec.ofNat 16 r.rf) (if r.estimate = true then 1 else 0)) s t ∧
  QueuedRoom 2 (.measureStart 0 s.imn.halfIndex) s t

/-- A JOINT result has been measured (R142, R157): it is taken, judged into the network state and sent in a
MEASURE_RESULT, the next cycle's first half begins, and a leader's step that awaits a fresh cycle is decided
by R_warn; an entry to ALARM starts a sweep where none is under way and no hold runs (R154). The hold goes as
the network state turns OK (R167), before a step is decided (log 55). A FOUND leaves no pending release (log
68). -/
abbrev JointTaken (r : InsResult) (s t : State) : Prop :=
  t.imn.mode = .measurer ∧ t.imn.cycle = some ⟨.positive, 0, 0, none, none, false⟩ ∧
  t.imn.driver = .plus ∧ t.imn.jointResult = some r ∧ t.imn.resultInRole = true ∧
  Judged s.cfg r.rf s.imn.net t.imn.net ∧ ChangeRaised s.imn.net t.imn.net t ∧
  t.imn.halfIndex = s.imn.halfIndex + 1 ∧ t.imn.ownFault = s.imn.ownFault ∧ t.mst = s.mst ∧
  QueuedRoom 4 (.measureResult (BitVec.ofNat 16 r.rf) (if r.estimate = true then 1 else 0)) s t ∧
  match s.imn.sweep with
  | .leading l =>
    if l.phase = .measuring then
      QueuedRoom 4 (.measureStart 0 s.imn.halfIndex) s t ∧
      if s.cfg.rWarn ≤ r.rf then
        SweepEnded (.found (l.list.getD l.index 0)) true s t ∧ NoTarget t ∧ t.psq = s.psq ∧
        QueuedRoom 2
          (.sweepResult 1 (BitVec.ofNat 8 (l.list.getD l.index 0)) (BitVec.ofNat 8 l.unresponsive)) s t
      else
        StepStarted { l with index := l.index + 1 }
          (enqueue (.measureResult (BitVec.ofNat 16 r.rf) (if r.estimate = true then 1 else 0)) s) t
    else t.imn.sweep = s.imn.sweep ∧ t.psq = s.psq ∧ JointSent r s t
  | q =>
    if q = .none ∧ s.imn.hold = false ∧ t.imn.net.state = some .alarm ∧
        s.imn.net.state ≠ some .alarm then
      SweepStarted
        (enqueue (.measureResult (BitVec.ofNat 16 r.rf) (if r.estimate = true then 1 else 0))
          { s with imn.jointResult := some r }) t
    else
      t.imn.sweep = q ∧ t.psq = s.psq ∧ JointSent r s t ∧
      t.imn.hold =
        (s.imn.hold && !(t.imn.net.state == some .ok && s.imn.net.state != some .ok))

/-- The result of a cycle's two steps (R141, R142). -/
abbrev cycleResult (s : State) (plus minus : Int) (estimate : Bool) : InsResult :=
  ⟨resistance s.cfg (plus - minus).toNat, estimate, some plus, some minus⟩

/-- A cycle has ended with its two steps (R139, R142, R148): the next positive half has begun, and in LOCAL
the cycle gives a result, or a measure fault where its step is negative, in JOINT-measurer mode a JOINT
result or interference. -/
abbrev CycleEnded (plus minus : Int) (estimate : Bool) (s t : State) : Prop :=
  match s.imn.mode with
  | .localMode =>
    t =
      if plus - minus < 0 then
        raiseEvent .measureFault
          { s with imn := { s.imn with
              cycle := some ⟨.positive, 0, 0, none, none, false⟩, driver := .plus
              measureFaults := min 255 (s.imn.measureFaults + 1) } }
      else
        localResult (cycleResult s plus minus estimate)
          { s with imn := { s.imn with
              cycle := some ⟨.positive, 0, 0, none, none, false⟩, driver := .plus } }
  | .measurer =>
    if plus - minus < 0 then Interfered s t else JointTaken (cycleResult s plus minus estimate) s t
  | .passive => True

/-- A VISO sample (R139, R140): the first one of a fresh cycle begins the positive half, and one that does
not end its half is counted with its run of settled differences; a half ends settled, after 20 samples
with a run of 8, or at the longest half time (no ESTIMATE where it settles at its last possible sample,
log 18). The sample that ends a half belongs to it (log 19): the positive half's starts the negative one,
and the negative half's ends the cycle with its result (R142, R148, R157; a sweep that ends with it leaves no
pending release, log 68). A measurer announces each half.
The resistance of a measured step is 65535 at 10 mV or less, and otherwise the bridge's value, at most
65534 (R141). -/
def Obligations.SamplesRunTheHalves : Prop :=
  ∀ (s : State) (v : Int) (upp : Nat),
    resistance s.cfg upp =
      (if upp ≤ 10 then 65535
       else min 65534 (s.cfg.rm * (2000 * s.cfg.uInj) / upp - s.cfg.rc - s.cfg.rm)) ∧
    match s.imn.cycle with
    | none => takeViso v s = s
    | some c =>
      if c.half = .awaiting then
        (takeViso v s).imn.cycle = some { sampled v c with half := .positive } ∧
        (takeViso v s).imn.driver = .plus ∧ HalfStarted 0 s (takeViso v s) ∧
        (takeViso v s).psq = s.psq
      else if ¬ (20 ≤ c.count + 1 ∧ 8 ≤ (sampled v c).run) ∧ c.count + 1 < s.cfg.tHalfMax * 100 then
        takeViso v s = { s with imn.cycle := some (sampled v c) }
      else if c.half = .positive then
        (takeViso v s).imn.cycle = some
          ⟨.negative, 0, 0, none, some v,
            c.estimate || decide (c.count + 1 < 20 ∨ (sampled v c).run < 8)⟩ ∧
        (takeViso v s).imn.driver = .minus ∧ HalfStarted 1 s (takeViso v s) ∧
        (takeViso v s).psq = s.psq
      else
        CycleEnded (c.uPlus.getD 0) v
          (c.estimate || decide (c.count + 1 < 20 ∨ (sampled v c).run < 8)) s (takeViso v s)

/-- PSQ has been told of the own-side fault latch (R21), and the self-check is made pending, which starts at
once in LOCAL (R149): PRECHARGE is withdrawn at once, ACTIVE and SUSPENDED are stopped with INSULATION, a
sweep isolation records it, with the target's part gone as it is recorded (R24, R160, log 28), and no other
state moves. -/
abbrev LatchTold (s t : State) : Prop :=
  (match s.psq.seq with
    | .precharge =>
      t.psq.seq = .identified ∧ RelaysOpened s t ∧ t.psq.prechargeTimer = false ∧
      t.psq.contactorTimer = false ∧ t.psq.cancelPending = false ∧ t.mtr.prefetched = none ∧
      t.mtr.session = s.mtr.session
    | .active | .suspended =>
      t.psq = (stopBegun .insulation s).psq ∧ NoTarget t ∧ t.mtr = s.mtr
    | .sweepIsolated _ =>
      (s.psq.stopCause = none → NoTarget t) ∧
      IsolatedStop .insulation (s.psq.forced && s.psq.stopCause.isSome) s t
    | _ => t.psq = s.psq) ∧
  if s.imn.mode = .localMode then SelfCheckStarted s t else t.imn.selfCheck = .pending

/-- The state with its open session marked with INSULATION (R143, R180). -/
abbrev Marked (s : State) : State := markSession (fun f => { f with insulation := true }) s

/-- A LOCAL result has decided the leader's own step (R162): ALARM is FOUND with the own station and sets the
latch; a second result without it is NOT_FOUND with the release; a first one is counted. -/
abbrev OwnStepDecided (l : LeaderRecord) (r : InsResult) (s t : State) : Prop :=
  Judged s.cfg r.rf s.imn.own t.imn.own ∧
  if t.imn.own.state = some .alarm then
    SweepEnded (.found s.cfg.station) true s t ∧ NoTarget t ∧ t.imn.ownFault = true ∧
    QueuedOwn (.sweepResult 1 (BitVec.ofNat 8 s.cfg.station) (BitVec.ofNat 8 l.unresponsive)) s t ∧
    if s.imn.ownFault = true then t.psq = s.psq
    else LatchTold (if s.imn.own.state = some .alarm then s else Marked s) t
  else if 1 ≤ l.ownResults then
    SweepEnded .notFound true s t ∧ NoTarget t ∧ t.imn.ownFault = s.imn.ownFault ∧
    QueuedOwn (.sweepResult 2 0 (BitVec.ofNat 8 l.unresponsive)) s t ∧
    t.psq =
      if s.psq.seq = .sweepIsolated .isoWait then
        { s.psq with
          seq := .sweepIsolated .isoRejoin, prechargeCmd := true, prechargeTimer := true }
      else s.psq
  else
    t.imn.sweep = .leading { l with ownResults := l.ownResults + 1 } ∧ t.psq = s.psq ∧
    t.fli = s.fli ∧ t.imn.ownFault = s.imn.ownFault

/-- A LOCAL result (R142): it is taken and judged into the own state (R143, R145). An entry to ALARM sets the
own-side fault latch (R145), of which the sequencer is told (R21) and with which the self-check starts
(R149). A running self-check or clearing goes by R_warn: it fails at or below it, a clearing passes at the
first result above and a self-check at the second (R149, R150). Where the leader's own step awaits it, the
result decides that step (R162). A failed clearing leaves both latches as they are; the target record and
the pending release of a sweep isolation go as the stop is recorded (log 28). -/
def Obligations.LocalResultsJudgeTheOwnSide : Prop :=
  ∀ (s : State) (r : InsResult),
    (∀ l, ownStepMeasuring s = some l → s.imn.mode = .localMode → s.imn.selfCheck.isRunning = false →
      s.imn.clearing = false → DriveSafe s → LineSettled s → OwnStepDecided l r s (localResult r s)) ∧
    (localResult r s).imn.localResult = some r ∧ (localResult r s).imn.localFlag = true ∧
    (ownStepMeasuring s = none → s.imn.selfCheck.isRunning = false → s.imn.clearing = false →
      Judged s.cfg r.rf s.imn.own (localResult r s).imn.own ∧
      ChangeRaised s.imn.own (localResult r s).imn.own (localResult r s) ∧
      ((localResult r s).imn.own.state = some .alarm → s.imn.own.state ≠ some .alarm →
        (localResult r s).imn.ownFault = true ∧
        (s.imn.ownFault = false → .insulation ∈ (localResult r s).cpt.events ∧
          (s.imn.mode = .localMode → DriveSafe s → LineSettled s →
            LatchTold (Marked s) (localResult r s)))) ∧
      ((localResult r s).imn.own.state ≠ some .alarm ∨ s.imn.own.state = some .alarm ∨
          s.imn.ownFault = true →
        localResult r s =
          { s with
            imn := { s.imn with
              localResult := some r, localFlag := true, own := (localResult r s).imn.own
              target := s.imn.target.map fun t => { t with verdict := some r.rf } }
            mtr := (localResult r s).mtr
            cpt := (localResult r s).cpt })) ∧
    (ownStepMeasuring s = none → s.imn.clearing = false → s.imn.ownFault = true →
      match s.imn.selfCheck with
      | .running k =>
        if r.rf ≤ s.cfg.rWarn then
          (localResult r s).imn.selfCheck = .idle ∧ (localResult r s).imn.ownFault = true ∧
          (localResult r s).htr.isolateReq = false ∧ .insulation ∈ (localResult r s).cpt.events
        else if k = 0 then
          (localResult r s).imn.selfCheck = .running 1 ∧ (localResult r s).imn.ownFault = true
        else
          (localResult r s).imn.selfCheck = .idle ∧ (localResult r s).imn.ownFault = false ∧
          (localResult r s).imn.heaterIsolated = true ∧
          (localResult r s).imn.own = ⟨some .ok, 0, 0⟩ ∧
          .insulation ∈ (localResult r s).cpt.events
      | _ => True) ∧
    (ownStepMeasuring s = none → s.imn.clearing = true →
      (localResult r s).imn.clearing = false ∧
      (localResult r s).imn.lastClearing = some (decide (s.cfg.rWarn < r.rf)) ∧
      .insulation ∈ (localResult r s).cpt.events ∧
      (s.imn.selfCheck.isRunning = false →
        if r.rf ≤ s.cfg.rWarn then
          (localResult r s).imn.heaterIsolated = s.imn.heaterIsolated ∧
          (localResult r s).imn.ownFault =
            (s.imn.ownFault || ((localResult r s).imn.own.state == some .alarm
              && s.imn.own.state != some .alarm)) ∧
          (s.imn.heaterIsolated = true → (localResult r s).htr.isolateReq = true)
        else
          (localResult r s).imn.ownFault = false ∧ (localResult r s).imn.heaterIsolated = false ∧
          (localResult r s).imn.own = ⟨some .ok, 0, 0⟩))

/-- MEASURE_START at a measurer that injects is interference (R148): the role is dropped, injection
stops, the back-off is set to 8 and INSULATION is raised; else it is only heard. A leader
ends its sweep ABANDONED with it (R164; no pending release is left, log 68). MEASURE_RESULT in JOINT-passive
becomes the JOINT result, is judged, restarts the 30 s timer (R142, R144), and clears the hold as it brings
the network to OK (R167). The timer's expiry is NETWORK_UNMONITORED. -/
def Obligations.MeasurerFramesAreTaken : Prop :=
  ∀ (s : State) (n : BitVec 6) (id p h g : Byte) (r : Word16),
    (Delivered ⟨n, id, .measureStart p h⟩ s →
      if s.imn.mode = .measurer ∧ s.imn.cycle ≠ none then
        Completes (exec (.measureStartReceived n id p h) s) fun t =>
          Interfered s t ∧ t.imn.measurerHeard = true
      else
        exec (.measureStartReceived n id p h) s = .next
          { Acked s with imn.measurerHeard := true }) ∧
    (Delivered ⟨n, id, .measureResult r g⟩ s →
      if s.imn.mode = .passive then
        Completes (exec (.measureResultReceived n id r g) s) fun t =>
          t.imn = { s.imn with
            measurerHeard := true
            jointResult := some ⟨r.toNat, g.getLsbD 0, none, none⟩
            net := t.imn.net, unmonitored := false, unmonTimer := true
            hold := s.imn.hold &&
              !(t.imn.net.state == some .ok && s.imn.net.state != some .ok) } ∧
          Judged s.cfg r.toNat s.imn.net t.imn.net ∧ ChangeRaised s.imn.net t.imn.net t ∧
          (s.imn.unmonitored = true → .insulation ∈ t.cpt.events) ∧
          t = { s with fli := t.fli, imn := t.imn, mtr := t.mtr, cpt := t.cpt } ∧
          t.fli = (Acked s).fli ∧ t.mtr.table = s.mtr.table ∧
          t.mtr.session.map (·.running) = s.mtr.session.map (·.running)
      else
        exec (.measureResultReceived n id r g) s = .next
          { Acked s with imn.measurerHeard := true }) ∧
    (s.power = .running →
      exec .unmonitoredTimerExpiry s = .next
        (if s.imn.unmonTimer = true then
          raiseEvent .insulation
            { s with imn := { s.imn with unmonTimer := false, unmonitored := true } }
         else s))

/-- The measuring role (R146): a JOINT-passive station whose clear count has reached 3 takes it, where it is
still eligible, with a fresh cycle and its relay closed, and otherwise counts anew (log 2); a network in
ALARM then starts a sweep, where none is under way and no hold runs (R154). CLEAR_INSULATION is refused in
R150's order, and else starts a clearing with a fresh cycle and the heater no longer isolated. -/
def Obligations.RoleAndClearingStartACycle : Prop :=
  ∀ (s : State), s.power = .running →
    (if s.imn.mode = .passive ∧ 3 ≤ s.imn.clearCount then
      if s.fli.line = .online ∧ lowerEligible s = false then
        Completes (exec .measuringRoleTake s) fun t =>
          t.imn.mode = .measurer ∧ t.imn.cycle = some ⟨.awaiting, 0, 0, none, none, false⟩ ∧
          t.imn.coupling = true ∧ t.imn.resultInRole = false ∧ t.imn.clearCount = 0 ∧
          t.imn.unmonitored = false ∧ t.imn.unmonTimer = false ∧
          (s.imn.unmonitored = true → .insulation ∈ t.cpt.events) ∧
          (if s.imn.net.state = some .alarm ∧ s.imn.hold = false ∧ s.imn.sweep = .none then
            SweepStarted s t
           else t.imn.sweep = s.imn.sweep ∧ t.fli = s.fli ∧ t.psq = s.psq) ∧ t.mst = s.mst ∧
          t.cfg = s.cfg
      else exec .measuringRoleTake s = .next { s with imn.clearCount := 0 }
     else exec .measuringRoleTake s = .next s) ∧
    (if s.imn.mode ≠ .localMode then
      exec .clearInsulation s = .next (answerEmpty .wrongState s)
     else if s.imn.selfCheck.isRunning = true ∨ s.imn.clearing = true then
      exec .clearInsulation s = .next (answerEmpty .busy s)
     else if s.imn.ownFault = false ∧ s.imn.heaterIsolated = false then
      exec .clearInsulation s = .next (answerEmpty .accepted s)
     else Completes (exec .clearInsulation s) fun t =>
      t.imn = { s.imn with
        clearing := true, coupling := true
        cycle := some ⟨.awaiting, 0, 0, none, none, false⟩ } ∧
      t.cpt.reply = ⟨.accepted, .empty⟩ ∧
      (s.imn.heaterIsolated = true → t.htr.isolateReq = false) ∧
      (s.imn.heaterIsolated = false → t.htr = s.htr) ∧
      t.psq = s.psq ∧ t.mtr = s.mtr ∧ t.mst = s.mst ∧ t.fli = s.fli ∧ t.cfg = s.cfg)

/-- The role of a follower of a leader just heard (R155). -/
abbrev Follows (leader : Nat) (s t : State) : Prop :=
  t.imn.sweep = .following leader true ∧
  (s.imn.sweep = .none →
    .sweep ∈ t.cpt.events ∧ t.imn.outcome = .none ∧ t.imn.disagreement = false)

/-- The target record goes, and the sequencer of a target that waits isolated is released (R158, R23). -/
abbrev Released (s t : State) : Prop :=
  t.imn.target = none ∧
  (if s.imn.target = none then
    t.psq = s.psq ∧ t.imn.pendingRelease = s.imn.pendingRelease
   else
    t.shu.sweepTarget = false ∧
    match s.psq.seq with
    | .sweepIsolated .isoWait =>
      t.psq = { s.psq with
        seq := .sweepIsolated .isoRejoin, prechargeCmd := true, prechargeTimer := true } ∧
      .seqState ∈ t.cpt.events
    | .sweepIsolated .isoRamp | .sweepIsolated .isoOpen =>
      t.psq = s.psq ∧ t.imn.pendingRelease = true
    | _ => t.psq = s.psq ∧ t.imn.pendingRelease = s.imn.pendingRelease)

/-- ALERT makes a station without a role a follower and restarts a follower's silence timer (R155). A
SWEEP_STEP of the leader followed does so too; one that names this station makes it the target, isolated
from ACTIVE or SUSPENDED, or answering REFUSED (code 2) with the contactor closed, in PRECHARGE and in
ISO_REJOIN (log 60), and else ALREADY_OPEN (code 3, R158); one that names another station releases it. -/
def Obligations.LeaderFramesMakeATarget : Prop :=
  ∀ (s : State) (n : BitVec 6) (id x i : Byte) (r : Word16), LineSettled s → RegulationSafe s →
    (Delivered ⟨n, id, .alert r⟩ s →
      match s.imn.sweep with
      | .none => Completes (exec (.alertReceived n id r) s) fun t =>
        Follows n.toNat s t ∧
        t = { Acked s with imn := { s.imn with
            sweep := t.imn.sweep, outcome := .none, disagreement := false }, cpt := t.cpt }
      | .following l _ =>
        exec (.alertReceived n id r) s = .next
          (if l = n.toNat then { Acked s with imn.sweep := .following l true } else Acked s)
      | .leading _ => exec (.alertReceived n id r) s = .next (Acked s)) ∧
    (Delivered ⟨n, id, .sweepStep x i⟩ s →
      match s.imn.sweep with
      | .leading _ => exec (.sweepStepReceived n id x i) s = .next (Acked s)
      | .following l _ =>
        (l ≠ n.toNat → exec (.sweepStepReceived n id x i) s = .next (Acked s))
      | .none => True) ∧
    (Delivered ⟨n, id, .sweepStep x i⟩ s →
      s.imn.sweep = .none ∨ s.imn.sweep = .following n.toNat true ∨
        s.imn.sweep = .following n.toNat false →
      Completes (exec (.sweepStepReceived n id x i) s) fun t =>
        Follows n.toNat s t ∧ t.cfg = s.cfg ∧ t.msq = s.msq ∧ t.mtr = s.mtr ∧ t.mst = s.mst ∧
        t.imn.mode = s.imn.mode ∧ t.imn.ownFault = s.imn.ownFault ∧
        if x.toNat ≠ s.cfg.station then Released s t
        else if s.imn.target.map (·.index) = some i.toNat then
          t.psq = s.psq ∧ t.imn.target = s.imn.target
        else if s.psq.seq = .active ∨ s.psq.seq = .suspended then Isolating i.toNat s t
        else
          t.psq = s.psq ∧ t.fli.line = s.fli.line ∧
          if s.imn.contactorClosed = true ∨ s.psq.seq = .precharge ∨
              s.psq.seq = .sweepIsolated .isoRejoin then
            t.imn.target = s.imn.target ∧
              QueuedOwn (.sweepAnswer (BitVec.ofNat 8 s.cfg.station) 2) s t
          else
            t.imn.target = some ⟨i.toNat, none⟩ ∧ .sweep ∈ t.cpt.events ∧
              QueuedOwn (.sweepAnswer (BitVec.ofNat 8 s.cfg.station) 3) s t)

/-- SWEEP_RESULT of the leader followed ends the sweep (R163): FOUND naming a target here sets the
own-side fault latch, of which the sequencer is told, so that a waiting session closes with INSULATION, and
with which the self-check is pending, and starts in LOCAL (R21, R149, R161; the target's part goes as the
stop is recorded, log 28), with a disagreement where the own verdict does not confirm it (R161); every other
result releases the target. The leader's silence ends it as ABANDONED (R165). The hold ends (R167). A measurer
whose network is in ALARM starts a sweep of its own where the end of the other, or of the hold, allows it
(R154). -/
def Obligations.ResultsEndAFollowersSweep : Prop :=
  ∀ (s : State) (n : BitVec 6) (id o x u : Byte), LineSettled s → DriveSafe s → RegulationSafe s →
    (Delivered ⟨n, id, .sweepResult o x u⟩ s →
      s.imn.sweep ≠ .following n.toNat true → s.imn.sweep ≠ .following n.toNat false →
      exec (.sweepResultReceived n id o x u) s = .next (Acked s)) ∧
    (Delivered ⟨n, id, .sweepResult o x u⟩ s →
      s.imn.sweep = .following n.toNat true ∨ s.imn.sweep = .following n.toNat false →
      (o = 1 → x.toNat = s.cfg.station → s.imn.target ≠ none →
        Completes (exec (.sweepResultReceived n id o x u) s) fun t =>
          SweepEnded (.found x.toNat) true s t ∧ t.imn.ownFault = true ∧ t.imn.target = none ∧
          t.shu.sweepTarget = false ∧
          (s.imn.ownFault = false → .insulation ∈ t.cpt.events ∧ LatchTold s t) ∧
          (s.imn.ownFault = true →
            t.psq = s.psq ∧ t.imn.selfCheck = s.imn.selfCheck ∧ t.mtr = s.mtr ∧ t.mst = s.mst) ∧
          (∀ g, s.imn.target = some g →
            (t.imn.disagreement = true ↔
              s.imn.disagreement = true ∨ g.verdict = none ∨
                s.cfg.rWarn < g.verdict.getD 0))) ∧
      (o ≠ 1 ∨ x.toNat ≠ s.cfg.station ∨ s.imn.target = none →
        (o ≠ 1 → o ≠ 2 → NoSweepStarts s) →
        Completes (exec (.sweepResultReceived n id o x u) s) fun t =>
          SweepEnded (if o = 1 then .found x.toNat else if o = 2 then .notFound else .abandoned)
            (o == 1 || o == 2) s t ∧
          Released s t ∧ t.imn.ownFault = s.imn.ownFault ∧ t.fli = (Acked s).fli ∧
          t.mtr = s.mtr ∧ t.mst = s.mst ∧ t.cfg = s.cfg) ∧
      (o ≠ 1 → o ≠ 2 → ¬ NoSweepStarts s →
        Completes (exec (.sweepResultReceived n id o x u) s) fun t => SweepStarted s t)) ∧
    (s.power = .running →
      match s.imn.sweep with
      | .following _ true =>
        if s.imn.mode = .measurer ∧ s.imn.hold = false ∧ s.imn.net.state = some .alarm then
          Completes (exec .leaderSilenceExpiry s) fun t => SweepStarted s t
        else Completes (exec .leaderSilenceExpiry s) fun t =>
          SweepEnded .abandoned false s t ∧ Released s t ∧ t.imn.ownFault = s.imn.ownFault ∧
          t.fli = s.fli ∧ t.mtr = s.mtr ∧ t.mst = s.mst ∧ t.cfg = s.cfg
      | _ => exec .leaderSilenceExpiry s = .next s) ∧
    (s.power = .running →
      if s.imn.hold = false then exec .sweepHoldExpiry s = .next s
      else if s.imn.mode = .measurer ∧ s.imn.net.state = some .alarm ∧ s.imn.sweep = .none then
        Completes (exec .sweepHoldExpiry s) fun t =>
          SweepStarted { s with imn.hold := false } t ∧ t.imn.mode = .measurer ∧
          (t.imn.sweep ≠ .none → t.imn.hold = false) ∧ t.mst = s.mst ∧ t.cfg = s.cfg
      else exec .sweepHoldExpiry s = .next { s with imn.hold := false })

/-- The leader takes the answer of its step's target (R156): REFUSED (code 2) counts it unresponsive and
goes on to the next index; ISOLATED and ALREADY_OPEN start a fresh cycle with its timer (R157). The answer
timer goes on like REFUSED, and the cycle timer goes on undecided, or ends the own step NOT_FOUND (R157,
R162). -/
def Obligations.LeaderStepsThroughItsList : Prop :=
  ∀ (s : State) (n : BitVec 6) (id x c : Byte), LineSettled s → RegulationSafe s →
    match s.imn.sweep with
    | .leading r =>
      (Delivered ⟨n, id, .sweepAnswer x c⟩ s →
        if r.phase = .awaitingAnswer ∧ r.list.getD r.index 0 = n.toNat then
          if c = 2 then
            Completes (exec (.sweepAnswerReceived n id x c) s) fun t =>
              StepStarted
                { r with
                  index := r.index + 1, answerTimer := false, unresponsive := r.unresponsive + 1 }
                s t ∧ t.mtr = s.mtr ∧ t.mst = s.mst ∧ t.cfg = s.cfg ∧ t.msq = s.msq
          else
            exec (.sweepAnswerReceived n id x c) s = .next
              { Acked s with imn := { s.imn with
                  sweep := .leading
                    { r with phase := .measuring, answerTimer := false, cycleTimer := true }
                  cycle := some ⟨.awaiting, 0, 0, none, none, false⟩, coupling := true } }
        else exec (.sweepAnswerReceived n id x c) s = .next (Acked s)) ∧
      (s.power = .running →
        (if r.answerTimer = false then exec .sweepAnswerTimeout s = .next s
         else Completes (exec .sweepAnswerTimeout s) fun t =>
          StepStarted
            { r with
              index := r.index + 1, answerTimer := false, unresponsive := r.unresponsive + 1 }
            s t ∧ t.mtr = s.mtr ∧ t.mst = s.mst ∧ t.cfg = s.cfg ∧ t.msq = s.msq) ∧
        (if r.cycleTimer = false then exec .sweepCycleTimeout s = .next s
         else Completes (exec .sweepCycleTimeout s) fun t =>
          (if r.phase = .ownStep then
            SweepEnded .notFound true s t ∧ NoTarget t ∧
            QueuedOwn (.sweepResult 2 0 (BitVec.ofNat 8 r.unresponsive)) s t ∧
            (s.psq.seq = .sweepIsolated .isoWait →
              t.psq.seq = .sweepIsolated .isoRejoin ∧ t.psq.prechargeCmd = true ∧
                t.psq.prechargeTimer = true)
           else StepStarted { r with index := r.index + 1, cycleTimer := false } s t) ∧
          t.mtr = s.mtr ∧ t.mst = s.mst ∧ t.cfg = s.cfg ∧ t.msq = s.msq))
    | _ =>
      (Delivered ⟨n, id, .sweepAnswer x c⟩ s →
        exec (.sweepAnswerReceived n id x c) s = .next (Acked s)) ∧
      (s.power = .running →
        exec .sweepAnswerTimeout s = .next s ∧ exec .sweepCycleTimeout s = .next s)

/-! ## The tariff meter (R169 to R184) -/

/-- ΔE of an interval (R170): the whole milliwatt-hours of the carry and the sum, none of 0 or less. -/
abbrev intervalEnergy (s : State) : Nat :=
  if s.mtr.importCarry + s.mtr.powerSum ≤ 0 then 0
  else (s.mtr.importCarry + s.mtr.powerSum).toNat / 28800000

/-- ΔC of an interval (R171): the heater's whole milliwatt-hours, at most ΔE. -/
abbrev intervalConditioning (s : State) : Nat :=
  min (intervalEnergy s) ((s.mtr.heaterCarry + s.mtr.heaterSum) / 28800000)

/-- Every energy a session's line items hold, the overruns with them; and the conditioning of it. -/
def itemsEnergy (is : List LineItem) : Nat :=
  (is.map fun i => i.charging + i.conditioning + (i.overrun.map fun o => o.1 + o.2).getD 0).sum
@[inherit_doc itemsEnergy]
def itemsConditioning (is : List LineItem) : Nat :=
  (is.map fun i => i.conditioning + (i.overrun.map (·.2)).getD 0).sum

/-- The copy that follows an ended one with CHAIN (R178): the prefetched copy, or the slot's own where it is
valid. -/
abbrev Follower (s : State) (c : DescCopy) (prefetched : Option DescCopy) : Option DescCopy :=
  match prefetched with
  | some d => some d
  | none => SlotCopy c.desc.next s

/-- The last line item changed, the others as they are. -/
def onLast (f : LineItem → LineItem) (is : List LineItem) : List LineItem :=
  is.dropLast ++ (is.getLast?.map f).toList

/-- A portion in the line item of a descriptor's activation, priced at the descriptor's rates (R177, step 3). -/
def withPortion (d : Descriptor) (charging conditioning : Nat) (i : LineItem) : LineItem :=
  { i with
    charging := i.charging + charging
    conditioning := i.conditioning + conditioning
    accumulator := i.accumulator + (charging * d.rateChg + conditioning * d.rateCond) }

/-- The pair (e, c) in a line item's overrun, priced at the item's own rates (R177, R179); a pair of zero makes
none (log 37). -/
def withOverrun (e c : Nat) (i : LineItem) : LineItem :=
  if e = 0 ∧ c = 0 then i
  else
    { i with
      overrun := some ((i.overrun.map (·.1)).getD 0 + (e - c), (i.overrun.map (·.2)).getD 0 + c)
      accumulator := i.accumulator + ((e - c) * i.rateChg + c * i.rateCond) }

/-- What the walk of an interval's pair through a chain leaves: the descriptor that runs on, or the chain
end's cause with what END_SUSPEND says of it; the prefetched copy; whether LOW_QUOTA is raised; how many
copies it has activated; and the line items with the whole pair in them. -/
structure WalkEnd where
  next : Running ⊕ (EndCause × Bool)
  prefetched : Option DescCopy
  lowQuota : Bool
  activations : Nat
  items : List LineItem
  deriving DecidableEq, Repr

/-- R176's check of a running descriptor: its near-end flag is set once it is near its end. -/
def checked (r : Running) : Running :=
  { r with nearEnd := r.nearEnd || decide (NearEnd r.copy.desc r.quotaLeft r.timeLeft) }

/-- The check raises LOW_QUOTA as the near-end flag rises with NOTICE (R176). -/
def raisesLowQuota (r : Running) : Bool := (checked r).nearEnd && !r.nearEnd && r.copy.desc.notice

/-- The check prefetches a copy's next slot with CHAIN and the near-end flag, where none is held (R176). -/
def prefetches (s : State) (r : Running) (prefetched : Option DescCopy) : Option DescCopy :=
  if (checked r).nearEnd = true ∧ r.copy.desc.chain = true then Follower s r.copy prefetched
  else prefetched

/-- The walk ends with a running descriptor that goes on, checked. -/
def goesOn (s : State) (r : Running) (prefetched : Option DescCopy) (items : List LineItem) : WalkEnd :=
  ⟨.inl (checked r), prefetches s r prefetched, raisesLowQuota r, 0, items⟩

/-- The end of a chain in the walk: the pair still to be applied goes to the last item's overrun (R179). -/
def endsChain (cause : EndCause) (suspend : Bool) (e c : Nat) (items : List LineItem) : WalkEnd :=
  ⟨.inr (cause, suspend), none, false, 0, onLast (withOverrun e c) items⟩

/-- Where the pair (e, c) of an interval goes, descriptor by descriptor (R177 to R179). The running copy takes a
portion, all of e without a quota and what is left of it with one, of which conditioning is first; its item
grows by both parts and their price. The copy that has quota and time left runs on, and otherwise its follower
is activated with a line item of its own (R175) and takes the rest; or the chain ends. `items` are the line
items held, and `first` says that the second is still to be counted against the copy's duration. -/
def chainWalk (s : State) :
    Nat → List LineItem → Running → Option DescCopy → Bool → Nat → Nat → WalkEnd
  | 0, items, r, prefetched, _, _, _ => ⟨.inl r, prefetched, false, 0, items⟩
  | fuel + 1, items, r, prefetched, first, e, c =>
    let d := r.copy.desc
    let q := if d.quota = 0 then e else min e r.quotaLeft
    let conditioning := min c q
    let held := onLast (withPortion d (q - conditioning) conditioning) items
    let quotaLeft := if d.quota = 0 then r.quotaLeft else r.quotaLeft - q
    let timeLeft := if d.duration ≠ 0 ∧ first = true then r.timeLeft - 1 else r.timeLeft
    if ¬ ((d.quota ≠ 0 ∧ quotaLeft = 0) ∨ (d.duration ≠ 0 ∧ timeLeft = 0)) then
      goesOn s { r with quotaLeft := quotaLeft, timeLeft := timeLeft } prefetched held
    else if d.chain = false then endsChain .quotaEnd d.endSuspend (e - q) (c - conditioning) held
    else match Follower s r.copy prefetched with
      | none => endsChain .chainBroken d.endSuspend (e - q) (c - conditioning) held
      | some f =>
        if 16 ≤ items.length then endsChain .lineLimit false (e - q) (c - conditioning) held
        else
          let a : Running := ⟨f, f.desc.quota * 1000, f.desc.duration, false⟩
          let opened := held ++ [⟨f.slot, f.desc.rateChg, f.desc.rateCond, 0, 0, 0, none⟩]
          let w :=
            if e - q = 0 ∧ c - conditioning = 0 then goesOn s a none opened
            else chainWalk s fuel opened (checked a) (prefetches s a none) false (e - q)
              (c - conditioning)
          { w with
            lowQuota := raisesLowQuota a || w.lowQuota
            activations := w.activations + 1 }

/-- The walk of the interval's pair from the running descriptor; none without one. -/
def intervalWalk (s : State) : Option WalkEnd :=
  match s.mtr.session with
  | some ⟨base, some r⟩ =>
    some (chainWalk s 18 base.items r s.mtr.prefetched true (intervalEnergy s)
      (intervalConditioning s))
  | _ => none

/-- The line items of a context after the interval (R177 to R179): those of the walk, and without a running
descriptor the last item with the whole pair in its overrun. -/
def intervalItems (s : State) (items : List LineItem) : List LineItem :=
  match intervalWalk s with
  | some w => w.items
  | none => onLast (withOverrun (intervalEnergy s) (intervalConditioning s)) items

/-- What an interval does to the running descriptor and asks of the sequencer (R12, R13, R176 to R179): a
descriptor, the running one or a successor, that has quota and time left after it runs on with what is left,
checked for its near end, and nothing is asked; a chain end otherwise asks to stop or suspend, with
CHAIN_BROKEN where CHAIN names no valid copy, LINE_LIMIT after sixteen line items, and QUOTA_END without
CHAIN. An interval can end several descriptors one after another. -/
abbrev IntervalMovesSequencer (s t : State) : Prop :=
  match intervalWalk s with
  | some w =>
    (.lowQuota ∈ t.cpt.events ↔ .lowQuota ∈ s.cpt.events ∨ w.lowQuota = true) ∧
    match w.next with
    | .inl r =>
      t.psq = s.psq ∧ t.mtr.session.bind (·.running) = some r ∧ t.mtr.prefetched = w.prefetched
    | .inr (cause, suspend) => ChainEnded cause suspend s t
  | none =>
    t.psq = s.psq ∧ t.mtr.session.bind (·.running) = none ∧ t.mtr.prefetched = s.mtr.prefetched

/-- A context as it stood at its last activation within the interval: the last line item opened, and nothing
applied to it (R175). -/
def asActivated (b : SessionBase) : SessionBase :=
  { b with
    items :=
      onLast (fun i => { i with charging := 0, conditioning := 0, accumulator := 0, overrun := none })
        b.items }

/-- The checkpoints of an interval that leaves its session open (R175, R188): one at each activation, with the
context as it then stood; with none, one of the context as it stands where the session's energy has reached
100,000 mWh since the last; and otherwise only the counts rise. An activation's checkpoint has zeroed the
session's energy (log 56), and a pending checkpoint is replaced in its place (log 57). -/
abbrev IntervalStored (s t : State) : Prop :=
  ∀ ss, t.mtr.session = some ss →
    let n := ((intervalWalk s).map (·.activations)).getD 0
    if n = 0 ∧ s.mst.sessionEnergy + intervalEnergy s < 100000 then
      t.mst = { s.mst with
        working := t.mst.working
        sessionEnergy := s.mst.sessionEnergy + intervalEnergy s
        lifeEnergy := s.mst.lifeEnergy + intervalEnergy s }
    else
      t.mst = { s.mst with
        working := t.mst.working, sessionEnergy := 0, lifeEnergy := 0, writes := t.mst.writes
        inFlight := t.mst.inFlight } ∧
      if n = 0 then CheckpointTaken [] ss.base s t
      else CheckpointTaken
        (List.replicate (n - 1)
          [.counters t.mst.working, .checkpoint (.opened (asActivated ss.base))]).flatten
        (asActivated ss.base) s t

/-- A session's context after an interval (R170, R171, R177 to R180): one interval more, each part of the pair
in its line item with its price, or in the last one's overrun, and so the whole pair; REVERSE_FLOW where the sum
is below −1 mWh, and the rest as it was. The items are stated where the last is the running copy's, which
`Obligations.StepKeepsRangesAndTables` says of every run. -/
abbrev Metered (s : State) (a b : SessionBase) : Prop :=
  b = { a with elapsed := a.elapsed + 1, flags := b.flags, items := b.items } ∧
  b.flags.reverseFlow =
    (a.flags.reverseFlow || decide (s.mtr.importCarry + s.mtr.powerSum < -28800000)) ∧
  (LineSettled s → b.flags = { a.flags with reverseFlow := b.flags.reverseFlow }) ∧
  (ItemsSound s → b.items = intervalItems s a.items) ∧
  (a.items ≠ [] →
    itemsEnergy b.items = itemsEnergy a.items + intervalEnergy s ∧
    itemsConditioning b.items = itemsConditioning a.items + intervalConditioning s)

/-- A sampling event adds to the sums (R169). The interval event, due at 8000 samples, forms the energies with
their carries (R170), empties the sums, raises both lifetime counters, P_meter (R86, R188) and the elapsed
count (R171); with no session nothing else is metered, and in a session the whole pair lands in its line items
and their overruns (R177 to R179), through as many descriptors as it ends: each item takes its descriptor's
portion, conditioning first, its price accumulator grows by charging × RATE_CHG + conditioning × RATE_COND,
and what a chain's end leaves goes to the last item's overrun at the item's rates (R177 to R180; a pair of
zero makes none, log 37). A chain's end stops or suspends the station (R12, R13, R179). The copy that runs on
has the quota and time left that the interval leaves it, and near its end has LOW_QUOTA raised and a successor
prefetched (R176); each activation and each 100,000 mWh since the last checkpoint queues its counters write
and, with a session open, its OPEN checkpoint (R175, R188, log 56), which takes the place of a pending one
(log 57). In a sweep isolation the stop follows the phase (R24): the target record goes as it is recorded
(R160, log 28), and where it ends the session at once, the record of the session as metered is held with the
chain end's cause (R183, R189). -/
def Obligations.IntervalsMeterEveryPair : Prop :=
  ∀ (s : State), s.power = .running →
    (s.mtr.sampleCount < 8000 →
      exec .meteringInterval s = .next s ∧
      exec .meterSample s = .next
        { s with mtr := { s.mtr with
            sampleCount := s.mtr.sampleCount + 1
            powerSum := s.mtr.powerSum +
              (slotValue 0 s * slotValue 1 s + slotValue 2 s * slotValue 3 s
                + slotValue 4 s * slotValue 5 s)
            heaterSum := s.mtr.heaterSum +
              if s.htr.source = .grid then slotNat 7 s * slotNat 9 s else 0 } }) ∧
    (8000 ≤ s.mtr.sampleCount → Completes (exec .meteringInterval s) fun t =>
      t.mtr.sampleCount = 0 ∧ t.mtr.powerSum = 0 ∧ t.mtr.heaterSum = 0 ∧
      t.mtr.importCarry =
        (if s.mtr.importCarry + s.mtr.powerSum ≤ 0 then 0
         else (s.mtr.importCarry + s.mtr.powerSum).toNat % 28800000) ∧
      t.mtr.heaterCarry = (s.mtr.heaterCarry + s.mtr.heaterSum) % 28800000 ∧
      t.crg.pMeter = intervalEnergy s * 3600 / 1000 ∧
      t.mst.working = { s.mst.working with
        imported := min (s.mst.working.imported + intervalEnergy s) (2 ^ 48 - 1)
        conditioning :=
          min (s.mst.working.conditioning +
            if s.mtr.session = none then 0 else intervalConditioning s) (2 ^ 48 - 1) } ∧
      t.mtr.table = s.mtr.table ∧ t.cfg = s.cfg ∧ t.msq = s.msq ∧ t.mst.page = s.mst.page ∧
      (s.mtr.session = none →
        t.mtr.session = none ∧ t.psq = s.psq ∧ t.crg = { s.crg with pMeter := t.crg.pMeter } ∧
        if s.mst.lifeEnergy + intervalEnergy s < 100000 then
          t.mst = { s.mst with
            working := t.mst.working, lifeEnergy := s.mst.lifeEnergy + intervalEnergy s }
        else
          t.mst = { s.mst with
            working := t.mst.working, sessionEnergy := 0, lifeEnergy := 0, writes := t.mst.writes
            inFlight := t.mst.inFlight } ∧
          WritesQueued [.counters t.mst.working] s.mst t.mst) ∧
      (DriveSafe s → LineSettled s → IntervalMovesSequencer s t ∧ IntervalStored s t) ∧
      ∀ a, s.mtr.session = some a →
        match t.mtr.session with
        | some b => Metered s a.base b.base
        | none =>
          .sessionEnd ∈ t.cpt.events ∧
          ∃ (b : SessionBase) (cause : EndCause), Metered s a.base b ∧
            (intervalWalk s).map (·.next) = some (.inr (cause, false)) ∧
            RecordHeld
              (recordOf { b with flags := { b.flags with forcedStop := false } } cause) t)

/-- The slot an index names holds a valid descriptor. -/
abbrev ValidSlot (b : Byte) (s : State) : Prop :=
  ∃ i : Fin 16, b.toNat = i.val ∧ s.mtr.table[i].valid = true

/-- The slot is the source of the running or of the prefetched copy (R173). -/
abbrev SlotInUse (b : Byte) (s : State) : Prop :=
  (s.mtr.prefetched.map (·.slot.val)) = some b.toNat ∨
  ((s.mtr.session.bind (·.running)).map (·.copy.slot.val)) = some b.toNat

/-- A split has placed the closed session's record and checkpointed the new session (R175, R182, R188, R189):
the counters and the record's place are written, then the counters of the opening, which the checkpoint of the
activation follows in place of the record's clear. Where a checkpoint is pending already, the new one takes its
place ahead of these writes (R187; the model's choice, log 57). -/
abbrev SplitStored (r : SessionRecord) (b : SessionBase) (s t : State) : Prop :=
  t.mst.waiting = s.mst.waiting ∧
  if s.mst.queue.length < 4 then
    t.mst.queue.map (·.placed) = s.mst.queue.map (·.placed) ++ [⟨s.mst.nextPlacement, r⟩] ∧
    t.mst.nextPlacement = s.mst.nextPlacement + 1 ∧ t.mst.stacked = s.mst.stacked ∧
    .reportReady ∈ t.cpt.events ∧
    ∃ p : Place, LowestFree p s.mst.queue ∧ CheckpointTaken
      [.counters s.mst.working, .place p (some ⟨s.mst.nextPlacement, r⟩) false,
        .counters t.mst.working] b s t
  else
    t.mst.queue = s.mst.queue ∧ t.mst.nextPlacement = s.mst.nextPlacement ∧
    t.mst.stacked = some r ∧ CheckpointTaken
      [.counters s.mst.working, .place .p5 (some ⟨0, r⟩) false, .counters t.mst.working] b s t

/-- WRITE_DESCRIPTOR writes a slot of the table, with IN_USE_LATER where it is the source of a copy (R173);
EXTEND gives the running copy a successor (R181); SESSION_SPLIT closes the session with SPLIT and opens the
next with the slot's copy as its first line item (R182, R175), with the writes that both owe in their order
(R188, R189), but that the new checkpoint takes the place of a pending one, ahead of them all (R187; the
model's choice, log 57). Each is refused in its rule's order. -/
def Obligations.MeterCommandsFollowTheirChecks : Prop :=
  ∀ (s : State) (x f n : Byte) (q d r c : Word16) (w : Word32), s.power = .running →
    (if 15 < x.toNat then exec (.writeDescriptor x f q d r c n) s = .next (answerEmpty .badSlot s)
     else if 15 < n.toNat ∨ 15 < f.toNat then
      exec (.writeDescriptor x f q d r c n) s = .next (answerEmpty .badValue s)
     else Completes (exec (.writeDescriptor x f q d r c n) s) fun t =>
      t.cpt = { s.cpt with
        reply := ⟨if SlotInUse x s then .inUseLater else .accepted, .empty⟩, shifting := none } ∧
      t = { s with cpt := t.cpt, mtr.table := t.mtr.table } ∧
      ∀ i : Fin 16, t.mtr.table[i] =
        if i.val = x.toNat then
          ⟨f.getLsbD 0, q.toNat, d.toNat, r.toNat, c.toNat, Fin.ofNat 16 n.toNat, f.getLsbD 1,
            f.getLsbD 2, f.getLsbD 3⟩
        else s.mtr.table[i]) ∧
    (match s.mtr.session with
      | none => exec (.extend n) s = .next (answerEmpty .noSession s)
      | some ss =>
        if s.psq.seq = .suspended then exec (.extend n) s = .next (answerEmpty .suspended s)
        else match ss.running with
          | none => exec (.extend n) s = .next (answerEmpty .noSession s)
          | some u =>
            if u.copy.desc.chain = true then
              exec (.extend n) s = .next (answerEmpty .alreadyChained s)
            else if ¬ ValidSlot n s then exec (.extend n) s = .next (answerEmpty .badSlot s)
            else exec (.extend n) s = .next (answerEmpty .accepted
              { s with mtr.session := some { ss with
                  running := some { u with copy := { u.copy with desc := { u.copy.desc with
                    chain := true, next := Fin.ofNat 16 n.toNat } } } } })) ∧
    match s.mtr.session with
    | none => exec (.sessionSplit x w) s = .next (answerEmpty .noSession s)
    | some ss =>
      if s.psq.seq = .stopping ∨ (s.psq.seq.isolated = true ∧ s.psq.stopCause ≠ none) then
        exec (.sessionSplit x w) s = .next (answerEmpty .ending s)
      else if s.mst.stacked ≠ none then
        exec (.sessionSplit x w) s = .next (answerEmpty .backlog s)
      else if ¬ ValidSlot x s then exec (.sessionSplit x w) s = .next (answerEmpty .badSlot s)
      else Completes (exec (.sessionSplit x w) s) fun t =>
        t.cpt.reply = ⟨.splitDone, .empty⟩ ∧ .sessionEnd ∈ t.cpt.events ∧
        RecordHeld (closedRecord ss .split false) t ∧
        t.mst.working.sessions = (s.mst.working.sessions + 1) % 65536 ∧
        (∀ i : Fin 16, x.toNat = i.val →
          t.mtr.session.map (·.base) = some
            { number := (s.mst.working.sessions + 1) % 65536, station := s.cfg.station
              feederId := (s.psq.ident.map (·.feederId)).getD 0
              ratingClass := (s.psq.ident.map (·.ratingClass)).getD 0, stamp := w, elapsed := 0
              flags :=
                { reverseFlow := false, fallbackUsed := s.shu.conds.any
                  identLenient := (s.psq.ident.map (·.lenient)).getD false
                  insulation := false, forcedStop := false, estimated := false }
              items := [⟨i, s.mtr.table[i].rateChg, s.mtr.table[i].rateCond, 0, 0, 0, none⟩] } ∧
          Activated ⟨i, s.mtr.table[i]⟩ s t) ∧
        (∀ b, t.mtr.session.map (·.base) = some b →
          SplitStored (closedRecord ss .split false) b s t) ∧
        t.psq = s.psq ∧ t.shu = s.shu ∧ t.crg = s.crg ∧ t.ptu = s.ptu ∧
        t.imn = s.imn ∧ t.fli = s.fli ∧ t.htr = s.htr ∧ t.msq = s.msq ∧ t.cfg = s.cfg ∧
        t.mtr.table = s.mtr.table ∧ t.mst.page = s.mst.page

/-! ## The meter store (R185 to R192) -/

/-- A session's record (R180, R183, R185): the context's own fields with the elapsed count as the duration, the
cause, the line items with their accumulators rounded half up to a price, and the three totals, overruns
included. -/
abbrev RecordFormed (b : SessionBase) (cause : EndCause) (r : SessionRecord) : Prop :=
  r.number = b.number ∧ r.station = b.station ∧ r.feederId = b.feederId ∧
  r.ratingClass = b.ratingClass ∧ r.stamp = b.stamp ∧ r.duration = b.elapsed ∧
  r.endCause = cause ∧ r.flags = b.flags ∧
  r.items = b.items.map (fun i =>
    ⟨i.slot, i.charging, i.conditioning, (i.accumulator + 500000) / 1000000, i.overrun⟩) ∧
  r.totalEnergy = itemsEnergy b.items ∧ r.totalCond = itemsConditioning b.items ∧
  r.totalPrice = (b.items.map fun i => (i.accumulator + 500000) / 1000000).sum

/-- The number that `n` bytes from byte `i` on hold, the most significant first (log 73). -/
def fieldAt (bs : List Byte) (i n : Nat) : Nat :=
  ((bs.drop i).take n).foldl (fun v b => 256 * v + b.toNat) 0

/-- A field of `n` bytes from byte `i` on holds a value that fits in it (a larger one is free, log 46). -/
abbrev HoldsField (bs : List Byte) (i n v : Nat) : Prop := v < 256 ^ n → fieldAt bs i n = v

/-- A line item's 22 bytes from byte `k` on (12.6). -/
abbrev ItemLaidOut (bs : List Byte) (k : Nat) (i : RecordItem) : Prop :=
  fieldAt bs k 1 = i.slot.val ∧ fieldAt bs (k + 1) 1 = (if i.overrun = none then 0 else 1) ∧
  HoldsField bs (k + 2) 4 i.charging ∧ HoldsField bs (k + 6) 4 i.conditioning ∧
  HoldsField bs (k + 10) 4 i.price ∧
  HoldsField bs (k + 14) 4 ((i.overrun.map (·.1)).getD 0) ∧
  HoldsField bs (k + 18) 4 ((i.overrun.map (·.2)).getD 0)

/-- READ_REPORT's payload (R190, 12.6): the placement number and then the record's 28 bytes with 22 for each
line item. -/
abbrev ReportLaidOut (p : Placed) (bs : List Byte) : Prop :=
  bs.length = 32 + 22 * p.record.items.length ∧ fieldAt bs 0 4 = p.placement.toNat ∧
  HoldsField bs 4 2 p.record.number ∧ HoldsField bs 6 1 p.record.station ∧
  HoldsField bs 7 1 p.record.feederId ∧ HoldsField bs 8 1 p.record.ratingClass ∧
  fieldAt bs 9 4 = p.record.stamp.toNat ∧ HoldsField bs 13 4 p.record.duration ∧
  (some p.record.endCause = ([.hostStop, .hostIdle, .released, .unplugged, .trip, .insulation,
    .quotaEnd, .chainBroken, .lineLimit, .split, .batteryLow, .contactorWeld, .powerLost] :
      List EndCause)[fieldAt bs 17 1 - 1]? ∧ fieldAt bs 17 1 ≠ 0) ∧
  fieldAt bs 18 1 =
    p.record.flags.reverseFlow.toNat + 2 * p.record.flags.fallbackUsed.toNat
      + 4 * p.record.flags.identLenient.toNat + 8 * p.record.flags.insulation.toNat
      + 16 * p.record.flags.forcedStop.toNat + 32 * p.record.flags.estimated.toNat ∧
  HoldsField bs 19 1 p.record.items.length ∧
  HoldsField bs 20 4 p.record.totalEnergy ∧ HoldsField bs 24 4 p.record.totalCond ∧
  HoldsField bs 28 4 p.record.totalPrice ∧
  ∀ n, (h : n < p.record.items.length) → ItemLaidOut bs (32 + 22 * n) p.record.items[n]

/-- A record has been placed (R189): in the queue with the next placement number and REPORT_READY, else in the
stacked slot, else it waits. Each case queues the counters first, then its own write: the place, whose
completion clears the checkpoint, or the CLOSED checkpoint, which ends every clear still due. A pending write
of the target is replaced in its place (logs 57, 69). Place 5 has no placement number of its own (log 39). -/
abbrev RecordPlaced (b : SessionBase) (cause : EndCause) (s t : State) : Prop :=
  if s.mst.queue.length < 4 then
    ∃ p : Place, LowestFree p s.mst.queue ∧
    t.mst.queue = s.mst.queue ++ [⟨p, ⟨s.mst.nextPlacement, recordOf b cause⟩⟩] ∧
    t.mst.nextPlacement = s.mst.nextPlacement + 1 ∧ .reportReady ∈ t.cpt.events ∧
    t.mst.stacked = s.mst.stacked ∧ t.mst.waiting = s.mst.waiting ∧
    WritesQueued
      [.counters s.mst.working, .place p (some ⟨s.mst.nextPlacement, recordOf b cause⟩) true]
      s.mst t.mst
  else
    t.mst.queue = s.mst.queue ∧ t.mst.nextPlacement = s.mst.nextPlacement ∧
    if s.mst.stacked = none then
      t.mst.stacked = some (recordOf b cause) ∧ t.mst.waiting = s.mst.waiting ∧
      WritesQueued [.counters s.mst.working, .place .p5 (some ⟨0, recordOf b cause⟩) true] s.mst t.mst
    else
      t.mst.stacked = s.mst.stacked ∧ t.mst.waiting = some (recordOf b cause) ∧
      WritesQueued [.counters s.mst.working, .checkpoint (.closed b cause)] (snapshotKept s.mst) t.mst

/-- The completion of the write in flight puts its contents into its target alone, a doubled entry's with its
count (R187); the next write in queue order, with the EMPTY checkpoint queued by a place that asks for it
(R189, R190), is then in flight; with none in flight the row does nothing (log 1). READ_REPORT answers the
oldest record and REMOVE_REPORT takes it away (R190): the queue's rest stays in order, the stacked record
joins its end with the next placement number (32 bits, log 9), REPORT_READY is raised, and a waiting record
takes the stacked slot. The removed record's place is then written with the moved record or empty, and place 5
after it with the waiting record, whose write asks for the clear, or empty; a clear still due goes over to the
moved record's write (log 26). A write that replaces a pending one keeps its place (R187), also where R189 or
R190 would have it later (logs 57, 69). Both commands answer NONE on an empty queue. A record that closes is
formed field by field from its context, with its items' prices and the totals (R180, R183, R185), and placed,
with its writes in their order (R189). The oldest record's bytes are laid out as 12.6 says, each field with
its most significant byte first (log 73). -/
def Obligations.StoreWritesAndReportsLeaveInOrder : Prop :=
  ∀ (s : State) (b : SessionBase) (cause : EndCause), s.power = .running →
    RecordFormed b cause (recordOf b cause) ∧ RecordPlaced b cause s (placeRecord b cause false s) ∧
    (match s.mst.inFlight with
      | none => exec .storeWriteComplete s = .next s
      | some f => Completes (exec .storeWriteComplete s) fun t =>
        t = { s with
          cpt.events := t.cpt.events
          mst := { s.mst with
            page := t.mst.page, inFlight := t.mst.inFlight, writes := t.mst.writes } } ∧
        (match f.write with
          | .place p x _ =>
            t.mst.page.counters = s.mst.page.counters ∧
            t.mst.page.checkpoint = s.mst.page.checkpoint ∧ t.mst.page.place p = .valid x ∧
            ∀ q, q ≠ p → t.mst.page.place q = s.mst.page.place q
          | .counters c =>
            t.mst.page.counters = s.mst.page.counters.put f.copy (.valid ⟨f.count, c⟩) ∧
            t.mst.page.checkpoint = s.mst.page.checkpoint ∧
            ∀ q, t.mst.page.place q = s.mst.page.place q
          | .checkpoint c =>
            t.mst.page.checkpoint = s.mst.page.checkpoint.put f.copy (.valid ⟨f.count, c⟩) ∧
            t.mst.page.counters = s.mst.page.counters ∧
            ∀ q, t.mst.page.place q = s.mst.page.place q) ∧
        match f.write with
        | .place _ _ true =>
          t.mst.inFlight.map (·.write) = (putWrite (.checkpoint .empty) s.mst.writes).head? ∧
          t.mst.writes = (putWrite (.checkpoint .empty) s.mst.writes).tail
        | _ =>
          t.mst.inFlight.map (·.write) = s.mst.writes.head? ∧ t.mst.writes = s.mst.writes.tail) ∧
    match s.mst.queue with
    | [] =>
      exec .readReport s = .next (answerEmpty .none s) ∧
      exec .removeReport s = .next (answerEmpty .none s)
    | r :: rest =>
      exec .readReport s = .next (answer .accepted (.report r.placed) s) ∧
      ReportLaidOut r.placed (ReplyBody.report r.placed).bytes ∧
      Completes (exec .removeReport s) fun t =>
        t.cpt.reply = ⟨.accepted, .empty⟩ ∧ t.mst.page = s.mst.page ∧
        t.mst.working = s.mst.working ∧
        t = { s with cpt := t.cpt, mst := t.mst } ∧
        WritesQueued
          [.place r.place (s.mst.stacked.map fun x => ⟨s.mst.nextPlacement, x⟩)
              (s.mst.writes.any fun
                | .place q _ true => q == r.place || q == .p5
                | _ => false),
            .place .p5 (s.mst.waiting.map fun x => ⟨0, x⟩) s.mst.waiting.isSome]
          s.mst t.mst ∧
        (match s.mst.stacked with
          | none =>
            t.mst.queue = rest ∧ t.mst.stacked = none ∧ t.mst.waiting = s.mst.waiting ∧
              t.mst.nextPlacement = s.mst.nextPlacement
          | some x =>
            t.mst.queue = rest ++ [⟨r.place, ⟨s.mst.nextPlacement, x⟩⟩] ∧
              t.mst.nextPlacement = s.mst.nextPlacement + 1 ∧ t.mst.stacked = s.mst.waiting ∧
              t.mst.waiting = none ∧ .reportReady ∈ t.cpt.events)

/-! ## What every step keeps -/

/-- Right after reset every invariant stated below holds. -/
def Obligations.ResetMeetsTheInvariants : Prop :=
  DriveSafe State.reset ∧ InjectionSafe State.reset ∧ ShareSafe State.reset ∧
  HeaterSafe State.reset ∧ RegulationSafe State.reset ∧ RangesHold State.reset ∧
  TablesHold State.reset ∧ StoreSound State.reset ∧ LineSettled State.reset

/-- The relays are commanded closed, and the output enable is set, only in the states that may switch, and
never with the trip latch set (R4, R19, R97 to R99); the timers, the own-side fault and the time before
CONFIGURE keep their states (R10, R21, R24, R199); a session is open only in the states of one (R174, R183),
and the monitor is in LOCAL while the contactor is being closed (R138). Every step keeps it. -/
def Obligations.StepKeepsTheDriveSafe : Prop :=
  ∀ s : State, DriveSafe s → Completes (step s) fun t => DriveSafe t

/-- S_eff never exceeds d_own, d_own never exceeds the outlet rating, in fallback S_eff does not exceed F
(R64), and S_eff is 0 with SESSION clear (R52). Every step keeps it. -/
def Obligations.StepKeepsTheShareSafe : Prop :=
  ∀ s : State, DriveSafe s → ShareSafe s → Completes (step s) fun t => ShareSafe t

/-- The heater duty is 0 while the trip latch is set, the relay is open, its settle timer runs or its budget
is 0 (R125, R127, R129, R130), the budget and its source are R127's, and the setpoint never exceeds I_target
and is 0 while the output enable is clear or the limit is stale (R81). Every step keeps both. -/
def Obligations.StepKeepsTheCutoffs : Prop :=
  ∀ s : State,
    (HeaterSafe s → Completes (step s) fun t => HeaterSafe t) ∧
    (RegulationSafe s → Completes (step s) fun t => RegulationSafe t)

/-- The integrators, the compare values, θ, the trough count and every slot's result lie in their ranges (R83,
R91, R107, R117, R118), and the event set, the transmit queue, the peer table and the line items keep their
shape (R39, R45, R50, R175, R195), the last item being the running copy's with what has been used of its quota
(R177). Every step keeps both. -/
def Obligations.StepKeepsRangesAndTables : Prop :=
  ∀ s : State,
    (RangesHold s → Completes (step s) fun t => RangesHold t) ∧
    (TablesHold s → Completes (step s) fun t => TablesHold t)

/-- Every doubled entry has a copy in force, one write a target is pending, and the counters are in order
(R186 to R188, R192). Every step keeps it, and no step lowers a stored lifetime counter, a power loss
among them. -/
def Obligations.StepKeepsTheStore : Prop :=
  ∀ s : State, StoreSound s → Completes (step s) fun t =>
    StoreSound t ∧ (storedCounters s.mst.page).le (storedCounters t.mst.page)

/-- The part injects only with its coupling relay closed and in LOCAL or with the measuring role, which it
holds only with no eligible peer of a lower number (R137, R147). Every step keeps it. -/
def Obligations.StepKeepsInjectionSafe : Prop :=
  ∀ s : State, DriveSafe s → InjectionSafe s → Completes (step s) fun t => InjectionSafe t

/-- The line state is the one R36 gives, SHU's conditions are those R61 gives, and no identification is
held before IDENTIFIED (R8). Every step keeps it. -/
def Obligations.StepKeepsTheLineSettled : Prop :=
  ∀ s : State, LineSettled s → Completes (step s) fun t => LineSettled t

/-! ## Codes on the wires (R26 to R29, R194, 12.6) -/

/-- The request frame of a host command, with its check byte, reads back as that command with every
operand (R194, 12.3, 12.4). -/
def Obligations.RequestFramesReadBack : Prop :=
  ∀ i : Instr, i.wellFormed = true →
    ∀ bs, requestBytes i = some bs → requestOf bs = some i ∧ bs.length ≤ 256

/-- A frame's bits, stuffed and checked, are received as that frame with every field (R26 to R29, R33). -/
def Obligations.FeederFramesReadBack : Prop :=
  ∀ f : Frame, f.inRange = true →
    (receiveBits f.bits).bind (·.frame?) = some f
end

