-- ==== Sys2Proof/Laws/Chain.lean ====
section
/-! SUPPORT. What an evaluation of the regulator's chain writes, and that its results are the formulas' (R73 to
R81, R127), and what the hand-over of d_own with its extra computation does (R53, R60, R63, R77). -/

namespace Sys2Proof.Machine

theorem OnlyChain.refl (s : State) : OnlyChain s s := rfl

theorem OnlyChain.trans {s t u : State} (h : OnlyChain s t) (k : OnlyChain t u) : OnlyChain s u := by
  unfold OnlyChain at *
  rw [k, h]

theorem formBudget_onlyChain (s : State) : OnlyChain s (formBudget s) := by
  unfold formBudget
  simp only [onlyIf, writeHeaterDuty]
  split <;> rfl

theorem evaluate_onlyChain (s : State) : OnlyChain s (evaluate s) := by
  refine OnlyChain.trans (t := { s with crg := chain s }) rfl (formBudget_onlyChain _)

theorem keepFallback_onlyChain (s : State) : OnlyChain s (keepFallback s) := by
  unfold keepFallback; split <;> rfl

theorem handDOwn_onlyChain (s : State) : OnlyChain s (handDOwn s) :=
  OnlyChain.trans (t := { s with
    shu.dOwnHanded := min s.crg.dOwn (outletRating s), crg.dOwnLast := s.crg.dOwn }) rfl
    (keepFallback_onlyChain _)

theorem computeShare_onlyChain (s : State) : OnlyChain s (computeShare s) := rfl

theorem fallOnly_onlyChain (s : State) : OnlyChain s (fallOnly s) := by
  unfold fallOnly
  split
  · rfl
  · split
    · exact keepFallback_onlyChain _
    · split <;> rfl

theorem extraComputation_onlyChain (s : State) : OnlyChain s (extraComputation s) :=
  (computeShare_onlyChain s).trans (fallOnly_onlyChain _)

theorem extraAndEvaluate_onlyChain (s : State) : OnlyChain s (extraAndEvaluate s) :=
  (extraComputation_onlyChain s).trans (evaluate_onlyChain _)

theorem handLower_onlyChain (s : State) : OnlyChain s (handLower s) := by
  unfold handLower
  dsimp only
  split
  · exact (handDOwn_onlyChain s).trans (extraAndEvaluate_onlyChain _)
  · exact (handDOwn_onlyChain s).trans (evaluate_onlyChain _)

theorem evaluateAndHand_onlyChain (s : State) : OnlyChain s (evaluateAndHand s) := by
  unfold evaluateAndHand
  dsimp only
  split
  · exact (evaluate_onlyChain s).trans (handLower_onlyChain _)
  · exact evaluate_onlyChain s

/-! ## The results (R74 to R80) -/

/-- The budget does not reach the regulator, the sequencer, the measurements or the share. -/
theorem formBudget_keepsChain (s : State) : ChainHolds (formBudget s) ↔ ChainHolds s := by
  unfold formBudget
  simp only [onlyIf, writeHeaterDuty]
  split <;> exact Iff.rfl

theorem evaluate_chain (s : State) : ChainHolds (evaluate s) := by
  rw [evaluate, formBudget_keepsChain]
  refine ⟨rfl, ?_, rfl, rfl, ?_, ?_, ?_, ?_, rfl, rfl⟩
  · show iThermOf s = _
    unfold iThermOf; dsimp only; simp; rfl
  · show dOwnOf s = _
    simp [dOwnOf, ceilDiv]; rfl
  · show priorityOf s = _ ↔ ∃ t, s.crg.tBat = some t ∧ t < s.cfg.tCold
    unfold priorityOf
    cases s.crg.tBat with
    | none => simp
    | some t => by_cases h : t < s.cfg.tCold <;> simp [h]
  · show (splitOf s).2 = (if s.psq.seq ≠ .active then 0
      else if priorityOf s = .heatFirst then min s.crg.pHeatReq (pAllowOf s)
      else min s.crg.pHeatReq (pAllowOf s - (splitOf s).1))
    unfold splitOf; split
    · rfl
    · cases priorityOf s <;> simp
  · show (splitOf s).1 = (if s.psq.seq ≠ .active then 0
      else if priorityOf s = .heatFirst then pAllowOf s - (splitOf s).2
      else min (pChgReqOf s) (pAllowOf s))
    unfold splitOf; split
    · rfl
    · cases priorityOf s <;> simp

theorem handLower_chain (s : State) : ChainHolds (handLower s) := by
  unfold handLower
  dsimp only
  split
  · exact evaluate_chain _
  · exact evaluate_chain _

theorem evaluateAndHand_chain (s : State) : ChainHolds (evaluateAndHand s) := by
  unfold evaluateAndHand
  dsimp only
  split
  · exact handLower_chain _
  · exact evaluate_chain _

/-! ## The budget and its source (R127) -/

theorem formBudget_budget (s : State) : BudgetHeld (formBudget s) := by
  have h : (formBudget s).htr.budget = (budgetOf s).1 ∧ (formBudget s).htr.source = (budgetOf s).2 ∧
      (formBudget s).htr.permission = s.htr.permission ∧ (formBudget s).psq = s.psq ∧
      (formBudget s).crg = s.crg ∧ (formBudget s).htr.pHeatReq = s.htr.pHeatReq ∧
      (formBudget s).htr.pBattMax = s.htr.pBattMax := by
    unfold formBudget; simp only [onlyIf, writeHeaterDuty]
    split <;> exact ⟨rfl, rfl, rfl, rfl, rfl, rfl, rfl⟩
  obtain ⟨hb, hs, hp, hq, hc, hr, hm⟩ := h
  unfold BudgetHeld
  rw [hb, hs, hp, hq, hc, hr, hm]
  unfold budgetOf
  cases s.htr.permission <;> by_cases h : s.psq.seq = .active <;> simp [h]

theorem evaluate_budget (s : State) : BudgetHeld (evaluate s) := formBudget_budget _

theorem handLower_budget (s : State) : BudgetHeld (handLower s) := by
  unfold handLower
  dsimp only
  split
  · exact evaluate_budget _
  · exact evaluate_budget _

theorem evaluateAndHand_budget (s : State) : BudgetHeld (evaluateAndHand s) := by
  unfold evaluateAndHand
  dsimp only
  split
  · exact handLower_budget _
  · exact evaluate_budget _

/-! ## The hand-over of d_own (R53, R60, R63, R77) -/

theorem formBudget_shu (s : State) : (formBudget s).shu = s.shu := by
  unfold formBudget; simp only [onlyIf, writeHeaterDuty]; split <;> rfl

theorem formBudget_crg (s : State) : (formBudget s).crg = s.crg := by
  unfold formBudget; simp only [onlyIf, writeHeaterDuty]; split <;> rfl

@[simp] theorem evaluate_shu (s : State) : (evaluate s).shu = s.shu := formBudget_shu _

theorem evaluate_crg (s : State) : (evaluate s).crg = chain s := formBudget_crg _

@[simp] theorem evaluate_dOwnLast (s : State) : (evaluate s).crg.dOwnLast = s.crg.dOwnLast := by
  rw [evaluate_crg]; rfl

@[simp] theorem evaluate_dOwn (s : State) : (evaluate s).crg.dOwn = dOwnOf s := by
  rw [evaluate_crg]; rfl

/-- d_own does not depend on the share, nor on what an evaluation or a hand-over writes. -/
theorem dOwnOf_onlyChain {s t : State} (h : OnlyChain s t) : dOwnOf t = dOwnOf s := by
  unfold OnlyChain at h
  rw [h]
  rfl

theorem handDOwn_dOwnInUse (s : State) :
    dOwnInUse (handDOwn s) =
      if s.shu.sweepTarget then 0 else min s.crg.dOwn (outletRating s) := by
  unfold handDOwn keepFallback dOwnInUse
  split <;> rfl

/-- What a computation leaves beside S_new and the size of the active set. -/
theorem extraComputation_shares (s : State) :
    (extraComputation s).shu.sNew = newShare s ∧
    (extraComputation s).shu.activeCount = (activeSet s).length ∧
    (extraComputation s).shu.sEff =
      (if s.shu.session = false then s.shu.sEff
       else if s.shu.conds.any = true then min (dOwnInUse s) s.cfg.fallback
       else min s.shu.sEff (newShare s)) := by
  unfold extraComputation fallOnly keepFallback computeShare
  cases h : s.shu.session with
  | false => simp [h]
  | true =>
    cases k : s.shu.conds.any with
    | true => simp [h]; rfl
    | false =>
      by_cases n : newShare s < s.shu.sEff
      · simp [h, n]; omega
      · simp [h, n]; omega

/-- What SHU makes of a hand-over (R53, R63). -/
theorem handDOwn_shares (s : State) :
    (handDOwn s).shu = { s.shu with
      dOwnHanded := min s.crg.dOwn (outletRating s)
      sEff :=
        if s.shu.session = true ∧ s.shu.conds.any = true then
          min (dOwnInUse (handDOwn s)) s.cfg.fallback
        else s.shu.sEff } := by
  unfold handDOwn keepFallback
  split <;> simp_all [fallbackShare, dOwnInUse]

/-- An extra computation moves S_new, the size of the active set and S_eff alone, and none of them reaches a
share computation. -/
theorem extraComputation_frame (s : State) :
    (extraComputation s).crg = s.crg ∧ newShare (extraComputation s) = newShare s ∧
    activeSet (extraComputation s) = activeSet s ∧ dOwnInUse (extraComputation s) = dOwnInUse s ∧
    (extraComputation s).shu.dOwnHanded = s.shu.dOwnHanded := by
  unfold extraComputation fallOnly keepFallback computeShare
  repeat' split
  all_goals exact ⟨rfl, rfl, rfl, rfl, rfl⟩

theorem newShare_evaluate (s : State) : newShare (evaluate s) = newShare s := by
  unfold evaluate formBudget; simp only [onlyIf, writeHeaterDuty]; split <;> rfl

theorem activeSet_evaluate (s : State) : activeSet (evaluate s) = activeSet s := by
  unfold evaluate formBudget; simp only [onlyIf, writeHeaterDuty]; split <;> rfl

theorem dOwnInUse_evaluate (s : State) : dOwnInUse (evaluate s) = dOwnInUse s := by
  simp [dOwnInUse]

theorem evaluate_cfg (s : State) : (evaluate s).cfg = s.cfg := by
  unfold evaluate formBudget; simp only [onlyIf, writeHeaterDuty]; split <;> rfl

theorem outletRating_evaluate (s : State) : outletRating (evaluate s) = outletRating s := by
  simp [outletRating]

theorem handDOwn_crg (s : State) : (handDOwn s).crg = { s.crg with dOwnLast := s.crg.dOwn } := by
  unfold handDOwn keepFallback; split <;> rfl

theorem handDOwn_cfg (s : State) : (handDOwn s).cfg = s.cfg := by
  unfold handDOwn keepFallback; split <;> rfl

/-- A hand-over that may lower the value in use (R53, R60, R63). -/
theorem handLower_shares (s : State) :
    (handLower s).crg.dOwnLast = s.crg.dOwn ∧
    (handLower s).shu.dOwnHanded = min s.crg.dOwn (outletRating s) ∧
    (if dOwnInUse (handLower s) < dOwnInUse s then
      (handLower s).shu.sNew = newShare (handLower s) ∧
      (handLower s).shu.activeCount = (activeSet (handLower s)).length
     else
      (handLower s).shu.sNew = s.shu.sNew ∧ (handLower s).shu.activeCount = s.shu.activeCount) ∧
    (handLower s).shu.sEff =
      (if s.shu.session = false then s.shu.sEff
       else if s.shu.conds.any = true then min (dOwnInUse (handLower s)) s.cfg.fallback
       else if dOwnInUse (handLower s) < dOwnInUse s then min s.shu.sEff (handLower s).shu.sNew
       else s.shu.sEff) := by
  have u := handDOwn_shares s
  by_cases h : dOwnInUse (handDOwn s) < dOwnInUse s
  · have e : handLower s = evaluate (extraComputation (handDOwn s)) := by
      simp [handLower, extraAndEvaluate, h]
    obtain ⟨fc, fn, fa, fd, fh⟩ := extraComputation_frame (handDOwn s)
    obtain ⟨xn, xa, xe⟩ := extraComputation_shares (handDOwn s)
    rw [e, dOwnInUse_evaluate, newShare_evaluate, activeSet_evaluate, evaluate_dOwnLast, evaluate_shu,
      fc, fn, fa, fd, fh, if_pos h, xn, xa, xe, handDOwn_crg, handDOwn_cfg]
    refine ⟨rfl, by rw [u], ⟨rfl, rfl⟩, ?_⟩
    rw [u]
    cases s.shu.session <;> cases s.shu.conds.any <;> simp [h]
  · have e : handLower s = evaluate (handDOwn s) := by simp [handLower, h]
    rw [e, dOwnInUse_evaluate, newShare_evaluate, activeSet_evaluate, evaluate_dOwnLast, evaluate_shu,
      if_neg h, handDOwn_crg]
    refine ⟨rfl, by rw [u], by rw [u]; exact ⟨rfl, rfl⟩, ?_⟩
    conv => lhs; rw [u]
    cases s.shu.session <;> cases s.shu.conds.any <;> simp [h]

theorem evaluateAndHand_dOwn (s : State) : (evaluateAndHand s).crg.dOwn = dOwnOf s := by
  have h := (evaluate_onlyChain s).trans (handDOwn_onlyChain _)
  unfold evaluateAndHand handLower extraAndEvaluate
  dsimp only
  split
  · split
    · rw [evaluate_dOwn, dOwnOf_onlyChain (h.trans (extraComputation_onlyChain _))]
    · rw [evaluate_dOwn, dOwnOf_onlyChain h]
  · exact evaluate_dOwn s

/-- The evaluations of R77 hand d_own as it says, and SHU takes it as R53, R60 and R63 say. -/
theorem evaluateAndHand_lowerHanded (s : State) : LowerHanded s (evaluateAndHand s) := by
  have d := evaluateAndHand_dOwn s
  unfold LowerHanded
  rw [d]
  by_cases h : dOwnOf s < s.crg.dOwnLast
  · have e : evaluateAndHand s = handLower (evaluate s) := by simp [evaluateAndHand, h]
    have x := handLower_shares (evaluate s)
    rw [if_pos h, e]
    simp only [evaluate_dOwn, outletRating_evaluate, dOwnInUse_evaluate, evaluate_shu, evaluate_cfg] at x
    exact x
  · have e : evaluateAndHand s = evaluate s := by simp [evaluateAndHand, h]
    rw [if_neg h, e]
    exact ⟨evaluate_dOwnLast s, evaluate_shu s⟩

end Sys2Proof.Machine
end

