-- ==== Sys2Proof/Laws/Codec.lean ====
section
/-! SUPPORT. Fields and their bytes, the check byte, bits and their numbers, and the stuffing (R26, R27,
R194, 12.6). -/

namespace Sys2Proof

/-! ## Fields of two and four bytes -/

@[simp] theorem be16_bytes (w : Word16) : be16 (w.extractLsb' 8 8) (w.extractLsb' 0 8) = w := by
  unfold be16
  ext i h
  simp only [BitVec.getElem_append, BitVec.getElem_extractLsb']
  split
  · simp [BitVec.getLsbD_eq_getElem h]
  · simp [BitVec.getLsbD_eq_getElem h, show 8 + (i - 8) = i by omega]

@[simp] theorem be32_bytes (w : Word32) :
    be32 (w.extractLsb' 24 8) (w.extractLsb' 16 8) (w.extractLsb' 8 8) (w.extractLsb' 0 8) = w := by
  unfold be32 be16
  ext i h
  simp only [BitVec.getElem_append, BitVec.getElem_extractLsb']
  rw [← BitVec.getLsbD_eq_getElem h]
  split
  · split <;> congr 1 <;> omega
  · split <;> congr 1 <;> omega

@[simp] theorem bytes16_length (w : Word16) : (bytes16 w).length = 2 := rfl
@[simp] theorem bytes32_length (w : Word32) : (bytes32 w).length = 4 := rfl
@[simp] theorem slotBytes_length (p : SlotPayload) : (slotBytes p).length = 11 := rfl

@[simp] theorem slotOfBytes_slotBytes (p : SlotPayload) : slotOfBytes (slotBytes p) = some p := by
  simp [slotBytes, slotOfBytes, bytes16, bytes32]

/-- Slots read back one by one. -/
theorem slotsOfBytes_flatMap (ps : List SlotPayload) :
    slotsOfBytes ps.length (ps.flatMap slotBytes) = some ps := by
  induction ps with
  | nil => rfl
  | cons p ps ih =>
    rw [List.length_cons, List.flatMap_cons, slotsOfBytes,
      List.take_left' (slotBytes_length p), List.drop_left' (slotBytes_length p), ih]
    simp

theorem flatMap_slotBytes_length (ps : List SlotPayload) :
    (ps.flatMap slotBytes).length = 11 * ps.length := by
  induction ps with
  | nil => rfl
  | cons p ps ih => simp [ih]; omega

/-! ## The check byte (R194) -/

theorem crc8From_append (r : Byte) (as bs : List Byte) :
    crc8From r (as ++ bs) = crc8From (crc8From r as) bs := by simp [crc8From]

/-- A register met by its own value returns to 0. -/
theorem crc8Byte_self (r : Byte) : crc8Byte r r = 0 := by
  have h : crc8Shift 0#8 = 0#8 := by decide
  simp only [crc8Byte, BitVec.xor_self, h]
  rfl

/-- The check of a string with its own check byte is 0. -/
theorem crc8_append_self (bs : List Byte) : crc8 (bs ++ [crc8 bs]) = 0 := by
  rw [crc8, crc8From_append]
  exact crc8Byte_self _

namespace Machine

/-! ## Bits and numbers (R27) -/

@[simp] theorem bitsOf_length (n w : Nat) : (bitsOf n w).length = n := by simp [bitsOf]

theorem bitsOf_succ (n w : Nat) : bitsOf (n + 1) w = w.testBit n :: bitsOf n w := by
  simp [bitsOf, List.range_succ]

theorem natOfBits_foldl (bs : List Bool) (a : Nat) :
    bs.foldl (fun n b => 2 * n + b.toNat) a = a * 2 ^ bs.length + natOfBits bs := by
  induction bs generalizing a with
  | nil => simp [natOfBits]
  | cons b bs ih =>
    simp only [natOfBits, List.foldl_cons, List.length_cons]
    rw [ih, ih (2 * 0 + _)]
    ring

/-- The bits of a number stand for its low bits. -/
theorem natOfBits_bitsOf (n w : Nat) : natOfBits (bitsOf n w) = w % 2 ^ n := by
  induction n with
  | zero => simp [bitsOf, natOfBits, Nat.mod_one]
  | succ n ih =>
    rw [bitsOf_succ]
    have h := natOfBits_foldl (bitsOf n w) (w.testBit n).toNat
    rw [natOfBits, List.foldl_cons]
    simp only [Nat.mul_zero, Nat.zero_add]
    rw [h, ih, bitsOf_length]
    rw [Nat.mod_pow_succ, Nat.testBit_eq_decide_div_mod_eq]
    have : w / 2 ^ n % 2 < 2 := Nat.mod_lt _ (by omega)
    rcases Nat.lt_or_ge (w / 2 ^ n % 2) 1 with k | k
    · have e : w / 2 ^ n % 2 = 0 := by omega
      simp [e]
    · have e : w / 2 ^ n % 2 = 1 := by omega
      simp [e]; ring

/-! ## Stuffing (R26) -/

/-- The inserted bit is read past, whatever is still needed. -/
theorem unstuff_inserted (need : Nat) (last : Bool) (bs : List Bool) :
    unstuff need last 5 ((!last) :: bs) = unstuff need (!last) 1 bs := by
  cases need <;> simp [unstuff]

/-- A bit that is no inserted one is taken. -/
theorem unstuff_taken (n : Nat) (last : Bool) (run : Nat) (b : Bool) (bs : List Bool) (h : run ≠ 5) :
    unstuff (n + 1) last run (b :: bs) =
      (unstuff n b (if b = last then run + 1 else 1) bs).map fun x => (b :: x.1, x.2) := by
  simp [unstuff, h]

/-- What was stuffed is read back, with whatever follows it. -/
theorem unstuff_stuffAfter (bs rest : List Bool) (last : Bool) (run : Nat) (h : run < 5) :
    unstuff bs.length last run (stuffAfter last run bs ++ rest) = some (bs, rest) := by
  induction bs generalizing last run with
  | nil =>
    cases rest with
    | nil => simp [stuffAfter, unstuff]; omega
    | cons b bs => simp [stuffAfter, unstuff]; omega
  | cons b bs ih =>
    have h5 : ¬ run = 5 := by omega
    rw [stuffAfter]
    obtain ⟨r, hr⟩ : ∃ r, r = if b = last then run + 1 else 1 := ⟨_, rfl⟩
    rw [← hr]
    by_cases k : r = 5
    · have e := ih (!b) 1 (by omega)
      rw [if_pos k, List.cons_append, List.length_cons, unstuff_taken _ _ _ _ _ h5, ← hr, k,
        List.cons_append, unstuff_inserted, e]
      rfl
    · have e := ih b r (by split at hr <;> omega)
      rw [if_neg k, List.cons_append, List.length_cons, unstuff_taken _ _ _ _ _ h5, ← hr, e]
      rfl

theorem unstuff_stuff (bs rest : List Bool) :
    unstuff bs.length true 0 (stuff bs ++ rest) = some (bs, rest) :=
  unstuff_stuffAfter bs rest true 0 (by omega)

/-- A prefix of what was stuffed is read back too, from the same string. -/
theorem unstuff_take (n m : Nat) (last : Bool) (run : Nat) (bs xs rest : List Bool)
    (h : unstuff m last run bs = some (xs, rest)) (k : n ≤ m) :
    (unstuff n last run bs).map (·.1) = some (xs.take n) := by
  induction bs generalizing n m last run xs with
  | nil =>
    cases m with
    | succ m => simp [unstuff] at h
    | zero =>
      obtain rfl : n = 0 := by omega
      simp only [unstuff] at h ⊢
      split at h <;> simp_all
  | cons b bs ih =>
    by_cases h5 : run = 5
    · subst h5
      by_cases hb : b = last
      · cases m <;> simp [unstuff, hb] at h
      · have e : unstuff m b 1 bs = some (xs, rest) := by
          cases m <;> simpa [unstuff, hb] using h
        have := ih n m b 1 xs e k
        cases n <;> simpa [unstuff, hb] using this
    · cases n with
      | zero => simp [unstuff, h5]
      | succ n =>
        cases m with
        | zero => omega
        | succ m =>
          simp only [unstuff, if_neg h5, Option.map_eq_some_iff] at h
          obtain ⟨⟨ys, zs⟩, e, q⟩ := h
          simp only [Prod.mk.injEq] at q
          obtain ⟨rfl, rfl⟩ := q
          have := ih n m b _ ys e (by omega)
          simp only [unstuff, if_neg h5, Option.map_map, List.take_succ_cons]
          rw [Option.map_eq_some_iff] at this ⊢
          obtain ⟨a, u, v⟩ := this
          exact ⟨a, u, by simp [v]⟩

end Machine

end Sys2Proof
end

