-- ==== Sys2Proof/Laws/Frames.lean ====
section
/-! SUPPORT. What each operation leaves as it is, block by block. -/

namespace Sys2Proof.Machine

/-! ## Ops -/

@[simp] theorem raiseEvent_keeps (k : EventKind) (s : State) :
    (raiseEvent k s).power = s.power ∧ (raiseEvent k s).cfg = s.cfg ∧
    (raiseEvent k s).psq = s.psq ∧ (raiseEvent k s).fli = s.fli ∧ (raiseEvent k s).shu = s.shu ∧
    (raiseEvent k s).crg = s.crg ∧ (raiseEvent k s).ptu = s.ptu ∧ (raiseEvent k s).msq = s.msq ∧
    (raiseEvent k s).htr = s.htr ∧ (raiseEvent k s).imn = s.imn ∧ (raiseEvent k s).mtr = s.mtr ∧
    (raiseEvent k s).mst = s.mst ∧ (raiseEvent k s).fresh = s.fresh ∧
    (raiseEvent k s).pending = s.pending := by
  simp [raiseEvent]

@[simp] theorem answer_keeps (status : Status) (body : ReplyBody) (s : State) :
    (answer status body s).power = s.power ∧ (answer status body s).cfg = s.cfg ∧
    (answer status body s).psq = s.psq ∧ (answer status body s).fli = s.fli ∧
    (answer status body s).shu = s.shu ∧ (answer status body s).crg = s.crg ∧
    (answer status body s).ptu = s.ptu ∧ (answer status body s).msq = s.msq ∧
    (answer status body s).htr = s.htr ∧ (answer status body s).imn = s.imn ∧
    (answer status body s).mtr = s.mtr ∧ (answer status body s).mst = s.mst ∧
    (answer status body s).fresh = s.fresh ∧ (answer status body s).pending = s.pending := by
  simp [answer]

@[simp] theorem answerEmpty_keeps (status : Status) (s : State) :
    (answerEmpty status s).power = s.power ∧ (answerEmpty status s).cfg = s.cfg ∧
    (answerEmpty status s).psq = s.psq ∧ (answerEmpty status s).fli = s.fli ∧
    (answerEmpty status s).shu = s.shu ∧ (answerEmpty status s).crg = s.crg ∧
    (answerEmpty status s).ptu = s.ptu ∧ (answerEmpty status s).msq = s.msq ∧
    (answerEmpty status s).htr = s.htr ∧ (answerEmpty status s).imn = s.imn ∧
    (answerEmpty status s).mtr = s.mtr ∧ (answerEmpty status s).mst = s.mst ∧
    (answerEmpty status s).fresh = s.fresh ∧ (answerEmpty status s).pending = s.pending := by
  simp [answerEmpty]

@[simp] theorem markSession_keeps (f : SessionFlags → SessionFlags) (s : State) :
    (markSession f s).power = s.power ∧ (markSession f s).cfg = s.cfg ∧
    (markSession f s).psq = s.psq ∧ (markSession f s).fli = s.fli ∧ (markSession f s).shu = s.shu ∧
    (markSession f s).crg = s.crg ∧ (markSession f s).ptu = s.ptu ∧ (markSession f s).msq = s.msq ∧
    (markSession f s).htr = s.htr ∧ (markSession f s).imn = s.imn ∧ (markSession f s).mst = s.mst ∧
    (markSession f s).cpt = s.cpt ∧ (markSession f s).fresh = s.fresh ∧
    (markSession f s).pending = s.pending := by
  simp [markSession]

/-! ## Store -/

@[simp] theorem queueWrite_keeps (w : PageWrite) (s : State) :
    (queueWrite w s).power = s.power ∧ (queueWrite w s).cfg = s.cfg ∧
    (queueWrite w s).psq = s.psq ∧ (queueWrite w s).fli = s.fli ∧ (queueWrite w s).shu = s.shu ∧
    (queueWrite w s).crg = s.crg ∧ (queueWrite w s).ptu = s.ptu ∧ (queueWrite w s).msq = s.msq ∧
    (queueWrite w s).htr = s.htr ∧ (queueWrite w s).imn = s.imn ∧ (queueWrite w s).mtr = s.mtr ∧
    (queueWrite w s).fresh = s.fresh ∧ (queueWrite w s).pending = s.pending := by
  unfold queueWrite; simp only [onlyIf]; (repeat' split) <;> simp

@[simp] theorem queueCounters_keeps (s : State) :
    (queueCounters s).power = s.power ∧ (queueCounters s).cfg = s.cfg ∧
    (queueCounters s).psq = s.psq ∧ (queueCounters s).fli = s.fli ∧ (queueCounters s).shu = s.shu ∧
    (queueCounters s).crg = s.crg ∧ (queueCounters s).ptu = s.ptu ∧ (queueCounters s).msq = s.msq ∧
    (queueCounters s).htr = s.htr ∧ (queueCounters s).imn = s.imn ∧ (queueCounters s).mtr = s.mtr ∧
    (queueCounters s).fresh = s.fresh ∧ (queueCounters s).pending = s.pending := by
  simp [queueCounters]

@[simp] theorem cancelClears_keeps (s : State) :
    (cancelClears s).power = s.power ∧ (cancelClears s).cfg = s.cfg ∧
    (cancelClears s).psq = s.psq ∧ (cancelClears s).fli = s.fli ∧ (cancelClears s).shu = s.shu ∧
    (cancelClears s).crg = s.crg ∧ (cancelClears s).ptu = s.ptu ∧ (cancelClears s).msq = s.msq ∧
    (cancelClears s).htr = s.htr ∧ (cancelClears s).imn = s.imn ∧ (cancelClears s).mtr = s.mtr ∧
    (cancelClears s).cpt = s.cpt ∧ (cancelClears s).fresh = s.fresh ∧
    (cancelClears s).pending = s.pending := by
  simp [cancelClears]

@[simp] theorem queueSnapshot_keeps (c : Checkpoint) (s : State) :
    (queueSnapshot c s).power = s.power ∧ (queueSnapshot c s).cfg = s.cfg ∧
    (queueSnapshot c s).psq = s.psq ∧ (queueSnapshot c s).fli = s.fli ∧
    (queueSnapshot c s).shu = s.shu ∧ (queueSnapshot c s).crg = s.crg ∧
    (queueSnapshot c s).ptu = s.ptu ∧ (queueSnapshot c s).msq = s.msq ∧
    (queueSnapshot c s).htr = s.htr ∧ (queueSnapshot c s).imn = s.imn ∧
    (queueSnapshot c s).mtr = s.mtr ∧ (queueSnapshot c s).fresh = s.fresh ∧
    (queueSnapshot c s).pending = s.pending := by
  simp [queueSnapshot]

@[simp] theorem completeWrite_keeps (s : State) :
    (completeWrite s).power = s.power ∧ (completeWrite s).cfg = s.cfg ∧
    (completeWrite s).psq = s.psq ∧ (completeWrite s).fli = s.fli ∧ (completeWrite s).shu = s.shu ∧
    (completeWrite s).crg = s.crg ∧ (completeWrite s).ptu = s.ptu ∧ (completeWrite s).msq = s.msq ∧
    (completeWrite s).htr = s.htr ∧ (completeWrite s).imn = s.imn ∧ (completeWrite s).mtr = s.mtr ∧
    (completeWrite s).fresh = s.fresh ∧ (completeWrite s).pending = s.pending := by
  unfold completeWrite; dsimp only; (repeat' split) <;> simp

@[simp] theorem countInterval_keeps (e : Nat) (cond : Option Nat) (s : State) :
    (countInterval e cond s).power = s.power ∧ (countInterval e cond s).cfg = s.cfg ∧
    (countInterval e cond s).psq = s.psq ∧ (countInterval e cond s).fli = s.fli ∧
    (countInterval e cond s).shu = s.shu ∧ (countInterval e cond s).crg = s.crg ∧
    (countInterval e cond s).ptu = s.ptu ∧ (countInterval e cond s).msq = s.msq ∧
    (countInterval e cond s).htr = s.htr ∧ (countInterval e cond s).imn = s.imn ∧
    (countInterval e cond s).mtr = s.mtr ∧ (countInterval e cond s).cpt = s.cpt ∧
    (countInterval e cond s).fresh = s.fresh ∧ (countInterval e cond s).pending = s.pending := by
  unfold countInterval; (repeat' split) <;> simp

@[simp] theorem takeCheckpoint_keeps (s : State) :
    (takeCheckpoint s).power = s.power ∧ (takeCheckpoint s).cfg = s.cfg ∧
    (takeCheckpoint s).psq = s.psq ∧ (takeCheckpoint s).fli = s.fli ∧
    (takeCheckpoint s).shu = s.shu ∧ (takeCheckpoint s).crg = s.crg ∧
    (takeCheckpoint s).ptu = s.ptu ∧ (takeCheckpoint s).msq = s.msq ∧
    (takeCheckpoint s).htr = s.htr ∧ (takeCheckpoint s).imn = s.imn ∧
    (takeCheckpoint s).mtr = s.mtr ∧ (takeCheckpoint s).fresh = s.fresh ∧
    (takeCheckpoint s).pending = s.pending := by
  unfold takeCheckpoint; dsimp only; (repeat' split) <;> simp

@[simp] theorem checkpointIfDue_keeps (s : State) :
    (checkpointIfDue s).power = s.power ∧ (checkpointIfDue s).cfg = s.cfg ∧
    (checkpointIfDue s).psq = s.psq ∧ (checkpointIfDue s).fli = s.fli ∧
    (checkpointIfDue s).shu = s.shu ∧ (checkpointIfDue s).crg = s.crg ∧
    (checkpointIfDue s).ptu = s.ptu ∧ (checkpointIfDue s).msq = s.msq ∧
    (checkpointIfDue s).htr = s.htr ∧ (checkpointIfDue s).imn = s.imn ∧
    (checkpointIfDue s).mtr = s.mtr ∧ (checkpointIfDue s).fresh = s.fresh ∧
    (checkpointIfDue s).pending = s.pending := by
  unfold checkpointIfDue; simp only [onlyIf]; (repeat' split) <;> simp

@[simp] theorem raiseSessionCounter_keeps (s : State) :
    (raiseSessionCounter s).power = s.power ∧ (raiseSessionCounter s).cfg = s.cfg ∧
    (raiseSessionCounter s).psq = s.psq ∧ (raiseSessionCounter s).fli = s.fli ∧
    (raiseSessionCounter s).shu = s.shu ∧ (raiseSessionCounter s).crg = s.crg ∧
    (raiseSessionCounter s).ptu = s.ptu ∧ (raiseSessionCounter s).msq = s.msq ∧
    (raiseSessionCounter s).htr = s.htr ∧ (raiseSessionCounter s).imn = s.imn ∧
    (raiseSessionCounter s).mtr = s.mtr ∧ (raiseSessionCounter s).fresh = s.fresh ∧
    (raiseSessionCounter s).pending = s.pending := by
  simp [raiseSessionCounter]

@[simp] theorem joinQueue_keeps (p : Place) (r : SessionRecord) (s : State) :
    (joinQueue p r s).power = s.power ∧ (joinQueue p r s).cfg = s.cfg ∧
    (joinQueue p r s).psq = s.psq ∧ (joinQueue p r s).fli = s.fli ∧ (joinQueue p r s).shu = s.shu ∧
    (joinQueue p r s).crg = s.crg ∧ (joinQueue p r s).ptu = s.ptu ∧ (joinQueue p r s).msq = s.msq ∧
    (joinQueue p r s).htr = s.htr ∧ (joinQueue p r s).imn = s.imn ∧ (joinQueue p r s).mtr = s.mtr ∧
    (joinQueue p r s).fresh = s.fresh ∧ (joinQueue p r s).pending = s.pending := by
  simp [joinQueue]

@[simp] theorem placeRecord_keeps (snapshot : SessionBase) (cause : EndCause) (stored : Bool)
    (s : State) :
    (placeRecord snapshot cause stored s).power = s.power ∧
    (placeRecord snapshot cause stored s).cfg = s.cfg ∧
    (placeRecord snapshot cause stored s).psq = s.psq ∧
    (placeRecord snapshot cause stored s).fli = s.fli ∧
    (placeRecord snapshot cause stored s).shu = s.shu ∧
    (placeRecord snapshot cause stored s).crg = s.crg ∧
    (placeRecord snapshot cause stored s).ptu = s.ptu ∧
    (placeRecord snapshot cause stored s).msq = s.msq ∧
    (placeRecord snapshot cause stored s).htr = s.htr ∧
    (placeRecord snapshot cause stored s).imn = s.imn ∧
    (placeRecord snapshot cause stored s).mtr = s.mtr ∧
    (placeRecord snapshot cause stored s).fresh = s.fresh ∧
    (placeRecord snapshot cause stored s).pending = s.pending := by
  unfold placeRecord; simp only [onlyIf]; (repeat' split) <;> simp

@[simp] theorem moveStacked_keeps (oldest : Place) (s : State) :
    (moveStacked oldest s).power = s.power ∧ (moveStacked oldest s).cfg = s.cfg ∧
    (moveStacked oldest s).psq = s.psq ∧ (moveStacked oldest s).fli = s.fli ∧
    (moveStacked oldest s).shu = s.shu ∧ (moveStacked oldest s).crg = s.crg ∧
    (moveStacked oldest s).ptu = s.ptu ∧ (moveStacked oldest s).msq = s.msq ∧
    (moveStacked oldest s).htr = s.htr ∧ (moveStacked oldest s).imn = s.imn ∧
    (moveStacked oldest s).mtr = s.mtr ∧ (moveStacked oldest s).fresh = s.fresh ∧
    (moveStacked oldest s).pending = s.pending := by
  unfold moveStacked; split <;> simp

@[simp] theorem removeOldest_keeps (oldest : Report) (rest : List Report) (s : State) :
    (removeOldest oldest rest s).power = s.power ∧ (removeOldest oldest rest s).cfg = s.cfg ∧
    (removeOldest oldest rest s).psq = s.psq ∧ (removeOldest oldest rest s).fli = s.fli ∧
    (removeOldest oldest rest s).shu = s.shu ∧ (removeOldest oldest rest s).crg = s.crg ∧
    (removeOldest oldest rest s).ptu = s.ptu ∧ (removeOldest oldest rest s).msq = s.msq ∧
    (removeOldest oldest rest s).htr = s.htr ∧ (removeOldest oldest rest s).imn = s.imn ∧
    (removeOldest oldest rest s).mtr = s.mtr ∧ (removeOldest oldest rest s).fresh = s.fresh ∧
    (removeOldest oldest rest s).pending = s.pending := by
  simp [removeOldest]

@[simp] theorem startupSnapshot_keeps (s : State) :
    (startupSnapshot s).power = s.power ∧ (startupSnapshot s).cfg = s.cfg ∧
    (startupSnapshot s).psq = s.psq ∧ (startupSnapshot s).fli = s.fli ∧
    (startupSnapshot s).shu = s.shu ∧ (startupSnapshot s).crg = s.crg ∧
    (startupSnapshot s).ptu = s.ptu ∧ (startupSnapshot s).msq = s.msq ∧
    (startupSnapshot s).htr = s.htr ∧ (startupSnapshot s).imn = s.imn ∧
    (startupSnapshot s).mtr = s.mtr ∧ (startupSnapshot s).fresh = s.fresh ∧
    (startupSnapshot s).pending = s.pending := by
  unfold startupSnapshot; (repeat' split) <;> simp

@[simp] theorem startupRead_keeps (s : State) :
    (startupRead s).power = s.power ∧ (startupRead s).cfg = s.cfg ∧ (startupRead s).psq = s.psq ∧
    (startupRead s).fli = s.fli ∧ (startupRead s).shu = s.shu ∧ (startupRead s).crg = s.crg ∧
    (startupRead s).ptu = s.ptu ∧ (startupRead s).msq = s.msq ∧ (startupRead s).htr = s.htr ∧
    (startupRead s).imn = s.imn ∧ (startupRead s).mtr = s.mtr ∧ (startupRead s).fresh = s.fresh ∧
    (startupRead s).pending = s.pending := by
  unfold startupRead; simp only [onlyIf]; (repeat' split) <;> simp

@[simp] theorem readReport_keeps (s : State) :
    (readReport s).power = s.power ∧ (readReport s).cfg = s.cfg ∧ (readReport s).psq = s.psq ∧
    (readReport s).fli = s.fli ∧ (readReport s).shu = s.shu ∧ (readReport s).crg = s.crg ∧
    (readReport s).ptu = s.ptu ∧ (readReport s).msq = s.msq ∧ (readReport s).htr = s.htr ∧
    (readReport s).imn = s.imn ∧ (readReport s).mtr = s.mtr ∧ (readReport s).mst = s.mst ∧
    (readReport s).fresh = s.fresh ∧ (readReport s).pending = s.pending := by
  unfold readReport; (repeat' split) <;> simp

@[simp] theorem removeReport_keeps (s : State) :
    (removeReport s).power = s.power ∧ (removeReport s).cfg = s.cfg ∧
    (removeReport s).psq = s.psq ∧ (removeReport s).fli = s.fli ∧ (removeReport s).shu = s.shu ∧
    (removeReport s).crg = s.crg ∧ (removeReport s).ptu = s.ptu ∧ (removeReport s).msq = s.msq ∧
    (removeReport s).htr = s.htr ∧ (removeReport s).imn = s.imn ∧ (removeReport s).mtr = s.mtr ∧
    (removeReport s).fresh = s.fresh ∧ (removeReport s).pending = s.pending := by
  unfold removeReport; (repeat' split) <;> simp

@[simp] theorem readMeter_keeps (s : State) :
    (readMeter s).power = s.power ∧ (readMeter s).cfg = s.cfg ∧ (readMeter s).psq = s.psq ∧
    (readMeter s).fli = s.fli ∧ (readMeter s).shu = s.shu ∧ (readMeter s).crg = s.crg ∧
    (readMeter s).ptu = s.ptu ∧ (readMeter s).msq = s.msq ∧ (readMeter s).htr = s.htr ∧
    (readMeter s).imn = s.imn ∧ (readMeter s).mtr = s.mtr ∧ (readMeter s).mst = s.mst ∧
    (readMeter s).fresh = s.fresh ∧ (readMeter s).pending = s.pending := by
  simp [readMeter]

/-! ## Meter -/

@[simp] theorem takeSample_keeps (s : State) :
    (takeSample s).power = s.power ∧ (takeSample s).cfg = s.cfg ∧ (takeSample s).psq = s.psq ∧
    (takeSample s).fli = s.fli ∧ (takeSample s).shu = s.shu ∧ (takeSample s).crg = s.crg ∧
    (takeSample s).ptu = s.ptu ∧ (takeSample s).msq = s.msq ∧ (takeSample s).htr = s.htr ∧
    (takeSample s).imn = s.imn ∧ (takeSample s).mst = s.mst ∧ (takeSample s).cpt = s.cpt ∧
    (takeSample s).fresh = s.fresh ∧ (takeSample s).pending = s.pending := by
  simp [takeSample]

@[simp] theorem nearEndCheck_keeps (s : State) :
    (nearEndCheck s).power = s.power ∧ (nearEndCheck s).cfg = s.cfg ∧
    (nearEndCheck s).psq = s.psq ∧ (nearEndCheck s).fli = s.fli ∧ (nearEndCheck s).shu = s.shu ∧
    (nearEndCheck s).crg = s.crg ∧ (nearEndCheck s).ptu = s.ptu ∧ (nearEndCheck s).msq = s.msq ∧
    (nearEndCheck s).htr = s.htr ∧ (nearEndCheck s).imn = s.imn ∧ (nearEndCheck s).mst = s.mst ∧
    (nearEndCheck s).fresh = s.fresh ∧ (nearEndCheck s).pending = s.pending := by
  unfold nearEndCheck; simp only [onlyIf]; (repeat' split) <;> simp

@[simp] theorem endChain_keeps (s : State) :
    (endChain s).power = s.power ∧ (endChain s).cfg = s.cfg ∧ (endChain s).psq = s.psq ∧
    (endChain s).fli = s.fli ∧ (endChain s).shu = s.shu ∧ (endChain s).crg = s.crg ∧
    (endChain s).ptu = s.ptu ∧ (endChain s).msq = s.msq ∧ (endChain s).htr = s.htr ∧
    (endChain s).imn = s.imn ∧ (endChain s).mst = s.mst ∧ (endChain s).cpt = s.cpt ∧
    (endChain s).fresh = s.fresh ∧ (endChain s).pending = s.pending := by
  simp [endChain]

@[simp] theorem chainEndEvent_keeps (r : MeterRequest) (s : State) :
    (chainEndEvent r s).power = s.power ∧ (chainEndEvent r s).cfg = s.cfg ∧
    (chainEndEvent r s).psq = s.psq ∧ (chainEndEvent r s).fli = s.fli ∧
    (chainEndEvent r s).shu = s.shu ∧ (chainEndEvent r s).crg = s.crg ∧
    (chainEndEvent r s).ptu = s.ptu ∧ (chainEndEvent r s).msq = s.msq ∧
    (chainEndEvent r s).htr = s.htr ∧ (chainEndEvent r s).imn = s.imn ∧
    (chainEndEvent r s).mtr = s.mtr ∧ (chainEndEvent r s).mst = s.mst ∧
    (chainEndEvent r s).fresh = s.fresh ∧ (chainEndEvent r s).pending = s.pending := by
  unfold chainEndEvent; (repeat' split) <;> simp

@[simp] theorem chainEnd_keeps (cause : EndCause) (endSuspend : Bool) (s : State) :
    (chainEnd cause endSuspend s).1.power = s.power ∧ (chainEnd cause endSuspend s).1.cfg = s.cfg ∧
    (chainEnd cause endSuspend s).1.psq = s.psq ∧ (chainEnd cause endSuspend s).1.fli = s.fli ∧
    (chainEnd cause endSuspend s).1.shu = s.shu ∧ (chainEnd cause endSuspend s).1.crg = s.crg ∧
    (chainEnd cause endSuspend s).1.ptu = s.ptu ∧ (chainEnd cause endSuspend s).1.msq = s.msq ∧
    (chainEnd cause endSuspend s).1.htr = s.htr ∧ (chainEnd cause endSuspend s).1.imn = s.imn ∧
    (chainEnd cause endSuspend s).1.mst = s.mst ∧ (chainEnd cause endSuspend s).1.fresh = s.fresh ∧
    (chainEnd cause endSuspend s).1.pending = s.pending := by
  simp [chainEnd]

@[simp] theorem activate_keeps (c : DescCopy) (s : State) :
    (activate c s).1.power = s.power ∧ (activate c s).1.cfg = s.cfg ∧
    (activate c s).1.psq = s.psq ∧ (activate c s).1.fli = s.fli ∧ (activate c s).1.shu = s.shu ∧
    (activate c s).1.crg = s.crg ∧ (activate c s).1.ptu = s.ptu ∧ (activate c s).1.msq = s.msq ∧
    (activate c s).1.htr = s.htr ∧ (activate c s).1.imn = s.imn ∧
    (activate c s).1.fresh = s.fresh ∧ (activate c s).1.pending = s.pending := by
  unfold activate; dsimp only; (repeat' split) <;> simp

@[simp] theorem activatePrefetched_keeps (s : State) :
    (activatePrefetched s).1.power = s.power ∧ (activatePrefetched s).1.cfg = s.cfg ∧
    (activatePrefetched s).1.psq = s.psq ∧ (activatePrefetched s).1.fli = s.fli ∧
    (activatePrefetched s).1.shu = s.shu ∧ (activatePrefetched s).1.crg = s.crg ∧
    (activatePrefetched s).1.ptu = s.ptu ∧ (activatePrefetched s).1.msq = s.msq ∧
    (activatePrefetched s).1.htr = s.htr ∧ (activatePrefetched s).1.imn = s.imn ∧
    (activatePrefetched s).1.fresh = s.fresh ∧ (activatePrefetched s).1.pending = s.pending := by
  unfold activatePrefetched; (repeat' split) <;> simp

@[simp] theorem onLastItem_keeps (f : LineItem → LineItem) (s : State) :
    (onLastItem f s).power = s.power ∧ (onLastItem f s).cfg = s.cfg ∧
    (onLastItem f s).psq = s.psq ∧ (onLastItem f s).fli = s.fli ∧ (onLastItem f s).shu = s.shu ∧
    (onLastItem f s).crg = s.crg ∧ (onLastItem f s).ptu = s.ptu ∧ (onLastItem f s).msq = s.msq ∧
    (onLastItem f s).htr = s.htr ∧ (onLastItem f s).imn = s.imn ∧ (onLastItem f s).mst = s.mst ∧
    (onLastItem f s).cpt = s.cpt ∧ (onLastItem f s).fresh = s.fresh ∧
    (onLastItem f s).pending = s.pending := by
  simp [onLastItem]

@[simp] theorem formEnergies_keeps (s : State) :
    (formEnergies s).1.power = s.power ∧ (formEnergies s).1.cfg = s.cfg ∧
    (formEnergies s).1.psq = s.psq ∧ (formEnergies s).1.fli = s.fli ∧
    (formEnergies s).1.shu = s.shu ∧ (formEnergies s).1.crg = s.crg ∧
    (formEnergies s).1.ptu = s.ptu ∧ (formEnergies s).1.msq = s.msq ∧
    (formEnergies s).1.htr = s.htr ∧ (formEnergies s).1.imn = s.imn ∧
    (formEnergies s).1.mst = s.mst ∧ (formEnergies s).1.cpt = s.cpt ∧
    (formEnergies s).1.fresh = s.fresh ∧ (formEnergies s).1.pending = s.pending := by
  unfold formEnergies; simp only [onlyIf]; (repeat' split) <;> simp

@[simp] theorem countElapsed_keeps (s : State) :
    (countElapsed s).power = s.power ∧ (countElapsed s).cfg = s.cfg ∧
    (countElapsed s).psq = s.psq ∧ (countElapsed s).fli = s.fli ∧ (countElapsed s).shu = s.shu ∧
    (countElapsed s).crg = s.crg ∧ (countElapsed s).ptu = s.ptu ∧ (countElapsed s).msq = s.msq ∧
    (countElapsed s).htr = s.htr ∧ (countElapsed s).imn = s.imn ∧ (countElapsed s).mst = s.mst ∧
    (countElapsed s).cpt = s.cpt ∧ (countElapsed s).fresh = s.fresh ∧
    (countElapsed s).pending = s.pending := by
  simp [countElapsed]

/-- An activation, by what it answers. -/
theorem activate_next {c : DescCopy} {s t : State} {q : Option MeterRequest}
    (h : activate c s = (t, q)) :
    t.power = s.power ∧ t.cfg = s.cfg ∧ t.psq = s.psq ∧ t.fli = s.fli ∧ t.shu = s.shu ∧
    t.crg = s.crg ∧ t.ptu = s.ptu ∧ t.msq = s.msq ∧ t.htr = s.htr ∧ t.imn = s.imn ∧
    t.fresh = s.fresh ∧ t.pending = s.pending := by
  have k := activate_keeps c s
  rw [h] at k
  exact k

@[simp] theorem applyPair_keeps (fuel : Nat) (first : Bool) (e c : Nat) (s : State) :
    (applyPair fuel first e c s).1.power = s.power ∧ (applyPair fuel first e c s).1.cfg = s.cfg ∧
    (applyPair fuel first e c s).1.psq = s.psq ∧ (applyPair fuel first e c s).1.fli = s.fli ∧
    (applyPair fuel first e c s).1.shu = s.shu ∧ (applyPair fuel first e c s).1.crg = s.crg ∧
    (applyPair fuel first e c s).1.ptu = s.ptu ∧ (applyPair fuel first e c s).1.msq = s.msq ∧
    (applyPair fuel first e c s).1.htr = s.htr ∧ (applyPair fuel first e c s).1.imn = s.imn ∧
    (applyPair fuel first e c s).1.fresh = s.fresh ∧
    (applyPair fuel first e c s).1.pending = s.pending := by
  induction fuel generalizing first e c s with
  | zero => simp [applyPair]
  | succ n ih =>
    unfold applyPair; dsimp only
    split
    · simp
    · simp
    · split
      · split
        · split
          · simp
          · split
            · next h =>
              have k := activate_next h
              simpa using k
            · next h =>
              have k := activate_next h
              split
              · simpa using k
              · simpa [ih] using k
        · simp
      · simp

@[simp] theorem meterInterval_keeps (s : State) :
    (meterInterval s).1.power = s.power ∧ (meterInterval s).1.cfg = s.cfg ∧
    (meterInterval s).1.psq = s.psq ∧ (meterInterval s).1.fli = s.fli ∧
    (meterInterval s).1.shu = s.shu ∧ (meterInterval s).1.ptu = s.ptu ∧
    (meterInterval s).1.msq = s.msq ∧ (meterInterval s).1.htr = s.htr ∧
    (meterInterval s).1.imn = s.imn ∧ (meterInterval s).1.fresh = s.fresh ∧
    (meterInterval s).1.pending = s.pending := by
  unfold meterInterval; dsimp only; (repeat' split) <;> simp

@[simp] theorem openSession_keeps (stamp : Word32) (c : Option DescCopy) (s : State) :
    (openSession stamp c s).1.power = s.power ∧ (openSession stamp c s).1.cfg = s.cfg ∧
    (openSession stamp c s).1.psq = s.psq ∧ (openSession stamp c s).1.fli = s.fli ∧
    (openSession stamp c s).1.shu = s.shu ∧ (openSession stamp c s).1.crg = s.crg ∧
    (openSession stamp c s).1.ptu = s.ptu ∧ (openSession stamp c s).1.msq = s.msq ∧
    (openSession stamp c s).1.htr = s.htr ∧ (openSession stamp c s).1.imn = s.imn ∧
    (openSession stamp c s).1.fresh = s.fresh ∧ (openSession stamp c s).1.pending = s.pending := by
  unfold openSession; dsimp only; (repeat' split) <;> simp

@[simp] theorem closeSession_keeps (cause : EndCause) (forced : Bool) (s : State) :
    (closeSession cause forced s).power = s.power ∧ (closeSession cause forced s).cfg = s.cfg ∧
    (closeSession cause forced s).psq = s.psq ∧ (closeSession cause forced s).fli = s.fli ∧
    (closeSession cause forced s).shu = s.shu ∧ (closeSession cause forced s).crg = s.crg ∧
    (closeSession cause forced s).ptu = s.ptu ∧ (closeSession cause forced s).msq = s.msq ∧
    (closeSession cause forced s).htr = s.htr ∧ (closeSession cause forced s).imn = s.imn ∧
    (closeSession cause forced s).fresh = s.fresh ∧
    (closeSession cause forced s).pending = s.pending := by
  unfold closeSession; dsimp only; (repeat' split) <;> simp

@[simp] theorem dropPrefetched_keeps (s : State) :
    (dropPrefetched s).power = s.power ∧ (dropPrefetched s).cfg = s.cfg ∧
    (dropPrefetched s).psq = s.psq ∧ (dropPrefetched s).fli = s.fli ∧
    (dropPrefetched s).shu = s.shu ∧ (dropPrefetched s).crg = s.crg ∧
    (dropPrefetched s).ptu = s.ptu ∧ (dropPrefetched s).msq = s.msq ∧
    (dropPrefetched s).htr = s.htr ∧ (dropPrefetched s).imn = s.imn ∧
    (dropPrefetched s).mst = s.mst ∧ (dropPrefetched s).cpt = s.cpt ∧
    (dropPrefetched s).fresh = s.fresh ∧ (dropPrefetched s).pending = s.pending := by
  simp [dropPrefetched]

@[simp] theorem writeDescriptor_keeps (slot flags : Byte)
    (quota duration rateChg rateCond : Word16) (next : Byte) (s : State) :
    (writeDescriptor slot flags quota duration rateChg rateCond next s).power = s.power ∧
    (writeDescriptor slot flags quota duration rateChg rateCond next s).cfg = s.cfg ∧
    (writeDescriptor slot flags quota duration rateChg rateCond next s).psq = s.psq ∧
    (writeDescriptor slot flags quota duration rateChg rateCond next s).fli = s.fli ∧
    (writeDescriptor slot flags quota duration rateChg rateCond next s).shu = s.shu ∧
    (writeDescriptor slot flags quota duration rateChg rateCond next s).crg = s.crg ∧
    (writeDescriptor slot flags quota duration rateChg rateCond next s).ptu = s.ptu ∧
    (writeDescriptor slot flags quota duration rateChg rateCond next s).msq = s.msq ∧
    (writeDescriptor slot flags quota duration rateChg rateCond next s).htr = s.htr ∧
    (writeDescriptor slot flags quota duration rateChg rateCond next s).imn = s.imn ∧
    (writeDescriptor slot flags quota duration rateChg rateCond next s).mst = s.mst ∧
    (writeDescriptor slot flags quota duration rateChg rateCond next s).fresh = s.fresh ∧
    (writeDescriptor slot flags quota duration rateChg rateCond next s).pending = s.pending := by
  unfold writeDescriptor; (repeat' split) <;> simp

@[simp] theorem extend_keeps (next : Byte) (s : State) :
    (extend next s).power = s.power ∧ (extend next s).cfg = s.cfg ∧ (extend next s).psq = s.psq ∧
    (extend next s).fli = s.fli ∧ (extend next s).shu = s.shu ∧ (extend next s).crg = s.crg ∧
    (extend next s).ptu = s.ptu ∧ (extend next s).msq = s.msq ∧ (extend next s).htr = s.htr ∧
    (extend next s).imn = s.imn ∧ (extend next s).mst = s.mst ∧ (extend next s).fresh = s.fresh ∧
    (extend next s).pending = s.pending := by
  unfold extend; dsimp only; (repeat' split) <;> simp

@[simp] theorem sessionSplit_keeps (slot : Byte) (stamp : Word32) (s : State) :
    (sessionSplit slot stamp s).power = s.power ∧ (sessionSplit slot stamp s).cfg = s.cfg ∧
    (sessionSplit slot stamp s).psq = s.psq ∧ (sessionSplit slot stamp s).fli = s.fli ∧
    (sessionSplit slot stamp s).shu = s.shu ∧ (sessionSplit slot stamp s).crg = s.crg ∧
    (sessionSplit slot stamp s).ptu = s.ptu ∧ (sessionSplit slot stamp s).msq = s.msq ∧
    (sessionSplit slot stamp s).htr = s.htr ∧ (sessionSplit slot stamp s).imn = s.imn ∧
    (sessionSplit slot stamp s).fresh = s.fresh ∧
    (sessionSplit slot stamp s).pending = s.pending := by
  unfold sessionSplit; (repeat' split) <;> simp

/-! ## Line -/

@[simp] theorem enqueue_keeps (b : FrameBody) (s : State) :
    (enqueue b s).power = s.power ∧ (enqueue b s).cfg = s.cfg ∧ (enqueue b s).psq = s.psq ∧
    (enqueue b s).shu = s.shu ∧ (enqueue b s).crg = s.crg ∧ (enqueue b s).ptu = s.ptu ∧
    (enqueue b s).msq = s.msq ∧ (enqueue b s).htr = s.htr ∧ (enqueue b s).imn = s.imn ∧
    (enqueue b s).mtr = s.mtr ∧ (enqueue b s).mst = s.mst ∧ (enqueue b s).cpt = s.cpt ∧
    (enqueue b s).fresh = s.fresh ∧ (enqueue b s).pending = s.pending := by
  unfold enqueue; (repeat' split) <;> simp

@[simp] theorem removeMeasureFrames_keeps (s : State) :
    (removeMeasureFrames s).power = s.power ∧ (removeMeasureFrames s).cfg = s.cfg ∧
    (removeMeasureFrames s).psq = s.psq ∧ (removeMeasureFrames s).shu = s.shu ∧
    (removeMeasureFrames s).crg = s.crg ∧ (removeMeasureFrames s).ptu = s.ptu ∧
    (removeMeasureFrames s).msq = s.msq ∧ (removeMeasureFrames s).htr = s.htr ∧
    (removeMeasureFrames s).imn = s.imn ∧ (removeMeasureFrames s).mtr = s.mtr ∧
    (removeMeasureFrames s).mst = s.mst ∧ (removeMeasureFrames s).cpt = s.cpt ∧
    (removeMeasureFrames s).fresh = s.fresh ∧ (removeMeasureFrames s).pending = s.pending := by
  simp [removeMeasureFrames]

@[simp] theorem startAttempt_keeps (s : State) :
    (startAttempt s).power = s.power ∧ (startAttempt s).cfg = s.cfg ∧
    (startAttempt s).psq = s.psq ∧ (startAttempt s).shu = s.shu ∧ (startAttempt s).crg = s.crg ∧
    (startAttempt s).ptu = s.ptu ∧ (startAttempt s).msq = s.msq ∧ (startAttempt s).htr = s.htr ∧
    (startAttempt s).imn = s.imn ∧ (startAttempt s).mtr = s.mtr ∧ (startAttempt s).mst = s.mst ∧
    (startAttempt s).cpt = s.cpt ∧ (startAttempt s).fresh = s.fresh ∧
    (startAttempt s).pending = s.pending := by
  unfold startAttempt; (repeat' split) <;> simp

@[simp] theorem dropAttempt_keeps (s : State) :
    (dropAttempt s).power = s.power ∧ (dropAttempt s).cfg = s.cfg ∧ (dropAttempt s).psq = s.psq ∧
    (dropAttempt s).shu = s.shu ∧ (dropAttempt s).crg = s.crg ∧ (dropAttempt s).ptu = s.ptu ∧
    (dropAttempt s).msq = s.msq ∧ (dropAttempt s).htr = s.htr ∧ (dropAttempt s).imn = s.imn ∧
    (dropAttempt s).mtr = s.mtr ∧ (dropAttempt s).mst = s.mst ∧ (dropAttempt s).cpt = s.cpt ∧
    (dropAttempt s).fresh = s.fresh ∧ (dropAttempt s).pending = s.pending := by
  simp [dropAttempt]

@[simp] theorem leaveQueue_keeps (s : State) :
    (leaveQueue s).power = s.power ∧ (leaveQueue s).cfg = s.cfg ∧ (leaveQueue s).psq = s.psq ∧
    (leaveQueue s).shu = s.shu ∧ (leaveQueue s).crg = s.crg ∧ (leaveQueue s).ptu = s.ptu ∧
    (leaveQueue s).msq = s.msq ∧ (leaveQueue s).htr = s.htr ∧ (leaveQueue s).imn = s.imn ∧
    (leaveQueue s).mtr = s.mtr ∧ (leaveQueue s).mst = s.mst ∧ (leaveQueue s).cpt = s.cpt ∧
    (leaveQueue s).fresh = s.fresh ∧ (leaveQueue s).pending = s.pending := by
  simp [leaveQueue]

@[simp] theorem emptyForDuplicate_keeps (s : State) :
    (emptyForDuplicate s).power = s.power ∧ (emptyForDuplicate s).cfg = s.cfg ∧
    (emptyForDuplicate s).psq = s.psq ∧ (emptyForDuplicate s).shu = s.shu ∧
    (emptyForDuplicate s).crg = s.crg ∧ (emptyForDuplicate s).ptu = s.ptu ∧
    (emptyForDuplicate s).msq = s.msq ∧ (emptyForDuplicate s).htr = s.htr ∧
    (emptyForDuplicate s).imn = s.imn ∧ (emptyForDuplicate s).mtr = s.mtr ∧
    (emptyForDuplicate s).mst = s.mst ∧ (emptyForDuplicate s).cpt = s.cpt ∧
    (emptyForDuplicate s).fresh = s.fresh ∧ (emptyForDuplicate s).pending = s.pending := by
  simp [emptyForDuplicate]

/-! ## Power -/

@[simp] theorem watchConflicts_keeps (s : State) :
    (watchConflicts s).power = s.power ∧ (watchConflicts s).cfg = s.cfg ∧
    (watchConflicts s).psq = s.psq ∧ (watchConflicts s).fli = s.fli ∧
    (watchConflicts s).shu = s.shu ∧ (watchConflicts s).crg = s.crg ∧
    (watchConflicts s).msq = s.msq ∧ (watchConflicts s).htr = s.htr ∧
    (watchConflicts s).imn = s.imn ∧ (watchConflicts s).mtr = s.mtr ∧
    (watchConflicts s).mst = s.mst ∧ (watchConflicts s).cpt = s.cpt ∧
    (watchConflicts s).fresh = s.fresh ∧ (watchConflicts s).pending = s.pending := by
  simp [watchConflicts]

@[simp] theorem formCommands_keeps (s : State) :
    (formCommands s).power = s.power ∧ (formCommands s).cfg = s.cfg ∧
    (formCommands s).psq = s.psq ∧ (formCommands s).fli = s.fli ∧ (formCommands s).shu = s.shu ∧
    (formCommands s).crg = s.crg ∧ (formCommands s).msq = s.msq ∧ (formCommands s).htr = s.htr ∧
    (formCommands s).imn = s.imn ∧ (formCommands s).mtr = s.mtr ∧ (formCommands s).mst = s.mst ∧
    (formCommands s).cpt = s.cpt ∧ (formCommands s).fresh = s.fresh ∧
    (formCommands s).pending = s.pending := by
  simp [formCommands]

@[simp] theorem clearEnable_keeps (s : State) :
    (clearEnable s).power = s.power ∧ (clearEnable s).cfg = s.cfg ∧ (clearEnable s).psq = s.psq ∧
    (clearEnable s).fli = s.fli ∧ (clearEnable s).shu = s.shu ∧ (clearEnable s).msq = s.msq ∧
    (clearEnable s).htr = s.htr ∧ (clearEnable s).imn = s.imn ∧ (clearEnable s).mtr = s.mtr ∧
    (clearEnable s).mst = s.mst ∧ (clearEnable s).cpt = s.cpt ∧ (clearEnable s).fresh = s.fresh ∧
    (clearEnable s).pending = s.pending := by
  unfold clearEnable; (repeat' split) <;> simp

@[simp] theorem armEnable_keeps (s : State) :
    (armEnable s).power = s.power ∧ (armEnable s).cfg = s.cfg ∧ (armEnable s).psq = s.psq ∧
    (armEnable s).fli = s.fli ∧ (armEnable s).shu = s.shu ∧ (armEnable s).crg = s.crg ∧
    (armEnable s).msq = s.msq ∧ (armEnable s).htr = s.htr ∧ (armEnable s).imn = s.imn ∧
    (armEnable s).mtr = s.mtr ∧ (armEnable s).mst = s.mst ∧ (armEnable s).cpt = s.cpt ∧
    (armEnable s).fresh = s.fresh ∧ (armEnable s).pending = s.pending := by
  unfold armEnable; (repeat' split) <;> simp

@[simp] theorem writeHeaterDuty_keeps (d : Nat) (s : State) :
    (writeHeaterDuty d s).power = s.power ∧ (writeHeaterDuty d s).cfg = s.cfg ∧
    (writeHeaterDuty d s).psq = s.psq ∧ (writeHeaterDuty d s).fli = s.fli ∧
    (writeHeaterDuty d s).shu = s.shu ∧ (writeHeaterDuty d s).crg = s.crg ∧
    (writeHeaterDuty d s).msq = s.msq ∧ (writeHeaterDuty d s).imn = s.imn ∧
    (writeHeaterDuty d s).mtr = s.mtr ∧ (writeHeaterDuty d s).mst = s.mst ∧
    (writeHeaterDuty d s).cpt = s.cpt ∧ (writeHeaterDuty d s).fresh = s.fresh ∧
    (writeHeaterDuty d s).pending = s.pending := by
  simp [writeHeaterDuty]

@[simp] theorem tripClear_keeps (s : State) :
    (tripClear s).power = s.power ∧ (tripClear s).cfg = s.cfg ∧ (tripClear s).psq = s.psq ∧
    (tripClear s).fli = s.fli ∧ (tripClear s).shu = s.shu ∧ (tripClear s).crg = s.crg ∧
    (tripClear s).msq = s.msq ∧ (tripClear s).htr = s.htr ∧ (tripClear s).imn = s.imn ∧
    (tripClear s).mtr = s.mtr ∧ (tripClear s).mst = s.mst ∧ (tripClear s).fresh = s.fresh ∧
    (tripClear s).pending = s.pending := by
  unfold tripClear; (repeat' split) <;> simp

@[simp] theorem legCommandChange_keeps (k : Leg) (position : Nat) (s : State) :
    (legCommandChange k position s).power = s.power ∧ (legCommandChange k position s).cfg = s.cfg ∧
    (legCommandChange k position s).psq = s.psq ∧ (legCommandChange k position s).fli = s.fli ∧
    (legCommandChange k position s).shu = s.shu ∧ (legCommandChange k position s).crg = s.crg ∧
    (legCommandChange k position s).msq = s.msq ∧ (legCommandChange k position s).htr = s.htr ∧
    (legCommandChange k position s).imn = s.imn ∧ (legCommandChange k position s).mtr = s.mtr ∧
    (legCommandChange k position s).mst = s.mst ∧ (legCommandChange k position s).cpt = s.cpt ∧
    (legCommandChange k position s).fresh = s.fresh ∧
    (legCommandChange k position s).pending = s.pending := by
  simp [legCommandChange]

@[simp] theorem readFeedback_keeps (k : Leg) (d : Device) (reads : Bool) (s : State) :
    (readFeedback k d reads s).power = s.power ∧ (readFeedback k d reads s).cfg = s.cfg ∧
    (readFeedback k d reads s).psq = s.psq ∧ (readFeedback k d reads s).fli = s.fli ∧
    (readFeedback k d reads s).shu = s.shu ∧ (readFeedback k d reads s).crg = s.crg ∧
    (readFeedback k d reads s).msq = s.msq ∧ (readFeedback k d reads s).htr = s.htr ∧
    (readFeedback k d reads s).imn = s.imn ∧ (readFeedback k d reads s).mtr = s.mtr ∧
    (readFeedback k d reads s).mst = s.mst ∧ (readFeedback k d reads s).cpt = s.cpt ∧
    (readFeedback k d reads s).fresh = s.fresh ∧
    (readFeedback k d reads s).pending = s.pending := by
  unfold readFeedback; dsimp only; (repeat' split) <;> simp

@[simp] theorem gateFeedbackChange_keeps (k : Leg) (d : Device) (reads : Bool) (s : State) :
    (gateFeedbackChange k d reads s).power = s.power ∧
    (gateFeedbackChange k d reads s).cfg = s.cfg ∧ (gateFeedbackChange k d reads s).psq = s.psq ∧
    (gateFeedbackChange k d reads s).fli = s.fli ∧ (gateFeedbackChange k d reads s).shu = s.shu ∧
    (gateFeedbackChange k d reads s).crg = s.crg ∧ (gateFeedbackChange k d reads s).msq = s.msq ∧
    (gateFeedbackChange k d reads s).htr = s.htr ∧ (gateFeedbackChange k d reads s).imn = s.imn ∧
    (gateFeedbackChange k d reads s).mtr = s.mtr ∧ (gateFeedbackChange k d reads s).mst = s.mst ∧
    (gateFeedbackChange k d reads s).cpt = s.cpt ∧
    (gateFeedbackChange k d reads s).fresh = s.fresh ∧
    (gateFeedbackChange k d reads s).pending = s.pending := by
  simp [gateFeedbackChange]

@[simp] theorem heaterPeriodStart_keeps (s : State) :
    (heaterPeriodStart s).power = s.power ∧ (heaterPeriodStart s).cfg = s.cfg ∧
    (heaterPeriodStart s).psq = s.psq ∧ (heaterPeriodStart s).fli = s.fli ∧
    (heaterPeriodStart s).shu = s.shu ∧ (heaterPeriodStart s).crg = s.crg ∧
    (heaterPeriodStart s).msq = s.msq ∧ (heaterPeriodStart s).htr = s.htr ∧
    (heaterPeriodStart s).imn = s.imn ∧ (heaterPeriodStart s).mtr = s.mtr ∧
    (heaterPeriodStart s).mst = s.mst ∧ (heaterPeriodStart s).cpt = s.cpt ∧
    (heaterPeriodStart s).fresh = s.fresh ∧ (heaterPeriodStart s).pending = s.pending := by
  simp [heaterPeriodStart]

@[simp] theorem heaterDutyEnd_keeps (s : State) :
    (heaterDutyEnd s).power = s.power ∧ (heaterDutyEnd s).cfg = s.cfg ∧
    (heaterDutyEnd s).psq = s.psq ∧ (heaterDutyEnd s).fli = s.fli ∧ (heaterDutyEnd s).shu = s.shu ∧
    (heaterDutyEnd s).crg = s.crg ∧ (heaterDutyEnd s).msq = s.msq ∧ (heaterDutyEnd s).htr = s.htr ∧
    (heaterDutyEnd s).imn = s.imn ∧ (heaterDutyEnd s).mtr = s.mtr ∧ (heaterDutyEnd s).mst = s.mst ∧
    (heaterDutyEnd s).cpt = s.cpt ∧ (heaterDutyEnd s).fresh = s.fresh ∧
    (heaterDutyEnd s).pending = s.pending := by
  simp [heaterDutyEnd]

@[simp] theorem extLineChange_keeps (active : Bool) (s : State) :
    (extLineChange active s).power = s.power ∧ (extLineChange active s).cfg = s.cfg ∧
    (extLineChange active s).psq = s.psq ∧ (extLineChange active s).fli = s.fli ∧
    (extLineChange active s).shu = s.shu ∧ (extLineChange active s).crg = s.crg ∧
    (extLineChange active s).msq = s.msq ∧ (extLineChange active s).htr = s.htr ∧
    (extLineChange active s).imn = s.imn ∧ (extLineChange active s).mtr = s.mtr ∧
    (extLineChange active s).mst = s.mst ∧ (extLineChange active s).cpt = s.cpt ∧
    (extLineChange active s).fresh = s.fresh ∧ (extLineChange active s).pending = s.pending := by
  unfold extLineChange; (repeat' split) <;> simp

@[simp] theorem extInactiveExpiry_keeps (s : State) :
    (extInactiveExpiry s).power = s.power ∧ (extInactiveExpiry s).cfg = s.cfg ∧
    (extInactiveExpiry s).psq = s.psq ∧ (extInactiveExpiry s).fli = s.fli ∧
    (extInactiveExpiry s).shu = s.shu ∧ (extInactiveExpiry s).crg = s.crg ∧
    (extInactiveExpiry s).msq = s.msq ∧ (extInactiveExpiry s).htr = s.htr ∧
    (extInactiveExpiry s).imn = s.imn ∧ (extInactiveExpiry s).mtr = s.mtr ∧
    (extInactiveExpiry s).mst = s.mst ∧ (extInactiveExpiry s).cpt = s.cpt ∧
    (extInactiveExpiry s).fresh = s.fresh ∧ (extInactiveExpiry s).pending = s.pending := by
  unfold extInactiveExpiry; (repeat' split) <;> simp

/-! ## Share -/

@[simp] theorem computeShare_keeps (s : State) :
    (computeShare s).power = s.power ∧ (computeShare s).cfg = s.cfg ∧
    (computeShare s).psq = s.psq ∧ (computeShare s).fli = s.fli ∧ (computeShare s).crg = s.crg ∧
    (computeShare s).ptu = s.ptu ∧ (computeShare s).msq = s.msq ∧ (computeShare s).htr = s.htr ∧
    (computeShare s).imn = s.imn ∧ (computeShare s).mtr = s.mtr ∧ (computeShare s).mst = s.mst ∧
    (computeShare s).cpt = s.cpt ∧ (computeShare s).fresh = s.fresh ∧
    (computeShare s).pending = s.pending := by
  simp [computeShare]

@[simp] theorem keepFallback_keeps (s : State) :
    (keepFallback s).power = s.power ∧ (keepFallback s).cfg = s.cfg ∧
    (keepFallback s).psq = s.psq ∧ (keepFallback s).fli = s.fli ∧ (keepFallback s).crg = s.crg ∧
    (keepFallback s).ptu = s.ptu ∧ (keepFallback s).msq = s.msq ∧ (keepFallback s).htr = s.htr ∧
    (keepFallback s).imn = s.imn ∧ (keepFallback s).mtr = s.mtr ∧ (keepFallback s).mst = s.mst ∧
    (keepFallback s).cpt = s.cpt ∧ (keepFallback s).fresh = s.fresh ∧
    (keepFallback s).pending = s.pending := by
  unfold keepFallback; (repeat' split) <;> simp

@[simp] theorem fallOnly_keeps (s : State) :
    (fallOnly s).power = s.power ∧ (fallOnly s).cfg = s.cfg ∧ (fallOnly s).psq = s.psq ∧
    (fallOnly s).fli = s.fli ∧ (fallOnly s).crg = s.crg ∧ (fallOnly s).ptu = s.ptu ∧
    (fallOnly s).msq = s.msq ∧ (fallOnly s).htr = s.htr ∧ (fallOnly s).imn = s.imn ∧
    (fallOnly s).mtr = s.mtr ∧ (fallOnly s).mst = s.mst ∧ (fallOnly s).cpt = s.cpt ∧
    (fallOnly s).fresh = s.fresh ∧ (fallOnly s).pending = s.pending := by
  unfold fallOnly; (repeat' split) <;> simp

@[simp] theorem extraComputation_keeps (s : State) :
    (extraComputation s).power = s.power ∧ (extraComputation s).cfg = s.cfg ∧
    (extraComputation s).psq = s.psq ∧ (extraComputation s).fli = s.fli ∧
    (extraComputation s).crg = s.crg ∧ (extraComputation s).ptu = s.ptu ∧
    (extraComputation s).msq = s.msq ∧ (extraComputation s).htr = s.htr ∧
    (extraComputation s).imn = s.imn ∧ (extraComputation s).mtr = s.mtr ∧
    (extraComputation s).mst = s.mst ∧ (extraComputation s).cpt = s.cpt ∧
    (extraComputation s).fresh = s.fresh ∧ (extraComputation s).pending = s.pending := by
  simp [extraComputation]

@[simp] theorem riseRule_keeps (s : State) :
    (riseRule s).power = s.power ∧ (riseRule s).cfg = s.cfg ∧ (riseRule s).psq = s.psq ∧
    (riseRule s).fli = s.fli ∧ (riseRule s).crg = s.crg ∧ (riseRule s).ptu = s.ptu ∧
    (riseRule s).msq = s.msq ∧ (riseRule s).htr = s.htr ∧ (riseRule s).imn = s.imn ∧
    (riseRule s).mtr = s.mtr ∧ (riseRule s).mst = s.mst ∧ (riseRule s).cpt = s.cpt ∧
    (riseRule s).fresh = s.fresh ∧ (riseRule s).pending = s.pending := by
  unfold riseRule; (repeat' split) <;> simp

@[simp] theorem fullRule_keeps (s : State) :
    (fullRule s).power = s.power ∧ (fullRule s).cfg = s.cfg ∧ (fullRule s).psq = s.psq ∧
    (fullRule s).fli = s.fli ∧ (fullRule s).crg = s.crg ∧ (fullRule s).ptu = s.ptu ∧
    (fullRule s).msq = s.msq ∧ (fullRule s).htr = s.htr ∧ (fullRule s).imn = s.imn ∧
    (fullRule s).mtr = s.mtr ∧ (fullRule s).mst = s.mst ∧ (fullRule s).cpt = s.cpt ∧
    (fullRule s).fresh = s.fresh ∧ (fullRule s).pending = s.pending := by
  unfold fullRule; (repeat' split) <;> simp

@[simp] theorem fullComputation_keeps (s : State) :
    (fullComputation s).power = s.power ∧ (fullComputation s).cfg = s.cfg ∧
    (fullComputation s).psq = s.psq ∧ (fullComputation s).fli = s.fli ∧
    (fullComputation s).crg = s.crg ∧ (fullComputation s).ptu = s.ptu ∧
    (fullComputation s).msq = s.msq ∧ (fullComputation s).htr = s.htr ∧
    (fullComputation s).imn = s.imn ∧ (fullComputation s).mtr = s.mtr ∧
    (fullComputation s).mst = s.mst ∧ (fullComputation s).cpt = s.cpt ∧
    (fullComputation s).fresh = s.fresh ∧ (fullComputation s).pending = s.pending := by
  simp [fullComputation]

@[simp] theorem readPeers_keeps (s : State) :
    (readPeers s).power = s.power ∧ (readPeers s).cfg = s.cfg ∧ (readPeers s).psq = s.psq ∧
    (readPeers s).fli = s.fli ∧ (readPeers s).shu = s.shu ∧ (readPeers s).crg = s.crg ∧
    (readPeers s).ptu = s.ptu ∧ (readPeers s).msq = s.msq ∧ (readPeers s).htr = s.htr ∧
    (readPeers s).imn = s.imn ∧ (readPeers s).mtr = s.mtr ∧ (readPeers s).mst = s.mst ∧
    (readPeers s).fresh = s.fresh ∧ (readPeers s).pending = s.pending := by
  simp [readPeers]

@[simp] theorem readShare_keeps (s : State) :
    (readShare s).power = s.power ∧ (readShare s).cfg = s.cfg ∧ (readShare s).psq = s.psq ∧
    (readShare s).fli = s.fli ∧ (readShare s).shu = s.shu ∧ (readShare s).crg = s.crg ∧
    (readShare s).ptu = s.ptu ∧ (readShare s).msq = s.msq ∧ (readShare s).htr = s.htr ∧
    (readShare s).imn = s.imn ∧ (readShare s).mtr = s.mtr ∧ (readShare s).mst = s.mst ∧
    (readShare s).fresh = s.fresh ∧ (readShare s).pending = s.pending := by
  simp [readShare]

/-! ## Regulate -/

@[simp] theorem formBudget_keeps (s : State) :
    (formBudget s).power = s.power ∧ (formBudget s).cfg = s.cfg ∧ (formBudget s).psq = s.psq ∧
    (formBudget s).fli = s.fli ∧ (formBudget s).shu = s.shu ∧ (formBudget s).crg = s.crg ∧
    (formBudget s).msq = s.msq ∧ (formBudget s).imn = s.imn ∧ (formBudget s).mtr = s.mtr ∧
    (formBudget s).mst = s.mst ∧ (formBudget s).cpt = s.cpt ∧ (formBudget s).fresh = s.fresh ∧
    (formBudget s).pending = s.pending := by
  unfold formBudget; simp only [onlyIf]; (repeat' split) <;> simp

@[simp] theorem evaluate_keeps (s : State) :
    (evaluate s).power = s.power ∧ (evaluate s).cfg = s.cfg ∧ (evaluate s).psq = s.psq ∧
    (evaluate s).fli = s.fli ∧ (evaluate s).shu = s.shu ∧ (evaluate s).msq = s.msq ∧
    (evaluate s).imn = s.imn ∧ (evaluate s).mtr = s.mtr ∧ (evaluate s).mst = s.mst ∧
    (evaluate s).cpt = s.cpt ∧ (evaluate s).fresh = s.fresh ∧
    (evaluate s).pending = s.pending := by
  simp [evaluate]

@[simp] theorem handDOwn_keeps (s : State) :
    (handDOwn s).power = s.power ∧ (handDOwn s).cfg = s.cfg ∧ (handDOwn s).psq = s.psq ∧
    (handDOwn s).fli = s.fli ∧ (handDOwn s).ptu = s.ptu ∧ (handDOwn s).msq = s.msq ∧
    (handDOwn s).htr = s.htr ∧ (handDOwn s).imn = s.imn ∧ (handDOwn s).mtr = s.mtr ∧
    (handDOwn s).mst = s.mst ∧ (handDOwn s).cpt = s.cpt ∧ (handDOwn s).fresh = s.fresh ∧
    (handDOwn s).pending = s.pending := by
  simp [handDOwn]

@[simp] theorem extraAndEvaluate_keeps (s : State) :
    (extraAndEvaluate s).power = s.power ∧ (extraAndEvaluate s).cfg = s.cfg ∧
    (extraAndEvaluate s).psq = s.psq ∧ (extraAndEvaluate s).fli = s.fli ∧
    (extraAndEvaluate s).msq = s.msq ∧ (extraAndEvaluate s).imn = s.imn ∧
    (extraAndEvaluate s).mtr = s.mtr ∧ (extraAndEvaluate s).mst = s.mst ∧
    (extraAndEvaluate s).cpt = s.cpt ∧ (extraAndEvaluate s).fresh = s.fresh ∧
    (extraAndEvaluate s).pending = s.pending := by
  simp [extraAndEvaluate]

@[simp] theorem handLower_keeps (s : State) :
    (handLower s).power = s.power ∧ (handLower s).cfg = s.cfg ∧ (handLower s).psq = s.psq ∧
    (handLower s).fli = s.fli ∧ (handLower s).msq = s.msq ∧ (handLower s).imn = s.imn ∧
    (handLower s).mtr = s.mtr ∧ (handLower s).mst = s.mst ∧ (handLower s).cpt = s.cpt ∧
    (handLower s).fresh = s.fresh ∧ (handLower s).pending = s.pending := by
  unfold handLower; dsimp only; (repeat' split) <;> simp

@[simp] theorem evaluateAndHand_keeps (s : State) :
    (evaluateAndHand s).power = s.power ∧ (evaluateAndHand s).cfg = s.cfg ∧
    (evaluateAndHand s).psq = s.psq ∧ (evaluateAndHand s).fli = s.fli ∧
    (evaluateAndHand s).msq = s.msq ∧ (evaluateAndHand s).imn = s.imn ∧
    (evaluateAndHand s).mtr = s.mtr ∧ (evaluateAndHand s).mst = s.mst ∧
    (evaluateAndHand s).cpt = s.cpt ∧ (evaluateAndHand s).fresh = s.fresh ∧
    (evaluateAndHand s).pending = s.pending := by
  unfold evaluateAndHand; dsimp only; (repeat' split) <;> simp

@[simp] theorem setSession_keeps (s : State) :
    (setSession s).power = s.power ∧ (setSession s).cfg = s.cfg ∧ (setSession s).psq = s.psq ∧
    (setSession s).crg = s.crg ∧ (setSession s).ptu = s.ptu ∧ (setSession s).msq = s.msq ∧
    (setSession s).htr = s.htr ∧ (setSession s).imn = s.imn ∧ (setSession s).mtr = s.mtr ∧
    (setSession s).mst = s.mst ∧ (setSession s).cpt = s.cpt ∧ (setSession s).fresh = s.fresh ∧
    (setSession s).pending = s.pending := by
  simp [setSession]

@[simp] theorem clearSession_keeps (s : State) :
    (clearSession s).power = s.power ∧ (clearSession s).cfg = s.cfg ∧
    (clearSession s).psq = s.psq ∧ (clearSession s).fli = s.fli ∧ (clearSession s).msq = s.msq ∧
    (clearSession s).imn = s.imn ∧ (clearSession s).mtr = s.mtr ∧ (clearSession s).mst = s.mst ∧
    (clearSession s).cpt = s.cpt ∧ (clearSession s).fresh = s.fresh ∧
    (clearSession s).pending = s.pending := by
  simp [clearSession]

@[simp] theorem reportTarget_keeps (s : State) :
    (reportTarget s).power = s.power ∧ (reportTarget s).cfg = s.cfg ∧
    (reportTarget s).psq = s.psq ∧ (reportTarget s).fli = s.fli ∧ (reportTarget s).msq = s.msq ∧
    (reportTarget s).imn = s.imn ∧ (reportTarget s).mtr = s.mtr ∧ (reportTarget s).mst = s.mst ∧
    (reportTarget s).cpt = s.cpt ∧ (reportTarget s).fresh = s.fresh ∧
    (reportTarget s).pending = s.pending := by
  simp [reportTarget]

@[simp] theorem endTargetReport_keeps (s : State) :
    (endTargetReport s).power = s.power ∧ (endTargetReport s).cfg = s.cfg ∧
    (endTargetReport s).psq = s.psq ∧ (endTargetReport s).fli = s.fli ∧
    (endTargetReport s).crg = s.crg ∧ (endTargetReport s).ptu = s.ptu ∧
    (endTargetReport s).msq = s.msq ∧ (endTargetReport s).htr = s.htr ∧
    (endTargetReport s).imn = s.imn ∧ (endTargetReport s).mtr = s.mtr ∧
    (endTargetReport s).mst = s.mst ∧ (endTargetReport s).cpt = s.cpt ∧
    (endTargetReport s).fresh = s.fresh ∧ (endTargetReport s).pending = s.pending := by
  simp [endTargetReport]

@[simp] theorem enterFallback_keeps (s : State) :
    (enterFallback s).power = s.power ∧ (enterFallback s).cfg = s.cfg ∧
    (enterFallback s).psq = s.psq ∧ (enterFallback s).fli = s.fli ∧ (enterFallback s).msq = s.msq ∧
    (enterFallback s).imn = s.imn ∧ (enterFallback s).mst = s.mst ∧
    (enterFallback s).fresh = s.fresh ∧ (enterFallback s).pending = s.pending := by
  simp [enterFallback]

@[simp] theorem updateFallback_keeps (s : State) :
    (updateFallback s).power = s.power ∧ (updateFallback s).cfg = s.cfg ∧
    (updateFallback s).psq = s.psq ∧ (updateFallback s).fli = s.fli ∧
    (updateFallback s).msq = s.msq ∧ (updateFallback s).imn = s.imn ∧
    (updateFallback s).mst = s.mst ∧ (updateFallback s).fresh = s.fresh ∧
    (updateFallback s).pending = s.pending := by
  unfold updateFallback; dsimp only; (repeat' split) <;> simp

@[simp] theorem newRms_keeps (k : Phase) (s : State) :
    (newRms k s).power = s.power ∧ (newRms k s).cfg = s.cfg ∧ (newRms k s).psq = s.psq ∧
    (newRms k s).fli = s.fli ∧ (newRms k s).msq = s.msq ∧ (newRms k s).imn = s.imn ∧
    (newRms k s).mtr = s.mtr ∧ (newRms k s).mst = s.mst ∧ (newRms k s).fresh = s.fresh ∧
    (newRms k s).pending = s.pending := by
  unfold newRms; simp only [onlyIf]; (repeat' split) <;> simp

@[simp] theorem takeOutOfRange_keeps (b : Bool) (s : State) :
    (takeOutOfRange b s).power = s.power ∧ (takeOutOfRange b s).cfg = s.cfg ∧
    (takeOutOfRange b s).psq = s.psq ∧ (takeOutOfRange b s).fli = s.fli ∧
    (takeOutOfRange b s).imn = s.imn ∧ (takeOutOfRange b s).mtr = s.mtr ∧
    (takeOutOfRange b s).mst = s.mst ∧ (takeOutOfRange b s).cpt = s.cpt ∧
    (takeOutOfRange b s).fresh = s.fresh ∧ (takeOutOfRange b s).pending = s.pending := by
  unfold takeOutOfRange; dsimp only; (repeat' split) <;> simp

@[simp] theorem rampEvent_keeps (s : State) :
    (rampEvent s).power = s.power ∧ (rampEvent s).cfg = s.cfg ∧ (rampEvent s).psq = s.psq ∧
    (rampEvent s).fli = s.fli ∧ (rampEvent s).shu = s.shu ∧ (rampEvent s).msq = s.msq ∧
    (rampEvent s).imn = s.imn ∧ (rampEvent s).mtr = s.mtr ∧ (rampEvent s).mst = s.mst ∧
    (rampEvent s).cpt = s.cpt ∧ (rampEvent s).fresh = s.fresh ∧
    (rampEvent s).pending = s.pending := by
  unfold rampEvent; dsimp only; (repeat' split) <;> simp

@[simp] theorem runLoops_keeps (s : State) :
    (runLoops s).power = s.power ∧ (runLoops s).cfg = s.cfg ∧ (runLoops s).psq = s.psq ∧
    (runLoops s).fli = s.fli ∧ (runLoops s).shu = s.shu ∧ (runLoops s).msq = s.msq ∧
    (runLoops s).htr = s.htr ∧ (runLoops s).imn = s.imn ∧ (runLoops s).mtr = s.mtr ∧
    (runLoops s).mst = s.mst ∧ (runLoops s).cpt = s.cpt ∧ (runLoops s).fresh = s.fresh ∧
    (runLoops s).pending = s.pending := by
  simp [runLoops]

@[simp] theorem loopEvent_keeps (s : State) :
    (loopEvent s).power = s.power ∧ (loopEvent s).cfg = s.cfg ∧ (loopEvent s).psq = s.psq ∧
    (loopEvent s).fli = s.fli ∧ (loopEvent s).shu = s.shu ∧ (loopEvent s).msq = s.msq ∧
    (loopEvent s).htr = s.htr ∧ (loopEvent s).imn = s.imn ∧ (loopEvent s).mtr = s.mtr ∧
    (loopEvent s).mst = s.mst ∧ (loopEvent s).cpt = s.cpt ∧ (loopEvent s).fresh = s.fresh ∧
    (loopEvent s).pending = s.pending := by
  unfold loopEvent; simp only [onlyIf]; (repeat' split) <;> simp

@[simp] theorem setCharge_keeps (iReq vMax : Word16) (s : State) :
    (setCharge iReq vMax s).power = s.power ∧ (setCharge iReq vMax s).cfg = s.cfg ∧
    (setCharge iReq vMax s).psq = s.psq ∧ (setCharge iReq vMax s).fli = s.fli ∧
    (setCharge iReq vMax s).msq = s.msq ∧ (setCharge iReq vMax s).imn = s.imn ∧
    (setCharge iReq vMax s).mtr = s.mtr ∧ (setCharge iReq vMax s).mst = s.mst ∧
    (setCharge iReq vMax s).fresh = s.fresh ∧ (setCharge iReq vMax s).pending = s.pending := by
  unfold setCharge; (repeat' split) <;> simp

@[simp] theorem setBatteryLimit_keeps (iBms : Word16) (s : State) :
    (setBatteryLimit iBms s).power = s.power ∧ (setBatteryLimit iBms s).cfg = s.cfg ∧
    (setBatteryLimit iBms s).psq = s.psq ∧ (setBatteryLimit iBms s).fli = s.fli ∧
    (setBatteryLimit iBms s).msq = s.msq ∧ (setBatteryLimit iBms s).imn = s.imn ∧
    (setBatteryLimit iBms s).mtr = s.mtr ∧ (setBatteryLimit iBms s).mst = s.mst ∧
    (setBatteryLimit iBms s).fresh = s.fresh ∧ (setBatteryLimit iBms s).pending = s.pending := by
  unfold setBatteryLimit; (repeat' split) <;> simp

@[simp] theorem freshnessExpiry_keeps (s : State) :
    (freshnessExpiry s).power = s.power ∧ (freshnessExpiry s).cfg = s.cfg ∧
    (freshnessExpiry s).psq = s.psq ∧ (freshnessExpiry s).fli = s.fli ∧
    (freshnessExpiry s).msq = s.msq ∧ (freshnessExpiry s).imn = s.imn ∧
    (freshnessExpiry s).mtr = s.mtr ∧ (freshnessExpiry s).mst = s.mst ∧
    (freshnessExpiry s).fresh = s.fresh ∧ (freshnessExpiry s).pending = s.pending := by
  unfold freshnessExpiry; (repeat' split) <;> simp

/-! ## Heater -/

@[simp] theorem followRelay_keeps (s : State) :
    (followRelay s).power = s.power ∧ (followRelay s).cfg = s.cfg ∧ (followRelay s).psq = s.psq ∧
    (followRelay s).fli = s.fli ∧ (followRelay s).shu = s.shu ∧ (followRelay s).crg = s.crg ∧
    (followRelay s).msq = s.msq ∧ (followRelay s).imn = s.imn ∧ (followRelay s).mtr = s.mtr ∧
    (followRelay s).mst = s.mst ∧ (followRelay s).cpt = s.cpt ∧ (followRelay s).fresh = s.fresh ∧
    (followRelay s).pending = s.pending := by
  unfold followRelay; (repeat' split) <;> simp

@[simp] theorem formRequest_keeps (s : State) :
    (formRequest s).power = s.power ∧ (formRequest s).cfg = s.cfg ∧ (formRequest s).psq = s.psq ∧
    (formRequest s).fli = s.fli ∧ (formRequest s).shu = s.shu ∧ (formRequest s).crg = s.crg ∧
    (formRequest s).msq = s.msq ∧ (formRequest s).imn = s.imn ∧ (formRequest s).mtr = s.mtr ∧
    (formRequest s).mst = s.mst ∧ (formRequest s).cpt = s.cpt ∧ (formRequest s).fresh = s.fresh ∧
    (formRequest s).pending = s.pending := by
  simp [formRequest]

@[simp] theorem handHeatRequest_keeps (s : State) :
    (handHeatRequest s).power = s.power ∧ (handHeatRequest s).cfg = s.cfg ∧
    (handHeatRequest s).psq = s.psq ∧ (handHeatRequest s).fli = s.fli ∧
    (handHeatRequest s).msq = s.msq ∧ (handHeatRequest s).imn = s.imn ∧
    (handHeatRequest s).mtr = s.mtr ∧ (handHeatRequest s).mst = s.mst ∧
    (handHeatRequest s).cpt = s.cpt ∧ (handHeatRequest s).fresh = s.fresh ∧
    (handHeatRequest s).pending = s.pending := by
  simp [handHeatRequest]

@[simp] theorem selectHeater_keeps (s : State) :
    (selectHeater s).power = s.power ∧ (selectHeater s).cfg = s.cfg ∧
    (selectHeater s).psq = s.psq ∧ (selectHeater s).fli = s.fli ∧ (selectHeater s).msq = s.msq ∧
    (selectHeater s).imn = s.imn ∧ (selectHeater s).mtr = s.mtr ∧ (selectHeater s).mst = s.mst ∧
    (selectHeater s).cpt = s.cpt ∧ (selectHeater s).fresh = s.fresh ∧
    (selectHeater s).pending = s.pending := by
  unfold selectHeater; dsimp only; (repeat' split) <;> simp

@[simp] theorem setIsolate_keeps (b : Bool) (s : State) :
    (setIsolate b s).power = s.power ∧ (setIsolate b s).cfg = s.cfg ∧
    (setIsolate b s).psq = s.psq ∧ (setIsolate b s).fli = s.fli ∧ (setIsolate b s).msq = s.msq ∧
    (setIsolate b s).imn = s.imn ∧ (setIsolate b s).mtr = s.mtr ∧ (setIsolate b s).mst = s.mst ∧
    (setIsolate b s).cpt = s.cpt ∧ (setIsolate b s).fresh = s.fresh ∧
    (setIsolate b s).pending = s.pending := by
  unfold setIsolate; (repeat' split) <;> simp

@[simp] theorem takeTemperature_keeps (s : State) :
    (takeTemperature s).power = s.power ∧ (takeTemperature s).cfg = s.cfg ∧
    (takeTemperature s).psq = s.psq ∧ (takeTemperature s).fli = s.fli ∧
    (takeTemperature s).msq = s.msq ∧ (takeTemperature s).imn = s.imn ∧
    (takeTemperature s).mtr = s.mtr ∧ (takeTemperature s).mst = s.mst ∧
    (takeTemperature s).cpt = s.cpt ∧ (takeTemperature s).fresh = s.fresh ∧
    (takeTemperature s).pending = s.pending := by
  simp [takeTemperature]

@[simp] theorem heaterOvercurrent_keeps (s : State) :
    (heaterOvercurrent s).power = s.power ∧ (heaterOvercurrent s).cfg = s.cfg ∧
    (heaterOvercurrent s).psq = s.psq ∧ (heaterOvercurrent s).fli = s.fli ∧
    (heaterOvercurrent s).msq = s.msq ∧ (heaterOvercurrent s).imn = s.imn ∧
    (heaterOvercurrent s).mtr = s.mtr ∧ (heaterOvercurrent s).mst = s.mst ∧
    (heaterOvercurrent s).fresh = s.fresh ∧ (heaterOvercurrent s).pending = s.pending := by
  unfold heaterOvercurrent; simp only [onlyIf]; (repeat' split) <;> simp

@[simp] theorem heaterOpenDetect_keeps (s : State) :
    (heaterOpenDetect s).power = s.power ∧ (heaterOpenDetect s).cfg = s.cfg ∧
    (heaterOpenDetect s).psq = s.psq ∧ (heaterOpenDetect s).fli = s.fli ∧
    (heaterOpenDetect s).msq = s.msq ∧ (heaterOpenDetect s).imn = s.imn ∧
    (heaterOpenDetect s).mtr = s.mtr ∧ (heaterOpenDetect s).mst = s.mst ∧
    (heaterOpenDetect s).fresh = s.fresh ∧ (heaterOpenDetect s).pending = s.pending := by
  unfold heaterOpenDetect; (repeat' split) <;> simp

@[simp] theorem regulateHeater_keeps (s : State) :
    (regulateHeater s).power = s.power ∧ (regulateHeater s).cfg = s.cfg ∧
    (regulateHeater s).psq = s.psq ∧ (regulateHeater s).fli = s.fli ∧
    (regulateHeater s).shu = s.shu ∧ (regulateHeater s).crg = s.crg ∧
    (regulateHeater s).msq = s.msq ∧ (regulateHeater s).imn = s.imn ∧
    (regulateHeater s).mtr = s.mtr ∧ (regulateHeater s).mst = s.mst ∧
    (regulateHeater s).cpt = s.cpt ∧ (regulateHeater s).fresh = s.fresh ∧
    (regulateHeater s).pending = s.pending := by
  simp [regulateHeater]

@[simp] theorem heaterEvent_keeps (s : State) :
    (heaterEvent s).power = s.power ∧ (heaterEvent s).cfg = s.cfg ∧ (heaterEvent s).psq = s.psq ∧
    (heaterEvent s).fli = s.fli ∧ (heaterEvent s).msq = s.msq ∧ (heaterEvent s).imn = s.imn ∧
    (heaterEvent s).mtr = s.mtr ∧ (heaterEvent s).mst = s.mst ∧ (heaterEvent s).fresh = s.fresh ∧
    (heaterEvent s).pending = s.pending := by
  simp [heaterEvent]

@[simp] theorem relaySettleExpiry_keeps (s : State) :
    (relaySettleExpiry s).power = s.power ∧ (relaySettleExpiry s).cfg = s.cfg ∧
    (relaySettleExpiry s).psq = s.psq ∧ (relaySettleExpiry s).fli = s.fli ∧
    (relaySettleExpiry s).shu = s.shu ∧ (relaySettleExpiry s).crg = s.crg ∧
    (relaySettleExpiry s).ptu = s.ptu ∧ (relaySettleExpiry s).msq = s.msq ∧
    (relaySettleExpiry s).imn = s.imn ∧ (relaySettleExpiry s).mtr = s.mtr ∧
    (relaySettleExpiry s).mst = s.mst ∧ (relaySettleExpiry s).cpt = s.cpt ∧
    (relaySettleExpiry s).fresh = s.fresh ∧ (relaySettleExpiry s).pending = s.pending := by
  simp [relaySettleExpiry]

@[simp] theorem applyHeating_keeps (tOn tOff : Int) (pHmax : Nat) (p : Permission)
    (pBattMax : Nat) (clear : Bool) (s : State) :
    (applyHeating tOn tOff pHmax p pBattMax clear s).power = s.power ∧
    (applyHeating tOn tOff pHmax p pBattMax clear s).cfg = s.cfg ∧
    (applyHeating tOn tOff pHmax p pBattMax clear s).psq = s.psq ∧
    (applyHeating tOn tOff pHmax p pBattMax clear s).fli = s.fli ∧
    (applyHeating tOn tOff pHmax p pBattMax clear s).msq = s.msq ∧
    (applyHeating tOn tOff pHmax p pBattMax clear s).imn = s.imn ∧
    (applyHeating tOn tOff pHmax p pBattMax clear s).mtr = s.mtr ∧
    (applyHeating tOn tOff pHmax p pBattMax clear s).mst = s.mst ∧
    (applyHeating tOn tOff pHmax p pBattMax clear s).cpt = s.cpt ∧
    (applyHeating tOn tOff pHmax p pBattMax clear s).fresh = s.fresh ∧
    (applyHeating tOn tOff pHmax p pBattMax clear s).pending = s.pending := by
  unfold applyHeating; (repeat' split) <;> simp

@[simp] theorem answerHeating_keeps (s : State) :
    (answerHeating s).power = s.power ∧ (answerHeating s).cfg = s.cfg ∧
    (answerHeating s).psq = s.psq ∧ (answerHeating s).fli = s.fli ∧ (answerHeating s).shu = s.shu ∧
    (answerHeating s).crg = s.crg ∧ (answerHeating s).ptu = s.ptu ∧ (answerHeating s).msq = s.msq ∧
    (answerHeating s).htr = s.htr ∧ (answerHeating s).imn = s.imn ∧ (answerHeating s).mtr = s.mtr ∧
    (answerHeating s).mst = s.mst ∧ (answerHeating s).fresh = s.fresh ∧
    (answerHeating s).pending = s.pending := by
  simp [answerHeating]

@[simp] theorem setHeating_keeps (tOn tOff pHmax : Word16) (permission : Byte)
    (pBattMax : Word16) (clear : Byte) (s : State) :
    (setHeating tOn tOff pHmax permission pBattMax clear s).power = s.power ∧
    (setHeating tOn tOff pHmax permission pBattMax clear s).cfg = s.cfg ∧
    (setHeating tOn tOff pHmax permission pBattMax clear s).psq = s.psq ∧
    (setHeating tOn tOff pHmax permission pBattMax clear s).fli = s.fli ∧
    (setHeating tOn tOff pHmax permission pBattMax clear s).msq = s.msq ∧
    (setHeating tOn tOff pHmax permission pBattMax clear s).imn = s.imn ∧
    (setHeating tOn tOff pHmax permission pBattMax clear s).mtr = s.mtr ∧
    (setHeating tOn tOff pHmax permission pBattMax clear s).mst = s.mst ∧
    (setHeating tOn tOff pHmax permission pBattMax clear s).fresh = s.fresh ∧
    (setHeating tOn tOff pHmax permission pBattMax clear s).pending = s.pending := by
  unfold setHeating; (repeat' split) <;> simp
end Sys2Proof.Machine
end

