-- ==== Sys2Proof/Laws/FramesPlug.lean ====
section
/-! SUPPORT. What each operation leaves as it is, block by block. -/

namespace Sys2Proof.Machine

/-! ## Insulation -/

@[simp] theorem setSeq_keeps (new : SeqState) (s : State) :
    (setSeq new s).power = s.power ∧ (setSeq new s).cfg = s.cfg ∧ (setSeq new s).fli = s.fli ∧
    (setSeq new s).msq = s.msq ∧ (setSeq new s).imn = s.imn ∧ (setSeq new s).mtr = s.mtr ∧
    (setSeq new s).mst = s.mst ∧ (setSeq new s).fresh = s.fresh ∧
    (setSeq new s).pending = s.pending := by
  unfold setSeq; (repeat' split) <;> simp

@[simp] theorem setPhase_keeps (p : IsoPhase) (s : State) :
    (setPhase p s).power = s.power ∧ (setPhase p s).cfg = s.cfg ∧ (setPhase p s).fli = s.fli ∧
    (setPhase p s).shu = s.shu ∧ (setPhase p s).crg = s.crg ∧ (setPhase p s).ptu = s.ptu ∧
    (setPhase p s).msq = s.msq ∧ (setPhase p s).htr = s.htr ∧ (setPhase p s).imn = s.imn ∧
    (setPhase p s).mtr = s.mtr ∧ (setPhase p s).mst = s.mst ∧ (setPhase p s).fresh = s.fresh ∧
    (setPhase p s).pending = s.pending := by
  simp [setPhase]

@[simp] theorem enterIsolation_keeps (ret : ReturnState) (s : State) :
    (enterIsolation ret s).power = s.power ∧ (enterIsolation ret s).cfg = s.cfg ∧
    (enterIsolation ret s).fli = s.fli ∧ (enterIsolation ret s).msq = s.msq ∧
    (enterIsolation ret s).imn = s.imn ∧ (enterIsolation ret s).mtr = s.mtr ∧
    (enterIsolation ret s).mst = s.mst ∧ (enterIsolation ret s).fresh = s.fresh ∧
    (enterIsolation ret s).pending = s.pending := by
  simp [enterIsolation]

@[simp] theorem takeRelease_keeps (s : State) :
    (takeRelease s).power = s.power ∧ (takeRelease s).cfg = s.cfg ∧ (takeRelease s).fli = s.fli ∧
    (takeRelease s).shu = s.shu ∧ (takeRelease s).crg = s.crg ∧ (takeRelease s).ptu = s.ptu ∧
    (takeRelease s).msq = s.msq ∧ (takeRelease s).htr = s.htr ∧ (takeRelease s).imn = s.imn ∧
    (takeRelease s).mtr = s.mtr ∧ (takeRelease s).mst = s.mst ∧ (takeRelease s).fresh = s.fresh ∧
    (takeRelease s).pending = s.pending := by
  unfold takeRelease; (repeat' split) <;> simp

@[simp] theorem startCycle_keeps (s : State) :
    (startCycle s).power = s.power ∧ (startCycle s).cfg = s.cfg ∧ (startCycle s).psq = s.psq ∧
    (startCycle s).fli = s.fli ∧ (startCycle s).shu = s.shu ∧ (startCycle s).crg = s.crg ∧
    (startCycle s).ptu = s.ptu ∧ (startCycle s).msq = s.msq ∧ (startCycle s).htr = s.htr ∧
    (startCycle s).mtr = s.mtr ∧ (startCycle s).mst = s.mst ∧ (startCycle s).cpt = s.cpt ∧
    (startCycle s).fresh = s.fresh ∧ (startCycle s).pending = s.pending := by
  simp [startCycle]

@[simp] theorem stopInjection_keeps (s : State) :
    (stopInjection s).power = s.power ∧ (stopInjection s).cfg = s.cfg ∧
    (stopInjection s).psq = s.psq ∧ (stopInjection s).fli = s.fli ∧ (stopInjection s).shu = s.shu ∧
    (stopInjection s).crg = s.crg ∧ (stopInjection s).ptu = s.ptu ∧ (stopInjection s).msq = s.msq ∧
    (stopInjection s).htr = s.htr ∧ (stopInjection s).mtr = s.mtr ∧ (stopInjection s).mst = s.mst ∧
    (stopInjection s).cpt = s.cpt ∧ (stopInjection s).fresh = s.fresh ∧
    (stopInjection s).pending = s.pending := by
  simp [stopInjection]

@[simp] theorem noteChange_keeps (old new : Evaluation) (s : State) :
    (noteChange old new s).power = s.power ∧ (noteChange old new s).cfg = s.cfg ∧
    (noteChange old new s).psq = s.psq ∧ (noteChange old new s).fli = s.fli ∧
    (noteChange old new s).shu = s.shu ∧ (noteChange old new s).crg = s.crg ∧
    (noteChange old new s).ptu = s.ptu ∧ (noteChange old new s).msq = s.msq ∧
    (noteChange old new s).htr = s.htr ∧ (noteChange old new s).imn = s.imn ∧
    (noteChange old new s).mst = s.mst ∧ (noteChange old new s).fresh = s.fresh ∧
    (noteChange old new s).pending = s.pending := by
  unfold noteChange; simp only [onlyIf]; (repeat' split) <;> simp

@[simp] theorem judgeOwn_keeps (r : Nat) (s : State) :
    (judgeOwn r s).power = s.power ∧ (judgeOwn r s).cfg = s.cfg ∧ (judgeOwn r s).psq = s.psq ∧
    (judgeOwn r s).fli = s.fli ∧ (judgeOwn r s).shu = s.shu ∧ (judgeOwn r s).crg = s.crg ∧
    (judgeOwn r s).ptu = s.ptu ∧ (judgeOwn r s).msq = s.msq ∧ (judgeOwn r s).htr = s.htr ∧
    (judgeOwn r s).mst = s.mst ∧ (judgeOwn r s).fresh = s.fresh ∧
    (judgeOwn r s).pending = s.pending := by
  simp [judgeOwn]

@[simp] theorem judgeNet_keeps (r : Nat) (s : State) :
    (judgeNet r s).power = s.power ∧ (judgeNet r s).cfg = s.cfg ∧ (judgeNet r s).psq = s.psq ∧
    (judgeNet r s).fli = s.fli ∧ (judgeNet r s).shu = s.shu ∧ (judgeNet r s).crg = s.crg ∧
    (judgeNet r s).ptu = s.ptu ∧ (judgeNet r s).msq = s.msq ∧ (judgeNet r s).htr = s.htr ∧
    (judgeNet r s).mst = s.mst ∧ (judgeNet r s).fresh = s.fresh ∧
    (judgeNet r s).pending = s.pending := by
  simp [judgeNet]

@[simp] theorem endUnmonitored_keeps (s : State) :
    (endUnmonitored s).power = s.power ∧ (endUnmonitored s).cfg = s.cfg ∧
    (endUnmonitored s).psq = s.psq ∧ (endUnmonitored s).fli = s.fli ∧
    (endUnmonitored s).shu = s.shu ∧ (endUnmonitored s).crg = s.crg ∧
    (endUnmonitored s).ptu = s.ptu ∧ (endUnmonitored s).msq = s.msq ∧
    (endUnmonitored s).htr = s.htr ∧ (endUnmonitored s).mtr = s.mtr ∧
    (endUnmonitored s).mst = s.mst ∧ (endUnmonitored s).fresh = s.fresh ∧
    (endUnmonitored s).pending = s.pending := by
  unfold endUnmonitored; simp only [onlyIf]; (repeat' split) <;> simp

@[simp] theorem startSelfCheck_keeps (s : State) :
    (startSelfCheck s).power = s.power ∧ (startSelfCheck s).cfg = s.cfg ∧
    (startSelfCheck s).psq = s.psq ∧ (startSelfCheck s).fli = s.fli ∧
    (startSelfCheck s).msq = s.msq ∧ (startSelfCheck s).mtr = s.mtr ∧
    (startSelfCheck s).mst = s.mst ∧ (startSelfCheck s).cpt = s.cpt ∧
    (startSelfCheck s).fresh = s.fresh ∧ (startSelfCheck s).pending = s.pending := by
  unfold startSelfCheck; (repeat' split) <;> simp

@[simp] theorem failSelfCheck_keeps (s : State) :
    (failSelfCheck s).power = s.power ∧ (failSelfCheck s).cfg = s.cfg ∧
    (failSelfCheck s).psq = s.psq ∧ (failSelfCheck s).fli = s.fli ∧ (failSelfCheck s).msq = s.msq ∧
    (failSelfCheck s).mtr = s.mtr ∧ (failSelfCheck s).mst = s.mst ∧
    (failSelfCheck s).fresh = s.fresh ∧ (failSelfCheck s).pending = s.pending := by
  simp [failSelfCheck]

@[simp] theorem failClearing_keeps (s : State) :
    (failClearing s).power = s.power ∧ (failClearing s).cfg = s.cfg ∧
    (failClearing s).psq = s.psq ∧ (failClearing s).fli = s.fli ∧ (failClearing s).msq = s.msq ∧
    (failClearing s).mtr = s.mtr ∧ (failClearing s).mst = s.mst ∧
    (failClearing s).fresh = s.fresh ∧ (failClearing s).pending = s.pending := by
  unfold failClearing; simp only [onlyIf]; (repeat' split) <;> simp

@[simp] theorem endLocalChecks_keeps (s : State) :
    (endLocalChecks s).power = s.power ∧ (endLocalChecks s).cfg = s.cfg ∧
    (endLocalChecks s).psq = s.psq ∧ (endLocalChecks s).fli = s.fli ∧
    (endLocalChecks s).msq = s.msq ∧ (endLocalChecks s).mtr = s.mtr ∧
    (endLocalChecks s).mst = s.mst ∧ (endLocalChecks s).fresh = s.fresh ∧
    (endLocalChecks s).pending = s.pending := by
  unfold endLocalChecks; simp only [onlyIf]; (repeat' split) <;> simp

@[simp] theorem clearTarget_keeps (s : State) :
    (clearTarget s).power = s.power ∧ (clearTarget s).cfg = s.cfg ∧ (clearTarget s).psq = s.psq ∧
    (clearTarget s).fli = s.fli ∧ (clearTarget s).crg = s.crg ∧ (clearTarget s).ptu = s.ptu ∧
    (clearTarget s).msq = s.msq ∧ (clearTarget s).htr = s.htr ∧ (clearTarget s).mtr = s.mtr ∧
    (clearTarget s).mst = s.mst ∧ (clearTarget s).cpt = s.cpt ∧ (clearTarget s).fresh = s.fresh ∧
    (clearTarget s).pending = s.pending := by
  simp [clearTarget]

@[simp] theorem endSweep_keeps (o : SweepOutcome) (hold : Bool) (s : State) :
    (endSweep o hold s).power = s.power ∧ (endSweep o hold s).cfg = s.cfg ∧
    (endSweep o hold s).psq = s.psq ∧ (endSweep o hold s).fli = s.fli ∧
    (endSweep o hold s).shu = s.shu ∧ (endSweep o hold s).crg = s.crg ∧
    (endSweep o hold s).ptu = s.ptu ∧ (endSweep o hold s).msq = s.msq ∧
    (endSweep o hold s).htr = s.htr ∧ (endSweep o hold s).mtr = s.mtr ∧
    (endSweep o hold s).mst = s.mst ∧ (endSweep o hold s).fresh = s.fresh ∧
    (endSweep o hold s).pending = s.pending := by
  simp [endSweep]

@[simp] theorem endLeading_keeps (r : LeaderRecord) (o : SweepOutcome) (hold : Bool) (s : State) :
    (endLeading r o hold s).power = s.power ∧ (endLeading r o hold s).cfg = s.cfg ∧
    (endLeading r o hold s).psq = s.psq ∧ (endLeading r o hold s).crg = s.crg ∧
    (endLeading r o hold s).ptu = s.ptu ∧ (endLeading r o hold s).msq = s.msq ∧
    (endLeading r o hold s).htr = s.htr ∧ (endLeading r o hold s).mtr = s.mtr ∧
    (endLeading r o hold s).mst = s.mst ∧ (endLeading r o hold s).fresh = s.fresh ∧
    (endLeading r o hold s).pending = s.pending := by
  simp [endLeading]

@[simp] theorem sweepOffline_keeps (s : State) :
    (sweepOffline s).power = s.power ∧ (sweepOffline s).cfg = s.cfg ∧
    (sweepOffline s).psq = s.psq ∧ (sweepOffline s).fli = s.fli ∧ (sweepOffline s).crg = s.crg ∧
    (sweepOffline s).ptu = s.ptu ∧ (sweepOffline s).msq = s.msq ∧ (sweepOffline s).htr = s.htr ∧
    (sweepOffline s).mtr = s.mtr ∧ (sweepOffline s).mst = s.mst ∧ (sweepOffline s).cpt = s.cpt ∧
    (sweepOffline s).fresh = s.fresh ∧ (sweepOffline s).pending = s.pending := by
  simp [sweepOffline]

@[simp] theorem ownNotFound_keeps (r : LeaderRecord) (s : State) :
    (ownNotFound r s).power = s.power ∧ (ownNotFound r s).cfg = s.cfg ∧
    (ownNotFound r s).crg = s.crg ∧ (ownNotFound r s).ptu = s.ptu ∧ (ownNotFound r s).msq = s.msq ∧
    (ownNotFound r s).htr = s.htr ∧ (ownNotFound r s).mtr = s.mtr ∧ (ownNotFound r s).mst = s.mst ∧
    (ownNotFound r s).fresh = s.fresh ∧ (ownNotFound r s).pending = s.pending := by
  simp [ownNotFound]

@[simp] theorem startOwnStep_keeps (r : LeaderRecord) (s : State) :
    (startOwnStep r s).power = s.power ∧ (startOwnStep r s).cfg = s.cfg ∧
    (startOwnStep r s).msq = s.msq ∧ (startOwnStep r s).mtr = s.mtr ∧
    (startOwnStep r s).mst = s.mst ∧ (startOwnStep r s).fresh = s.fresh ∧
    (startOwnStep r s).pending = s.pending := by
  unfold startOwnStep; dsimp only; (repeat' split) <;> simp

@[simp] theorem startStep_keeps (r : LeaderRecord) (s : State) :
    (startStep r s).power = s.power ∧ (startStep r s).cfg = s.cfg ∧ (startStep r s).msq = s.msq ∧
    (startStep r s).mtr = s.mtr ∧ (startStep r s).mst = s.mst ∧ (startStep r s).fresh = s.fresh ∧
    (startStep r s).pending = s.pending := by
  unfold startStep; dsimp only; (repeat' split) <;> simp

@[simp] theorem nextStep_keeps (r : LeaderRecord) (s : State) :
    (nextStep r s).power = s.power ∧ (nextStep r s).cfg = s.cfg ∧ (nextStep r s).msq = s.msq ∧
    (nextStep r s).mtr = s.mtr ∧ (nextStep r s).mst = s.mst ∧ (nextStep r s).fresh = s.fresh ∧
    (nextStep r s).pending = s.pending := by
  simp [nextStep]

@[simp] theorem startSweep_keeps (s : State) :
    (startSweep s).power = s.power ∧ (startSweep s).cfg = s.cfg ∧ (startSweep s).msq = s.msq ∧
    (startSweep s).mtr = s.mtr ∧ (startSweep s).mst = s.mst ∧ (startSweep s).fresh = s.fresh ∧
    (startSweep s).pending = s.pending := by
  simp [startSweep]

@[simp] theorem checkSweepStart_keeps (s : State) :
    (checkSweepStart s).power = s.power ∧ (checkSweepStart s).cfg = s.cfg ∧
    (checkSweepStart s).msq = s.msq ∧ (checkSweepStart s).mtr = s.mtr ∧
    (checkSweepStart s).mst = s.mst ∧ (checkSweepStart s).fresh = s.fresh ∧
    (checkSweepStart s).pending = s.pending := by
  unfold checkSweepStart; simp only [onlyIf]; (repeat' split) <;> simp

@[simp] theorem abandonSweep_keeps (s : State) :
    (abandonSweep s).power = s.power ∧ (abandonSweep s).cfg = s.cfg ∧
    (abandonSweep s).psq = s.psq ∧ (abandonSweep s).crg = s.crg ∧ (abandonSweep s).ptu = s.ptu ∧
    (abandonSweep s).msq = s.msq ∧ (abandonSweep s).htr = s.htr ∧ (abandonSweep s).mtr = s.mtr ∧
    (abandonSweep s).mst = s.mst ∧ (abandonSweep s).fresh = s.fresh ∧
    (abandonSweep s).pending = s.pending := by
  unfold abandonSweep; (repeat' split) <;> simp

@[simp] theorem yieldRole_keeps (s : State) :
    (yieldRole s).power = s.power ∧ (yieldRole s).cfg = s.cfg ∧ (yieldRole s).psq = s.psq ∧
    (yieldRole s).crg = s.crg ∧ (yieldRole s).ptu = s.ptu ∧ (yieldRole s).msq = s.msq ∧
    (yieldRole s).htr = s.htr ∧ (yieldRole s).mtr = s.mtr ∧ (yieldRole s).mst = s.mst ∧
    (yieldRole s).fresh = s.fresh ∧ (yieldRole s).pending = s.pending := by
  unfold yieldRole; (repeat' split) <;> simp

@[simp] theorem interference_keeps (s : State) :
    (interference s).power = s.power ∧ (interference s).cfg = s.cfg ∧
    (interference s).psq = s.psq ∧ (interference s).crg = s.crg ∧ (interference s).ptu = s.ptu ∧
    (interference s).msq = s.msq ∧ (interference s).htr = s.htr ∧ (interference s).mtr = s.mtr ∧
    (interference s).mst = s.mst ∧ (interference s).fresh = s.fresh ∧
    (interference s).pending = s.pending := by
  simp [interference]

@[simp] theorem takeRole_keeps (s : State) :
    (takeRole s).power = s.power ∧ (takeRole s).cfg = s.cfg ∧ (takeRole s).msq = s.msq ∧
    (takeRole s).mtr = s.mtr ∧ (takeRole s).mst = s.mst ∧ (takeRole s).fresh = s.fresh ∧
    (takeRole s).pending = s.pending := by
  simp [takeRole]

@[simp] theorem contactorClosed_keeps (s : State) :
    (contactorClosed s).power = s.power ∧ (contactorClosed s).cfg = s.cfg ∧
    (contactorClosed s).psq = s.psq ∧ (contactorClosed s).fli = s.fli ∧
    (contactorClosed s).msq = s.msq ∧ (contactorClosed s).mtr = s.mtr ∧
    (contactorClosed s).mst = s.mst ∧ (contactorClosed s).fresh = s.fresh ∧
    (contactorClosed s).pending = s.pending := by
  unfold contactorClosed; dsimp only; (repeat' split) <;> simp

@[simp] theorem forgetNet_keeps (s : State) :
    (forgetNet s).power = s.power ∧ (forgetNet s).cfg = s.cfg ∧ (forgetNet s).psq = s.psq ∧
    (forgetNet s).fli = s.fli ∧ (forgetNet s).shu = s.shu ∧ (forgetNet s).crg = s.crg ∧
    (forgetNet s).ptu = s.ptu ∧ (forgetNet s).msq = s.msq ∧ (forgetNet s).htr = s.htr ∧
    (forgetNet s).mtr = s.mtr ∧ (forgetNet s).mst = s.mst ∧ (forgetNet s).fresh = s.fresh ∧
    (forgetNet s).pending = s.pending := by
  unfold forgetNet; simp only [onlyIf]; (repeat' split) <;> simp

@[simp] theorem enterLocal_keeps (s : State) :
    (enterLocal s).power = s.power ∧ (enterLocal s).cfg = s.cfg ∧ (enterLocal s).psq = s.psq ∧
    (enterLocal s).fli = s.fli ∧ (enterLocal s).msq = s.msq ∧ (enterLocal s).mtr = s.mtr ∧
    (enterLocal s).mst = s.mst ∧ (enterLocal s).fresh = s.fresh ∧
    (enterLocal s).pending = s.pending := by
  simp [enterLocal]

@[simp] theorem loseRole_keeps (s : State) :
    (loseRole s).power = s.power ∧ (loseRole s).cfg = s.cfg ∧ (loseRole s).psq = s.psq ∧
    (loseRole s).crg = s.crg ∧ (loseRole s).ptu = s.ptu ∧ (loseRole s).msq = s.msq ∧
    (loseRole s).htr = s.htr ∧ (loseRole s).mtr = s.mtr ∧ (loseRole s).mst = s.mst ∧
    (loseRole s).fresh = s.fresh ∧ (loseRole s).pending = s.pending := by
  unfold loseRole; (repeat' split) <;> simp

@[simp] theorem contactorOpened_keeps (s : State) :
    (contactorOpened s).power = s.power ∧ (contactorOpened s).cfg = s.cfg ∧
    (contactorOpened s).psq = s.psq ∧ (contactorOpened s).msq = s.msq ∧
    (contactorOpened s).mtr = s.mtr ∧ (contactorOpened s).mst = s.mst ∧
    (contactorOpened s).fresh = s.fresh ∧ (contactorOpened s).pending = s.pending := by
  unfold contactorOpened; dsimp only; (repeat' split) <;> simp

@[simp] theorem releaseTarget_keeps (s : State) :
    (releaseTarget s).power = s.power ∧ (releaseTarget s).cfg = s.cfg ∧
    (releaseTarget s).fli = s.fli ∧ (releaseTarget s).crg = s.crg ∧ (releaseTarget s).ptu = s.ptu ∧
    (releaseTarget s).msq = s.msq ∧ (releaseTarget s).htr = s.htr ∧ (releaseTarget s).mtr = s.mtr ∧
    (releaseTarget s).mst = s.mst ∧ (releaseTarget s).fresh = s.fresh ∧
    (releaseTarget s).pending = s.pending := by
  unfold releaseTarget; dsimp only; (repeat' split) <;> simp

@[simp] theorem isolationReached_keeps (s : State) :
    (isolationReached s).power = s.power ∧ (isolationReached s).cfg = s.cfg ∧
    (isolationReached s).shu = s.shu ∧ (isolationReached s).crg = s.crg ∧
    (isolationReached s).ptu = s.ptu ∧ (isolationReached s).msq = s.msq ∧
    (isolationReached s).htr = s.htr ∧ (isolationReached s).mtr = s.mtr ∧
    (isolationReached s).mst = s.mst ∧ (isolationReached s).fresh = s.fresh ∧
    (isolationReached s).pending = s.pending := by
  unfold isolationReached; (repeat' split) <;> simp

@[simp] theorem leftSweep_keeps (s : State) :
    (leftSweep s).power = s.power ∧ (leftSweep s).cfg = s.cfg ∧ (leftSweep s).msq = s.msq ∧
    (leftSweep s).mtr = s.mtr ∧ (leftSweep s).mst = s.mst ∧ (leftSweep s).fresh = s.fresh ∧
    (leftSweep s).pending = s.pending := by
  unfold leftSweep; (repeat' split) <;> simp

@[simp] theorem leaveTarget_keeps (q : SeqState) (s : State) :
    (leaveTarget q s).power = s.power ∧ (leaveTarget q s).cfg = s.cfg ∧
    (leaveTarget q s).msq = s.msq ∧ (leaveTarget q s).mtr = s.mtr ∧ (leaveTarget q s).mst = s.mst ∧
    (leaveTarget q s).fresh = s.fresh ∧ (leaveTarget q s).pending = s.pending := by
  unfold leaveTarget; (repeat' split) <;> simp

/-! ## LineState -/

@[simp] theorem emptyPeers_keeps (s : State) :
    (emptyPeers s).power = s.power ∧ (emptyPeers s).cfg = s.cfg ∧ (emptyPeers s).psq = s.psq ∧
    (emptyPeers s).fli = s.fli ∧ (emptyPeers s).crg = s.crg ∧ (emptyPeers s).ptu = s.ptu ∧
    (emptyPeers s).msq = s.msq ∧ (emptyPeers s).htr = s.htr ∧ (emptyPeers s).imn = s.imn ∧
    (emptyPeers s).mtr = s.mtr ∧ (emptyPeers s).mst = s.mst ∧ (emptyPeers s).fresh = s.fresh ∧
    (emptyPeers s).pending = s.pending := by
  unfold emptyPeers; simp only [onlyIf]; (repeat' split) <;> simp

@[simp] theorem changeLine_keeps (target : LineState) (s : State) :
    (changeLine target s).power = s.power ∧ (changeLine target s).cfg = s.cfg ∧
    (changeLine target s).psq = s.psq ∧ (changeLine target s).crg = s.crg ∧
    (changeLine target s).ptu = s.ptu ∧ (changeLine target s).msq = s.msq ∧
    (changeLine target s).htr = s.htr ∧ (changeLine target s).mtr = s.mtr ∧
    (changeLine target s).mst = s.mst ∧ (changeLine target s).fresh = s.fresh ∧
    (changeLine target s).pending = s.pending := by
  unfold changeLine; simp only [onlyIf]; (repeat' split) <;> simp

@[simp] theorem refreshLine_keeps (s : State) :
    (refreshLine s).power = s.power ∧ (refreshLine s).cfg = s.cfg ∧ (refreshLine s).psq = s.psq ∧
    (refreshLine s).msq = s.msq ∧ (refreshLine s).mst = s.mst ∧ (refreshLine s).fresh = s.fresh ∧
    (refreshLine s).pending = s.pending := by
  unfold refreshLine; (repeat' split) <;> simp

@[simp] theorem forgetIdent_keeps (s : State) :
    (forgetIdent s).power = s.power ∧ (forgetIdent s).cfg = s.cfg ∧ (forgetIdent s).crg = s.crg ∧
    (forgetIdent s).ptu = s.ptu ∧ (forgetIdent s).msq = s.msq ∧ (forgetIdent s).htr = s.htr ∧
    (forgetIdent s).imn = s.imn ∧ (forgetIdent s).mtr = s.mtr ∧ (forgetIdent s).mst = s.mst ∧
    (forgetIdent s).cpt = s.cpt ∧ (forgetIdent s).fresh = s.fresh ∧
    (forgetIdent s).pending = s.pending := by
  simp [forgetIdent]

@[simp] theorem copyIdent_keeps (s : State) :
    (copyIdent s).power = s.power ∧ (copyIdent s).cfg = s.cfg ∧ (copyIdent s).psq = s.psq ∧
    (copyIdent s).fli = s.fli ∧ (copyIdent s).crg = s.crg ∧ (copyIdent s).ptu = s.ptu ∧
    (copyIdent s).msq = s.msq ∧ (copyIdent s).htr = s.htr ∧ (copyIdent s).imn = s.imn ∧
    (copyIdent s).mtr = s.mtr ∧ (copyIdent s).mst = s.mst ∧ (copyIdent s).cpt = s.cpt ∧
    (copyIdent s).fresh = s.fresh ∧ (copyIdent s).pending = s.pending := by
  simp [copyIdent]

@[simp] theorem identOnEntry_keeps (q : SeqState) (s : State) :
    (identOnEntry q s).power = s.power ∧ (identOnEntry q s).cfg = s.cfg ∧
    (identOnEntry q s).crg = s.crg ∧ (identOnEntry q s).ptu = s.ptu ∧
    (identOnEntry q s).msq = s.msq ∧ (identOnEntry q s).htr = s.htr ∧
    (identOnEntry q s).imn = s.imn ∧ (identOnEntry q s).mtr = s.mtr ∧
    (identOnEntry q s).mst = s.mst ∧ (identOnEntry q s).cpt = s.cpt ∧
    (identOnEntry q s).fresh = s.fresh ∧ (identOnEntry q s).pending = s.pending := by
  unfold identOnEntry; (repeat' split) <;> simp

@[simp] theorem enterSeq_keeps (q : SeqState) (s : State) :
    (enterSeq q s).power = s.power ∧ (enterSeq q s).cfg = s.cfg ∧ (enterSeq q s).msq = s.msq ∧
    (enterSeq q s).mst = s.mst ∧ (enterSeq q s).fresh = s.fresh ∧
    (enterSeq q s).pending = s.pending := by
  simp [enterSeq]

/-! ## Sequence -/

@[simp] theorem openContactor_keeps (s : State) :
    (openContactor s).power = s.power ∧ (openContactor s).cfg = s.cfg ∧
    (openContactor s).msq = s.msq ∧ (openContactor s).mtr = s.mtr ∧ (openContactor s).mst = s.mst ∧
    (openContactor s).fresh = s.fresh ∧ (openContactor s).pending = s.pending := by
  unfold openContactor; (repeat' split) <;> simp

@[simp] theorem openPrecharge_keeps (s : State) :
    (openPrecharge s).power = s.power ∧ (openPrecharge s).cfg = s.cfg ∧
    (openPrecharge s).fli = s.fli ∧ (openPrecharge s).shu = s.shu ∧ (openPrecharge s).crg = s.crg ∧
    (openPrecharge s).ptu = s.ptu ∧ (openPrecharge s).msq = s.msq ∧ (openPrecharge s).htr = s.htr ∧
    (openPrecharge s).imn = s.imn ∧ (openPrecharge s).mtr = s.mtr ∧ (openPrecharge s).mst = s.mst ∧
    (openPrecharge s).cpt = s.cpt ∧ (openPrecharge s).fresh = s.fresh ∧
    (openPrecharge s).pending = s.pending := by
  unfold openPrecharge; (repeat' split) <;> simp

@[simp] theorem openRelays_keeps (s : State) :
    (openRelays s).power = s.power ∧ (openRelays s).cfg = s.cfg ∧ (openRelays s).msq = s.msq ∧
    (openRelays s).mtr = s.mtr ∧ (openRelays s).mst = s.mst ∧ (openRelays s).fresh = s.fresh ∧
    (openRelays s).pending = s.pending := by
  simp [openRelays]

@[simp] theorem stopTimers_keeps (s : State) :
    (stopTimers s).power = s.power ∧ (stopTimers s).cfg = s.cfg ∧ (stopTimers s).fli = s.fli ∧
    (stopTimers s).shu = s.shu ∧ (stopTimers s).crg = s.crg ∧ (stopTimers s).ptu = s.ptu ∧
    (stopTimers s).msq = s.msq ∧ (stopTimers s).htr = s.htr ∧ (stopTimers s).imn = s.imn ∧
    (stopTimers s).mtr = s.mtr ∧ (stopTimers s).mst = s.mst ∧ (stopTimers s).cpt = s.cpt ∧
    (stopTimers s).fresh = s.fresh ∧ (stopTimers s).pending = s.pending := by
  simp [stopTimers]

@[simp] theorem forgetStop_keeps (s : State) :
    (forgetStop s).power = s.power ∧ (forgetStop s).cfg = s.cfg ∧ (forgetStop s).fli = s.fli ∧
    (forgetStop s).shu = s.shu ∧ (forgetStop s).crg = s.crg ∧ (forgetStop s).ptu = s.ptu ∧
    (forgetStop s).msq = s.msq ∧ (forgetStop s).htr = s.htr ∧ (forgetStop s).imn = s.imn ∧
    (forgetStop s).mtr = s.mtr ∧ (forgetStop s).mst = s.mst ∧ (forgetStop s).cpt = s.cpt ∧
    (forgetStop s).fresh = s.fresh ∧ (forgetStop s).pending = s.pending := by
  simp [forgetStop]

@[simp] theorem endSession_keeps (cause : EndCause) (s : State) :
    (endSession cause s).power = s.power ∧ (endSession cause s).cfg = s.cfg ∧
    (endSession cause s).psq = s.psq ∧ (endSession cause s).fli = s.fli ∧
    (endSession cause s).msq = s.msq ∧ (endSession cause s).imn = s.imn ∧
    (endSession cause s).fresh = s.fresh ∧ (endSession cause s).pending = s.pending := by
  simp [endSession]

@[simp] theorem enterFault_keeps (cause : FaultCause) (s : State) :
    (enterFault cause s).power = s.power ∧ (enterFault cause s).cfg = s.cfg ∧
    (enterFault cause s).msq = s.msq ∧ (enterFault cause s).fresh = s.fresh ∧
    (enterFault cause s).pending = s.pending := by
  simp [enterFault]

@[simp] theorem weldAtOnce_keeps (s : State) :
    (weldAtOnce s).power = s.power ∧ (weldAtOnce s).cfg = s.cfg ∧ (weldAtOnce s).msq = s.msq ∧
    (weldAtOnce s).fresh = s.fresh ∧ (weldAtOnce s).pending = s.pending := by
  unfold weldAtOnce; (repeat' split) <;> simp

@[simp] theorem tripTold_keeps (s : State) :
    (tripTold s).power = s.power ∧ (tripTold s).cfg = s.cfg ∧ (tripTold s).msq = s.msq ∧
    (tripTold s).fresh = s.fresh ∧ (tripTold s).pending = s.pending := by
  unfold tripTold; simp only [onlyIf]; (repeat' split) <;> simp

@[simp] theorem heaterTripped_keeps (s : State) :
    (heaterTripped s).power = s.power ∧ (heaterTripped s).cfg = s.cfg ∧
    (heaterTripped s).psq = s.psq ∧ (heaterTripped s).fli = s.fli ∧
    (heaterTripped s).shu = s.shu ∧ (heaterTripped s).crg = s.crg ∧
    (heaterTripped s).msq = s.msq ∧ (heaterTripped s).imn = s.imn ∧
    (heaterTripped s).mtr = s.mtr ∧ (heaterTripped s).mst = s.mst ∧
    (heaterTripped s).cpt = s.cpt ∧ (heaterTripped s).fresh = s.fresh ∧
    (heaterTripped s).pending = s.pending := by
  simp [heaterTripped]

@[simp] theorem setTrip_keeps (c : TripCause) (s : State) :
    (setTrip c s).power = s.power ∧ (setTrip c s).cfg = s.cfg ∧ (setTrip c s).msq = s.msq ∧
    (setTrip c s).fresh = s.fresh ∧ (setTrip c s).pending = s.pending := by
  simp [setTrip]

@[simp] theorem raiseTrip_keeps (c : TripCause) (s : State) :
    (raiseTrip c s).power = s.power ∧ (raiseTrip c s).cfg = s.cfg ∧ (raiseTrip c s).msq = s.msq ∧
    (raiseTrip c s).fresh = s.fresh ∧ (raiseTrip c s).pending = s.pending := by
  unfold raiseTrip; (repeat' split) <;> simp

@[simp] theorem finishStop_keeps (s : State) :
    (finishStop s).power = s.power ∧ (finishStop s).cfg = s.cfg ∧ (finishStop s).msq = s.msq ∧
    (finishStop s).fresh = s.fresh ∧ (finishStop s).pending = s.pending := by
  unfold finishStop; simp only [onlyIf]; (repeat' split) <;> simp

@[simp] theorem isolationOpen_keeps (s : State) :
    (isolationOpen s).power = s.power ∧ (isolationOpen s).cfg = s.cfg ∧
    (isolationOpen s).msq = s.msq ∧ (isolationOpen s).fresh = s.fresh ∧
    (isolationOpen s).pending = s.pending := by
  unfold isolationOpen; (repeat' split) <;> simp

@[simp] theorem contactorReadsOpen_keeps (s : State) :
    (contactorReadsOpen s).power = s.power ∧ (contactorReadsOpen s).cfg = s.cfg ∧
    (contactorReadsOpen s).msq = s.msq ∧ (contactorReadsOpen s).fresh = s.fresh ∧
    (contactorReadsOpen s).pending = s.pending := by
  unfold contactorReadsOpen; (repeat' split) <;> simp

@[simp] theorem rampDown_keeps (expired : Bool) (s : State) :
    (rampDown expired s).power = s.power ∧ (rampDown expired s).cfg = s.cfg ∧
    (rampDown expired s).msq = s.msq ∧ (rampDown expired s).fresh = s.fresh ∧
    (rampDown expired s).pending = s.pending := by
  unfold rampDown; dsimp only; (repeat' split) <;> simp

@[simp] theorem rejoinStopped_keeps (s : State) :
    (rejoinStopped s).power = s.power ∧ (rejoinStopped s).cfg = s.cfg ∧
    (rejoinStopped s).msq = s.msq ∧ (rejoinStopped s).fresh = s.fresh ∧
    (rejoinStopped s).pending = s.pending := by
  unfold rejoinStopped; (repeat' split) <;> simp

@[simp] theorem isolatedStop_keeps (s : State) :
    (isolatedStop s).power = s.power ∧ (isolatedStop s).cfg = s.cfg ∧
    (isolatedStop s).msq = s.msq ∧ (isolatedStop s).fresh = s.fresh ∧
    (isolatedStop s).pending = s.pending := by
  unfold isolatedStop; (repeat' split) <;> simp

@[simp] theorem recordIsolatedStop_keeps (cause : EndCause) (s : State) :
    (recordIsolatedStop cause s).power = s.power ∧ (recordIsolatedStop cause s).cfg = s.cfg ∧
    (recordIsolatedStop cause s).msq = s.msq ∧ (recordIsolatedStop cause s).fresh = s.fresh ∧
    (recordIsolatedStop cause s).pending = s.pending := by
  unfold recordIsolatedStop; simp only [onlyIf]; (repeat' split) <;> simp

@[simp] theorem startStop_keeps (cause : EndCause) (s : State) :
    (startStop cause s).power = s.power ∧ (startStop cause s).cfg = s.cfg ∧
    (startStop cause s).msq = s.msq ∧ (startStop cause s).mst = s.mst ∧
    (startStop cause s).fresh = s.fresh ∧ (startStop cause s).pending = s.pending := by
  simp [startStop]

@[simp] theorem stopRequest_keeps (cause : EndCause) (s : State) :
    (stopRequest cause s).power = s.power ∧ (stopRequest cause s).cfg = s.cfg ∧
    (stopRequest cause s).msq = s.msq ∧ (stopRequest cause s).fresh = s.fresh ∧
    (stopRequest cause s).pending = s.pending := by
  unfold stopRequest; (repeat' split) <;> simp

@[simp] theorem suspendRequest_keeps (s : State) :
    (suspendRequest s).power = s.power ∧ (suspendRequest s).cfg = s.cfg ∧
    (suspendRequest s).msq = s.msq ∧ (suspendRequest s).mst = s.mst ∧
    (suspendRequest s).fresh = s.fresh ∧ (suspendRequest s).pending = s.pending := by
  unfold suspendRequest; (repeat' split) <;> simp

@[simp] theorem takeRequest_keeps (r : Option MeterRequest) (s : State) :
    (takeRequest r s).power = s.power ∧ (takeRequest r s).cfg = s.cfg ∧
    (takeRequest r s).msq = s.msq ∧ (takeRequest r s).fresh = s.fresh ∧
    (takeRequest r s).pending = s.pending := by
  unfold takeRequest; (repeat' split) <;> simp

@[simp] theorem startPrecharge_keeps (s : State) :
    (startPrecharge s).power = s.power ∧ (startPrecharge s).cfg = s.cfg ∧
    (startPrecharge s).msq = s.msq ∧ (startPrecharge s).mst = s.mst ∧
    (startPrecharge s).fresh = s.fresh ∧ (startPrecharge s).pending = s.pending := by
  simp [startPrecharge]

@[simp] theorem joinNetwork_keeps (s : State) :
    (joinNetwork s).power = s.power ∧ (joinNetwork s).cfg = s.cfg ∧ (joinNetwork s).psq = s.psq ∧
    (joinNetwork s).fli = s.fli ∧ (joinNetwork s).msq = s.msq ∧ (joinNetwork s).mtr = s.mtr ∧
    (joinNetwork s).mst = s.mst ∧ (joinNetwork s).fresh = s.fresh ∧
    (joinNetwork s).pending = s.pending := by
  simp [joinNetwork]

@[simp] theorem becomeActive_keeps (s : State) :
    (becomeActive s).power = s.power ∧ (becomeActive s).cfg = s.cfg ∧
    (becomeActive s).msq = s.msq ∧ (becomeActive s).fresh = s.fresh ∧
    (becomeActive s).pending = s.pending := by
  simp [becomeActive]

@[simp] theorem rejoin_keeps (s : State) :
    (rejoin s).power = s.power ∧ (rejoin s).cfg = s.cfg ∧ (rejoin s).msq = s.msq ∧
    (rejoin s).mst = s.mst ∧ (rejoin s).fresh = s.fresh ∧ (rejoin s).pending = s.pending := by
  unfold rejoin; dsimp only; (repeat' split) <;> simp

@[simp] theorem contactorReadsClosed_keeps (s : State) :
    (contactorReadsClosed s).power = s.power ∧ (contactorReadsClosed s).cfg = s.cfg ∧
    (contactorReadsClosed s).msq = s.msq ∧ (contactorReadsClosed s).fresh = s.fresh ∧
    (contactorReadsClosed s).pending = s.pending := by
  unfold contactorReadsClosed; (repeat' split) <;> simp

@[simp] theorem prechargeResult_keeps (s : State) :
    (prechargeResult s).power = s.power ∧ (prechargeResult s).cfg = s.cfg ∧
    (prechargeResult s).msq = s.msq ∧ (prechargeResult s).fresh = s.fresh ∧
    (prechargeResult s).pending = s.pending := by
  unfold prechargeResult; (repeat' split) <;> simp

@[simp] theorem withdraw_keeps (s : State) :
    (withdraw s).power = s.power ∧ (withdraw s).cfg = s.cfg ∧ (withdraw s).msq = s.msq ∧
    (withdraw s).mst = s.mst ∧ (withdraw s).fresh = s.fresh ∧
    (withdraw s).pending = s.pending := by
  simp [withdraw]

@[simp] theorem cancelComplete_keeps (s : State) :
    (cancelComplete s).power = s.power ∧ (cancelComplete s).cfg = s.cfg ∧
    (cancelComplete s).msq = s.msq ∧ (cancelComplete s).mst = s.mst ∧
    (cancelComplete s).fresh = s.fresh ∧ (cancelComplete s).pending = s.pending := by
  unfold cancelComplete; simp only [onlyIf]; (repeat' split) <;> simp

@[simp] theorem ownFaultTold_keeps (s : State) :
    (ownFaultTold s).power = s.power ∧ (ownFaultTold s).cfg = s.cfg ∧
    (ownFaultTold s).msq = s.msq ∧ (ownFaultTold s).fresh = s.fresh ∧
    (ownFaultTold s).pending = s.pending := by
  unfold ownFaultTold; (repeat' split) <;> simp

@[simp] theorem plugSettled_keeps (s : State) :
    (plugSettled s).power = s.power ∧ (plugSettled s).cfg = s.cfg ∧ (plugSettled s).msq = s.msq ∧
    (plugSettled s).mst = s.mst ∧ (plugSettled s).fresh = s.fresh ∧
    (plugSettled s).pending = s.pending := by
  unfold plugSettled; (repeat' split) <;> simp

@[simp] theorem releaseButton_keeps (s : State) :
    (releaseButton s).power = s.power ∧ (releaseButton s).cfg = s.cfg ∧
    (releaseButton s).msq = s.msq ∧ (releaseButton s).fresh = s.fresh ∧
    (releaseButton s).pending = s.pending := by
  unfold releaseButton; (repeat' split) <;> simp

@[simp] theorem deadLoss_keeps (s : State) :
    (deadLoss s).power = s.power ∧ (deadLoss s).cfg = s.cfg ∧ (deadLoss s).msq = s.msq ∧
    (deadLoss s).fresh = s.fresh ∧ (deadLoss s).pending = s.pending := by
  simp [deadLoss]

@[simp] theorem endSupervisions_keeps (s : State) :
    (endSupervisions s).power = s.power ∧ (endSupervisions s).cfg = s.cfg ∧
    (endSupervisions s).fli = s.fli ∧ (endSupervisions s).shu = s.shu ∧
    (endSupervisions s).crg = s.crg ∧ (endSupervisions s).ptu = s.ptu ∧
    (endSupervisions s).msq = s.msq ∧ (endSupervisions s).htr = s.htr ∧
    (endSupervisions s).imn = s.imn ∧ (endSupervisions s).mtr = s.mtr ∧
    (endSupervisions s).mst = s.mst ∧ (endSupervisions s).cpt = s.cpt ∧
    (endSupervisions s).fresh = s.fresh ∧ (endSupervisions s).pending = s.pending := by
  simp [endSupervisions]

@[simp] theorem plugLost_keeps (s : State) :
    (plugLost s).power = s.power ∧ (plugLost s).cfg = s.cfg ∧ (plugLost s).msq = s.msq ∧
    (plugLost s).fresh = s.fresh ∧ (plugLost s).pending = s.pending := by
  unfold plugLost; (repeat' split) <;> simp

@[simp] theorem lossOfPlug_keeps (s : State) :
    (lossOfPlug s).power = s.power ∧ (lossOfPlug s).cfg = s.cfg ∧ (lossOfPlug s).msq = s.msq ∧
    (lossOfPlug s).fresh = s.fresh ∧ (lossOfPlug s).pending = s.pending := by
  simp [lossOfPlug]

@[simp] theorem detectPlug_keeps (old new : ProxLevel) (s : State) :
    (detectPlug old new s).power = s.power ∧ (detectPlug old new s).cfg = s.cfg ∧
    (detectPlug old new s).msq = s.msq ∧ (detectPlug old new s).mst = s.mst ∧
    (detectPlug old new s).fresh = s.fresh ∧ (detectPlug old new s).pending = s.pending := by
  unfold detectPlug; (repeat' split) <;> simp

@[simp] theorem takeProximity_keeps (v : Int) (s : State) :
    (takeProximity v s).power = s.power ∧ (takeProximity v s).cfg = s.cfg ∧
    (takeProximity v s).msq = s.msq ∧ (takeProximity v s).fresh = s.fresh ∧
    (takeProximity v s).pending = s.pending := by
  unfold takeProximity; dsimp only; (repeat' split) <;> simp

@[simp] theorem batteryResult_keeps (s : State) :
    (batteryResult s).power = s.power ∧ (batteryResult s).cfg = s.cfg ∧
    (batteryResult s).fli = s.fli ∧ (batteryResult s).shu = s.shu ∧ (batteryResult s).crg = s.crg ∧
    (batteryResult s).ptu = s.ptu ∧ (batteryResult s).msq = s.msq ∧ (batteryResult s).htr = s.htr ∧
    (batteryResult s).imn = s.imn ∧ (batteryResult s).mtr = s.mtr ∧ (batteryResult s).mst = s.mst ∧
    (batteryResult s).cpt = s.cpt ∧ (batteryResult s).fresh = s.fresh ∧
    (batteryResult s).pending = s.pending := by
  simp [batteryResult]

@[simp] theorem currentResult_keeps (s : State) :
    (currentResult s).power = s.power ∧ (currentResult s).cfg = s.cfg ∧
    (currentResult s).msq = s.msq ∧ (currentResult s).fresh = s.fresh ∧
    (currentResult s).pending = s.pending := by
  unfold currentResult; simp only [onlyIf]; (repeat' split) <;> simp

@[simp] theorem linkResult_keeps (s : State) :
    (linkResult s).power = s.power ∧ (linkResult s).cfg = s.cfg ∧ (linkResult s).msq = s.msq ∧
    (linkResult s).fresh = s.fresh ∧ (linkResult s).pending = s.pending := by
  unfold linkResult; simp only [onlyIf]; (repeat' split) <;> simp

/-! ## Plug -/

@[simp] theorem goIdentify_keeps (s : State) :
    (goIdentify s).power = s.power ∧ (goIdentify s).cfg = s.cfg ∧ (goIdentify s).msq = s.msq ∧
    (goIdentify s).mst = s.mst ∧ (goIdentify s).fresh = s.fresh ∧
    (goIdentify s).pending = s.pending := by
  unfold goIdentify; (repeat' split) <;> simp

@[simp] theorem identify_keeps (i : Identification) (s : State) :
    (identify i s).power = s.power ∧ (identify i s).cfg = s.cfg ∧ (identify i s).msq = s.msq ∧
    (identify i s).mst = s.mst ∧ (identify i s).fresh = s.fresh ∧
    (identify i s).pending = s.pending := by
  simp [identify]

@[simp] theorem takeCode_keeps (bits : List Bool) (s : State) :
    (takeCode bits s).power = s.power ∧ (takeCode bits s).cfg = s.cfg ∧
    (takeCode bits s).msq = s.msq ∧ (takeCode bits s).mst = s.mst ∧
    (takeCode bits s).fresh = s.fresh ∧ (takeCode bits s).pending = s.pending := by
  unfold takeCode; (repeat' split) <;> simp

@[simp] theorem pilotCodeComplete_keeps (s : State) :
    (pilotCodeComplete s).power = s.power ∧ (pilotCodeComplete s).cfg = s.cfg ∧
    (pilotCodeComplete s).msq = s.msq ∧ (pilotCodeComplete s).mst = s.mst ∧
    (pilotCodeComplete s).fresh = s.fresh ∧ (pilotCodeComplete s).pending = s.pending := by
  unfold pilotCodeComplete; (repeat' split) <;> simp

@[simp] theorem pilotEdge_keeps (span : PilotSpan) (width : Nat) (s : State) :
    (pilotEdge span width s).power = s.power ∧ (pilotEdge span width s).cfg = s.cfg ∧
    (pilotEdge span width s).msq = s.msq ∧ (pilotEdge span width s).mst = s.mst ∧
    (pilotEdge span width s).fresh = s.fresh ∧ (pilotEdge span width s).pending = s.pending := by
  unfold pilotEdge; dsimp only; (repeat' split) <;> simp

@[simp] theorem identTimeout_keeps (s : State) :
    (identTimeout s).power = s.power ∧ (identTimeout s).cfg = s.cfg ∧
    (identTimeout s).msq = s.msq ∧ (identTimeout s).fresh = s.fresh ∧
    (identTimeout s).pending = s.pending := by
  unfold identTimeout; (repeat' split) <;> simp

@[simp] theorem resume_keeps (s : State) :
    (resume s).power = s.power ∧ (resume s).cfg = s.cfg ∧ (resume s).msq = s.msq ∧
    (resume s).fresh = s.fresh ∧ (resume s).pending = s.pending := by
  simp [resume]

@[simp] theorem goEnergize_keeps (slot : Byte) (stamp : Word32) (s : State) :
    (goEnergize slot stamp s).power = s.power ∧ (goEnergize slot stamp s).cfg = s.cfg ∧
    (goEnergize slot stamp s).msq = s.msq ∧ (goEnergize slot stamp s).fresh = s.fresh ∧
    (goEnergize slot stamp s).pending = s.pending := by
  unfold goEnergize; dsimp only; (repeat' split) <;> simp

@[simp] theorem goStop_keeps (s : State) :
    (goStop s).power = s.power ∧ (goStop s).cfg = s.cfg ∧ (goStop s).msq = s.msq ∧
    (goStop s).fresh = s.fresh ∧ (goStop s).pending = s.pending := by
  unfold goStop; (repeat' split) <;> simp

@[simp] theorem dropIfEnergizing_keeps (s : State) :
    (dropIfEnergizing s).power = s.power ∧ (dropIfEnergizing s).cfg = s.cfg ∧
    (dropIfEnergizing s).psq = s.psq ∧ (dropIfEnergizing s).fli = s.fli ∧
    (dropIfEnergizing s).shu = s.shu ∧ (dropIfEnergizing s).crg = s.crg ∧
    (dropIfEnergizing s).ptu = s.ptu ∧ (dropIfEnergizing s).msq = s.msq ∧
    (dropIfEnergizing s).htr = s.htr ∧ (dropIfEnergizing s).imn = s.imn ∧
    (dropIfEnergizing s).mst = s.mst ∧ (dropIfEnergizing s).cpt = s.cpt ∧
    (dropIfEnergizing s).fresh = s.fresh ∧ (dropIfEnergizing s).pending = s.pending := by
  unfold dropIfEnergizing; simp only [onlyIf]; (repeat' split) <;> simp

@[simp] theorem idle_keeps (s : State) :
    (idle s).power = s.power ∧ (idle s).cfg = s.cfg ∧ (idle s).msq = s.msq ∧
    (idle s).fresh = s.fresh ∧ (idle s).pending = s.pending := by
  simp [idle]

@[simp] theorem idleFromFault_keeps (s : State) :
    (idleFromFault s).power = s.power ∧ (idleFromFault s).cfg = s.cfg ∧
    (idleFromFault s).msq = s.msq ∧ (idleFromFault s).mst = s.mst ∧
    (idleFromFault s).fresh = s.fresh ∧ (idleFromFault s).pending = s.pending := by
  unfold idleFromFault; (repeat' split) <;> simp

@[simp] theorem goIdle_keeps (s : State) :
    (goIdle s).power = s.power ∧ (goIdle s).cfg = s.cfg ∧ (goIdle s).msq = s.msq ∧
    (goIdle s).fresh = s.fresh ∧ (goIdle s).pending = s.pending := by
  unfold goIdle; (repeat' split) <;> simp

@[simp] theorem startCancel_keeps (s : State) :
    (startCancel s).power = s.power ∧ (startCancel s).cfg = s.cfg ∧ (startCancel s).msq = s.msq ∧
    (startCancel s).mst = s.mst ∧ (startCancel s).fresh = s.fresh ∧
    (startCancel s).pending = s.pending := by
  simp [startCancel]

@[simp] theorem cancel_keeps (s : State) :
    (cancel s).power = s.power ∧ (cancel s).cfg = s.cfg ∧ (cancel s).msq = s.msq ∧
    (cancel s).mst = s.mst ∧ (cancel s).fresh = s.fresh ∧ (cancel s).pending = s.pending := by
  unfold cancel; (repeat' split) <;> simp

@[simp] theorem prechargeTimeout_keeps (s : State) :
    (prechargeTimeout s).power = s.power ∧ (prechargeTimeout s).cfg = s.cfg ∧
    (prechargeTimeout s).msq = s.msq ∧ (prechargeTimeout s).fresh = s.fresh ∧
    (prechargeTimeout s).pending = s.pending := by
  unfold prechargeTimeout; (repeat' split) <;> simp

@[simp] theorem contactorTimeout_keeps (s : State) :
    (contactorTimeout s).power = s.power ∧ (contactorTimeout s).cfg = s.cfg ∧
    (contactorTimeout s).msq = s.msq ∧ (contactorTimeout s).fresh = s.fresh ∧
    (contactorTimeout s).pending = s.pending := by
  unfold contactorTimeout; (repeat' split) <;> simp

@[simp] theorem batteryLowTimeout_keeps (s : State) :
    (batteryLowTimeout s).power = s.power ∧ (batteryLowTimeout s).cfg = s.cfg ∧
    (batteryLowTimeout s).msq = s.msq ∧ (batteryLowTimeout s).fresh = s.fresh ∧
    (batteryLowTimeout s).pending = s.pending := by
  unfold batteryLowTimeout; (repeat' split) <;> simp

@[simp] theorem stopTimerExpiry_keeps (s : State) :
    (stopTimerExpiry s).power = s.power ∧ (stopTimerExpiry s).cfg = s.cfg ∧
    (stopTimerExpiry s).msq = s.msq ∧ (stopTimerExpiry s).fresh = s.fresh ∧
    (stopTimerExpiry s).pending = s.pending := by
  unfold stopTimerExpiry; (repeat' split) <;> simp

@[simp] theorem contactorCloses_keeps (s : State) :
    (contactorCloses s).power = s.power ∧ (contactorCloses s).cfg = s.cfg ∧
    (contactorCloses s).msq = s.msq ∧ (contactorCloses s).fresh = s.fresh ∧
    (contactorCloses s).pending = s.pending := by
  unfold contactorCloses; (repeat' split) <;> simp

@[simp] theorem contactorOpens_keeps (s : State) :
    (contactorOpens s).power = s.power ∧ (contactorOpens s).cfg = s.cfg ∧
    (contactorOpens s).msq = s.msq ∧ (contactorOpens s).fresh = s.fresh ∧
    (contactorOpens s).pending = s.pending := by
  simp [contactorOpens]

@[simp] theorem prechargeOpens_keeps (s : State) :
    (prechargeOpens s).power = s.power ∧ (prechargeOpens s).cfg = s.cfg ∧
    (prechargeOpens s).msq = s.msq ∧ (prechargeOpens s).fresh = s.fresh ∧
    (prechargeOpens s).pending = s.pending := by
  simp [prechargeOpens]

@[simp] theorem readContact_keeps (relay : PlugRelay) (closed : Bool) (s : State) :
    (readContact relay closed s).power = s.power ∧ (readContact relay closed s).cfg = s.cfg ∧
    (readContact relay closed s).fli = s.fli ∧ (readContact relay closed s).shu = s.shu ∧
    (readContact relay closed s).crg = s.crg ∧ (readContact relay closed s).ptu = s.ptu ∧
    (readContact relay closed s).msq = s.msq ∧ (readContact relay closed s).htr = s.htr ∧
    (readContact relay closed s).imn = s.imn ∧ (readContact relay closed s).mtr = s.mtr ∧
    (readContact relay closed s).mst = s.mst ∧ (readContact relay closed s).cpt = s.cpt ∧
    (readContact relay closed s).fresh = s.fresh ∧
    (readContact relay closed s).pending = s.pending := by
  unfold readContact; (repeat' split) <;> simp

@[simp] theorem relayFeedback_keeps (relay : PlugRelay) (closed : Bool) (s : State) :
    (relayFeedback relay closed s).power = s.power ∧ (relayFeedback relay closed s).cfg = s.cfg ∧
    (relayFeedback relay closed s).msq = s.msq ∧ (relayFeedback relay closed s).fresh = s.fresh ∧
    (relayFeedback relay closed s).pending = s.pending := by
  unfold relayFeedback; (repeat' split) <;> simp

@[simp] theorem supervisionExpiry_keeps (relay : PlugRelay) (s : State) :
    (supervisionExpiry relay s).power = s.power ∧ (supervisionExpiry relay s).cfg = s.cfg ∧
    (supervisionExpiry relay s).msq = s.msq ∧ (supervisionExpiry relay s).fresh = s.fresh ∧
    (supervisionExpiry relay s).pending = s.pending := by
  unfold supervisionExpiry; simp only [onlyIf]; (repeat' split) <;> simp

/-! ## Trip -/

@[simp] theorem deadTimeEnd_keeps (k : Leg) (s : State) :
    (deadTimeEnd k s).power = s.power ∧ (deadTimeEnd k s).cfg = s.cfg ∧
    (deadTimeEnd k s).msq = s.msq ∧ (deadTimeEnd k s).fresh = s.fresh ∧
    (deadTimeEnd k s).pending = s.pending := by
  unfold deadTimeEnd; simp only [onlyIf]; (repeat' split) <;> simp

@[simp] theorem setConflict_keeps (k : Leg) (c : ConflictTiming) (s : State) :
    (setConflict k c s).power = s.power ∧ (setConflict k c s).cfg = s.cfg ∧
    (setConflict k c s).psq = s.psq ∧ (setConflict k c s).fli = s.fli ∧
    (setConflict k c s).shu = s.shu ∧ (setConflict k c s).crg = s.crg ∧
    (setConflict k c s).msq = s.msq ∧ (setConflict k c s).htr = s.htr ∧
    (setConflict k c s).imn = s.imn ∧ (setConflict k c s).mtr = s.mtr ∧
    (setConflict k c s).mst = s.mst ∧ (setConflict k c s).cpt = s.cpt ∧
    (setConflict k c s).fresh = s.fresh ∧ (setConflict k c s).pending = s.pending := by
  simp [setConflict]

@[simp] theorem conflictExpiry_keeps (k : Leg) (s : State) :
    (conflictExpiry k s).power = s.power ∧ (conflictExpiry k s).cfg = s.cfg ∧
    (conflictExpiry k s).msq = s.msq ∧ (conflictExpiry k s).fresh = s.fresh ∧
    (conflictExpiry k s).pending = s.pending := by
  unfold conflictExpiry; (repeat' split) <;> simp

@[simp] theorem extFilterExpiry_keeps (s : State) :
    (extFilterExpiry s).power = s.power ∧ (extFilterExpiry s).cfg = s.cfg ∧
    (extFilterExpiry s).msq = s.msq ∧ (extFilterExpiry s).fresh = s.fresh ∧
    (extFilterExpiry s).pending = s.pending := by
  unfold extFilterExpiry; (repeat' split) <;> simp

@[simp] theorem gridExpiry_keeps (s : State) :
    (gridExpiry s).power = s.power ∧ (gridExpiry s).cfg = s.cfg ∧ (gridExpiry s).msq = s.msq ∧
    (gridExpiry s).fresh = s.fresh ∧ (gridExpiry s).pending = s.pending := by
  unfold gridExpiry; (repeat' split) <;> simp

@[simp] theorem meteringInterval_keeps (s : State) :
    (meteringInterval s).power = s.power ∧ (meteringInterval s).cfg = s.cfg ∧
    (meteringInterval s).msq = s.msq ∧ (meteringInterval s).fresh = s.fresh ∧
    (meteringInterval s).pending = s.pending := by
  unfold meteringInterval; dsimp only; (repeat' split) <;> simp

@[simp] theorem meterSample_keeps (s : State) :
    (meterSample s).power = s.power ∧ (meterSample s).cfg = s.cfg ∧ (meterSample s).msq = s.msq ∧
    (meterSample s).fresh = s.fresh ∧ (meterSample s).pending = s.pending := by
  simp [meterSample]
end Sys2Proof.Machine
end

