-- ==== Sys2Proof/Laws/FramesLine.lean ====
section
/-! SUPPORT. What each operation leaves as it is, block by block. -/

namespace Sys2Proof.Machine

/-! ## Monitor -/

@[simp] theorem setOwnFault_keeps (s : State) :
    (setOwnFault s).power = s.power ∧ (setOwnFault s).cfg = s.cfg ∧ (setOwnFault s).msq = s.msq ∧
    (setOwnFault s).fresh = s.fresh ∧ (setOwnFault s).pending = s.pending := by
  unfold setOwnFault; dsimp only; (repeat' split) <;> simp

@[simp] theorem passSelfCheck_keeps (s : State) :
    (passSelfCheck s).power = s.power ∧ (passSelfCheck s).cfg = s.cfg ∧
    (passSelfCheck s).psq = s.psq ∧ (passSelfCheck s).fli = s.fli ∧ (passSelfCheck s).shu = s.shu ∧
    (passSelfCheck s).crg = s.crg ∧ (passSelfCheck s).ptu = s.ptu ∧ (passSelfCheck s).msq = s.msq ∧
    (passSelfCheck s).htr = s.htr ∧ (passSelfCheck s).mtr = s.mtr ∧ (passSelfCheck s).mst = s.mst ∧
    (passSelfCheck s).fresh = s.fresh ∧ (passSelfCheck s).pending = s.pending := by
  simp [passSelfCheck]

@[simp] theorem selfCheckResult_keeps (rf passed : Nat) (s : State) :
    (selfCheckResult rf passed s).power = s.power ∧ (selfCheckResult rf passed s).cfg = s.cfg ∧
    (selfCheckResult rf passed s).psq = s.psq ∧ (selfCheckResult rf passed s).fli = s.fli ∧
    (selfCheckResult rf passed s).msq = s.msq ∧ (selfCheckResult rf passed s).mtr = s.mtr ∧
    (selfCheckResult rf passed s).mst = s.mst ∧ (selfCheckResult rf passed s).fresh = s.fresh ∧
    (selfCheckResult rf passed s).pending = s.pending := by
  unfold selfCheckResult; (repeat' split) <;> simp

@[simp] theorem passClearing_keeps (s : State) :
    (passClearing s).power = s.power ∧ (passClearing s).cfg = s.cfg ∧
    (passClearing s).psq = s.psq ∧ (passClearing s).fli = s.fli ∧ (passClearing s).shu = s.shu ∧
    (passClearing s).crg = s.crg ∧ (passClearing s).ptu = s.ptu ∧ (passClearing s).msq = s.msq ∧
    (passClearing s).htr = s.htr ∧ (passClearing s).mtr = s.mtr ∧ (passClearing s).mst = s.mst ∧
    (passClearing s).fresh = s.fresh ∧ (passClearing s).pending = s.pending := by
  simp [passClearing]

@[simp] theorem clearingResult_keeps (rf : Nat) (s : State) :
    (clearingResult rf s).power = s.power ∧ (clearingResult rf s).cfg = s.cfg ∧
    (clearingResult rf s).psq = s.psq ∧ (clearingResult rf s).fli = s.fli ∧
    (clearingResult rf s).msq = s.msq ∧ (clearingResult rf s).mtr = s.mtr ∧
    (clearingResult rf s).mst = s.mst ∧ (clearingResult rf s).fresh = s.fresh ∧
    (clearingResult rf s).pending = s.pending := by
  unfold clearingResult; (repeat' split) <;> simp

@[simp] theorem ownStepResult_keeps (r : LeaderRecord) (s : State) :
    (ownStepResult r s).power = s.power ∧ (ownStepResult r s).cfg = s.cfg ∧
    (ownStepResult r s).msq = s.msq ∧ (ownStepResult r s).fresh = s.fresh ∧
    (ownStepResult r s).pending = s.pending := by
  unfold ownStepResult; (repeat' split) <;> simp

@[simp] theorem noteVerdict_keeps (rf : Nat) (s : State) :
    (noteVerdict rf s).power = s.power ∧ (noteVerdict rf s).cfg = s.cfg ∧
    (noteVerdict rf s).psq = s.psq ∧ (noteVerdict rf s).fli = s.fli ∧
    (noteVerdict rf s).shu = s.shu ∧ (noteVerdict rf s).crg = s.crg ∧
    (noteVerdict rf s).ptu = s.ptu ∧ (noteVerdict rf s).msq = s.msq ∧
    (noteVerdict rf s).htr = s.htr ∧ (noteVerdict rf s).mtr = s.mtr ∧
    (noteVerdict rf s).mst = s.mst ∧ (noteVerdict rf s).cpt = s.cpt ∧
    (noteVerdict rf s).fresh = s.fresh ∧ (noteVerdict rf s).pending = s.pending := by
  simp [noteVerdict]

@[simp] theorem ownConsequence_keeps (before : Evaluation) (s : State) :
    (ownConsequence before s).power = s.power ∧ (ownConsequence before s).cfg = s.cfg ∧
    (ownConsequence before s).msq = s.msq ∧ (ownConsequence before s).fresh = s.fresh ∧
    (ownConsequence before s).pending = s.pending := by
  unfold ownConsequence; simp only [onlyIf]; (repeat' split) <;> simp

@[simp] theorem localResult_keeps (r : InsResult) (s : State) :
    (localResult r s).power = s.power ∧ (localResult r s).cfg = s.cfg ∧
    (localResult r s).msq = s.msq ∧ (localResult r s).fresh = s.fresh ∧
    (localResult r s).pending = s.pending := by
  unfold localResult; simp only [onlyIf]; (repeat' split) <;> simp

@[simp] theorem measureFault_keeps (s : State) :
    (measureFault s).power = s.power ∧ (measureFault s).cfg = s.cfg ∧
    (measureFault s).psq = s.psq ∧ (measureFault s).fli = s.fli ∧ (measureFault s).shu = s.shu ∧
    (measureFault s).crg = s.crg ∧ (measureFault s).ptu = s.ptu ∧ (measureFault s).msq = s.msq ∧
    (measureFault s).htr = s.htr ∧ (measureFault s).mtr = s.mtr ∧ (measureFault s).mst = s.mst ∧
    (measureFault s).fresh = s.fresh ∧ (measureFault s).pending = s.pending := by
  simp [measureFault]

@[simp] theorem decideStep_keeps (rf : Nat) (r : LeaderRecord) (s : State) :
    (decideStep rf r s).power = s.power ∧ (decideStep rf r s).cfg = s.cfg ∧
    (decideStep rf r s).msq = s.msq ∧ (decideStep rf r s).mtr = s.mtr ∧
    (decideStep rf r s).mst = s.mst ∧ (decideStep rf r s).fresh = s.fresh ∧
    (decideStep rf r s).pending = s.pending := by
  unfold decideStep; (repeat' split) <;> simp

@[simp] theorem alarmChange_keeps (before : Evaluation) (s : State) :
    (alarmChange before s).power = s.power ∧ (alarmChange before s).cfg = s.cfg ∧
    (alarmChange before s).msq = s.msq ∧ (alarmChange before s).mtr = s.mtr ∧
    (alarmChange before s).mst = s.mst ∧ (alarmChange before s).fresh = s.fresh ∧
    (alarmChange before s).pending = s.pending := by
  unfold alarmChange; simp only [onlyIf]; (repeat' split) <;> simp

@[simp] theorem jointResult_keeps (r : InsResult) (s : State) :
    (jointResult r s).power = s.power ∧ (jointResult r s).cfg = s.cfg ∧
    (jointResult r s).msq = s.msq ∧ (jointResult r s).mst = s.mst ∧
    (jointResult r s).fresh = s.fresh ∧ (jointResult r s).pending = s.pending := by
  unfold jointResult; dsimp only; (repeat' split) <;> simp

@[simp] theorem cycleOutcome_keeps (uPlus uMinus : Int) (estimate : Bool) (s : State) :
    (cycleOutcome uPlus uMinus estimate s).power = s.power ∧
    (cycleOutcome uPlus uMinus estimate s).cfg = s.cfg ∧
    (cycleOutcome uPlus uMinus estimate s).msq = s.msq ∧
    (cycleOutcome uPlus uMinus estimate s).fresh = s.fresh ∧
    (cycleOutcome uPlus uMinus estimate s).pending = s.pending := by
  unfold cycleOutcome; dsimp only; (repeat' split) <;> simp

@[simp] theorem announceHalf_keeps (h : CycleHalf) (s : State) :
    (announceHalf h s).power = s.power ∧ (announceHalf h s).cfg = s.cfg ∧
    (announceHalf h s).psq = s.psq ∧ (announceHalf h s).shu = s.shu ∧
    (announceHalf h s).crg = s.crg ∧ (announceHalf h s).ptu = s.ptu ∧
    (announceHalf h s).msq = s.msq ∧ (announceHalf h s).htr = s.htr ∧
    (announceHalf h s).mtr = s.mtr ∧ (announceHalf h s).mst = s.mst ∧
    (announceHalf h s).cpt = s.cpt ∧ (announceHalf h s).fresh = s.fresh ∧
    (announceHalf h s).pending = s.pending := by
  unfold announceHalf; dsimp only; (repeat' split) <;> simp

@[simp] theorem endCycle_keeps (v : Int) (c : Cycle) (s : State) :
    (endCycle v c s).power = s.power ∧ (endCycle v c s).cfg = s.cfg ∧
    (endCycle v c s).msq = s.msq ∧ (endCycle v c s).fresh = s.fresh ∧
    (endCycle v c s).pending = s.pending := by
  unfold endCycle; dsimp only; (repeat' split) <;> simp

@[simp] theorem sampleHalf_keeps (v : Int) (c : Cycle) (s : State) :
    (sampleHalf v c s).power = s.power ∧ (sampleHalf v c s).cfg = s.cfg ∧
    (sampleHalf v c s).msq = s.msq ∧ (sampleHalf v c s).fresh = s.fresh ∧
    (sampleHalf v c s).pending = s.pending := by
  unfold sampleHalf; dsimp only; (repeat' split) <;> simp

@[simp] theorem takeViso_keeps (v : Int) (s : State) :
    (takeViso v s).power = s.power ∧ (takeViso v s).cfg = s.cfg ∧ (takeViso v s).msq = s.msq ∧
    (takeViso v s).fresh = s.fresh ∧ (takeViso v s).pending = s.pending := by
  unfold takeViso; (repeat' split) <;> simp

@[simp] theorem hearMeasurer_keeps (s : State) :
    (hearMeasurer s).power = s.power ∧ (hearMeasurer s).cfg = s.cfg ∧
    (hearMeasurer s).psq = s.psq ∧ (hearMeasurer s).fli = s.fli ∧ (hearMeasurer s).shu = s.shu ∧
    (hearMeasurer s).crg = s.crg ∧ (hearMeasurer s).ptu = s.ptu ∧ (hearMeasurer s).msq = s.msq ∧
    (hearMeasurer s).htr = s.htr ∧ (hearMeasurer s).mtr = s.mtr ∧ (hearMeasurer s).mst = s.mst ∧
    (hearMeasurer s).cpt = s.cpt ∧ (hearMeasurer s).fresh = s.fresh ∧
    (hearMeasurer s).pending = s.pending := by
  simp [hearMeasurer]

@[simp] theorem takeMeasureStart_keeps (s : State) :
    (takeMeasureStart s).power = s.power ∧ (takeMeasureStart s).cfg = s.cfg ∧
    (takeMeasureStart s).psq = s.psq ∧ (takeMeasureStart s).crg = s.crg ∧
    (takeMeasureStart s).ptu = s.ptu ∧ (takeMeasureStart s).msq = s.msq ∧
    (takeMeasureStart s).htr = s.htr ∧ (takeMeasureStart s).mtr = s.mtr ∧
    (takeMeasureStart s).mst = s.mst ∧ (takeMeasureStart s).fresh = s.fresh ∧
    (takeMeasureStart s).pending = s.pending := by
  unfold takeMeasureStart; dsimp only; (repeat' split) <;> simp

@[simp] theorem takeMeasureResult_keeps (rf : Nat) (estimate : Bool) (s : State) :
    (takeMeasureResult rf estimate s).power = s.power ∧
    (takeMeasureResult rf estimate s).cfg = s.cfg ∧ (takeMeasureResult rf estimate s).psq = s.psq ∧
    (takeMeasureResult rf estimate s).fli = s.fli ∧ (takeMeasureResult rf estimate s).shu = s.shu ∧
    (takeMeasureResult rf estimate s).crg = s.crg ∧ (takeMeasureResult rf estimate s).ptu = s.ptu ∧
    (takeMeasureResult rf estimate s).msq = s.msq ∧ (takeMeasureResult rf estimate s).htr = s.htr ∧
    (takeMeasureResult rf estimate s).mst = s.mst ∧
    (takeMeasureResult rf estimate s).fresh = s.fresh ∧
    (takeMeasureResult rf estimate s).pending = s.pending := by
  unfold takeMeasureResult; dsimp only; (repeat' split) <;> simp

@[simp] theorem follow_keeps (leader : Nat) (s : State) :
    (follow leader s).power = s.power ∧ (follow leader s).cfg = s.cfg ∧
    (follow leader s).psq = s.psq ∧ (follow leader s).fli = s.fli ∧ (follow leader s).shu = s.shu ∧
    (follow leader s).crg = s.crg ∧ (follow leader s).ptu = s.ptu ∧ (follow leader s).msq = s.msq ∧
    (follow leader s).htr = s.htr ∧ (follow leader s).mtr = s.mtr ∧ (follow leader s).mst = s.mst ∧
    (follow leader s).fresh = s.fresh ∧ (follow leader s).pending = s.pending := by
  simp [follow]

@[simp] theorem takeAlert_keeps (sender : Nat) (s : State) :
    (takeAlert sender s).power = s.power ∧ (takeAlert sender s).cfg = s.cfg ∧
    (takeAlert sender s).psq = s.psq ∧ (takeAlert sender s).fli = s.fli ∧
    (takeAlert sender s).shu = s.shu ∧ (takeAlert sender s).crg = s.crg ∧
    (takeAlert sender s).ptu = s.ptu ∧ (takeAlert sender s).msq = s.msq ∧
    (takeAlert sender s).htr = s.htr ∧ (takeAlert sender s).mtr = s.mtr ∧
    (takeAlert sender s).mst = s.mst ∧ (takeAlert sender s).fresh = s.fresh ∧
    (takeAlert sender s).pending = s.pending := by
  unfold takeAlert; (repeat' split) <;> simp

@[simp] theorem answerSweep_keeps (code : Byte) (s : State) :
    (answerSweep code s).power = s.power ∧ (answerSweep code s).cfg = s.cfg ∧
    (answerSweep code s).psq = s.psq ∧ (answerSweep code s).shu = s.shu ∧
    (answerSweep code s).crg = s.crg ∧ (answerSweep code s).ptu = s.ptu ∧
    (answerSweep code s).msq = s.msq ∧ (answerSweep code s).htr = s.htr ∧
    (answerSweep code s).imn = s.imn ∧ (answerSweep code s).mtr = s.mtr ∧
    (answerSweep code s).mst = s.mst ∧ (answerSweep code s).cpt = s.cpt ∧
    (answerSweep code s).fresh = s.fresh ∧ (answerSweep code s).pending = s.pending := by
  simp [answerSweep]

@[simp] theorem becomeTarget_keeps (index : Nat) (s : State) :
    (becomeTarget index s).power = s.power ∧ (becomeTarget index s).cfg = s.cfg ∧
    (becomeTarget index s).msq = s.msq ∧ (becomeTarget index s).mtr = s.mtr ∧
    (becomeTarget index s).mst = s.mst ∧ (becomeTarget index s).fresh = s.fresh ∧
    (becomeTarget index s).pending = s.pending := by
  unfold becomeTarget; (repeat' split) <;> simp

@[simp] theorem serveStep_keeps (target index : Nat) (s : State) :
    (serveStep target index s).power = s.power ∧ (serveStep target index s).cfg = s.cfg ∧
    (serveStep target index s).msq = s.msq ∧ (serveStep target index s).mtr = s.mtr ∧
    (serveStep target index s).mst = s.mst ∧ (serveStep target index s).fresh = s.fresh ∧
    (serveStep target index s).pending = s.pending := by
  unfold serveStep; (repeat' split) <;> simp

@[simp] theorem takeSweepStep_keeps (sender target index : Nat) (s : State) :
    (takeSweepStep sender target index s).power = s.power ∧
    (takeSweepStep sender target index s).cfg = s.cfg ∧
    (takeSweepStep sender target index s).msq = s.msq ∧
    (takeSweepStep sender target index s).mtr = s.mtr ∧
    (takeSweepStep sender target index s).mst = s.mst ∧
    (takeSweepStep sender target index s).fresh = s.fresh ∧
    (takeSweepStep sender target index s).pending = s.pending := by
  unfold takeSweepStep; (repeat' split) <;> simp

@[simp] theorem takeSweepAnswer_keeps (sender code : Nat) (s : State) :
    (takeSweepAnswer sender code s).power = s.power ∧ (takeSweepAnswer sender code s).cfg = s.cfg ∧
    (takeSweepAnswer sender code s).msq = s.msq ∧ (takeSweepAnswer sender code s).mtr = s.mtr ∧
    (takeSweepAnswer sender code s).mst = s.mst ∧ (takeSweepAnswer sender code s).fresh = s.fresh ∧
    (takeSweepAnswer sender code s).pending = s.pending := by
  unfold takeSweepAnswer; dsimp only; (repeat' split) <;> simp

@[simp] theorem foundHere_keeps (o : SweepOutcome) (s : State) :
    (foundHere o s).power = s.power ∧ (foundHere o s).cfg = s.cfg ∧ (foundHere o s).msq = s.msq ∧
    (foundHere o s).fresh = s.fresh ∧ (foundHere o s).pending = s.pending := by
  unfold foundHere; simp only [onlyIf]; (repeat' split) <;> simp

@[simp] theorem takeResult_keeps (o : SweepOutcome) (s : State) :
    (takeResult o s).power = s.power ∧ (takeResult o s).cfg = s.cfg ∧
    (takeResult o s).msq = s.msq ∧ (takeResult o s).fresh = s.fresh ∧
    (takeResult o s).pending = s.pending := by
  unfold takeResult; dsimp only; (repeat' split) <;> simp

@[simp] theorem takeSweepResult_keeps (sender code found : Nat) (s : State) :
    (takeSweepResult sender code found s).power = s.power ∧
    (takeSweepResult sender code found s).cfg = s.cfg ∧
    (takeSweepResult sender code found s).msq = s.msq ∧
    (takeSweepResult sender code found s).fresh = s.fresh ∧
    (takeSweepResult sender code found s).pending = s.pending := by
  unfold takeSweepResult; (repeat' split) <;> simp

@[simp] theorem unmonitoredExpiry_keeps (s : State) :
    (unmonitoredExpiry s).power = s.power ∧ (unmonitoredExpiry s).cfg = s.cfg ∧
    (unmonitoredExpiry s).psq = s.psq ∧ (unmonitoredExpiry s).fli = s.fli ∧
    (unmonitoredExpiry s).shu = s.shu ∧ (unmonitoredExpiry s).crg = s.crg ∧
    (unmonitoredExpiry s).ptu = s.ptu ∧ (unmonitoredExpiry s).msq = s.msq ∧
    (unmonitoredExpiry s).htr = s.htr ∧ (unmonitoredExpiry s).mtr = s.mtr ∧
    (unmonitoredExpiry s).mst = s.mst ∧ (unmonitoredExpiry s).fresh = s.fresh ∧
    (unmonitoredExpiry s).pending = s.pending := by
  unfold unmonitoredExpiry; (repeat' split) <;> simp

@[simp] theorem sweepAnswerTimeout_keeps (s : State) :
    (sweepAnswerTimeout s).power = s.power ∧ (sweepAnswerTimeout s).cfg = s.cfg ∧
    (sweepAnswerTimeout s).msq = s.msq ∧ (sweepAnswerTimeout s).mtr = s.mtr ∧
    (sweepAnswerTimeout s).mst = s.mst ∧ (sweepAnswerTimeout s).fresh = s.fresh ∧
    (sweepAnswerTimeout s).pending = s.pending := by
  unfold sweepAnswerTimeout; (repeat' split) <;> simp

@[simp] theorem sweepCycleTimeout_keeps (s : State) :
    (sweepCycleTimeout s).power = s.power ∧ (sweepCycleTimeout s).cfg = s.cfg ∧
    (sweepCycleTimeout s).msq = s.msq ∧ (sweepCycleTimeout s).mtr = s.mtr ∧
    (sweepCycleTimeout s).mst = s.mst ∧ (sweepCycleTimeout s).fresh = s.fresh ∧
    (sweepCycleTimeout s).pending = s.pending := by
  unfold sweepCycleTimeout; (repeat' split) <;> simp

@[simp] theorem leaderSilenceExpiry_keeps (s : State) :
    (leaderSilenceExpiry s).power = s.power ∧ (leaderSilenceExpiry s).cfg = s.cfg ∧
    (leaderSilenceExpiry s).msq = s.msq ∧ (leaderSilenceExpiry s).mtr = s.mtr ∧
    (leaderSilenceExpiry s).mst = s.mst ∧ (leaderSilenceExpiry s).fresh = s.fresh ∧
    (leaderSilenceExpiry s).pending = s.pending := by
  unfold leaderSilenceExpiry; (repeat' split) <;> simp

@[simp] theorem sweepHoldExpiry_keeps (s : State) :
    (sweepHoldExpiry s).power = s.power ∧ (sweepHoldExpiry s).cfg = s.cfg ∧
    (sweepHoldExpiry s).msq = s.msq ∧ (sweepHoldExpiry s).mtr = s.mtr ∧
    (sweepHoldExpiry s).mst = s.mst ∧ (sweepHoldExpiry s).fresh = s.fresh ∧
    (sweepHoldExpiry s).pending = s.pending := by
  unfold sweepHoldExpiry; (repeat' split) <;> simp

@[simp] theorem startClearing_keeps (s : State) :
    (startClearing s).power = s.power ∧ (startClearing s).cfg = s.cfg ∧
    (startClearing s).psq = s.psq ∧ (startClearing s).fli = s.fli ∧ (startClearing s).msq = s.msq ∧
    (startClearing s).mtr = s.mtr ∧ (startClearing s).mst = s.mst ∧ (startClearing s).cpt = s.cpt ∧
    (startClearing s).fresh = s.fresh ∧ (startClearing s).pending = s.pending := by
  unfold startClearing; simp only [onlyIf]; (repeat' split) <;> simp

@[simp] theorem clearInsulation_keeps (s : State) :
    (clearInsulation s).power = s.power ∧ (clearInsulation s).cfg = s.cfg ∧
    (clearInsulation s).psq = s.psq ∧ (clearInsulation s).fli = s.fli ∧
    (clearInsulation s).msq = s.msq ∧ (clearInsulation s).mtr = s.mtr ∧
    (clearInsulation s).mst = s.mst ∧ (clearInsulation s).fresh = s.fresh ∧
    (clearInsulation s).pending = s.pending := by
  unfold clearInsulation; (repeat' split) <;> simp

@[simp] theorem readInsulation_keeps (s : State) :
    (readInsulation s).power = s.power ∧ (readInsulation s).cfg = s.cfg ∧
    (readInsulation s).psq = s.psq ∧ (readInsulation s).fli = s.fli ∧
    (readInsulation s).shu = s.shu ∧ (readInsulation s).crg = s.crg ∧
    (readInsulation s).ptu = s.ptu ∧ (readInsulation s).msq = s.msq ∧
    (readInsulation s).htr = s.htr ∧ (readInsulation s).imn = s.imn ∧
    (readInsulation s).mtr = s.mtr ∧ (readInsulation s).mst = s.mst ∧
    (readInsulation s).pending = s.pending := by
  simp [readInsulation]

/-! ## Delivery -/

@[simp] theorem putEntry_keeps (e : PeerEntry) (extra : Bool) (s : State) :
    (putEntry e extra s).power = s.power ∧ (putEntry e extra s).cfg = s.cfg ∧
    (putEntry e extra s).psq = s.psq ∧ (putEntry e extra s).fli = s.fli ∧
    (putEntry e extra s).msq = s.msq ∧ (putEntry e extra s).imn = s.imn ∧
    (putEntry e extra s).mst = s.mst ∧ (putEntry e extra s).fresh = s.fresh ∧
    (putEntry e extra s).pending = s.pending := by
  unfold putEntry; dsimp only; (repeat' split) <;> simp

@[simp] theorem takeBeacon_keeps (station feeder : Nat) (demand draw : Word16) (flags : Byte)
    (resistance : Word16) (leader : Byte) (s : State) :
    (takeBeacon station feeder demand draw flags resistance leader s).power = s.power ∧
    (takeBeacon station feeder demand draw flags resistance leader s).cfg = s.cfg ∧
    (takeBeacon station feeder demand draw flags resistance leader s).psq = s.psq ∧
    (takeBeacon station feeder demand draw flags resistance leader s).fli = s.fli ∧
    (takeBeacon station feeder demand draw flags resistance leader s).msq = s.msq ∧
    (takeBeacon station feeder demand draw flags resistance leader s).imn = s.imn ∧
    (takeBeacon station feeder demand draw flags resistance leader s).mst = s.mst ∧
    (takeBeacon station feeder demand draw flags resistance leader s).fresh = s.fresh ∧
    (takeBeacon station feeder demand draw flags resistance leader s).pending = s.pending := by
  unfold takeBeacon; dsimp only; (repeat' split) <;> simp

@[simp] theorem takeLeave_keeps (station : Nat) (s : State) :
    (takeLeave station s).power = s.power ∧ (takeLeave station s).cfg = s.cfg ∧
    (takeLeave station s).psq = s.psq ∧ (takeLeave station s).fli = s.fli ∧
    (takeLeave station s).msq = s.msq ∧ (takeLeave station s).imn = s.imn ∧
    (takeLeave station s).mst = s.mst ∧ (takeLeave station s).fresh = s.fresh ∧
    (takeLeave station s).pending = s.pending := by
  unfold takeLeave; (repeat' split) <;> simp

@[simp] theorem electionAtBeacon_keeps (station : Nat) (measurer : Bool) (s : State) :
    (electionAtBeacon station measurer s).power = s.power ∧
    (electionAtBeacon station measurer s).cfg = s.cfg ∧
    (electionAtBeacon station measurer s).psq = s.psq ∧
    (electionAtBeacon station measurer s).crg = s.crg ∧
    (electionAtBeacon station measurer s).ptu = s.ptu ∧
    (electionAtBeacon station measurer s).msq = s.msq ∧
    (electionAtBeacon station measurer s).htr = s.htr ∧
    (electionAtBeacon station measurer s).mtr = s.mtr ∧
    (electionAtBeacon station measurer s).mst = s.mst ∧
    (electionAtBeacon station measurer s).fresh = s.fresh ∧
    (electionAtBeacon station measurer s).pending = s.pending := by
  unfold electionAtBeacon; simp only [onlyIf]; (repeat' split) <;> simp

@[simp] theorem deliver_keeps (f : Frame) (s : State) :
    (deliver f s).power = s.power ∧ (deliver f s).cfg = s.cfg ∧ (deliver f s).msq = s.msq ∧
    (deliver f s).fresh = s.fresh ∧ (deliver f s).pending = s.pending := by
  unfold deliver; dsimp only; (repeat' split) <;> simp

@[simp] theorem route_keeps (f : Frame) (s : State) :
    (route f s).power = s.power ∧ (route f s).cfg = s.cfg ∧ (route f s).msq = s.msq ∧
    (route f s).fresh = s.fresh ∧ (route f s).pending = s.pending := by
  unfold route; (repeat' split) <;> simp

@[simp] theorem detectDuplicate_keeps (station : BitVec 6) (s : State) :
    (detectDuplicate station s).power = s.power ∧ (detectDuplicate station s).cfg = s.cfg ∧
    (detectDuplicate station s).psq = s.psq ∧ (detectDuplicate station s).msq = s.msq ∧
    (detectDuplicate station s).mst = s.mst ∧ (detectDuplicate station s).fresh = s.fresh ∧
    (detectDuplicate station s).pending = s.pending := by
  unfold detectDuplicate; simp only [onlyIf]; (repeat' split) <;> simp

@[simp] theorem driveAck_keeps (s : State) :
    (driveAck s).power = s.power ∧ (driveAck s).cfg = s.cfg ∧ (driveAck s).psq = s.psq ∧
    (driveAck s).shu = s.shu ∧ (driveAck s).crg = s.crg ∧ (driveAck s).ptu = s.ptu ∧
    (driveAck s).msq = s.msq ∧ (driveAck s).htr = s.htr ∧ (driveAck s).imn = s.imn ∧
    (driveAck s).mtr = s.mtr ∧ (driveAck s).mst = s.mst ∧ (driveAck s).cpt = s.cpt ∧
    (driveAck s).fresh = s.fresh ∧ (driveAck s).pending = s.pending := by
  simp [driveAck]

@[simp] theorem takeGood_keeps (station : BitVec 6) (frame : Option Frame) (s : State) :
    (takeGood station frame s).power = s.power ∧ (takeGood station frame s).cfg = s.cfg ∧
    (takeGood station frame s).msq = s.msq ∧ (takeGood station frame s).fresh = s.fresh ∧
    (takeGood station frame s).pending = s.pending := by
  unfold takeGood; dsimp only; (repeat' split) <;> simp

@[simp] theorem receive_keeps (f : Frame) (s : State) :
    (receive f s).power = s.power ∧ (receive f s).cfg = s.cfg ∧ (receive f s).msq = s.msq ∧
    (receive f s).fresh = s.fresh ∧ (receive f s).pending = s.pending := by
  unfold receive; (repeat' split) <;> simp

@[simp] theorem frameBits_keeps (bits : List Bool) (s : State) :
    (frameBits bits s).power = s.power ∧ (frameBits bits s).cfg = s.cfg ∧
    (frameBits bits s).msq = s.msq ∧ (frameBits bits s).fresh = s.fresh ∧
    (frameBits bits s).pending = s.pending := by
  unfold frameBits; (repeat' split) <;> simp

@[simp] theorem enterSilent_keeps (s : State) :
    (enterSilent s).power = s.power ∧ (enterSilent s).cfg = s.cfg ∧ (enterSilent s).psq = s.psq ∧
    (enterSilent s).msq = s.msq ∧ (enterSilent s).mst = s.mst ∧ (enterSilent s).fresh = s.fresh ∧
    (enterSilent s).pending = s.pending := by
  simp [enterSilent]

@[simp] theorem bitError_keeps (s : State) :
    (bitError s).power = s.power ∧ (bitError s).cfg = s.cfg ∧ (bitError s).psq = s.psq ∧
    (bitError s).msq = s.msq ∧ (bitError s).mst = s.mst ∧ (bitError s).fresh = s.fresh ∧
    (bitError s).pending = s.pending := by
  unfold bitError; dsimp only; (repeat' split) <;> simp

@[simp] theorem noteOutcome_keeps (heard : Bool) (s : State) :
    (noteOutcome heard s).power = s.power ∧ (noteOutcome heard s).cfg = s.cfg ∧
    (noteOutcome heard s).psq = s.psq ∧ (noteOutcome heard s).msq = s.msq ∧
    (noteOutcome heard s).imn = s.imn ∧ (noteOutcome heard s).mst = s.mst ∧
    (noteOutcome heard s).fresh = s.fresh ∧ (noteOutcome heard s).pending = s.pending := by
  simp [noteOutcome]

@[simp] theorem attemptOutcome_keeps (b : FrameBody) (heard : Bool) (s : State) :
    (attemptOutcome b heard s).power = s.power ∧ (attemptOutcome b heard s).cfg = s.cfg ∧
    (attemptOutcome b heard s).psq = s.psq ∧ (attemptOutcome b heard s).msq = s.msq ∧
    (attemptOutcome b heard s).imn = s.imn ∧ (attemptOutcome b heard s).mst = s.mst ∧
    (attemptOutcome b heard s).fresh = s.fresh ∧
    (attemptOutcome b heard s).pending = s.pending := by
  cases b <;> simp [attemptOutcome]

@[simp] theorem txComplete_keeps (heard : Bool) (s : State) :
    (txComplete heard s).power = s.power ∧ (txComplete heard s).cfg = s.cfg ∧
    (txComplete heard s).psq = s.psq ∧ (txComplete heard s).msq = s.msq ∧
    (txComplete heard s).imn = s.imn ∧ (txComplete heard s).mst = s.mst ∧
    (txComplete heard s).fresh = s.fresh ∧ (txComplete heard s).pending = s.pending := by
  unfold txComplete; (repeat' split) <;> simp

@[simp] theorem silentExpiry_keeps (s : State) :
    (silentExpiry s).power = s.power ∧ (silentExpiry s).cfg = s.cfg ∧
    (silentExpiry s).psq = s.psq ∧ (silentExpiry s).msq = s.msq ∧ (silentExpiry s).mst = s.mst ∧
    (silentExpiry s).fresh = s.fresh ∧ (silentExpiry s).pending = s.pending := by
  unfold silentExpiry; (repeat' split) <;> simp

@[simp] theorem ageTable_keeps (s : State) :
    (ageTable s).power = s.power ∧ (ageTable s).cfg = s.cfg ∧ (ageTable s).psq = s.psq ∧
    (ageTable s).fli = s.fli ∧ (ageTable s).crg = s.crg ∧ (ageTable s).ptu = s.ptu ∧
    (ageTable s).msq = s.msq ∧ (ageTable s).htr = s.htr ∧ (ageTable s).imn = s.imn ∧
    (ageTable s).mtr = s.mtr ∧ (ageTable s).mst = s.mst ∧ (ageTable s).fresh = s.fresh ∧
    (ageTable s).pending = s.pending := by
  unfold ageTable; simp only [onlyIf]; (repeat' split) <;> simp

@[simp] theorem lowerOverflow_keeps (s : State) :
    (lowerOverflow s).power = s.power ∧ (lowerOverflow s).cfg = s.cfg ∧
    (lowerOverflow s).psq = s.psq ∧ (lowerOverflow s).fli = s.fli ∧ (lowerOverflow s).crg = s.crg ∧
    (lowerOverflow s).ptu = s.ptu ∧ (lowerOverflow s).msq = s.msq ∧ (lowerOverflow s).htr = s.htr ∧
    (lowerOverflow s).imn = s.imn ∧ (lowerOverflow s).mtr = s.mtr ∧ (lowerOverflow s).mst = s.mst ∧
    (lowerOverflow s).cpt = s.cpt ∧ (lowerOverflow s).fresh = s.fresh ∧
    (lowerOverflow s).pending = s.pending := by
  simp [lowerOverflow]

@[simp] theorem electionCounts_keeps (s : State) :
    (electionCounts s).power = s.power ∧ (electionCounts s).cfg = s.cfg ∧
    (electionCounts s).psq = s.psq ∧ (electionCounts s).fli = s.fli ∧
    (electionCounts s).shu = s.shu ∧ (electionCounts s).crg = s.crg ∧
    (electionCounts s).ptu = s.ptu ∧ (electionCounts s).msq = s.msq ∧
    (electionCounts s).htr = s.htr ∧ (electionCounts s).mtr = s.mtr ∧
    (electionCounts s).mst = s.mst ∧ (electionCounts s).cpt = s.cpt ∧
    (electionCounts s).fresh = s.fresh ∧ (electionCounts s).pending = s.pending := by
  unfold electionCounts; (repeat' split) <;> simp

@[simp] theorem measuringRoleTake_keeps (s : State) :
    (measuringRoleTake s).power = s.power ∧ (measuringRoleTake s).cfg = s.cfg ∧
    (measuringRoleTake s).msq = s.msq ∧ (measuringRoleTake s).mtr = s.mtr ∧
    (measuringRoleTake s).mst = s.mst ∧ (measuringRoleTake s).fresh = s.fresh ∧
    (measuringRoleTake s).pending = s.pending := by
  unfold measuringRoleTake; (repeat' split) <;> simp

@[simp] theorem sharePeriod_keeps (s : State) :
    (sharePeriod s).power = s.power ∧ (sharePeriod s).cfg = s.cfg ∧ (sharePeriod s).psq = s.psq ∧
    (sharePeriod s).msq = s.msq ∧ (sharePeriod s).imn = s.imn ∧ (sharePeriod s).mst = s.mst ∧
    (sharePeriod s).fresh = s.fresh ∧ (sharePeriod s).pending = s.pending := by
  simp [sharePeriod]

@[simp] theorem beaconPeriod_keeps (s : State) :
    (beaconPeriod s).power = s.power ∧ (beaconPeriod s).cfg = s.cfg ∧
    (beaconPeriod s).msq = s.msq ∧ (beaconPeriod s).mst = s.mst ∧
    (beaconPeriod s).fresh = s.fresh ∧ (beaconPeriod s).pending = s.pending := by
  unfold beaconPeriod; (repeat' split) <;> simp

@[simp] theorem removeAged_keeps (s : State) :
    (removeAged s).power = s.power ∧ (removeAged s).cfg = s.cfg ∧ (removeAged s).psq = s.psq ∧
    (removeAged s).fli = s.fli ∧ (removeAged s).msq = s.msq ∧ (removeAged s).imn = s.imn ∧
    (removeAged s).mst = s.mst ∧ (removeAged s).fresh = s.fresh ∧
    (removeAged s).pending = s.pending := by
  unfold removeAged; simp only [onlyIf]; (repeat' split) <;> simp

/-! ## Measure -/

@[simp] theorem limitAction_keeps (i : Fin 16) (s : State) :
    (limitAction i s).power = s.power ∧ (limitAction i s).cfg = s.cfg ∧
    (limitAction i s).msq = s.msq ∧ (limitAction i s).fresh = s.fresh ∧
    (limitAction i s).pending = s.pending := by
  unfold limitAction; (repeat' split) <;> simp

@[simp] theorem limitActions_keep (is : List (Fin 16)) (s : State) :
    (is.foldl (fun t i => limitAction i t) s).power = s.power ∧
    (is.foldl (fun t i => limitAction i t) s).cfg = s.cfg ∧
    (is.foldl (fun t i => limitAction i t) s).msq = s.msq ∧
    (is.foldl (fun t i => limitAction i t) s).fresh = s.fresh ∧
    (is.foldl (fun t i => limitAction i t) s).pending = s.pending := by
  induction is generalizing s with
  | nil => simp
  | cons i is ih => simp [ih]

@[simp] theorem publishScan_keeps (k : ScanKind) (pairs : List (Word16 × Word16)) (s : State) :
    (publishScan k pairs s).power = s.power ∧ (publishScan k pairs s).cfg = s.cfg ∧
    (publishScan k pairs s).fresh = s.fresh ∧ (publishScan k pairs s).pending = s.pending := by
  simp [publishScan]

@[simp] theorem handRms_keeps (k : Phase) (m : PhaseMeter) (s : State) :
    (handRms k m s).power = s.power ∧ (handRms k m s).cfg = s.cfg ∧ (handRms k m s).psq = s.psq ∧
    (handRms k m s).fli = s.fli ∧ (handRms k m s).imn = s.imn ∧ (handRms k m s).mtr = s.mtr ∧
    (handRms k m s).mst = s.mst ∧ (handRms k m s).fresh = s.fresh ∧
    (handRms k m s).pending = s.pending := by
  simp [handRms]

@[simp] theorem spanLapse_keeps (k : Phase) (s : State) :
    (spanLapse k s).power = s.power ∧ (spanLapse k s).cfg = s.cfg ∧ (spanLapse k s).psq = s.psq ∧
    (spanLapse k s).fli = s.fli ∧ (spanLapse k s).imn = s.imn ∧ (spanLapse k s).mtr = s.mtr ∧
    (spanLapse k s).mst = s.mst ∧ (spanLapse k s).fresh = s.fresh ∧
    (spanLapse k s).pending = s.pending := by
  unfold spanLapse; (repeat' split) <;> simp

@[simp] theorem setOutOfRange_keeps (b : Bool) (s : State) :
    (setOutOfRange b s).power = s.power ∧ (setOutOfRange b s).cfg = s.cfg ∧
    (setOutOfRange b s).psq = s.psq ∧ (setOutOfRange b s).fli = s.fli ∧
    (setOutOfRange b s).imn = s.imn ∧ (setOutOfRange b s).mtr = s.mtr ∧
    (setOutOfRange b s).mst = s.mst ∧ (setOutOfRange b s).fresh = s.fresh ∧
    (setOutOfRange b s).pending = s.pending := by
  unfold setOutOfRange; simp only [onlyIf]; (repeat' split) <;> simp

@[simp] theorem lineCrossing_keeps (seenBefore : Bool) (s : State) :
    (lineCrossing seenBefore s).power = s.power ∧ (lineCrossing seenBefore s).cfg = s.cfg ∧
    (lineCrossing seenBefore s).psq = s.psq ∧ (lineCrossing seenBefore s).fli = s.fli ∧
    (lineCrossing seenBefore s).imn = s.imn ∧ (lineCrossing seenBefore s).mtr = s.mtr ∧
    (lineCrossing seenBefore s).mst = s.mst ∧ (lineCrossing seenBefore s).fresh = s.fresh ∧
    (lineCrossing seenBefore s).pending = s.pending := by
  unfold lineCrossing; dsimp only; (repeat' split) <;> simp

@[simp] theorem phaseResult_keeps (k : Phase) (s : State) :
    (phaseResult k s).power = s.power ∧ (phaseResult k s).cfg = s.cfg ∧
    (phaseResult k s).psq = s.psq ∧ (phaseResult k s).fli = s.fli ∧ (phaseResult k s).imn = s.imn ∧
    (phaseResult k s).mtr = s.mtr ∧ (phaseResult k s).mst = s.mst ∧
    (phaseResult k s).fresh = s.fresh ∧ (phaseResult k s).pending = s.pending := by
  unfold phaseResult; simp only [onlyIf]; (repeat' split) <;> simp

@[simp] theorem linePeriodLapse_keeps (s : State) :
    (linePeriodLapse s).power = s.power ∧ (linePeriodLapse s).cfg = s.cfg ∧
    (linePeriodLapse s).psq = s.psq ∧ (linePeriodLapse s).fli = s.fli ∧
    (linePeriodLapse s).imn = s.imn ∧ (linePeriodLapse s).mtr = s.mtr ∧
    (linePeriodLapse s).mst = s.mst ∧ (linePeriodLapse s).fresh = s.fresh ∧
    (linePeriodLapse s).pending = s.pending := by
  unfold linePeriodLapse; (repeat' split) <;> simp

@[simp] theorem accumulateHeat_keeps (s : State) :
    (accumulateHeat s).power = s.power ∧ (accumulateHeat s).cfg = s.cfg ∧
    (accumulateHeat s).psq = s.psq ∧ (accumulateHeat s).fli = s.fli ∧
    (accumulateHeat s).shu = s.shu ∧ (accumulateHeat s).crg = s.crg ∧
    (accumulateHeat s).ptu = s.ptu ∧ (accumulateHeat s).msq = s.msq ∧
    (accumulateHeat s).imn = s.imn ∧ (accumulateHeat s).mtr = s.mtr ∧
    (accumulateHeat s).mst = s.mst ∧ (accumulateHeat s).cpt = s.cpt ∧
    (accumulateHeat s).fresh = s.fresh ∧ (accumulateHeat s).pending = s.pending := by
  simp [accumulateHeat]

@[simp] theorem publishFast_keeps (pairs : List (Word16 × Word16)) (s : State) :
    (publishFast pairs s).power = s.power ∧ (publishFast pairs s).cfg = s.cfg ∧
    (publishFast pairs s).fresh = s.fresh ∧ (publishFast pairs s).pending = s.pending := by
  unfold publishFast; simp only [onlyIf]; (repeat' split) <;> simp

@[simp] theorem judgeSensors_keeps (s : State) :
    (judgeSensors s).power = s.power ∧ (judgeSensors s).cfg = s.cfg ∧
    (judgeSensors s).psq = s.psq ∧ (judgeSensors s).fli = s.fli ∧ (judgeSensors s).shu = s.shu ∧
    (judgeSensors s).crg = s.crg ∧ (judgeSensors s).ptu = s.ptu ∧ (judgeSensors s).htr = s.htr ∧
    (judgeSensors s).imn = s.imn ∧ (judgeSensors s).mtr = s.mtr ∧ (judgeSensors s).mst = s.mst ∧
    (judgeSensors s).cpt = s.cpt ∧ (judgeSensors s).fresh = s.fresh ∧
    (judgeSensors s).pending = s.pending := by
  simp [judgeSensors]

@[simp] theorem publishSlow_keeps (pairs : List (Word16 × Word16)) (s : State) :
    (publishSlow pairs s).power = s.power ∧ (publishSlow pairs s).cfg = s.cfg ∧
    (publishSlow pairs s).fresh = s.fresh ∧ (publishSlow pairs s).pending = s.pending := by
  simp [publishSlow]

@[simp] theorem startFastScan_keeps (s : State) :
    (startFastScan s).power = s.power ∧ (startFastScan s).cfg = s.cfg ∧
    (startFastScan s).psq = s.psq ∧ (startFastScan s).fli = s.fli ∧ (startFastScan s).shu = s.shu ∧
    (startFastScan s).crg = s.crg ∧ (startFastScan s).ptu = s.ptu ∧ (startFastScan s).htr = s.htr ∧
    (startFastScan s).imn = s.imn ∧ (startFastScan s).mtr = s.mtr ∧ (startFastScan s).mst = s.mst ∧
    (startFastScan s).cpt = s.cpt ∧ (startFastScan s).fresh = s.fresh ∧
    (startFastScan s).pending = s.pending := by
  unfold startFastScan; (repeat' split) <;> simp

@[simp] theorem slowScanExpiry_keeps (s : State) :
    (slowScanExpiry s).power = s.power ∧ (slowScanExpiry s).cfg = s.cfg ∧
    (slowScanExpiry s).psq = s.psq ∧ (slowScanExpiry s).fli = s.fli ∧
    (slowScanExpiry s).shu = s.shu ∧ (slowScanExpiry s).crg = s.crg ∧
    (slowScanExpiry s).ptu = s.ptu ∧ (slowScanExpiry s).htr = s.htr ∧
    (slowScanExpiry s).imn = s.imn ∧ (slowScanExpiry s).mtr = s.mtr ∧
    (slowScanExpiry s).mst = s.mst ∧ (slowScanExpiry s).cpt = s.cpt ∧
    (slowScanExpiry s).fresh = s.fresh ∧ (slowScanExpiry s).pending = s.pending := by
  unfold slowScanExpiry; (repeat' split) <;> simp

@[simp] theorem fastPair_keeps (p : Word16 × Word16) (s : State) :
    (fastPair p s).power = s.power ∧ (fastPair p s).cfg = s.cfg ∧ (fastPair p s).fresh = s.fresh ∧
    (fastPair p s).pending = s.pending := by
  unfold fastPair; dsimp only; (repeat' split) <;> simp

@[simp] theorem slowPair_keeps (p : Word16 × Word16) (s : State) :
    (slowPair p s).power = s.power ∧ (slowPair p s).cfg = s.cfg ∧ (slowPair p s).fresh = s.fresh ∧
    (slowPair p s).pending = s.pending := by
  unfold slowPair; dsimp only; (repeat' split) <;> simp

@[simp] theorem pairDone_keeps (first second : Word16) (s : State) :
    (pairDone first second s).power = s.power ∧ (pairDone first second s).cfg = s.cfg ∧
    (pairDone first second s).fresh = s.fresh ∧ (pairDone first second s).pending = s.pending := by
  unfold pairDone; (repeat' split) <;> simp

@[simp] theorem advanceLine_keeps (s : State) :
    (advanceLine s).power = s.power ∧ (advanceLine s).cfg = s.cfg ∧ (advanceLine s).psq = s.psq ∧
    (advanceLine s).fli = s.fli ∧ (advanceLine s).shu = s.shu ∧ (advanceLine s).crg = s.crg ∧
    (advanceLine s).ptu = s.ptu ∧ (advanceLine s).htr = s.htr ∧ (advanceLine s).imn = s.imn ∧
    (advanceLine s).mtr = s.mtr ∧ (advanceLine s).mst = s.mst ∧ (advanceLine s).cpt = s.cpt ∧
    (advanceLine s).fresh = s.fresh ∧ (advanceLine s).pending = s.pending := by
  simp [advanceLine]

@[simp] theorem interruptLine_keeps (s : State) :
    (interruptLine s).power = s.power ∧ (interruptLine s).cfg = s.cfg ∧
    (interruptLine s).psq = s.psq ∧ (interruptLine s).fli = s.fli ∧ (interruptLine s).imn = s.imn ∧
    (interruptLine s).mtr = s.mtr ∧ (interruptLine s).mst = s.mst ∧ (interruptLine s).cpt = s.cpt ∧
    (interruptLine s).fresh = s.fresh ∧ (interruptLine s).pending = s.pending := by
  simp [interruptLine]

@[simp] theorem troughCounters_keeps (s : State) :
    (troughCounters s).power = s.power ∧ (troughCounters s).cfg = s.cfg ∧
    (troughCounters s).psq = s.psq ∧ (troughCounters s).fli = s.fli ∧
    (troughCounters s).imn = s.imn ∧ (troughCounters s).mtr = s.mtr ∧
    (troughCounters s).mst = s.mst ∧ (troughCounters s).cpt = s.cpt ∧
    (troughCounters s).fresh = s.fresh ∧ (troughCounters s).pending = s.pending := by
  unfold troughCounters; dsimp only; (repeat' split) <;> simp

@[simp] theorem transferCompare_keeps (s : State) :
    (transferCompare s).power = s.power ∧ (transferCompare s).cfg = s.cfg ∧
    (transferCompare s).psq = s.psq ∧ (transferCompare s).fli = s.fli ∧
    (transferCompare s).shu = s.shu ∧ (transferCompare s).crg = s.crg ∧
    (transferCompare s).msq = s.msq ∧ (transferCompare s).htr = s.htr ∧
    (transferCompare s).imn = s.imn ∧ (transferCompare s).mtr = s.mtr ∧
    (transferCompare s).mst = s.mst ∧ (transferCompare s).cpt = s.cpt ∧
    (transferCompare s).fresh = s.fresh ∧ (transferCompare s).pending = s.pending := by
  simp [transferCompare]

@[simp] theorem carrierTrough_keeps (s : State) :
    (carrierTrough s).power = s.power ∧ (carrierTrough s).cfg = s.cfg ∧
    (carrierTrough s).psq = s.psq ∧ (carrierTrough s).fli = s.fli ∧ (carrierTrough s).imn = s.imn ∧
    (carrierTrough s).mtr = s.mtr ∧ (carrierTrough s).mst = s.mst ∧
    (carrierTrough s).fresh = s.fresh ∧ (carrierTrough s).pending = s.pending := by
  simp [carrierTrough]

@[simp] theorem clearSeen_keeps (i : Fin 16) (s : State) :
    (clearSeen i s).power = s.power ∧ (clearSeen i s).cfg = s.cfg ∧ (clearSeen i s).psq = s.psq ∧
    (clearSeen i s).fli = s.fli ∧ (clearSeen i s).shu = s.shu ∧ (clearSeen i s).crg = s.crg ∧
    (clearSeen i s).ptu = s.ptu ∧ (clearSeen i s).htr = s.htr ∧ (clearSeen i s).imn = s.imn ∧
    (clearSeen i s).mtr = s.mtr ∧ (clearSeen i s).mst = s.mst ∧ (clearSeen i s).cpt = s.cpt ∧
    (clearSeen i s).fresh = s.fresh ∧ (clearSeen i s).pending = s.pending := by
  simp [clearSeen]

@[simp] theorem readMeasure_keeps (slot clear : Byte) (s : State) :
    (readMeasure slot clear s).power = s.power ∧ (readMeasure slot clear s).cfg = s.cfg ∧
    (readMeasure slot clear s).psq = s.psq ∧ (readMeasure slot clear s).fli = s.fli ∧
    (readMeasure slot clear s).shu = s.shu ∧ (readMeasure slot clear s).crg = s.crg ∧
    (readMeasure slot clear s).ptu = s.ptu ∧ (readMeasure slot clear s).htr = s.htr ∧
    (readMeasure slot clear s).imn = s.imn ∧ (readMeasure slot clear s).mtr = s.mtr ∧
    (readMeasure slot clear s).mst = s.mst ∧ (readMeasure slot clear s).fresh = s.fresh ∧
    (readMeasure slot clear s).pending = s.pending := by
  unfold readMeasure; simp only [onlyIf]; (repeat' split) <;> simp

/-! ## Port -/

@[simp] theorem chipSelect_keeps (s : State) :
    (chipSelect s).power = s.power ∧ (chipSelect s).cfg = s.cfg ∧ (chipSelect s).psq = s.psq ∧
    (chipSelect s).fli = s.fli ∧ (chipSelect s).shu = s.shu ∧ (chipSelect s).crg = s.crg ∧
    (chipSelect s).ptu = s.ptu ∧ (chipSelect s).msq = s.msq ∧ (chipSelect s).htr = s.htr ∧
    (chipSelect s).imn = s.imn ∧ (chipSelect s).mtr = s.mtr ∧ (chipSelect s).mst = s.mst ∧
    (chipSelect s).fresh = s.fresh ∧ (chipSelect s).pending = s.pending := by
  simp [chipSelect]

@[simp] theorem endTransaction_keeps (received : List Byte) (s : State) :
    (endTransaction received s).power = s.power ∧ (endTransaction received s).cfg = s.cfg ∧
    (endTransaction received s).psq = s.psq ∧ (endTransaction received s).fli = s.fli ∧
    (endTransaction received s).shu = s.shu ∧ (endTransaction received s).crg = s.crg ∧
    (endTransaction received s).ptu = s.ptu ∧ (endTransaction received s).msq = s.msq ∧
    (endTransaction received s).htr = s.htr ∧ (endTransaction received s).imn = s.imn ∧
    (endTransaction received s).mtr = s.mtr ∧ (endTransaction received s).mst = s.mst ∧
    (endTransaction received s).fresh = s.fresh ∧
    (endTransaction received s).pending = s.pending := by
  unfold endTransaction; (repeat' split) <;> simp

@[simp] theorem readEvents_keeps (s : State) :
    (readEvents s).power = s.power ∧ (readEvents s).cfg = s.cfg ∧ (readEvents s).psq = s.psq ∧
    (readEvents s).fli = s.fli ∧ (readEvents s).shu = s.shu ∧ (readEvents s).crg = s.crg ∧
    (readEvents s).ptu = s.ptu ∧ (readEvents s).msq = s.msq ∧ (readEvents s).htr = s.htr ∧
    (readEvents s).imn = s.imn ∧ (readEvents s).mtr = s.mtr ∧ (readEvents s).mst = s.mst ∧
    (readEvents s).fresh = s.fresh ∧ (readEvents s).pending = s.pending := by
  simp [readEvents]

@[simp] theorem getStatus_keeps (s : State) :
    (getStatus s).power = s.power ∧ (getStatus s).cfg = s.cfg ∧ (getStatus s).psq = s.psq ∧
    (getStatus s).fli = s.fli ∧ (getStatus s).shu = s.shu ∧ (getStatus s).crg = s.crg ∧
    (getStatus s).ptu = s.ptu ∧ (getStatus s).msq = s.msq ∧ (getStatus s).htr = s.htr ∧
    (getStatus s).imn = s.imn ∧ (getStatus s).mtr = s.mtr ∧ (getStatus s).mst = s.mst ∧
    (getStatus s).fresh = s.fresh ∧ (getStatus s).pending = s.pending := by
  simp [getStatus]

@[simp] theorem takeSettings_keeps (p : ConfigPayload) (s : State) :
    (takeSettings p s).power = s.power ∧ (takeSettings p s).psq = s.psq ∧
    (takeSettings p s).fli = s.fli ∧ (takeSettings p s).shu = s.shu ∧
    (takeSettings p s).crg = s.crg ∧ (takeSettings p s).htr = s.htr ∧
    (takeSettings p s).imn = s.imn ∧ (takeSettings p s).mtr = s.mtr ∧
    (takeSettings p s).mst = s.mst ∧ (takeSettings p s).fresh = s.fresh ∧
    (takeSettings p s).pending = s.pending := by
  simp [takeSettings]

@[simp] theorem restartCycle_keeps (s : State) :
    (restartCycle s).power = s.power ∧ (restartCycle s).cfg = s.cfg ∧
    (restartCycle s).psq = s.psq ∧ (restartCycle s).fli = s.fli ∧ (restartCycle s).shu = s.shu ∧
    (restartCycle s).crg = s.crg ∧ (restartCycle s).ptu = s.ptu ∧ (restartCycle s).msq = s.msq ∧
    (restartCycle s).htr = s.htr ∧ (restartCycle s).mtr = s.mtr ∧ (restartCycle s).mst = s.mst ∧
    (restartCycle s).cpt = s.cpt ∧ (restartCycle s).fresh = s.fresh ∧
    (restartCycle s).pending = s.pending := by
  unfold restartCycle; simp only [onlyIf]; (repeat' split) <;> simp

@[simp] theorem applyConfig_keeps (p : ConfigPayload) (s : State) :
    (applyConfig p s).power = s.power ∧ (applyConfig p s).psq = s.psq ∧
    (applyConfig p s).mst = s.mst ∧ (applyConfig p s).fresh = s.fresh ∧
    (applyConfig p s).pending = s.pending := by
  simp [applyConfig]

@[simp] theorem configure_keeps (p : ConfigPayload) (s : State) :
    (configure p s).power = s.power ∧ (configure p s).psq = s.psq ∧ (configure p s).mst = s.mst ∧
    (configure p s).fresh = s.fresh ∧ (configure p s).pending = s.pending := by
  unfold configure; (repeat' split) <;> simp
end Sys2Proof.Machine
end

