-- ==== Sys2Proof/Laws/Values.lean ====
section
/-! SUPPORT. The manual's arithmetic: clamps, rounding, the integer square root, and the event set. -/

namespace Sys2Proof.Machine

/-! ## Clamps -/

theorem clampNat_eq (x : Nat) {a b : Nat} (h : a ≤ b) : clampNat x a b = max a (min x b) := by
  unfold clampNat; split
  · omega
  · split <;> omega

theorem clampNat_bounds (x : Nat) {a b : Nat} (h : a ≤ b) :
    a ≤ clampNat x a b ∧ clampNat x a b ≤ b := by
  rw [clampNat_eq x h]; omega

theorem clampInt_eq (x : Int) {a b : Int} (h : a ≤ b) : clampInt x a b = max a (min x b) := by
  unfold clampInt; split
  · omega
  · split <;> omega

theorem clampInt_bounds (x : Int) {a b : Int} (h : a ≤ b) :
    a ≤ clampInt x a b ∧ clampInt x a b ≤ b := by
  rw [clampInt_eq x h]; omega

/-! ## The integer square root (R116) -/

/-- With `b` bits left to place, the root lies within 2 ^ b above `acc`. -/
theorem isqrtFrom_spec (n b acc : Nat) (lo : acc * acc ≤ n)
    (hi : n < (acc + 2 ^ b) * (acc + 2 ^ b)) :
    isqrtFrom n b acc * isqrtFrom n b acc ≤ n ∧
      n < (isqrtFrom n b acc + 1) * (isqrtFrom n b acc + 1) := by
  induction b generalizing acc with
  | zero => exact ⟨lo, by simpa [isqrtFrom] using hi⟩
  | succ b ih =>
    rw [isqrtFrom]
    split
    next h =>
      refine ih _ h ?_
      have e : acc + 2 ^ b + 2 ^ b = acc + 2 ^ (b + 1) := by rw [pow_succ]; omega
      rwa [e]
    next h => exact ih _ lo (by omega)

theorem isqrt_spec (n : Nat) : isqrt n * isqrt n ≤ n ∧ n < (isqrt n + 1) * (isqrt n + 1) := by
  refine isqrtFrom_spec n _ 0 (by simp) ?_
  rw [zero_add, ← pow_add]
  refine lt_of_lt_of_le (Nat.lt_log2_self (n := n)) (Nat.pow_le_pow_right (by omega) (by omega))

/-! ## The control loops' ranges (R83 to R85) -/

theorem piOutput_le (kp : Nat) (e i : Int) : piOutput kp e i ≤ 3891 := by
  have := clampInt_bounds (piRaw kp e i) (a := 0) (b := 3891) (by omega)
  unfold piOutput; omega

theorem piIntegrator_bounds (kp ki : Nat) (e i : Int)
    (h : -integratorBound ≤ i ∧ i ≤ integratorBound) :
    -integratorBound ≤ piIntegrator kp ki e i ∧ piIntegrator kp ki e i ≤ integratorBound := by
  unfold piIntegrator; dsimp only
  split
  · exact h
  · exact clampInt_bounds _ (by simp [integratorBound])

theorem compareValue_le (aFe theta k : Nat) : compareValue aFe theta k ≤ 4095 := by
  have := clampInt_bounds (2048 + (aFe * sine ((theta + 85 * k) % 256)) / 2048) (a := 0) (b := 4095)
    (by omega)
  unfold compareValue; omega

/-! ## Results in their range (R107, R109) -/

theorem slotMin_le_slotMax (i : Nat) : slotMin i ≤ slotMax i := by
  unfold slotMin slotMax; split <;> omega

theorem corrected_bounds (i : Fin 16) (c : SlotSettings) (raw : Int) :
    slotMin i ≤ corrected i c raw ∧ corrected i c raw ≤ slotMax i :=
  clampInt_bounds _ (slotMin_le_slotMax i)

theorem SlotRecord.publish_bounds (i : Fin 16) (w : Word16) (r : SlotRecord) :
    slotMin i ≤ (r.publish i w).latest ∧ (r.publish i w).latest ≤ slotMax i :=
  corrected_bounds i _ _

/-! ## Events (R195) -/

theorem EventKind.mem_all (k : EventKind) : k ∈ EventKind.all := by cases k <;> decide

theorem EventKind.all_nodup : EventKind.all.Nodup := by decide

@[simp] theorem mem_insertEvent (e k : EventKind) (es : List EventKind) :
    e ∈ insertEvent k es ↔ e = k ∨ e ∈ es := by
  simp [insertEvent, EventKind.mem_all]

theorem insertEvent_nodup (k : EventKind) (es : List EventKind) : (insertEvent k es).Nodup :=
  EventKind.all_nodup.filter _

theorem insertEvent_canonical (k : EventKind) (es : List EventKind) :
    insertEvent k es = EventKind.all.filter fun e => (insertEvent k es).contains e := by
  conv_lhs => rw [insertEvent]
  refine List.filter_congr fun e _ => ?_
  by_cases h : e = k <;> simp [h]

/-- A kind in the set stays in it when another is raised. -/
theorem mem_raiseEvent {e : EventKind} (k : EventKind) {s : State} (h : e ∈ s.cpt.events) :
    e ∈ (raiseEvent k s).cpt.events := (mem_insertEvent e k _).2 (.inr h)

theorem raised_mem (k : EventKind) (s : State) : k ∈ (raiseEvent k s).cpt.events :=
  (mem_insertEvent k k _).2 (.inl rfl)

end Sys2Proof.Machine
end

