-- ==== Sys2Proof/Laws/Events.lean ====
section
/-! SUPPORT. A kind in the event set stays in it through every operation but READ_EVENTS (R195). -/

namespace Sys2Proof.Machine

/-! ## Ops -/

theorem raiseEvent_events {e : EventKind} (k : EventKind) (s : State) (mem : e ∈ s.cpt.events) :
    e ∈ (raiseEvent k s).cpt.events := by
  exact mem_raiseEvent k mem

theorem answer_events {e : EventKind} (status : Status) (body : ReplyBody) (s : State)
    (mem : e ∈ s.cpt.events) :
    e ∈ (answer status body s).cpt.events := by
  exact mem

theorem answerEmpty_events {e : EventKind} (status : Status) (s : State) (mem : e ∈ s.cpt.events) :
    e ∈ (answerEmpty status s).cpt.events := by
  unfold answerEmpty
  all_goals (repeat first
    | with_reducible exact mem
    | with_reducible apply answer_events)

/-! ## Store -/

theorem queueWrite_events {e : EventKind} (w : PageWrite) (s : State) (mem : e ∈ s.cpt.events) :
    e ∈ (queueWrite w s).cpt.events := by
  unfold queueWrite; simp only [onlyIf]; repeat' split
  all_goals (repeat first
    | with_reducible exact mem
    | with_reducible apply raiseEvent_events)

theorem queueCounters_events {e : EventKind} (s : State) (mem : e ∈ s.cpt.events) :
    e ∈ (queueCounters s).cpt.events := by
  unfold queueCounters
  all_goals (repeat first
    | with_reducible exact mem
    | with_reducible apply queueWrite_events)

theorem queueSnapshot_events {e : EventKind} (c : Checkpoint) (s : State) (mem : e ∈ s.cpt.events) :
    e ∈ (queueSnapshot c s).cpt.events := by
  unfold queueSnapshot
  all_goals (repeat first
    | with_reducible exact mem
    | with_reducible apply queueWrite_events
    | simp only [cancelClears_keeps])

theorem completeWrite_events {e : EventKind} (s : State) (mem : e ∈ s.cpt.events) :
    e ∈ (completeWrite s).cpt.events := by
  unfold completeWrite; dsimp only; repeat' split
  all_goals (repeat first
    | with_reducible exact mem
    | with_reducible apply queueWrite_events)

theorem takeCheckpoint_events {e : EventKind} (s : State) (mem : e ∈ s.cpt.events) :
    e ∈ (takeCheckpoint s).cpt.events := by
  unfold takeCheckpoint; dsimp only; repeat' split
  all_goals (repeat first
    | with_reducible exact mem
    | with_reducible apply queueCounters_events
    | with_reducible apply queueSnapshot_events)

theorem checkpointIfDue_events {e : EventKind} (s : State) (mem : e ∈ s.cpt.events) :
    e ∈ (checkpointIfDue s).cpt.events := by
  unfold checkpointIfDue; simp only [onlyIf]; repeat' split
  all_goals (repeat first
    | with_reducible exact mem
    | with_reducible apply takeCheckpoint_events)

theorem raiseSessionCounter_events {e : EventKind} (s : State) (mem : e ∈ s.cpt.events) :
    e ∈ (raiseSessionCounter s).cpt.events := by
  unfold raiseSessionCounter
  all_goals (repeat first
    | with_reducible exact mem
    | with_reducible apply queueCounters_events)

theorem joinQueue_events {e : EventKind} (p : Place) (r : SessionRecord) (s : State)
    (mem : e ∈ s.cpt.events) :
    e ∈ (joinQueue p r s).cpt.events := by
  unfold joinQueue
  all_goals (repeat first
    | with_reducible exact mem
    | with_reducible apply raiseEvent_events)

theorem placeRecord_events {e : EventKind} (snapshot : SessionBase) (cause : EndCause)
    (stored : Bool) (s : State) (mem : e ∈ s.cpt.events) :
    e ∈ (placeRecord snapshot cause stored s).cpt.events := by
  unfold placeRecord; simp only [onlyIf]; repeat' split
  all_goals (repeat first
    | with_reducible exact mem
    | with_reducible apply queueWrite_events
    | with_reducible apply queueCounters_events
    | with_reducible apply queueSnapshot_events
    | with_reducible apply joinQueue_events)

theorem removeOldest_events {e : EventKind} (oldest : Report) (rest : List Report) (s : State)
    (mem : e ∈ s.cpt.events) :
    e ∈ (removeOldest oldest rest s).cpt.events := by
  unfold removeOldest moveStacked; dsimp only; repeat' split
  all_goals (repeat first
    | with_reducible exact mem
    | with_reducible apply queueWrite_events
    | with_reducible apply joinQueue_events)

theorem startupSnapshot_events {e : EventKind} (s : State) (mem : e ∈ s.cpt.events) :
    e ∈ (startupSnapshot s).cpt.events := by
  unfold startupSnapshot; repeat' split
  all_goals (repeat first
    | with_reducible exact mem
    | with_reducible apply placeRecord_events)

theorem startupRead_events {e : EventKind} (s : State) (mem : e ∈ s.cpt.events) :
    e ∈ (startupRead s).cpt.events := by
  unfold startupRead; simp only [onlyIf]; repeat' split
  all_goals (repeat first
    | with_reducible exact mem
    | with_reducible apply raiseEvent_events
    | with_reducible apply startupSnapshot_events)

theorem readReport_events {e : EventKind} (s : State) (mem : e ∈ s.cpt.events) :
    e ∈ (readReport s).cpt.events := by
  unfold readReport; repeat' split
  all_goals (repeat first
    | with_reducible exact mem
    | with_reducible apply answer_events
    | with_reducible apply answerEmpty_events)

theorem removeReport_events {e : EventKind} (s : State) (mem : e ∈ s.cpt.events) :
    e ∈ (removeReport s).cpt.events := by
  unfold removeReport; repeat' split
  all_goals (repeat first
    | with_reducible exact mem
    | with_reducible apply answerEmpty_events
    | with_reducible apply removeOldest_events)

theorem readMeter_events {e : EventKind} (s : State) (mem : e ∈ s.cpt.events) :
    e ∈ (readMeter s).cpt.events := by
  unfold readMeter
  all_goals (repeat first
    | with_reducible exact mem
    | with_reducible apply answer_events)

/-! ## Meter -/

theorem nearEndCheck_events {e : EventKind} (s : State) (mem : e ∈ s.cpt.events) :
    e ∈ (nearEndCheck s).cpt.events := by
  unfold nearEndCheck; simp only [onlyIf]; repeat' split
  all_goals (repeat first
    | with_reducible exact mem
    | with_reducible apply raiseEvent_events)

theorem chainEndEvent_events {e : EventKind} (r : MeterRequest) (s : State)
    (mem : e ∈ s.cpt.events) :
    e ∈ (chainEndEvent r s).cpt.events := by
  unfold chainEndEvent; repeat' split
  all_goals (repeat first
    | with_reducible exact mem
    | with_reducible apply raiseEvent_events)

theorem chainEnd_events {e : EventKind} (cause : EndCause) (endSuspend : Bool) (s : State)
    (mem : e ∈ s.cpt.events) :
    e ∈ (chainEnd cause endSuspend s).1.cpt.events := by
  unfold chainEnd; dsimp only
  all_goals (repeat first
    | with_reducible exact mem
    | with_reducible apply chainEndEvent_events
    | simp only [endChain_keeps])

theorem activate_events {e : EventKind} (c : DescCopy) (s : State) (mem : e ∈ s.cpt.events) :
    e ∈ (activate c s).1.cpt.events := by
  unfold activate; dsimp only; repeat' split
  all_goals (repeat first
    | with_reducible exact mem
    | with_reducible apply takeCheckpoint_events
    | with_reducible apply nearEndCheck_events
    | with_reducible apply chainEnd_events)

theorem activatePrefetched_events {e : EventKind} (s : State) (mem : e ∈ s.cpt.events) :
    e ∈ (activatePrefetched s).1.cpt.events := by
  unfold activatePrefetched; repeat' split
  all_goals (repeat first
    | with_reducible exact mem
    | with_reducible apply activate_events)

theorem applyPair_events {k : EventKind} (fuel : Nat) (first : Bool) (e c : Nat) (s : State)
    (mem : k ∈ s.cpt.events) : k ∈ (applyPair fuel first e c s).1.cpt.events := by
  induction fuel generalizing first e c s with
  | zero => exact mem
  | succ n ih =>
    unfold applyPair; dsimp only
    split
    · exact mem
    · simpa only [onLastItem_keeps] using mem
    · split
      · split
        · split
          · simp only [onLastItem_keeps]
            exact chainEnd_events _ _ _ (by simpa only [onLastItem_keeps] using mem)
          · split
            next h =>
              have m := congrArg (fun x => x.1.cpt.events) h
              simp only [onLastItem_keeps]
              exact m ▸ activate_events _ _ (by simpa only [onLastItem_keeps] using mem)
            next h =>
              have m := congrArg (fun x => x.1.cpt.events) h
              have k := m ▸ activate_events _ _ (by simpa only [onLastItem_keeps] using mem)
              split
              · exact k
              · exact ih _ _ _ _ k
        · simp only [onLastItem_keeps]
          exact chainEnd_events _ _ _ (by simpa only [onLastItem_keeps] using mem)
      · exact nearEndCheck_events _ (by simpa only [onLastItem_keeps] using mem)

theorem meterInterval_events {e : EventKind} (s : State) (mem : e ∈ s.cpt.events) :
    e ∈ (meterInterval s).1.cpt.events := by
  unfold meterInterval
  refine checkpointIfDue_events _ (applyPair_events _ _ _ _ _ ?_)
  simpa only [countElapsed_keeps, countInterval_keeps, formEnergies_keeps] using mem

theorem openSession_events {e : EventKind} (stamp : Word32) (c : Option DescCopy) (s : State)
    (mem : e ∈ s.cpt.events) :
    e ∈ (openSession stamp c s).1.cpt.events := by
  unfold openSession; dsimp only; repeat' split
  all_goals (repeat first
    | with_reducible exact mem
    | with_reducible apply raiseSessionCounter_events
    | with_reducible apply activate_events)

theorem closeSession_events {e : EventKind} (cause : EndCause) (forced : Bool) (s : State)
    (mem : e ∈ s.cpt.events) :
    e ∈ (closeSession cause forced s).cpt.events := by
  unfold closeSession; dsimp only; repeat' split
  all_goals (repeat first
    | with_reducible exact mem
    | with_reducible apply raiseEvent_events
    | with_reducible apply placeRecord_events)

theorem writeDescriptor_events {e : EventKind} (slot flags : Byte)
    (quota duration rateChg rateCond : Word16) (next : Byte) (s : State) (mem : e ∈ s.cpt.events) :
    e ∈ (writeDescriptor slot flags quota duration rateChg rateCond next s).cpt.events := by
  unfold writeDescriptor; repeat' split
  all_goals (repeat first
    | with_reducible exact mem
    | with_reducible apply answerEmpty_events)

theorem extend_events {e : EventKind} (next : Byte) (s : State) (mem : e ∈ s.cpt.events) :
    e ∈ (extend next s).cpt.events := by
  unfold extend; dsimp only; repeat' split
  all_goals (repeat first
    | with_reducible exact mem
    | with_reducible apply answerEmpty_events)

theorem sessionSplit_events {e : EventKind} (slot : Byte) (stamp : Word32) (s : State)
    (mem : e ∈ s.cpt.events) :
    e ∈ (sessionSplit slot stamp s).cpt.events := by
  unfold sessionSplit; repeat' split
  all_goals (repeat first
    | with_reducible exact mem
    | with_reducible apply answerEmpty_events
    | with_reducible apply openSession_events
    | with_reducible apply closeSession_events)

/-! ## Power -/

theorem tripClear_events {e : EventKind} (s : State) (mem : e ∈ s.cpt.events) :
    e ∈ (tripClear s).cpt.events := by
  unfold tripClear; repeat' split
  all_goals (repeat first
    | with_reducible exact mem
    | with_reducible apply answer_events
    | with_reducible apply answerEmpty_events
    | simp only [watchConflicts_keeps])

/-! ## Share -/

theorem readPeers_events {e : EventKind} (s : State) (mem : e ∈ s.cpt.events) :
    e ∈ (readPeers s).cpt.events := by
  unfold readPeers
  all_goals (repeat first
    | with_reducible exact mem
    | with_reducible apply answer_events)

theorem readShare_events {e : EventKind} (s : State) (mem : e ∈ s.cpt.events) :
    e ∈ (readShare s).cpt.events := by
  unfold readShare
  all_goals (repeat first
    | with_reducible exact mem
    | with_reducible apply answer_events)

/-! ## Regulate -/

theorem enterFallback_events {e : EventKind} (s : State) (mem : e ∈ s.cpt.events) :
    e ∈ (enterFallback s).cpt.events := by
  unfold enterFallback
  all_goals (repeat first
    | with_reducible exact mem
    | with_reducible apply raiseEvent_events
    | simp only [markSession_keeps, keepFallback_keeps, evaluate_keeps])

theorem updateFallback_events {e : EventKind} (s : State) (mem : e ∈ s.cpt.events) :
    e ∈ (updateFallback s).cpt.events := by
  unfold updateFallback; dsimp only; repeat' split
  all_goals (repeat first
    | with_reducible exact mem
    | with_reducible apply raiseEvent_events
    | with_reducible apply enterFallback_events
    | simp only [evaluate_keeps])

theorem newRms_events {e : EventKind} (k : Phase) (s : State) (mem : e ∈ s.cpt.events) :
    e ∈ (newRms k s).cpt.events := by
  unfold newRms; simp only [onlyIf]; repeat' split
  all_goals (repeat first
    | with_reducible exact mem
    | with_reducible apply raiseEvent_events
    | simp only [evaluate_keeps, evaluateAndHand_keeps])

theorem setCharge_events {e : EventKind} (iReq vMax : Word16) (s : State) (mem : e ∈ s.cpt.events) :
    e ∈ (setCharge iReq vMax s).cpt.events := by
  unfold setCharge; repeat' split
  all_goals (repeat first
    | with_reducible exact mem
    | with_reducible apply answerEmpty_events
    | simp only [evaluateAndHand_keeps])

theorem setBatteryLimit_events {e : EventKind} (iBms : Word16) (s : State)
    (mem : e ∈ s.cpt.events) :
    e ∈ (setBatteryLimit iBms s).cpt.events := by
  unfold setBatteryLimit; repeat' split
  all_goals (repeat first
    | with_reducible exact mem
    | with_reducible apply answerEmpty_events
    | simp only [evaluateAndHand_keeps])

theorem freshnessExpiry_events {e : EventKind} (s : State) (mem : e ∈ s.cpt.events) :
    e ∈ (freshnessExpiry s).cpt.events := by
  unfold freshnessExpiry; repeat' split
  all_goals (repeat first
    | with_reducible exact mem
    | with_reducible apply raiseEvent_events
    | simp only [evaluateAndHand_keeps])

/-! ## Heater -/

theorem heaterOvercurrent_events {e : EventKind} (s : State) (mem : e ∈ s.cpt.events) :
    e ∈ (heaterOvercurrent s).cpt.events := by
  unfold heaterOvercurrent; simp only [onlyIf]; repeat' split
  all_goals (repeat first
    | with_reducible exact mem
    | with_reducible apply raiseEvent_events
    | simp only [selectHeater_keeps])

theorem heaterOpenDetect_events {e : EventKind} (s : State) (mem : e ∈ s.cpt.events) :
    e ∈ (heaterOpenDetect s).cpt.events := by
  unfold heaterOpenDetect; repeat' split
  all_goals (repeat first
    | with_reducible exact mem
    | with_reducible apply raiseEvent_events
    | simp only [selectHeater_keeps])

theorem heaterEvent_events {e : EventKind} (s : State) (mem : e ∈ s.cpt.events) :
    e ∈ (heaterEvent s).cpt.events := by
  unfold heaterEvent
  all_goals (repeat first
    | with_reducible exact mem
    | with_reducible apply heaterOpenDetect_events
    | simp only [regulateHeater_keeps])

theorem answerHeating_events {e : EventKind} (s : State) (mem : e ∈ s.cpt.events) :
    e ∈ (answerHeating s).cpt.events := by
  unfold answerHeating
  all_goals (repeat first
    | with_reducible exact mem
    | with_reducible apply answer_events)

theorem setHeating_events {e : EventKind} (tOn tOff pHmax : Word16) (permission : Byte)
    (pBattMax : Word16) (clear : Byte) (s : State) (mem : e ∈ s.cpt.events) :
    e ∈ (setHeating tOn tOff pHmax permission pBattMax clear s).cpt.events := by
  unfold setHeating; repeat' split
  all_goals (repeat first
    | with_reducible exact mem
    | with_reducible apply answerEmpty_events
    | with_reducible apply answerHeating_events
    | simp only [applyHeating_keeps])

/-! ## Insulation -/

theorem setSeq_events {e : EventKind} (new : SeqState) (s : State) (mem : e ∈ s.cpt.events) :
    e ∈ (setSeq new s).cpt.events := by
  unfold setSeq; repeat' split
  all_goals (repeat first
    | with_reducible exact mem
    | with_reducible apply raiseEvent_events
    | simp only [evaluateAndHand_keeps])

theorem setPhase_events {e : EventKind} (p : IsoPhase) (s : State) (mem : e ∈ s.cpt.events) :
    e ∈ (setPhase p s).cpt.events := by
  unfold setPhase
  all_goals (repeat first
    | with_reducible exact mem
    | with_reducible apply raiseEvent_events)

theorem enterIsolation_events {e : EventKind} (ret : ReturnState) (s : State)
    (mem : e ∈ s.cpt.events) :
    e ∈ (enterIsolation ret s).cpt.events := by
  unfold enterIsolation
  all_goals (repeat first
    | with_reducible exact mem
    | with_reducible apply setSeq_events)

theorem takeRelease_events {e : EventKind} (s : State) (mem : e ∈ s.cpt.events) :
    e ∈ (takeRelease s).cpt.events := by
  unfold takeRelease; repeat' split
  all_goals (repeat first
    | with_reducible exact mem
    | with_reducible apply setPhase_events)

theorem noteChange_events {e : EventKind} (old new : Evaluation) (s : State)
    (mem : e ∈ s.cpt.events) :
    e ∈ (noteChange old new s).cpt.events := by
  unfold noteChange; simp only [onlyIf]; repeat' split
  all_goals (repeat first
    | with_reducible exact mem
    | with_reducible apply raiseEvent_events
    | simp only [markSession_keeps])

theorem judgeOwn_events {e : EventKind} (r : Nat) (s : State) (mem : e ∈ s.cpt.events) :
    e ∈ (judgeOwn r s).cpt.events := by
  unfold judgeOwn; dsimp only
  all_goals (repeat first
    | with_reducible exact mem
    | with_reducible apply noteChange_events)

theorem judgeNet_events {e : EventKind} (r : Nat) (s : State) (mem : e ∈ s.cpt.events) :
    e ∈ (judgeNet r s).cpt.events := by
  unfold judgeNet; dsimp only
  all_goals (repeat first
    | with_reducible exact mem
    | with_reducible apply noteChange_events)

theorem endUnmonitored_events {e : EventKind} (s : State) (mem : e ∈ s.cpt.events) :
    e ∈ (endUnmonitored s).cpt.events := by
  unfold endUnmonitored; simp only [onlyIf]; repeat' split
  all_goals (repeat first
    | with_reducible exact mem
    | with_reducible apply raiseEvent_events)

theorem failSelfCheck_events {e : EventKind} (s : State) (mem : e ∈ s.cpt.events) :
    e ∈ (failSelfCheck s).cpt.events := by
  unfold failSelfCheck
  all_goals (repeat first
    | with_reducible exact mem
    | with_reducible apply raiseEvent_events
    | simp only [setIsolate_keeps])

theorem failClearing_events {e : EventKind} (s : State) (mem : e ∈ s.cpt.events) :
    e ∈ (failClearing s).cpt.events := by
  unfold failClearing; simp only [onlyIf]; repeat' split
  all_goals (repeat first
    | with_reducible exact mem
    | with_reducible apply raiseEvent_events
    | simp only [setIsolate_keeps])

theorem endLocalChecks_events {e : EventKind} (s : State) (mem : e ∈ s.cpt.events) :
    e ∈ (endLocalChecks s).cpt.events := by
  unfold endLocalChecks; simp only [onlyIf]; repeat' split
  all_goals (repeat first
    | with_reducible exact mem
    | with_reducible apply failSelfCheck_events
    | with_reducible apply failClearing_events)

theorem endSweep_events {e : EventKind} (o : SweepOutcome) (hold : Bool) (s : State)
    (mem : e ∈ s.cpt.events) :
    e ∈ (endSweep o hold s).cpt.events := by
  unfold endSweep
  all_goals (repeat first
    | with_reducible exact mem
    | with_reducible apply raiseEvent_events)

theorem endLeading_events {e : EventKind} (r : LeaderRecord) (o : SweepOutcome) (hold : Bool)
    (s : State) (mem : e ∈ s.cpt.events) :
    e ∈ (endLeading r o hold s).cpt.events := by
  unfold endLeading
  all_goals (repeat first
    | with_reducible exact mem
    | with_reducible apply endSweep_events
    | simp only [enqueue_keeps, clearTarget_keeps])

theorem ownNotFound_events {e : EventKind} (r : LeaderRecord) (s : State) (mem : e ∈ s.cpt.events) :
    e ∈ (ownNotFound r s).cpt.events := by
  unfold ownNotFound
  all_goals (repeat first
    | with_reducible exact mem
    | with_reducible apply takeRelease_events
    | with_reducible apply endLeading_events)

theorem startOwnStep_events {e : EventKind} (r : LeaderRecord) (s : State)
    (mem : e ∈ s.cpt.events) :
    e ∈ (startOwnStep r s).cpt.events := by
  unfold startOwnStep; dsimp only; repeat' split
  all_goals (repeat first
    | with_reducible exact mem
    | with_reducible apply raiseEvent_events
    | with_reducible apply enterIsolation_events
    | with_reducible apply ownNotFound_events
    | simp only [enqueue_keeps, reportTarget_keeps])

theorem startStep_events {e : EventKind} (r : LeaderRecord) (s : State) (mem : e ∈ s.cpt.events) :
    e ∈ (startStep r s).cpt.events := by
  unfold startStep; dsimp only; repeat' split
  all_goals (repeat first
    | with_reducible exact mem
    | with_reducible apply raiseEvent_events
    | with_reducible apply startOwnStep_events
    | simp only [enqueue_keeps])

theorem nextStep_events {e : EventKind} (r : LeaderRecord) (s : State) (mem : e ∈ s.cpt.events) :
    e ∈ (nextStep r s).cpt.events := by
  unfold nextStep
  all_goals (repeat first
    | with_reducible exact mem
    | with_reducible apply startStep_events)

theorem startSweep_events {e : EventKind} (s : State) (mem : e ∈ s.cpt.events) :
    e ∈ (startSweep s).cpt.events := by
  unfold startSweep
  all_goals (repeat first
    | with_reducible exact mem
    | with_reducible apply raiseEvent_events
    | with_reducible apply startStep_events
    | simp only [enqueue_keeps])

theorem checkSweepStart_events {e : EventKind} (s : State) (mem : e ∈ s.cpt.events) :
    e ∈ (checkSweepStart s).cpt.events := by
  unfold checkSweepStart; simp only [onlyIf]; repeat' split
  all_goals (repeat first
    | with_reducible exact mem
    | with_reducible apply startSweep_events)

theorem abandonSweep_events {e : EventKind} (s : State) (mem : e ∈ s.cpt.events) :
    e ∈ (abandonSweep s).cpt.events := by
  unfold abandonSweep; repeat' split
  all_goals (repeat first
    | with_reducible exact mem
    | with_reducible apply endLeading_events)

theorem yieldRole_events {e : EventKind} (s : State) (mem : e ∈ s.cpt.events) :
    e ∈ (yieldRole s).cpt.events := by
  unfold yieldRole; repeat' split
  all_goals (repeat first
    | with_reducible exact mem
    | with_reducible apply abandonSweep_events
    | simp only [removeMeasureFrames_keeps, stopInjection_keeps])

theorem interference_events {e : EventKind} (s : State) (mem : e ∈ s.cpt.events) :
    e ∈ (interference s).cpt.events := by
  unfold interference
  all_goals (repeat first
    | with_reducible exact mem
    | with_reducible apply raiseEvent_events
    | with_reducible apply yieldRole_events)

theorem takeRole_events {e : EventKind} (s : State) (mem : e ∈ s.cpt.events) :
    e ∈ (takeRole s).cpt.events := by
  unfold takeRole
  all_goals (repeat first
    | with_reducible exact mem
    | with_reducible apply endUnmonitored_events
    | with_reducible apply checkSweepStart_events
    | simp only [startCycle_keeps])

theorem contactorClosed_events {e : EventKind} (s : State) (mem : e ∈ s.cpt.events) :
    e ∈ (contactorClosed s).cpt.events := by
  unfold contactorClosed; dsimp only; repeat' split
  all_goals (repeat first
    | with_reducible exact mem
    | with_reducible apply endLocalChecks_events
    | simp only [stopInjection_keeps])

theorem forgetNet_events {e : EventKind} (s : State) (mem : e ∈ s.cpt.events) :
    e ∈ (forgetNet s).cpt.events := by
  unfold forgetNet; simp only [onlyIf]; repeat' split
  all_goals (repeat first
    | with_reducible exact mem
    | with_reducible apply raiseEvent_events)

theorem enterLocal_events {e : EventKind} (s : State) (mem : e ∈ s.cpt.events) :
    e ∈ (enterLocal s).cpt.events := by
  unfold enterLocal
  all_goals (repeat first
    | with_reducible exact mem
    | with_reducible apply endUnmonitored_events
    | with_reducible apply forgetNet_events
    | simp only [startCycle_keeps, startSelfCheck_keeps])

theorem loseRole_events {e : EventKind} (s : State) (mem : e ∈ s.cpt.events) :
    e ∈ (loseRole s).cpt.events := by
  unfold loseRole; repeat' split
  all_goals (repeat first
    | with_reducible exact mem
    | with_reducible apply abandonSweep_events)

theorem contactorOpened_events {e : EventKind} (s : State) (mem : e ∈ s.cpt.events) :
    e ∈ (contactorOpened s).cpt.events := by
  unfold contactorOpened; dsimp only; repeat' split
  all_goals (repeat first
    | with_reducible exact mem
    | with_reducible apply enterLocal_events
    | with_reducible apply loseRole_events
    | simp only [removeMeasureFrames_keeps])

theorem releaseTarget_events {e : EventKind} (s : State) (mem : e ∈ s.cpt.events) :
    e ∈ (releaseTarget s).cpt.events := by
  unfold releaseTarget; dsimp only; repeat' split
  all_goals (repeat first
    | with_reducible exact mem
    | with_reducible apply takeRelease_events
    | simp only [endTargetReport_keeps])

theorem isolationReached_events {e : EventKind} (s : State) (mem : e ∈ s.cpt.events) :
    e ∈ (isolationReached s).cpt.events := by
  unfold isolationReached; repeat' split
  all_goals (repeat first
    | with_reducible exact mem
    | with_reducible apply takeRelease_events
    | simp only [enqueue_keeps, startCycle_keeps])

theorem leftSweep_events {e : EventKind} (s : State) (mem : e ∈ s.cpt.events) :
    e ∈ (leftSweep s).cpt.events := by
  unfold leftSweep; repeat' split
  all_goals (repeat first
    | with_reducible exact mem
    | with_reducible apply endLeading_events
    | with_reducible apply checkSweepStart_events
    | simp only [clearTarget_keeps])

theorem leaveTarget_events {e : EventKind} (q : SeqState) (s : State) (mem : e ∈ s.cpt.events) :
    e ∈ (leaveTarget q s).cpt.events := by
  unfold leaveTarget; repeat' split
  all_goals (repeat first
    | with_reducible exact mem
    | with_reducible apply leftSweep_events
    | simp only [clearTarget_keeps])

/-! ## LineState -/

theorem emptyPeers_events {e : EventKind} (s : State) (mem : e ∈ s.cpt.events) :
    e ∈ (emptyPeers s).cpt.events := by
  unfold emptyPeers; simp only [onlyIf]; repeat' split
  all_goals (repeat first
    | with_reducible exact mem
    | with_reducible apply raiseEvent_events)

theorem changeLine_events {e : EventKind} (target : LineState) (s : State)
    (mem : e ∈ s.cpt.events) :
    e ∈ (changeLine target s).cpt.events := by
  unfold changeLine; simp only [onlyIf]; repeat' split
  all_goals (repeat first
    | with_reducible exact mem
    | with_reducible apply raiseEvent_events
    | with_reducible apply yieldRole_events
    | with_reducible apply emptyPeers_events
    | simp only [sweepOffline_keeps])

theorem refreshLine_events {e : EventKind} (s : State) (mem : e ∈ s.cpt.events) :
    e ∈ (refreshLine s).cpt.events := by
  unfold refreshLine; repeat' split
  all_goals (repeat first
    | with_reducible exact mem
    | with_reducible apply updateFallback_events
    | with_reducible apply changeLine_events)

theorem enterSeq_events {e : EventKind} (q : SeqState) (s : State) (mem : e ∈ s.cpt.events) :
    e ∈ (enterSeq q s).cpt.events := by
  unfold enterSeq
  all_goals (repeat first
    | with_reducible exact mem
    | with_reducible apply setSeq_events
    | with_reducible apply refreshLine_events
    | simp only [identOnEntry_keeps])

/-! ## Sequence -/

theorem openContactor_events {e : EventKind} (s : State) (mem : e ∈ s.cpt.events) :
    e ∈ (openContactor s).cpt.events := by
  unfold openContactor; repeat' split
  all_goals (repeat first
    | with_reducible exact mem
    | with_reducible apply contactorOpened_events)

theorem openRelays_events {e : EventKind} (s : State) (mem : e ∈ s.cpt.events) :
    e ∈ (openRelays s).cpt.events := by
  unfold openRelays
  all_goals (repeat first
    | with_reducible exact mem
    | with_reducible apply openContactor_events
    | simp only [openPrecharge_keeps])

theorem endSession_events {e : EventKind} (cause : EndCause) (s : State) (mem : e ∈ s.cpt.events) :
    e ∈ (endSession cause s).cpt.events := by
  unfold endSession
  all_goals (repeat first
    | with_reducible exact mem
    | with_reducible apply closeSession_events
    | simp only [clearSession_keeps])

theorem enterFault_events {e : EventKind} (cause : FaultCause) (s : State)
    (mem : e ∈ s.cpt.events) :
    e ∈ (enterFault cause s).cpt.events := by
  unfold enterFault
  all_goals (repeat first
    | with_reducible exact mem
    | with_reducible apply leaveTarget_events
    | with_reducible apply enterSeq_events
    | with_reducible apply openRelays_events
    | with_reducible apply endSession_events
    | simp only [dropPrefetched_keeps, clearEnable_keeps, stopTimers_keeps, forgetStop_keeps])

theorem weldAtOnce_events {e : EventKind} (s : State) (mem : e ∈ s.cpt.events) :
    e ∈ (weldAtOnce s).cpt.events := by
  unfold weldAtOnce; split
  · exact enterFault_events _ s mem
  · exact mem

theorem tripTold_events {e : EventKind} (s : State) (mem : e ∈ s.cpt.events) :
    e ∈ (tripTold s).cpt.events := by
  unfold tripTold; simp only [onlyIf]; repeat' split
  all_goals (repeat first
    | with_reducible exact mem
    | with_reducible apply enterFault_events)

theorem setTrip_events {e : EventKind} (c : TripCause) (s : State) (mem : e ∈ s.cpt.events) :
    e ∈ (setTrip c s).cpt.events := by
  unfold setTrip
  all_goals (repeat first
    | with_reducible exact mem
    | with_reducible apply raiseEvent_events
    | with_reducible apply tripTold_events
    | simp only [clearEnable_keeps, heaterTripped_keeps])

theorem raiseTrip_events {e : EventKind} (c : TripCause) (s : State) (mem : e ∈ s.cpt.events) :
    e ∈ (raiseTrip c s).cpt.events := by
  unfold raiseTrip; repeat' split
  all_goals (repeat first
    | with_reducible exact mem
    | with_reducible apply setTrip_events)

theorem finishStop_events {e : EventKind} (s : State) (mem : e ∈ s.cpt.events) :
    e ∈ (finishStop s).cpt.events := by
  unfold finishStop; simp only [onlyIf]; repeat' split
  all_goals (repeat first
    | with_reducible exact mem
    | with_reducible apply enterSeq_events
    | with_reducible apply endSession_events
    | simp only [enqueue_keeps, stopTimers_keeps, forgetStop_keeps])

theorem isolationOpen_events {e : EventKind} (s : State) (mem : e ∈ s.cpt.events) :
    e ∈ (isolationOpen s).cpt.events := by
  unfold isolationOpen; repeat' split
  all_goals (repeat first
    | with_reducible exact mem
    | with_reducible apply setPhase_events
    | with_reducible apply isolationReached_events
    | with_reducible apply finishStop_events)

theorem contactorReadsOpen_events {e : EventKind} (s : State) (mem : e ∈ s.cpt.events) :
    e ∈ (contactorReadsOpen s).cpt.events := by
  unfold contactorReadsOpen; repeat' split
  all_goals (repeat first
    | with_reducible exact mem
    | with_reducible apply finishStop_events
    | with_reducible apply isolationOpen_events)

theorem rampDown_events {e : EventKind} (expired : Bool) (s : State) (mem : e ∈ s.cpt.events) :
    e ∈ (rampDown expired s).cpt.events := by
  unfold rampDown; dsimp only; repeat' split
  all_goals (repeat first
    | with_reducible exact mem
    | with_reducible apply setPhase_events
    | with_reducible apply openContactor_events
    | with_reducible apply contactorReadsOpen_events
    | simp only [clearEnable_keeps])

theorem rejoinStopped_events {e : EventKind} (s : State) (mem : e ∈ s.cpt.events) :
    e ∈ (rejoinStopped s).cpt.events := by
  unfold rejoinStopped; repeat' split
  all_goals (repeat first
    | with_reducible exact mem
    | with_reducible apply finishStop_events)

theorem isolatedStop_events {e : EventKind} (s : State) (mem : e ∈ s.cpt.events) :
    e ∈ (isolatedStop s).cpt.events := by
  unfold isolatedStop; repeat' split
  all_goals (repeat first
    | with_reducible exact mem
    | with_reducible apply openRelays_events
    | with_reducible apply finishStop_events
    | with_reducible apply rejoinStopped_events
    | simp only [stopTimers_keeps])

theorem recordIsolatedStop_events {e : EventKind} (cause : EndCause) (s : State)
    (mem : e ∈ s.cpt.events) :
    e ∈ (recordIsolatedStop cause s).cpt.events := by
  unfold recordIsolatedStop; simp only [onlyIf]; repeat' split
  all_goals (repeat first
    | with_reducible exact mem
    | with_reducible apply leftSweep_events
    | with_reducible apply isolatedStop_events)

theorem startStop_events {e : EventKind} (cause : EndCause) (s : State) (mem : e ∈ s.cpt.events) :
    e ∈ (startStop cause s).cpt.events := by
  unfold startStop
  all_goals (repeat first
    | with_reducible exact mem
    | with_reducible apply leaveTarget_events
    | with_reducible apply enterSeq_events)

theorem stopRequest_events {e : EventKind} (cause : EndCause) (s : State) (mem : e ∈ s.cpt.events) :
    e ∈ (stopRequest cause s).cpt.events := by
  unfold stopRequest; repeat' split
  all_goals (repeat first
    | with_reducible exact mem
    | with_reducible apply recordIsolatedStop_events
    | with_reducible apply startStop_events)

theorem suspendRequest_events {e : EventKind} (s : State) (mem : e ∈ s.cpt.events) :
    e ∈ (suspendRequest s).cpt.events := by
  unfold suspendRequest; repeat' split
  all_goals (repeat first
    | with_reducible exact mem
    | with_reducible apply enterSeq_events)

theorem takeRequest_events {e : EventKind} (r : Option MeterRequest) (s : State)
    (mem : e ∈ s.cpt.events) :
    e ∈ (takeRequest r s).cpt.events := by
  unfold takeRequest; repeat' split
  all_goals (repeat first
    | with_reducible exact mem
    | with_reducible apply stopRequest_events
    | with_reducible apply suspendRequest_events)

theorem startPrecharge_events {e : EventKind} (s : State) (mem : e ∈ s.cpt.events) :
    e ∈ (startPrecharge s).cpt.events := by
  unfold startPrecharge
  all_goals (repeat first
    | with_reducible exact mem
    | with_reducible apply enterSeq_events)

theorem joinNetwork_events {e : EventKind} (s : State) (mem : e ∈ s.cpt.events) :
    e ∈ (joinNetwork s).cpt.events := by
  unfold joinNetwork
  all_goals (repeat first
    | with_reducible exact mem
    | with_reducible apply contactorClosed_events
    | simp only [armEnable_keeps])

theorem becomeActive_events {e : EventKind} (s : State) (mem : e ∈ s.cpt.events) :
    e ∈ (becomeActive s).cpt.events := by
  unfold becomeActive; dsimp only
  all_goals (repeat first
    | with_reducible exact mem
    | with_reducible apply openSession_events
    | with_reducible apply enterSeq_events
    | with_reducible apply joinNetwork_events
    | simp only [setSession_keeps, openPrecharge_keeps])

theorem rejoin_events {e : EventKind} (s : State) (mem : e ∈ s.cpt.events) :
    e ∈ (rejoin s).cpt.events := by
  unfold rejoin; dsimp only; repeat' split
  all_goals (repeat first
    | with_reducible exact mem
    | with_reducible apply enterSeq_events
    | with_reducible apply joinNetwork_events
    | simp only [openPrecharge_keeps])

theorem contactorReadsClosed_events {e : EventKind} (s : State) (mem : e ∈ s.cpt.events) :
    e ∈ (contactorReadsClosed s).cpt.events := by
  unfold contactorReadsClosed; repeat' split
  all_goals (repeat first
    | with_reducible exact mem
    | with_reducible apply becomeActive_events
    | with_reducible apply rejoin_events)

theorem prechargeResult_events {e : EventKind} (s : State) (mem : e ∈ s.cpt.events) :
    e ∈ (prechargeResult s).cpt.events := by
  unfold prechargeResult; repeat' split
  all_goals (repeat first
    | with_reducible exact mem
    | with_reducible apply contactorReadsClosed_events)

theorem withdraw_events {e : EventKind} (s : State) (mem : e ∈ s.cpt.events) :
    e ∈ (withdraw s).cpt.events := by
  unfold withdraw
  all_goals (repeat first
    | with_reducible exact mem
    | with_reducible apply openRelays_events
    | simp only [dropPrefetched_keeps, stopTimers_keeps])

theorem cancelComplete_events {e : EventKind} (s : State) (mem : e ∈ s.cpt.events) :
    e ∈ (cancelComplete s).cpt.events := by
  unfold cancelComplete; simp only [onlyIf]; repeat' split
  all_goals (repeat first
    | with_reducible exact mem
    | with_reducible apply enterSeq_events
    | simp only [forgetStop_keeps])

theorem ownFaultTold_events {e : EventKind} (s : State) (mem : e ∈ s.cpt.events) :
    e ∈ (ownFaultTold s).cpt.events := by
  unfold ownFaultTold; repeat' split
  all_goals (repeat first
    | with_reducible exact mem
    | with_reducible apply enterSeq_events
    | with_reducible apply recordIsolatedStop_events
    | with_reducible apply startStop_events
    | with_reducible apply withdraw_events
    | simp only [forgetStop_keeps])

theorem plugSettled_events {e : EventKind} (s : State) (mem : e ∈ s.cpt.events) :
    e ∈ (plugSettled s).cpt.events := by
  unfold plugSettled; repeat' split
  all_goals (repeat first
    | with_reducible exact mem
    | with_reducible apply raiseEvent_events
    | with_reducible apply enterSeq_events)

theorem releaseButton_events {e : EventKind} (s : State) (mem : e ∈ s.cpt.events) :
    e ∈ (releaseButton s).cpt.events := by
  unfold releaseButton; repeat' split
  all_goals (repeat first
    | with_reducible exact mem
    | with_reducible apply stopRequest_events
    | simp only [enqueue_keeps])

theorem deadLoss_events {e : EventKind} (s : State) (mem : e ∈ s.cpt.events) :
    e ∈ (deadLoss s).cpt.events := by
  unfold deadLoss
  all_goals (repeat first
    | with_reducible exact mem
    | with_reducible apply enterSeq_events
    | with_reducible apply endSession_events
    | simp only [dropPrefetched_keeps, stopTimers_keeps, forgetStop_keeps])

theorem plugLost_events {e : EventKind} (s : State) (mem : e ∈ s.cpt.events) :
    e ∈ (plugLost s).cpt.events := by
  unfold plugLost; repeat' split
  all_goals (repeat first
    | with_reducible exact mem
    | with_reducible apply raiseTrip_events
    | with_reducible apply deadLoss_events
    | simp only [forgetIdent_keeps])

theorem lossOfPlug_events {e : EventKind} (s : State) (mem : e ∈ s.cpt.events) :
    e ∈ (lossOfPlug s).cpt.events := by
  unfold lossOfPlug
  exact weldAtOnce_events _ (plugLost_events _ mem)

theorem detectPlug_events {e : EventKind} (old new : ProxLevel) (s : State)
    (mem : e ∈ s.cpt.events) :
    e ∈ (detectPlug old new s).cpt.events := by
  unfold detectPlug; repeat' split
  all_goals (repeat first
    | with_reducible exact mem
    | with_reducible apply enterSeq_events)

theorem takeProximity_events {e : EventKind} (v : Int) (s : State) (mem : e ∈ s.cpt.events) :
    e ∈ (takeProximity v s).cpt.events := by
  unfold takeProximity; dsimp only; repeat' split
  all_goals (repeat first
    | with_reducible exact mem
    | with_reducible apply refreshLine_events
    | with_reducible apply plugSettled_events
    | with_reducible apply releaseButton_events
    | with_reducible apply lossOfPlug_events
    | with_reducible apply detectPlug_events)

theorem currentResult_events {e : EventKind} (s : State) (mem : e ∈ s.cpt.events) :
    e ∈ (currentResult s).cpt.events := by
  unfold currentResult; simp only [onlyIf]; repeat' split
  all_goals (repeat first
    | with_reducible exact mem
    | with_reducible apply rampDown_events)

theorem linkResult_events {e : EventKind} (s : State) (mem : e ∈ s.cpt.events) :
    e ∈ (linkResult s).cpt.events := by
  unfold linkResult; simp only [onlyIf]; repeat' split
  all_goals (repeat first
    | with_reducible exact mem
    | with_reducible apply raiseTrip_events)

/-! ## Plug -/

theorem goIdentify_events {e : EventKind} (s : State) (mem : e ∈ s.cpt.events) :
    e ∈ (goIdentify s).cpt.events := by
  unfold goIdentify; repeat' split
  all_goals (repeat first
    | with_reducible exact mem
    | with_reducible apply answerEmpty_events
    | with_reducible apply enterSeq_events)

theorem identify_events {e : EventKind} (i : Identification) (s : State) (mem : e ∈ s.cpt.events) :
    e ∈ (identify i s).cpt.events := by
  unfold identify
  all_goals (repeat first
    | with_reducible exact mem
    | with_reducible apply raiseEvent_events
    | with_reducible apply enterSeq_events)

theorem takeCode_events {e : EventKind} (bits : List Bool) (s : State) (mem : e ∈ s.cpt.events) :
    e ∈ (takeCode bits s).cpt.events := by
  unfold takeCode; repeat' split
  all_goals (repeat first
    | with_reducible exact mem
    | with_reducible apply identify_events)

theorem pilotCodeComplete_events {e : EventKind} (s : State) (mem : e ∈ s.cpt.events) :
    e ∈ (pilotCodeComplete s).cpt.events := by
  unfold pilotCodeComplete; repeat' split
  all_goals (repeat first
    | with_reducible exact mem
    | with_reducible apply takeCode_events)

theorem pilotEdge_events {e : EventKind} (span : PilotSpan) (width : Nat) (s : State)
    (mem : e ∈ s.cpt.events) :
    e ∈ (pilotEdge span width s).cpt.events := by
  unfold pilotEdge; dsimp only; repeat' split
  all_goals (repeat first
    | with_reducible exact mem
    | with_reducible apply pilotCodeComplete_events)

theorem identTimeout_events {e : EventKind} (s : State) (mem : e ∈ s.cpt.events) :
    e ∈ (identTimeout s).cpt.events := by
  unfold identTimeout; repeat' split
  all_goals (repeat first
    | with_reducible exact mem
    | with_reducible apply enterFault_events
    | with_reducible apply identify_events)

theorem resume_events {e : EventKind} (s : State) (mem : e ∈ s.cpt.events) :
    e ∈ (resume s).cpt.events := by
  unfold resume; dsimp only
  all_goals (repeat first
    | with_reducible exact mem
    | with_reducible apply activatePrefetched_events
    | with_reducible apply enterSeq_events
    | with_reducible apply takeRequest_events)

theorem goEnergize_events {e : EventKind} (slot : Byte) (stamp : Word32) (s : State)
    (mem : e ∈ s.cpt.events) :
    e ∈ (goEnergize slot stamp s).cpt.events := by
  unfold goEnergize; dsimp only; repeat' split
  all_goals (repeat first
    | with_reducible exact mem
    | with_reducible apply answerEmpty_events
    | with_reducible apply startPrecharge_events
    | with_reducible apply resume_events)

theorem goStop_events {e : EventKind} (s : State) (mem : e ∈ s.cpt.events) :
    e ∈ (goStop s).cpt.events := by
  unfold goStop; repeat' split
  all_goals (repeat first
    | with_reducible exact mem
    | with_reducible apply answerEmpty_events
    | with_reducible apply stopRequest_events)

theorem idle_events {e : EventKind} (s : State) (mem : e ∈ s.cpt.events) :
    e ∈ (idle s).cpt.events := by
  unfold idle
  all_goals (repeat first
    | with_reducible exact mem
    | with_reducible apply leaveTarget_events
    | with_reducible apply enterSeq_events
    | with_reducible apply openRelays_events
    | with_reducible apply endSession_events
    | simp only [enqueue_keeps, clearEnable_keeps, stopTimers_keeps, forgetStop_keeps,
        dropIfEnergizing_keeps])

theorem idleFromFault_events {e : EventKind} (s : State) (mem : e ∈ s.cpt.events) :
    e ∈ (idleFromFault s).cpt.events := by
  unfold idleFromFault; repeat' split
  all_goals (repeat first
    | with_reducible exact mem
    | with_reducible apply answerEmpty_events
    | with_reducible apply enterSeq_events
    | simp only [enqueue_keeps])

theorem goIdle_events {e : EventKind} (s : State) (mem : e ∈ s.cpt.events) :
    e ∈ (goIdle s).cpt.events := by
  unfold goIdle; repeat' split
  all_goals (repeat first
    | with_reducible exact mem
    | with_reducible apply answerEmpty_events
    | with_reducible apply idle_events
    | with_reducible apply idleFromFault_events)

theorem startCancel_events {e : EventKind} (s : State) (mem : e ∈ s.cpt.events) :
    e ∈ (startCancel s).cpt.events := by
  unfold startCancel
  all_goals (repeat first
    | with_reducible exact mem
    | with_reducible apply withdraw_events
    | with_reducible apply cancelComplete_events)

theorem cancel_events {e : EventKind} (s : State) (mem : e ∈ s.cpt.events) :
    e ∈ (cancel s).cpt.events := by
  unfold cancel; repeat' split
  all_goals (repeat first
    | with_reducible exact mem
    | with_reducible apply answerEmpty_events
    | with_reducible apply enterSeq_events
    | with_reducible apply startCancel_events)

theorem prechargeTimeout_events {e : EventKind} (s : State) (mem : e ∈ s.cpt.events) :
    e ∈ (prechargeTimeout s).cpt.events := by
  unfold prechargeTimeout; repeat' split
  all_goals (repeat first
    | with_reducible exact mem
    | with_reducible apply enterFault_events)

theorem contactorTimeout_events {e : EventKind} (s : State) (mem : e ∈ s.cpt.events) :
    e ∈ (contactorTimeout s).cpt.events := by
  unfold contactorTimeout; repeat' split
  all_goals (repeat first
    | with_reducible exact mem
    | with_reducible apply enterFault_events)

theorem batteryLowTimeout_events {e : EventKind} (s : State) (mem : e ∈ s.cpt.events) :
    e ∈ (batteryLowTimeout s).cpt.events := by
  unfold batteryLowTimeout; repeat' split
  all_goals (repeat first
    | with_reducible exact mem
    | with_reducible apply stopRequest_events)

theorem stopTimerExpiry_events {e : EventKind} (s : State) (mem : e ∈ s.cpt.events) :
    e ∈ (stopTimerExpiry s).cpt.events := by
  unfold stopTimerExpiry; repeat' split
  all_goals (repeat first
    | with_reducible exact mem
    | with_reducible apply rampDown_events)

theorem contactorCloses_events {e : EventKind} (s : State) (mem : e ∈ s.cpt.events) :
    e ∈ (contactorCloses s).cpt.events := by
  unfold contactorCloses; repeat' split
  all_goals (repeat first
    | with_reducible exact mem
    | with_reducible apply weldAtOnce_events
    | with_reducible apply contactorReadsClosed_events)

theorem contactorOpens_events {e : EventKind} (s : State) (mem : e ∈ s.cpt.events) :
    e ∈ (contactorOpens s).cpt.events := by
  unfold contactorOpens
  all_goals (repeat first
    | with_reducible exact mem
    | with_reducible apply contactorReadsOpen_events
    | with_reducible apply rejoinStopped_events
    | with_reducible apply cancelComplete_events)

theorem prechargeOpens_events {e : EventKind} (s : State) (mem : e ∈ s.cpt.events) :
    e ∈ (prechargeOpens s).cpt.events := by
  unfold prechargeOpens
  all_goals (repeat first
    | with_reducible exact mem
    | with_reducible apply rejoinStopped_events
    | with_reducible apply cancelComplete_events)

theorem relayFeedback_events {e : EventKind} (relay : PlugRelay) (closed : Bool) (s : State)
    (mem : e ∈ s.cpt.events) :
    e ∈ (relayFeedback relay closed s).cpt.events := by
  unfold relayFeedback; repeat' split
  all_goals (repeat first
    | with_reducible exact mem
    | with_reducible apply contactorCloses_events
    | with_reducible apply contactorOpens_events
    | with_reducible apply prechargeOpens_events)

theorem supervisionExpiry_events {e : EventKind} (relay : PlugRelay) (s : State)
    (mem : e ∈ s.cpt.events) :
    e ∈ (supervisionExpiry relay s).cpt.events := by
  unfold supervisionExpiry; simp only [onlyIf]; repeat' split
  all_goals (repeat first
    | with_reducible exact mem
    | with_reducible apply enterFault_events)

/-! ## Trip -/

theorem deadTimeEnd_events {e : EventKind} (k : Leg) (s : State) (mem : e ∈ s.cpt.events) :
    e ∈ (deadTimeEnd k s).cpt.events := by
  unfold deadTimeEnd; simp only [onlyIf]; repeat' split
  all_goals (repeat first
    | with_reducible exact mem
    | with_reducible apply raiseTrip_events
    | simp only [watchConflicts_keeps])

theorem conflictExpiry_events {e : EventKind} (k : Leg) (s : State) (mem : e ∈ s.cpt.events) :
    e ∈ (conflictExpiry k s).cpt.events := by
  unfold conflictExpiry; repeat' split
  all_goals (repeat first
    | with_reducible exact mem
    | with_reducible apply raiseTrip_events
    | simp only [setConflict_keeps])

theorem extFilterExpiry_events {e : EventKind} (s : State) (mem : e ∈ s.cpt.events) :
    e ∈ (extFilterExpiry s).cpt.events := by
  unfold extFilterExpiry; repeat' split
  all_goals (repeat first
    | with_reducible exact mem
    | with_reducible apply raiseTrip_events)

theorem gridExpiry_events {e : EventKind} (s : State) (mem : e ∈ s.cpt.events) :
    e ∈ (gridExpiry s).cpt.events := by
  unfold gridExpiry; repeat' split
  all_goals (repeat first
    | with_reducible exact mem
    | with_reducible apply raiseTrip_events)

theorem meteringInterval_events {e : EventKind} (s : State) (mem : e ∈ s.cpt.events) :
    e ∈ (meteringInterval s).cpt.events := by
  unfold meteringInterval; dsimp only; repeat' split
  all_goals (repeat first
    | with_reducible exact mem
    | with_reducible apply meterInterval_events
    | with_reducible apply takeRequest_events)

theorem meterSample_events {e : EventKind} (s : State) (mem : e ∈ s.cpt.events) :
    e ∈ (meterSample s).cpt.events := by
  unfold meterSample
  all_goals (repeat first
    | with_reducible exact mem
    | with_reducible apply meteringInterval_events
    | simp only [takeSample_keeps])

/-! ## Monitor -/

theorem setOwnFault_events {e : EventKind} (s : State) (mem : e ∈ s.cpt.events) :
    e ∈ (setOwnFault s).cpt.events := by
  unfold setOwnFault; dsimp only; repeat' split
  all_goals (repeat first
    | with_reducible exact mem
    | with_reducible apply raiseEvent_events
    | with_reducible apply ownFaultTold_events
    | simp only [startSelfCheck_keeps])

theorem passSelfCheck_events {e : EventKind} (s : State) (mem : e ∈ s.cpt.events) :
    e ∈ (passSelfCheck s).cpt.events := by
  unfold passSelfCheck
  all_goals (repeat first
    | with_reducible exact mem
    | with_reducible apply raiseEvent_events)

theorem selfCheckResult_events {e : EventKind} (rf passed : Nat) (s : State)
    (mem : e ∈ s.cpt.events) :
    e ∈ (selfCheckResult rf passed s).cpt.events := by
  unfold selfCheckResult; repeat' split
  all_goals (repeat first
    | with_reducible exact mem
    | with_reducible apply failSelfCheck_events
    | with_reducible apply passSelfCheck_events)

theorem passClearing_events {e : EventKind} (s : State) (mem : e ∈ s.cpt.events) :
    e ∈ (passClearing s).cpt.events := by
  unfold passClearing
  all_goals (repeat first
    | with_reducible exact mem
    | with_reducible apply raiseEvent_events)

theorem clearingResult_events {e : EventKind} (rf : Nat) (s : State) (mem : e ∈ s.cpt.events) :
    e ∈ (clearingResult rf s).cpt.events := by
  unfold clearingResult; repeat' split
  all_goals (repeat first
    | with_reducible exact mem
    | with_reducible apply failClearing_events
    | with_reducible apply passClearing_events)

theorem ownStepResult_events {e : EventKind} (r : LeaderRecord) (s : State)
    (mem : e ∈ s.cpt.events) :
    e ∈ (ownStepResult r s).cpt.events := by
  unfold ownStepResult; repeat' split
  all_goals (repeat first
    | with_reducible exact mem
    | with_reducible apply endLeading_events
    | with_reducible apply ownNotFound_events
    | with_reducible apply setOwnFault_events)

theorem ownConsequence_events {e : EventKind} (before : Evaluation) (s : State)
    (mem : e ∈ s.cpt.events) :
    e ∈ (ownConsequence before s).cpt.events := by
  unfold ownConsequence; simp only [onlyIf]; repeat' split
  all_goals (repeat first
    | with_reducible exact mem
    | with_reducible apply setOwnFault_events
    | with_reducible apply ownStepResult_events)

theorem localResult_events {e : EventKind} (r : InsResult) (s : State) (mem : e ∈ s.cpt.events) :
    e ∈ (localResult r s).cpt.events := by
  unfold localResult; simp only [onlyIf]; repeat' split
  all_goals (repeat first
    | with_reducible exact mem
    | with_reducible apply judgeOwn_events
    | with_reducible apply selfCheckResult_events
    | with_reducible apply clearingResult_events
    | with_reducible apply ownConsequence_events
    | simp only [noteVerdict_keeps])

theorem measureFault_events {e : EventKind} (s : State) (mem : e ∈ s.cpt.events) :
    e ∈ (measureFault s).cpt.events := by
  unfold measureFault
  all_goals (repeat first
    | with_reducible exact mem
    | with_reducible apply raiseEvent_events)

theorem decideStep_events {e : EventKind} (rf : Nat) (r : LeaderRecord) (s : State)
    (mem : e ∈ s.cpt.events) :
    e ∈ (decideStep rf r s).cpt.events := by
  unfold decideStep; repeat' split
  all_goals (repeat first
    | with_reducible exact mem
    | with_reducible apply endLeading_events
    | with_reducible apply nextStep_events)

theorem alarmChange_events {e : EventKind} (before : Evaluation) (s : State)
    (mem : e ∈ s.cpt.events) :
    e ∈ (alarmChange before s).cpt.events := by
  unfold alarmChange; simp only [onlyIf]; repeat' split
  all_goals (repeat first
    | with_reducible exact mem
    | with_reducible apply checkSweepStart_events)

theorem jointResult_events {e : EventKind} (r : InsResult) (s : State) (mem : e ∈ s.cpt.events) :
    e ∈ (jointResult r s).cpt.events := by
  unfold jointResult; dsimp only; repeat' split
  all_goals (repeat first
    | with_reducible exact mem
    | with_reducible apply judgeNet_events
    | with_reducible apply decideStep_events
    | with_reducible apply alarmChange_events
    | simp only [enqueue_keeps])

theorem cycleOutcome_events {e : EventKind} (uPlus uMinus : Int) (estimate : Bool) (s : State)
    (mem : e ∈ s.cpt.events) :
    e ∈ (cycleOutcome uPlus uMinus estimate s).cpt.events := by
  unfold cycleOutcome; dsimp only; repeat' split
  all_goals (repeat first
    | with_reducible exact mem
    | with_reducible apply interference_events
    | with_reducible apply localResult_events
    | with_reducible apply measureFault_events
    | with_reducible apply jointResult_events)

theorem endCycle_events {e : EventKind} (v : Int) (c : Cycle) (s : State) (mem : e ∈ s.cpt.events) :
    e ∈ (endCycle v c s).cpt.events := by
  unfold endCycle; dsimp only; repeat' split
  all_goals (repeat first
    | with_reducible exact mem
    | with_reducible apply cycleOutcome_events
    | simp only [announceHalf_keeps])

theorem sampleHalf_events {e : EventKind} (v : Int) (c : Cycle) (s : State)
    (mem : e ∈ s.cpt.events) :
    e ∈ (sampleHalf v c s).cpt.events := by
  unfold sampleHalf; dsimp only; repeat' split
  all_goals (repeat first
    | with_reducible exact mem
    | with_reducible apply endCycle_events
    | simp only [announceHalf_keeps])

theorem takeViso_events {e : EventKind} (v : Int) (s : State) (mem : e ∈ s.cpt.events) :
    e ∈ (takeViso v s).cpt.events := by
  unfold takeViso; repeat' split
  all_goals (repeat first
    | with_reducible exact mem
    | with_reducible apply sampleHalf_events
    | simp only [announceHalf_keeps])

theorem takeMeasureStart_events {e : EventKind} (s : State) (mem : e ∈ s.cpt.events) :
    e ∈ (takeMeasureStart s).cpt.events := by
  unfold takeMeasureStart; dsimp only; repeat' split
  all_goals (repeat first
    | with_reducible exact mem
    | with_reducible apply interference_events
    | simp only [hearMeasurer_keeps])

theorem takeMeasureResult_events {e : EventKind} (rf : Nat) (estimate : Bool) (s : State)
    (mem : e ∈ s.cpt.events) :
    e ∈ (takeMeasureResult rf estimate s).cpt.events := by
  unfold takeMeasureResult; dsimp only; repeat' split
  all_goals (repeat first
    | with_reducible exact mem
    | with_reducible apply judgeNet_events
    | with_reducible apply endUnmonitored_events
    | simp only [hearMeasurer_keeps])

theorem follow_events {e : EventKind} (leader : Nat) (s : State) (mem : e ∈ s.cpt.events) :
    e ∈ (follow leader s).cpt.events := by
  unfold follow
  all_goals (repeat first
    | with_reducible exact mem
    | with_reducible apply raiseEvent_events)

theorem takeAlert_events {e : EventKind} (sender : Nat) (s : State) (mem : e ∈ s.cpt.events) :
    e ∈ (takeAlert sender s).cpt.events := by
  unfold takeAlert; repeat' split
  all_goals (repeat first
    | with_reducible exact mem
    | with_reducible apply follow_events)

theorem becomeTarget_events {e : EventKind} (index : Nat) (s : State) (mem : e ∈ s.cpt.events) :
    e ∈ (becomeTarget index s).cpt.events := by
  unfold becomeTarget; repeat' split
  all_goals (repeat first
    | with_reducible exact mem
    | with_reducible apply raiseEvent_events
    | with_reducible apply enterIsolation_events
    | simp only [reportTarget_keeps, answerSweep_keeps])

theorem serveStep_events {e : EventKind} (target index : Nat) (s : State) (mem : e ∈ s.cpt.events) :
    e ∈ (serveStep target index s).cpt.events := by
  unfold serveStep; repeat' split
  all_goals (repeat first
    | with_reducible exact mem
    | with_reducible apply releaseTarget_events
    | with_reducible apply becomeTarget_events)

theorem takeSweepStep_events {e : EventKind} (sender target index : Nat) (s : State)
    (mem : e ∈ s.cpt.events) :
    e ∈ (takeSweepStep sender target index s).cpt.events := by
  unfold takeSweepStep; repeat' split
  all_goals (repeat first
    | with_reducible exact mem
    | with_reducible apply follow_events
    | with_reducible apply serveStep_events)

theorem takeSweepAnswer_events {e : EventKind} (sender code : Nat) (s : State)
    (mem : e ∈ s.cpt.events) :
    e ∈ (takeSweepAnswer sender code s).cpt.events := by
  unfold takeSweepAnswer; dsimp only; repeat' split
  all_goals (repeat first
    | with_reducible exact mem
    | with_reducible apply nextStep_events
    | simp only [startCycle_keeps])

theorem foundHere_events {e : EventKind} (o : SweepOutcome) (s : State) (mem : e ∈ s.cpt.events) :
    e ∈ (foundHere o s).cpt.events := by
  unfold foundHere; simp only [onlyIf]; repeat' split
  all_goals (repeat first
    | with_reducible exact mem
    | with_reducible apply raiseEvent_events
    | with_reducible apply endSweep_events
    | with_reducible apply setOwnFault_events
    | simp only [clearTarget_keeps])

theorem takeResult_events {e : EventKind} (o : SweepOutcome) (s : State) (mem : e ∈ s.cpt.events) :
    e ∈ (takeResult o s).cpt.events := by
  unfold takeResult; dsimp only; repeat' split
  all_goals (repeat first
    | with_reducible exact mem
    | with_reducible apply endSweep_events
    | with_reducible apply checkSweepStart_events
    | with_reducible apply releaseTarget_events
    | with_reducible apply foundHere_events)

theorem takeSweepResult_events {e : EventKind} (sender code found : Nat) (s : State)
    (mem : e ∈ s.cpt.events) :
    e ∈ (takeSweepResult sender code found s).cpt.events := by
  unfold takeSweepResult; repeat' split
  all_goals (repeat first
    | with_reducible exact mem
    | with_reducible apply takeResult_events)

theorem unmonitoredExpiry_events {e : EventKind} (s : State) (mem : e ∈ s.cpt.events) :
    e ∈ (unmonitoredExpiry s).cpt.events := by
  unfold unmonitoredExpiry; repeat' split
  all_goals (repeat first
    | with_reducible exact mem
    | with_reducible apply raiseEvent_events)

theorem sweepAnswerTimeout_events {e : EventKind} (s : State) (mem : e ∈ s.cpt.events) :
    e ∈ (sweepAnswerTimeout s).cpt.events := by
  unfold sweepAnswerTimeout; repeat' split
  all_goals (repeat first
    | with_reducible exact mem
    | with_reducible apply nextStep_events)

theorem sweepCycleTimeout_events {e : EventKind} (s : State) (mem : e ∈ s.cpt.events) :
    e ∈ (sweepCycleTimeout s).cpt.events := by
  unfold sweepCycleTimeout; repeat' split
  all_goals (repeat first
    | with_reducible exact mem
    | with_reducible apply ownNotFound_events
    | with_reducible apply nextStep_events)

theorem leaderSilenceExpiry_events {e : EventKind} (s : State) (mem : e ∈ s.cpt.events) :
    e ∈ (leaderSilenceExpiry s).cpt.events := by
  unfold leaderSilenceExpiry; repeat' split
  all_goals (repeat first
    | with_reducible exact mem
    | with_reducible apply endSweep_events
    | with_reducible apply checkSweepStart_events
    | with_reducible apply releaseTarget_events)

theorem sweepHoldExpiry_events {e : EventKind} (s : State) (mem : e ∈ s.cpt.events) :
    e ∈ (sweepHoldExpiry s).cpt.events := by
  unfold sweepHoldExpiry; repeat' split
  all_goals (repeat first
    | with_reducible exact mem
    | with_reducible apply checkSweepStart_events)

theorem clearInsulation_events {e : EventKind} (s : State) (mem : e ∈ s.cpt.events) :
    e ∈ (clearInsulation s).cpt.events := by
  unfold clearInsulation; repeat' split
  all_goals (repeat first
    | with_reducible exact mem
    | with_reducible apply answerEmpty_events
    | simp only [startClearing_keeps])

theorem readInsulation_events {e : EventKind} (s : State) (mem : e ∈ s.cpt.events) :
    e ∈ (readInsulation s).cpt.events := by
  unfold readInsulation
  all_goals (repeat first
    | with_reducible exact mem
    | with_reducible apply answer_events)

/-! ## Delivery -/

theorem putEntry_events {k : EventKind} (e : PeerEntry) (extra : Bool) (s : State)
    (mem : k ∈ s.cpt.events) :
    k ∈ (putEntry e extra s).cpt.events := by
  unfold putEntry; dsimp only; repeat' split
  all_goals (repeat first
    | with_reducible exact mem
    | with_reducible apply updateFallback_events
    | simp only [extraAndEvaluate_keeps])

theorem takeBeacon_events {e : EventKind} (station feeder : Nat) (demand draw : Word16)
    (flags : Byte) (resistance : Word16) (leader : Byte) (s : State) (mem : e ∈ s.cpt.events) :
    e ∈ (takeBeacon station feeder demand draw flags resistance leader s).cpt.events := by
  unfold takeBeacon; dsimp only; repeat' split
  all_goals (repeat first
    | with_reducible exact mem
    | with_reducible apply raiseEvent_events
    | with_reducible apply updateFallback_events
    | with_reducible apply putEntry_events)

theorem takeLeave_events {e : EventKind} (station : Nat) (s : State) (mem : e ∈ s.cpt.events) :
    e ∈ (takeLeave station s).cpt.events := by
  unfold takeLeave; repeat' split
  all_goals (repeat first
    | with_reducible exact mem
    | with_reducible apply raiseEvent_events
    | with_reducible apply updateFallback_events)

theorem electionAtBeacon_events {e : EventKind} (station : Nat) (measurer : Bool) (s : State)
    (mem : e ∈ s.cpt.events) :
    e ∈ (electionAtBeacon station measurer s).cpt.events := by
  unfold electionAtBeacon; simp only [onlyIf]; repeat' split
  all_goals (repeat first
    | with_reducible exact mem
    | with_reducible apply yieldRole_events
    | simp only [hearMeasurer_keeps])

theorem deliver_events {e : EventKind} (f : Frame) (s : State) (mem : e ∈ s.cpt.events) :
    e ∈ (deliver f s).cpt.events := by
  unfold deliver; dsimp only; repeat' split
  all_goals (repeat first
    | with_reducible exact mem
    | with_reducible apply takeMeasureStart_events
    | with_reducible apply takeMeasureResult_events
    | with_reducible apply takeAlert_events
    | with_reducible apply takeSweepStep_events
    | with_reducible apply takeSweepAnswer_events
    | with_reducible apply takeSweepResult_events
    | with_reducible apply takeBeacon_events
    | with_reducible apply takeLeave_events
    | with_reducible apply electionAtBeacon_events)

theorem route_events {e : EventKind} (f : Frame) (s : State) (mem : e ∈ s.cpt.events) :
    e ∈ (route f s).cpt.events := by
  unfold route; repeat' split
  all_goals (repeat first
    | with_reducible exact mem
    | with_reducible apply raiseEvent_events
    | with_reducible apply deliver_events)

theorem detectDuplicate_events {e : EventKind} (station : BitVec 6) (s : State)
    (mem : e ∈ s.cpt.events) :
    e ∈ (detectDuplicate station s).cpt.events := by
  unfold detectDuplicate; simp only [onlyIf]; repeat' split
  all_goals (repeat first
    | with_reducible exact mem
    | with_reducible apply raiseEvent_events
    | with_reducible apply refreshLine_events
    | simp only [emptyForDuplicate_keeps])

theorem takeGood_events {e : EventKind} (station : BitVec 6) (frame : Option Frame) (s : State)
    (mem : e ∈ s.cpt.events) :
    e ∈ (takeGood station frame s).cpt.events := by
  unfold takeGood; dsimp only; repeat' split
  all_goals (repeat first
    | with_reducible exact mem
    | with_reducible apply route_events
    | with_reducible apply detectDuplicate_events
    | simp only [driveAck_keeps])

theorem receive_events {e : EventKind} (f : Frame) (s : State) (mem : e ∈ s.cpt.events) :
    e ∈ (receive f s).cpt.events := by
  unfold receive; repeat' split
  all_goals (repeat first
    | with_reducible exact mem
    | with_reducible apply takeGood_events)

theorem frameBits_events {e : EventKind} (bits : List Bool) (s : State) (mem : e ∈ s.cpt.events) :
    e ∈ (frameBits bits s).cpt.events := by
  unfold frameBits; repeat' split
  all_goals (repeat first
    | with_reducible exact mem
    | with_reducible apply takeGood_events
    | simp only [driveAck_keeps])

theorem enterSilent_events {e : EventKind} (s : State) (mem : e ∈ s.cpt.events) :
    e ∈ (enterSilent s).cpt.events := by
  unfold enterSilent
  all_goals (repeat first
    | with_reducible exact mem
    | with_reducible apply raiseEvent_events
    | with_reducible apply refreshLine_events)

theorem bitError_events {e : EventKind} (s : State) (mem : e ∈ s.cpt.events) :
    e ∈ (bitError s).cpt.events := by
  unfold bitError; dsimp only; repeat' split
  all_goals (repeat first
    | with_reducible exact mem
    | with_reducible apply enterSilent_events
    | simp only [dropAttempt_keeps])

theorem noteOutcome_events {e : EventKind} (heard : Bool) (s : State) (mem : e ∈ s.cpt.events) :
    e ∈ (noteOutcome heard s).cpt.events := by
  unfold noteOutcome
  all_goals (repeat first
    | with_reducible exact mem
    | with_reducible apply updateFallback_events)

theorem attemptOutcome_events {e : EventKind} (b : FrameBody) (heard : Bool) (s : State)
    (mem : e ∈ s.cpt.events) :
    e ∈ (attemptOutcome b heard s).cpt.events := by
  unfold attemptOutcome; repeat' split
  all_goals (repeat first
    | with_reducible exact mem
    | with_reducible apply noteOutcome_events)

theorem txComplete_events {e : EventKind} (heard : Bool) (s : State) (mem : e ∈ s.cpt.events) :
    e ∈ (txComplete heard s).cpt.events := by
  unfold txComplete; repeat' split
  all_goals (repeat first
    | with_reducible exact mem
    | with_reducible apply attemptOutcome_events
    | simp only [leaveQueue_keeps])

theorem silentExpiry_events {e : EventKind} (s : State) (mem : e ∈ s.cpt.events) :
    e ∈ (silentExpiry s).cpt.events := by
  unfold silentExpiry; repeat' split
  all_goals (repeat first
    | with_reducible exact mem
    | with_reducible apply refreshLine_events)

theorem ageTable_events {e : EventKind} (s : State) (mem : e ∈ s.cpt.events) :
    e ∈ (ageTable s).cpt.events := by
  unfold ageTable; simp only [onlyIf]; repeat' split
  all_goals (repeat first
    | with_reducible exact mem
    | with_reducible apply raiseEvent_events)

theorem measuringRoleTake_events {e : EventKind} (s : State) (mem : e ∈ s.cpt.events) :
    e ∈ (measuringRoleTake s).cpt.events := by
  unfold measuringRoleTake; repeat' split
  all_goals (repeat first
    | with_reducible exact mem
    | with_reducible apply takeRole_events)

theorem sharePeriod_events {e : EventKind} (s : State) (mem : e ∈ s.cpt.events) :
    e ∈ (sharePeriod s).cpt.events := by
  unfold sharePeriod; dsimp only
  all_goals (repeat first
    | with_reducible exact mem
    | with_reducible apply updateFallback_events
    | with_reducible apply ageTable_events
    | simp only [enqueue_keeps, fullComputation_keeps, evaluate_keeps, handDOwn_keeps,
        lowerOverflow_keeps])

theorem beaconPeriod_events {e : EventKind} (s : State) (mem : e ∈ s.cpt.events) :
    e ∈ (beaconPeriod s).cpt.events := by
  unfold beaconPeriod; repeat' split
  all_goals (repeat first
    | with_reducible exact mem
    | with_reducible apply measuringRoleTake_events
    | with_reducible apply sharePeriod_events
    | simp only [electionCounts_keeps])

theorem removeAged_events {e : EventKind} (s : State) (mem : e ∈ s.cpt.events) :
    e ∈ (removeAged s).cpt.events := by
  unfold removeAged; simp only [onlyIf]; repeat' split
  all_goals (repeat first
    | with_reducible exact mem
    | with_reducible apply raiseEvent_events
    | with_reducible apply updateFallback_events)

/-! ## Measure -/

theorem limitAction_events {e : EventKind} (i : Fin 16) (s : State) (mem : e ∈ s.cpt.events) :
    e ∈ (limitAction i s).cpt.events := by
  unfold limitAction; repeat' split
  all_goals (repeat first
    | with_reducible exact mem
    | with_reducible apply raiseEvent_events
    | with_reducible apply raiseTrip_events)

theorem limitActions_events {e : EventKind} (is : List (Fin 16)) (s : State)
    (mem : e ∈ s.cpt.events) : e ∈ (is.foldl (fun t i => limitAction i t) s).cpt.events := by
  induction is generalizing s with
  | nil => exact mem
  | cons i is ih => exact ih _ (limitAction_events i s mem)

theorem publishScan_events {e : EventKind} (k : ScanKind) (pairs : List (Word16 × Word16))
    (s : State) (mem : e ∈ s.cpt.events) :
    e ∈ (publishScan k pairs s).cpt.events := by
  exact limitActions_events _ _ mem

theorem handRms_events {e : EventKind} (k : Phase) (m : PhaseMeter) (s : State)
    (mem : e ∈ s.cpt.events) :
    e ∈ (handRms k m s).cpt.events := by
  unfold handRms
  all_goals (repeat first
    | with_reducible exact mem
    | with_reducible apply newRms_events)

theorem spanLapse_events {e : EventKind} (k : Phase) (s : State) (mem : e ∈ s.cpt.events) :
    e ∈ (spanLapse k s).cpt.events := by
  unfold spanLapse; repeat' split
  all_goals (repeat first
    | with_reducible exact mem
    | with_reducible apply handRms_events)

theorem setOutOfRange_events {e : EventKind} (b : Bool) (s : State) (mem : e ∈ s.cpt.events) :
    e ∈ (setOutOfRange b s).cpt.events := by
  unfold setOutOfRange; simp only [onlyIf]; repeat' split
  all_goals (repeat first
    | with_reducible exact mem
    | with_reducible apply raiseEvent_events
    | simp only [takeOutOfRange_keeps])

theorem lineCrossing_events {e : EventKind} (seenBefore : Bool) (s : State)
    (mem : e ∈ s.cpt.events) :
    e ∈ (lineCrossing seenBefore s).cpt.events := by
  unfold lineCrossing; dsimp only; repeat' split
  all_goals (repeat first
    | with_reducible exact mem
    | with_reducible apply setOutOfRange_events)

theorem phaseResult_events {e : EventKind} (k : Phase) (s : State) (mem : e ∈ s.cpt.events) :
    e ∈ (phaseResult k s).cpt.events := by
  unfold phaseResult; simp only [onlyIf]; repeat' split
  all_goals (repeat first
    | with_reducible exact mem
    | with_reducible apply newRms_events
    | with_reducible apply lineCrossing_events)

theorem linePeriodLapse_events {e : EventKind} (s : State) (mem : e ∈ s.cpt.events) :
    e ∈ (linePeriodLapse s).cpt.events := by
  unfold linePeriodLapse; repeat' split
  all_goals (repeat first
    | with_reducible exact mem
    | with_reducible apply setOutOfRange_events)

theorem publishFast_events {e : EventKind} (pairs : List (Word16 × Word16)) (s : State)
    (mem : e ∈ s.cpt.events) :
    e ∈ (publishFast pairs s).cpt.events := by
  unfold publishFast; simp only [onlyIf]; repeat' split
  all_goals (repeat first
    | with_reducible exact mem
    | with_reducible apply heaterOvercurrent_events
    | with_reducible apply prechargeResult_events
    | with_reducible apply currentResult_events
    | with_reducible apply linkResult_events
    | with_reducible apply publishScan_events
    | with_reducible apply spanLapse_events
    | with_reducible apply phaseResult_events
    | with_reducible apply linePeriodLapse_events
    | simp only [batteryResult_keeps, accumulateHeat_keeps])

theorem publishSlow_events {e : EventKind} (pairs : List (Word16 × Word16)) (s : State)
    (mem : e ∈ s.cpt.events) :
    e ∈ (publishSlow pairs s).cpt.events := by
  unfold publishSlow; dsimp only
  all_goals (repeat first
    | with_reducible exact mem
    | with_reducible apply takeProximity_events
    | with_reducible apply takeViso_events
    | with_reducible apply publishScan_events
    | simp only [takeTemperature_keeps, judgeSensors_keeps])

theorem fastPair_events {e : EventKind} (p : Word16 × Word16) (s : State) (mem : e ∈ s.cpt.events) :
    e ∈ (fastPair p s).cpt.events := by
  unfold fastPair; dsimp only; repeat' split
  all_goals (repeat first
    | with_reducible exact mem
    | with_reducible apply publishFast_events)

theorem slowPair_events {e : EventKind} (p : Word16 × Word16) (s : State) (mem : e ∈ s.cpt.events) :
    e ∈ (slowPair p s).cpt.events := by
  unfold slowPair; dsimp only; repeat' split
  all_goals (repeat first
    | with_reducible exact mem
    | with_reducible apply publishSlow_events)

theorem pairDone_events {e : EventKind} (first second : Word16) (s : State)
    (mem : e ∈ s.cpt.events) :
    e ∈ (pairDone first second s).cpt.events := by
  unfold pairDone; repeat' split
  all_goals (repeat first
    | with_reducible exact mem
    | with_reducible apply fastPair_events
    | with_reducible apply slowPair_events)

theorem carrierTrough_events {e : EventKind} (s : State) (mem : e ∈ s.cpt.events) :
    e ∈ (carrierTrough s).cpt.events := by
  unfold carrierTrough
  all_goals (repeat first
    | with_reducible exact mem
    | with_reducible apply linePeriodLapse_events
    | simp only [loopEvent_keeps, startFastScan_keeps, troughCounters_keeps,
        transferCompare_keeps])

theorem readMeasure_events {e : EventKind} (slot clear : Byte) (s : State)
    (mem : e ∈ s.cpt.events) :
    e ∈ (readMeasure slot clear s).cpt.events := by
  unfold readMeasure; simp only [onlyIf]; repeat' split
  all_goals (repeat first
    | with_reducible exact mem
    | with_reducible apply answer_events
    | with_reducible apply answerEmpty_events
    | simp only [clearSeen_keeps])

/-! ## Port -/

theorem chipSelect_events {e : EventKind} (s : State) (mem : e ∈ s.cpt.events) :
    e ∈ (chipSelect s).cpt.events := by
  unfold chipSelect
  all_goals with_reducible exact mem

theorem endTransaction_events {e : EventKind} (received : List Byte) (s : State)
    (mem : e ∈ s.cpt.events) :
    e ∈ (endTransaction received s).cpt.events := by
  unfold endTransaction; repeat' split
  all_goals (repeat first
    | with_reducible exact mem
    | with_reducible apply answerEmpty_events)

theorem getStatus_events {e : EventKind} (s : State) (mem : e ∈ s.cpt.events) :
    e ∈ (getStatus s).cpt.events := by
  unfold getStatus
  all_goals (repeat first
    | with_reducible exact mem
    | with_reducible apply answer_events)

theorem takeSettings_events {e : EventKind} (p : ConfigPayload) (s : State)
    (mem : e ∈ s.cpt.events) :
    e ∈ (takeSettings p s).cpt.events := by
  unfold takeSettings
  all_goals with_reducible exact mem

theorem applyConfig_events {e : EventKind} (p : ConfigPayload) (s : State)
    (mem : e ∈ s.cpt.events) :
    e ∈ (applyConfig p s).cpt.events := by
  unfold applyConfig
  all_goals (repeat first
    | with_reducible exact mem
    | with_reducible apply raiseEvent_events
    | with_reducible apply refreshLine_events
    | with_reducible apply takeSettings_events
    | simp only [watchConflicts_keeps, selectHeater_keeps, restartCycle_keeps])

theorem configure_events {e : EventKind} (p : ConfigPayload) (s : State) (mem : e ∈ s.cpt.events) :
    e ∈ (configure p s).cpt.events := by
  unfold configure; repeat' split
  all_goals (repeat first
    | with_reducible exact mem
    | with_reducible apply answer_events
    | with_reducible apply answerEmpty_events
    | with_reducible apply applyConfig_events)

end Sys2Proof.Machine
end

