-- ==== Sys2Proof/Laws/Queues.lean ====
section
/-! SUPPORT. The transmit queue, the page's writes and places, the peer table and the share walk as
lists. -/

namespace Sys2Proof.Machine

/-! ## The transmit queue (R39) -/

@[simp] theorem joinClass_length (q : Queued) (qs : List Queued) :
    (joinClass q qs).length = qs.length + 1 := by
  induction qs with
  | nil => rfl
  | cons x xs ih => rw [joinClass]; split <;> simp [ih]

theorem mem_joinClass (q x : Queued) (qs : List Queued) :
    x ∈ joinClass q qs ↔ x = q ∨ x ∈ qs := by
  induction qs with
  | nil => simp [joinClass]
  | cons y ys ih => rw [joinClass]; split <;> simp [ih]; tauto

theorem enqueueFrame_length (f : Frame) (qs : List Queued) (h : qs.length ≤ 4) :
    (enqueueFrame f qs).length ≤ 4 := by
  unfold enqueueFrame; dsimp only
  split
  · simpa using h
  · split
    · simp; omega
    · split
      · simp; omega
      · exact h

/-- A frame is queued where there is room (R39). -/
theorem mem_enqueueFrame (f : Frame) (qs : List Queued) (h : qs.length < 4) :
    ∃ q ∈ enqueueFrame f qs, q.frame = f := by
  unfold enqueueFrame; dsimp only
  split
  next k =>
    obtain ⟨x, m, e⟩ := List.any_eq_true.1 k
    exact ⟨⟨f, false⟩, List.mem_map.2 ⟨x, m, by simp [e]⟩, rfl⟩
  next => exact ⟨⟨f, false⟩, by simp [mem_joinClass], rfl⟩

theorem unmark_length (qs : List Queued) : (unmark qs).length = qs.length := by simp [unmark]

@[simp] theorem markFirst_length (p : Queued → Bool) (qs : List Queued) :
    (markFirst p qs).length = qs.length := by
  induction qs with
  | nil => rfl
  | cons q qs ih => rw [markFirst]; split <;> simp [ih, unmark_length]

/-- Marking an attempt's frame changes no queued frame. -/
theorem markFirst_frames (p : Queued → Bool) (qs : List Queued) :
    (markFirst p qs).map (·.frame) = qs.map (·.frame) := by
  induction qs with
  | nil => rfl
  | cons q qs ih => rw [markFirst]; split <;> simp [ih, unmark, Function.comp_def]

/-- The frame that an attempt takes stands behind those passed over. -/
theorem markFirst_eq (p : Queued → Bool) {qs rest : List Queued} {q : Queued}
    (h : (qs.dropWhile fun x => !p x) = q :: rest) :
    qs.find? p = some q ∧ markFirst p qs =
      unmark (qs.takeWhile fun x => !p x) ++ { q with inAttempt := true } :: unmark rest := by
  induction qs with
  | nil => simp at h
  | cons x xs ih =>
    cases hx : p x with
    | true =>
      simp only [List.dropWhile_cons, hx, Bool.not_true, Bool.false_eq_true, if_false] at h
      obtain ⟨rfl, rfl⟩ := List.cons.inj h
      simp [markFirst, hx, unmark]
    | false =>
      simp only [List.dropWhile_cons, hx, Bool.not_false, if_true] at h
      obtain ⟨f, m⟩ := ih h
      simp [markFirst, hx, f, m, unmark]

/-- No attempt starts where no queued frame may be sent. -/
theorem find_eq_none_of_dropWhile (p : Queued → Bool) {qs : List Queued}
    (h : (qs.dropWhile fun x => !p x) = []) : qs.find? p = none := by
  induction qs with
  | nil => rfl
  | cons x xs ih =>
    cases hx : p x with
    | true => simp [hx] at h
    | false =>
      simp only [List.dropWhile_cons, hx, Bool.not_false, if_true] at h
      simp [hx, ih h]

/-- An enqueue request writes the queue and nothing else. -/
theorem enqueue_fli (b : FrameBody) (s : State) :
    (enqueue b s).fli = { s.fli with queue := (enqueue b s).fli.queue } := by
  unfold enqueue; split <;> rfl

/-! ## The peer table (R45 to R49) -/

theorem mem_putPeer (e x : PeerEntry) (ps : List PeerEntry) :
    x ∈ putPeer e ps → x = e ∨ x ∈ ps := by
  induction ps with
  | nil => simp [putPeer]
  | cons y ys ih =>
    rw [putPeer]
    split
    · simp
    · split
      · simp; tauto
      · simp; tauto

theorem self_mem_putPeer (e : PeerEntry) (ps : List PeerEntry) : e ∈ putPeer e ps := by
  induction ps with
  | nil => simp [putPeer]
  | cons y ys ih =>
    rw [putPeer]
    split
    · simp
    · split
      · simp
      · simp [ih]

theorem putPeer_length (e : PeerEntry) (ps : List PeerEntry) :
    (putPeer e ps).length ≤ ps.length + 1 := by
  induction ps with
  | nil => simp [putPeer]
  | cons y ys ih =>
    rw [putPeer]
    split
    · simp
    · split <;> simp; omega

theorem agePeers_length (ps : List PeerEntry) : (agePeers ps).length ≤ ps.length := by
  unfold agePeers
  exact le_trans (List.length_filter_le ..) (by simp)

/-! ## The share walk (R55, R56) -/

theorem insertAmount_perm (a : Amount) (bs : List Amount) : (insertAmount a bs).Perm (a :: bs) := by
  induction bs with
  | nil => exact .refl _
  | cons b bs ih =>
    rw [insertAmount]
    split
    · exact .refl _
    · exact (ih.cons b).trans (.swap a b bs)

theorem walkOrder_perm (as : List Amount) : (walkOrder as).Perm as := by
  induction as with
  | nil => exact .refl _
  | cons a as ih => exact (insertAmount_perm a _).trans (ih.cons a)

theorem handOut_stations (f r : Nat) (as : List Amount) :
    (handOut f r as).map (·.station) = as.map (·.station) := by simp [handOut, Function.comp_def]

/-- The walk answers one line for each station, in its order. -/
theorem walk_stations (rem : Nat) (as : List Amount) :
    (walk rem as).map (·.station) = as.map (·.station) := by
  induction as generalizing rem with
  | nil => simp [walk]
  | cons a as ih =>
    simp only [walk]
    split
    · simp [ih]
    · exact handOut_stations ..

theorem allocate_stations (available : Nat) (as : List Amount) :
    ((allocate available as).map (·.station)).Perm (as.map (·.station)) := by
  unfold allocate
  rw [walk_stations]
  exact (walkOrder_perm as).map _

/-! ## The page (R186, R187) -/

@[simp] theorem Page.place_putPlace_self (g : Page) (p : Place) (x : Stored (Option Placed)) :
    (g.putPlace p x).place p = x := by cases p <;> rfl

theorem Page.place_putPlace_other (g : Page) {p q : Place} (h : q ≠ p) (x : Stored (Option Placed)) :
    (g.putPlace p x).place q = g.place q := by
  cases p <;> cases q <;> first | rfl | exact absurd rfl h

@[simp] theorem Page.putPlace_doubled (g : Page) (p : Place) (x : Stored (Option Placed)) :
    (g.putPlace p x).counters = g.counters ∧ (g.putPlace p x).checkpoint = g.checkpoint := by
  cases p <;> exact ⟨rfl, rfl⟩

@[simp] theorem PageWrite.sameTarget_self (w : PageWrite) : w.sameTarget w = true := by
  cases w <;> simp [PageWrite.sameTarget]

theorem PageWrite.sameTarget_comm (v w : PageWrite) : v.sameTarget w = w.sameTarget v := by
  cases v <;> cases w <;> simp [PageWrite.sameTarget, Bool.beq_comm]

theorem self_mem_putWrite (w : PageWrite) (ws : List PageWrite) : w ∈ putWrite w ws := by
  unfold putWrite
  split
  next h =>
    obtain ⟨x, m, e⟩ := List.any_eq_true.1 h
    exact List.mem_map.2 ⟨x, m, by simp [e]⟩
  next => simp

theorem mem_putWrite {w x : PageWrite} {ws : List PageWrite} (h : x ∈ putWrite w ws) :
    x = w ∨ x ∈ ws := by
  unfold putWrite at h
  split at h
  · obtain ⟨y, m, e⟩ := List.mem_map.1 h
    split at e
    · exact .inl e.symm
    · exact .inr (e ▸ m)
  · simpa [or_comm] using h

/-- A queued write changes the write queue and the write in flight and nothing else of the store. -/
theorem Mst.queueWrite_eq (w : PageWrite) (m : Mst) :
    m.queueWrite w =
      { m with writes := (m.queueWrite w).writes, inFlight := (m.queueWrite w).inFlight } := by
  unfold Mst.queueWrite Mst.startNext; split <;> rfl

theorem queueWrite_mst (w : PageWrite) (s : State) : (queueWrite w s).mst = s.mst.queueWrite w := by
  unfold queueWrite; simp only [onlyIf]; split <;> rfl

end Sys2Proof.Machine
end

