-- ==== Sys2Proof/Laws/Sequencer.lean ====
section
/-! SUPPORT. What the sequencer's shared operations write: its state, the relays, the session, the monitor's
mode, the output enable, and the line state that follows (R1, R4, R5, R25, R36, R98, R138, R174, R183). -/

namespace Sys2Proof.Machine

/-! ## The sequencer's own record -/

theorem setSeq_psq (q : SeqState) (s : State) :
    (setSeq q s).psq = if s.psq.seq = q then s.psq else leaveState q s.psq := by
  unfold setSeq; split <;> simp

@[simp] theorem setSeq_seq (q : SeqState) (s : State) : (setSeq q s).psq.seq = q := by
  rw [setSeq_psq]; split
  · assumption
  · unfold leaveState; rfl

theorem enterSeq_psq (q : SeqState) (s : State) :
    (enterSeq q s).psq =
      if (identOnEntry q s).psq.seq = q then (identOnEntry q s).psq
      else leaveState q (identOnEntry q s).psq := by
  simp [enterSeq, setSeq_psq]

@[simp] theorem enterSeq_seq (q : SeqState) (s : State) : (enterSeq q s).psq.seq = q := by
  simp [enterSeq]

theorem identOnEntry_psq (q : SeqState) (s : State) :
    (identOnEntry q s).psq =
      { s.psq with ident := if q = .plugged ∨ q = .unplugged then none else s.psq.ident } := by
  cases q <;> simp [identOnEntry, forgetIdent, copyIdent]

theorem setPhase_psq (p : IsoPhase) (s : State) :
    (setPhase p s).psq = { s.psq with seq := .sweepIsolated p } := rfl

theorem takeRelease_psq (s : State) :
    (takeRelease s).psq =
      if s.psq.seq = .sweepIsolated .isoWait then
        { s.psq with seq := .sweepIsolated .isoRejoin, prechargeCmd := true, prechargeTimer := true }
      else s.psq := by
  unfold takeRelease; split <;> rfl

/-! ## Relays and the output enable -/

theorem openPrecharge_psq (s : State) :
    (openPrecharge s).psq =
      { s.psq with
        prechargeCmd := false, prechargeSup := s.psq.prechargeCmd || s.psq.prechargeSup } := by
  unfold openPrecharge
  split
  next h => simp [h]
  next h =>
    have h := Bool.eq_false_iff.2 h
    simp only [h, Bool.false_or]
    rw [← h]

theorem openContactor_psq (s : State) :
    (openContactor s).psq =
      { s.psq with
        contactorCmd := false, contactorSup := s.psq.contactorCmd || s.psq.contactorSup } := by
  unfold openContactor
  split
  next h => simp [h]
  next h =>
    have h := Bool.eq_false_iff.2 h
    simp only [h, Bool.false_or]
    rw [← h]

theorem openRelays_psq (s : State) :
    (openRelays s).psq =
      { s.psq with
        contactorCmd := false, contactorSup := s.psq.contactorCmd || s.psq.contactorSup
        prechargeCmd := false, prechargeSup := s.psq.prechargeCmd || s.psq.prechargeSup } := by
  rw [openRelays, openContactor_psq, openPrecharge_psq]

@[simp] theorem clearEnable_enable (s : State) : (clearEnable s).ptu.enable = false := by
  unfold clearEnable; split
  · rfl
  · simpa using ‹¬ s.ptu.enable = true›

/-- After the check no weld is left untaken: a contactor that reads closed is commanded closed, supervised
or the cause of FAULT (R5). -/
theorem weldAtOnce_taken (s : State) (closed : (weldAtOnce s).psq.contactorFb = true) :
    (weldAtOnce s).psq.contactorCmd = true ∨ (weldAtOnce s).psq.contactorSup = true ∨
      (weldAtOnce s).psq.seq = .fault := by
  unfold weldAtOnce at closed ⊢
  split
  next => right; right; simp [enterFault]
  next h =>
    rw [if_neg h] at closed
    by_cases c : s.psq.contactorCmd <;> by_cases u : s.psq.contactorSup <;> simp_all

/-- The sequencer after a start: its reset state, with the relays opening under supervision (R5, R25, log 77). -/
@[simp] theorem restart_psq (cause : ResetCause) (page : Page) (s : State) :
    (restart cause page s).psq =
      { Psq.reset s.psq.contactorFb s.psq.prechargeFb with
        contactorSup := s.psq.contactorCmd || s.psq.contactorFb, prechargeSup := s.psq.prechargeCmd } := by
  simp [restart, superviseAtStart, State.blank]

/-- A contactor that reads closed after a start is supervised (R5, log 77). -/
theorem restart_supervises (cause : ResetCause) (page : Page) (s : State)
    (closed : (restart cause page s).psq.contactorFb = true) :
    (restart cause page s).psq.contactorSup = true := by
  simp_all [Psq.reset]

/-! ## The session -/

@[simp] theorem closeSession_session (cause : EndCause) (forced : Bool) (s : State) :
    (closeSession cause forced s).mtr.session = none := by
  unfold closeSession; split
  · assumption
  · simp

@[simp] theorem endSession_session (cause : EndCause) (s : State) :
    (endSession cause s).mtr.session = none := by simp [endSession]

theorem endSession_shu (cause : EndCause) (s : State) :
    (endSession cause s).shu.session = false ∧ (endSession cause s).shu.joint = false ∧
    (endSession cause s).shu.sEff = 0 := by simp [endSession, clearSession]

theorem markSession_closed (f : SessionFlags → SessionFlags) {s : State}
    (closed : s.mtr.session = none) : (markSession f s).mtr = s.mtr := by
  simp only [markSession, closed, Option.map_none]
  rw [← closed]

/-- With no session open an entry to fallback marks none (R174). -/
theorem updateFallback_mtr {s : State} (closed : s.mtr.session = none) :
    (updateFallback s).mtr = s.mtr := by
  unfold updateFallback enterFallback
  dsimp only
  split <;> simp [markSession_closed, closed]

/-- With no session open an entry to a state leaves the meter as it is. -/
theorem enterSeq_mtr (q : SeqState) {s : State} (closed : s.mtr.session = none) :
    (enterSeq q s).mtr = s.mtr := by
  unfold enterSeq refreshLine
  split <;> rw [updateFallback_mtr] <;> simp [closed]

@[simp] theorem updateFallback_sessionOpen (s : State) :
    sessionOpen (updateFallback s) = sessionOpen s := by
  unfold updateFallback enterFallback
  dsimp only
  split <;> simp [sessionOpen, markSession]

/-- An entry to a state opens no session and closes none (R174, R183). -/
@[simp] theorem enterSeq_sessionOpen (q : SeqState) (s : State) :
    sessionOpen (enterSeq q s) = sessionOpen s := by
  unfold enterSeq refreshLine
  split <;> rw [updateFallback_sessionOpen] <;> simp [sessionOpen]

/-! ## The monitor's mode (R138) -/

theorem enterLocal_mode (s : State) : (enterLocal s).imn.mode = .localMode := by
  unfold enterLocal startSelfCheck forgetNet endUnmonitored
  simp only [onlyIf]
  repeat' split
  all_goals simp [startCycle, raiseEvent]

theorem abandonSweep_mode (s : State) : (abandonSweep s).imn.mode = s.imn.mode := by
  unfold abandonSweep
  split
  · simp [endLeading, clearTarget, endSweep, raiseEvent]
  · rfl

theorem loseRole_mode (s : State) : (loseRole s).imn.mode = s.imn.mode := by
  unfold loseRole
  split
  · split
    · rfl
    · exact abandonSweep_mode s
  · rfl

/-- The contactor's opening leaves the monitor in LOCAL (R138). -/
@[simp] theorem contactorOpened_mode (s : State) : (contactorOpened s).imn.mode = .localMode := by
  unfold contactorOpened
  split <;> simp [loseRole_mode, enterLocal_mode, *]

/-- The contactor's closing takes a monitor in LOCAL to JOINT-passive, and no other (R138). -/
theorem contactorClosed_mode (s : State) :
    (contactorClosed s).imn.mode = if s.imn.mode = .localMode then .passive else s.imn.mode := by
  unfold contactorClosed
  split <;> simp_all [stopInjection]

/-! ## The line (R36, R61) -/

@[simp] theorem enterLine_line (target : LineState) (n : Nat) (f : Fli) :
    (enterLine target n f).line = target := by
  unfold enterLine; split <;> (try split) <;> rfl

theorem enqueue_line (b : FrameBody) (s : State) : (enqueue b s).fli.line = s.fli.line := by
  unfold enqueue; split <;> rfl

theorem endLeading_line (r : LeaderRecord) (o : SweepOutcome) (hold : Bool) (s : State) :
    (endLeading r o hold s).fli.line = s.fli.line := by simp [endLeading, enqueue_line]

theorem yieldRole_line (s : State) : (yieldRole s).fli.line = s.fli.line := by
  unfold yieldRole; split
  · unfold abandonSweep; split
    · simp [endLeading_line, removeMeasureFrames]
    · simp [removeMeasureFrames]
  · rfl

@[simp] theorem changeLine_line (target : LineState) (s : State) :
    (changeLine target s).fli.line = target := by
  unfold changeLine; simp only [onlyIf]
  repeat' split
  all_goals simp [yieldRole_line]

/-- The line is in the state that R36 gave when it was decided. -/
@[simp] theorem refreshLine_line (s : State) : (refreshLine s).fli.line = lineTarget s := by
  unfold refreshLine
  rw [(updateFallback_keeps _).2.2.2.1]
  split
  · exact (Eq.symm ‹_›)
  · simp

/-! ## A pending release -/

theorem yieldRole_pendingRelease {s : State} (none : s.imn.pendingRelease = false) :
    (yieldRole s).imn.pendingRelease = false := by
  unfold yieldRole abandonSweep endLeading clearTarget
  repeat' split
  all_goals simp_all [stopInjection]

theorem changeLine_pendingRelease (target : LineState) {s : State}
    (none : s.imn.pendingRelease = false) : (changeLine target s).imn.pendingRelease = false := by
  unfold changeLine sweepOffline clearTarget
  simp only [onlyIf]
  repeat' split
  all_goals first
    | exact yieldRole_pendingRelease (by simp [*])
    | simp [*]

theorem enterSeq_pendingRelease (q : SeqState) {s : State} (none : s.imn.pendingRelease = false) :
    (enterSeq q s).imn.pendingRelease = false := by
  unfold enterSeq refreshLine
  split
  · simp [none]
  · simpa using changeLine_pendingRelease _ (by simpa using none)

/-- A stop that completes leaves no pending release (R160, log 67). -/
theorem finishStop_pendingRelease (s : State) : (finishStop s).imn.pendingRelease = false := by
  unfold finishStop
  simp only [onlyIf]
  split <;> simpa using enterSeq_pendingRelease _ (by simp)

end Sys2Proof.Machine
end

