-- ==== Sys2Proof/Laws/State.lean ====
section
/-! SUPPORT. What the plain updates of the state write and leave, field by field, each by `rfl`; and the
reading of one phase or leg after a write. -/

namespace Sys2Proof.Machine

/-! ## Running and held in reset -/

theorem whenRunning_running {f : State → State} {s : State} (h : s.power = .running) :
    whenRunning f s = .next (f s) := by simp [whenRunning, h]

theorem whenRunning_held {f : State → State} {s : State} (h : s.power = .heldInReset) :
    whenRunning f s = .next s := by simp [whenRunning, h]

theorem whenRunningOr_running {g f : State → State} {s : State} (h : s.power = .running) :
    whenRunningOr g f s = .next (f s) := by simp [whenRunningOr, h]

theorem whenRunningOr_held {g f : State → State} {s : State} (h : s.power = .heldInReset) :
    whenRunningOr g f s = .next (g s) := by simp [whenRunningOr, h]

@[simp] theorem onlyIf_true {σ : Type} (f : σ → σ) (s : σ) : onlyIf true f s = f s := rfl
@[simp] theorem onlyIf_false {σ : Type} (f : σ → σ) (s : σ) : onlyIf false f s = s := rfl

/-! ## Phases and legs -/

@[simp] theorem PerPhase.get_set_self {α : Type} (p : PerPhase α) (k : Phase) (a : α) :
    (p.set k a).get k = a := by cases k <;> rfl

theorem PerPhase.get_set_other {α : Type} (p : PerPhase α) {j k : Phase} (h : j ≠ k) (a : α) :
    (p.set k a).get j = p.get j := by cases j <;> cases k <;> first | rfl | exact absurd rfl h

theorem PerPhase.get_set {α : Type} (p : PerPhase α) (j k : Phase) (a : α) :
    (p.set k a).get j = if j = k then a else p.get j := by cases j <;> cases k <;> rfl

@[simp] theorem PerLeg.get_set_self {α : Type} (p : PerLeg α) (k : Leg) (a : α) :
    (p.set k a).get k = a := by cases k <;> rfl

theorem PerLeg.get_set_other {α : Type} (p : PerLeg α) {j k : Leg} (h : j ≠ k) (a : α) :
    (p.set k a).get j = p.get j := by cases j <;> cases k <;> first | rfl | exact absurd rfl h

theorem PerLeg.get_set {α : Type} (p : PerLeg α) (j k : Leg) (a : α) :
    (p.set k a).get j = if j = k then a else p.get j := by cases j <;> cases k <;> rfl

@[simp] theorem PerLeg.get_map {α β : Type} (f : Leg → α → β) (p : PerLeg α) (k : Leg) :
    (p.map f).get k = f k (p.get k) := by cases k <;> rfl

theorem PerLeg.eq_of_get {α : Type} {p q : PerLeg α} (h : ∀ k, p.get k = q.get k) : p = q := by
  cases p; cases q; simpa [PerLeg.get] using ⟨h .u, h .v, h .w, h .d⟩

theorem PerPhase.eq_of_get {α : Type} {p q : PerPhase α} (h : ∀ k, p.get k = q.get k) : p = q := by
  cases p; cases q; simpa [PerPhase.get] using ⟨h .u, h .v, h .w⟩

/-! ## Plain updates -/

@[simp] theorem raiseEvent_cpt (k : EventKind) (s : State) :
    (raiseEvent k s).cpt.reply = s.cpt.reply ∧ (raiseEvent k s).cpt.shifting = s.cpt.shifting ∧
    (raiseEvent k s).cpt.events = insertEvent k s.cpt.events ∧
    (raiseEvent k s).cpt.configured = s.cpt.configured ∧
    (raiseEvent k s).cpt.resetCause = s.cpt.resetCause := by
  and_intros <;> rfl

@[simp] theorem answer_cpt (status : Status) (body : ReplyBody) (s : State) :
    (answer status body s).cpt.reply = ⟨status, body⟩ ∧
    (answer status body s).cpt.shifting = none ∧ (answer status body s).cpt.events = s.cpt.events ∧
    (answer status body s).cpt.configured = s.cpt.configured ∧
    (answer status body s).cpt.resetCause = s.cpt.resetCause := by
  and_intros <;> rfl

@[simp] theorem answerEmpty_cpt (status : Status) (s : State) :
    (answerEmpty status s).cpt.reply = ⟨status, .empty⟩ ∧
    (answerEmpty status s).cpt.shifting = none ∧ (answerEmpty status s).cpt.events = s.cpt.events ∧
    (answerEmpty status s).cpt.configured = s.cpt.configured ∧
    (answerEmpty status s).cpt.resetCause = s.cpt.resetCause := by
  and_intros <;> rfl

@[simp] theorem markSession_mtr (f : SessionFlags → SessionFlags) (s : State) :
    (markSession f s).mtr.sampleCount = s.mtr.sampleCount ∧
    (markSession f s).mtr.powerSum = s.mtr.powerSum ∧
    (markSession f s).mtr.heaterSum = s.mtr.heaterSum ∧
    (markSession f s).mtr.importCarry = s.mtr.importCarry ∧
    (markSession f s).mtr.heaterCarry = s.mtr.heaterCarry ∧
    (markSession f s).mtr.table = s.mtr.table ∧
    (markSession f s).mtr.prefetched = s.mtr.prefetched := by
  and_intros <;> rfl

@[simp] theorem writeHeaterDuty_htr (d : Nat) (s : State) :
    (writeHeaterDuty d s).htr.tOn = s.htr.tOn ∧ (writeHeaterDuty d s).htr.tOff = s.htr.tOff ∧
    (writeHeaterDuty d s).htr.pHmax = s.htr.pHmax ∧
    (writeHeaterDuty d s).htr.permission = s.htr.permission ∧
    (writeHeaterDuty d s).htr.pBattMax = s.htr.pBattMax ∧
    (writeHeaterDuty d s).htr.tBat = s.htr.tBat ∧ (writeHeaterDuty d s).htr.state = s.htr.state ∧
    (writeHeaterDuty d s).htr.pHeatReq = s.htr.pHeatReq ∧
    (writeHeaterDuty d s).htr.budget = s.htr.budget ∧
    (writeHeaterDuty d s).htr.source = s.htr.source ∧ (writeHeaterDuty d s).htr.duty = d ∧
    (writeHeaterDuty d s).htr.relay = s.htr.relay ∧
    (writeHeaterDuty d s).htr.settleTimer = s.htr.settleTimer ∧
    (writeHeaterDuty d s).htr.accSum = s.htr.accSum ∧
    (writeHeaterDuty d s).htr.accCount = s.htr.accCount ∧
    (writeHeaterDuty d s).htr.overcurrent = s.htr.overcurrent ∧
    (writeHeaterDuty d s).htr.openLatch = s.htr.openLatch ∧
    (writeHeaterDuty d s).htr.openMs = s.htr.openMs ∧
    (writeHeaterDuty d s).htr.isolateReq = s.htr.isolateReq := by
  and_intros <;> rfl

@[simp] theorem writeHeaterDuty_ptu (d : Nat) (s : State) :
    (writeHeaterDuty d s).ptu.fc = s.ptu.fc ∧ (writeHeaterDuty d s).ptu.divider = s.ptu.divider ∧
    (writeHeaterDuty d s).ptu.nextTiming = s.ptu.nextTiming ∧
    (writeHeaterDuty d s).ptu.position = s.ptu.position ∧
    (writeHeaterDuty d s).ptu.troughCount = s.ptu.troughCount ∧
    (writeHeaterDuty d s).ptu.buffer = s.ptu.buffer ∧
    (writeHeaterDuty d s).ptu.inUse = s.ptu.inUse ∧ (writeHeaterDuty d s).ptu.heaterBuffer = d ∧
    (writeHeaterDuty d s).ptu.heaterInUse = s.ptu.heaterInUse ∧
    (writeHeaterDuty d s).ptu.heaterOnTime = s.ptu.heaterOnTime ∧
    (writeHeaterDuty d s).ptu.legs = s.ptu.legs ∧
    (writeHeaterDuty d s).ptu.feedback = s.ptu.feedback ∧
    (writeHeaterDuty d s).ptu.enable = s.ptu.enable ∧ (writeHeaterDuty d s).ptu.trip = s.ptu.trip ∧
    (writeHeaterDuty d s).ptu.extActive = s.ptu.extActive ∧
    (writeHeaterDuty d s).ptu.extFilter = s.ptu.extFilter ∧
    (writeHeaterDuty d s).ptu.extInactive = s.ptu.extInactive ∧
    (writeHeaterDuty d s).ptu.gridTimer = s.ptu.gridTimer := by
  and_intros <;> rfl

@[simp] theorem dropPrefetched_mtr (s : State) :
    (dropPrefetched s).mtr.sampleCount = s.mtr.sampleCount ∧
    (dropPrefetched s).mtr.powerSum = s.mtr.powerSum ∧
    (dropPrefetched s).mtr.heaterSum = s.mtr.heaterSum ∧
    (dropPrefetched s).mtr.importCarry = s.mtr.importCarry ∧
    (dropPrefetched s).mtr.heaterCarry = s.mtr.heaterCarry ∧
    (dropPrefetched s).mtr.table = s.mtr.table ∧ (dropPrefetched s).mtr.session = s.mtr.session ∧
    (dropPrefetched s).mtr.prefetched = none := by
  and_intros <;> rfl

@[simp] theorem endChain_mtr (s : State) :
    (endChain s).mtr.sampleCount = s.mtr.sampleCount ∧ (endChain s).mtr.powerSum = s.mtr.powerSum ∧
    (endChain s).mtr.heaterSum = s.mtr.heaterSum ∧
    (endChain s).mtr.importCarry = s.mtr.importCarry ∧
    (endChain s).mtr.heaterCarry = s.mtr.heaterCarry ∧ (endChain s).mtr.table = s.mtr.table ∧
    (endChain s).mtr.prefetched = none := by
  and_intros <;> rfl

@[simp] theorem onLastItem_mtr (f : LineItem → LineItem) (s : State) :
    (onLastItem f s).mtr.sampleCount = s.mtr.sampleCount ∧
    (onLastItem f s).mtr.powerSum = s.mtr.powerSum ∧
    (onLastItem f s).mtr.heaterSum = s.mtr.heaterSum ∧
    (onLastItem f s).mtr.importCarry = s.mtr.importCarry ∧
    (onLastItem f s).mtr.heaterCarry = s.mtr.heaterCarry ∧
    (onLastItem f s).mtr.table = s.mtr.table ∧
    (onLastItem f s).mtr.prefetched = s.mtr.prefetched := by
  and_intros <;> rfl

@[simp] theorem countElapsed_mtr (s : State) :
    (countElapsed s).mtr.sampleCount = s.mtr.sampleCount ∧
    (countElapsed s).mtr.powerSum = s.mtr.powerSum ∧
    (countElapsed s).mtr.heaterSum = s.mtr.heaterSum ∧
    (countElapsed s).mtr.importCarry = s.mtr.importCarry ∧
    (countElapsed s).mtr.heaterCarry = s.mtr.heaterCarry ∧
    (countElapsed s).mtr.table = s.mtr.table ∧
    (countElapsed s).mtr.prefetched = s.mtr.prefetched := by
  and_intros <;> rfl

@[simp] theorem endTargetReport_shu (s : State) :
    (endTargetReport s).shu.peers = s.shu.peers ∧
    (endTargetReport s).shu.identCopy = s.shu.identCopy ∧
    (endTargetReport s).shu.session = s.shu.session ∧ (endTargetReport s).shu.joint = s.shu.joint ∧
    (endTargetReport s).shu.dOwnHanded = s.shu.dOwnHanded ∧
    (endTargetReport s).shu.sweepTarget = false ∧ (endTargetReport s).shu.sNew = s.shu.sNew ∧
    (endTargetReport s).shu.activeCount = s.shu.activeCount ∧
    (endTargetReport s).shu.sEff = s.shu.sEff ∧
    (endTargetReport s).shu.pendingRise = s.shu.pendingRise ∧
    (endTargetReport s).shu.joining = s.shu.joining ∧
    (endTargetReport s).shu.overflow = s.shu.overflow ∧
    (endTargetReport s).shu.conds = s.shu.conds := by
  and_intros <;> rfl

@[simp] theorem startCycle_imn (s : State) :
    (startCycle s).imn.mode = s.imn.mode ∧
    (startCycle s).imn.contactorClosed = s.imn.contactorClosed ∧
    (startCycle s).imn.coupling = true ∧ (startCycle s).imn.driver = s.imn.driver ∧
    (startCycle s).imn.cycle = some .fresh ∧ (startCycle s).imn.halfIndex = s.imn.halfIndex ∧
    (startCycle s).imn.localResult = s.imn.localResult ∧
    (startCycle s).imn.jointResult = s.imn.jointResult ∧
    (startCycle s).imn.resultInRole = s.imn.resultInRole ∧
    (startCycle s).imn.localFlag = s.imn.localFlag ∧ (startCycle s).imn.net = s.imn.net ∧
    (startCycle s).imn.own = s.imn.own ∧ (startCycle s).imn.unmonitored = s.imn.unmonitored ∧
    (startCycle s).imn.unmonTimer = s.imn.unmonTimer ∧
    (startCycle s).imn.clearCount = s.imn.clearCount ∧ (startCycle s).imn.backoff = s.imn.backoff ∧
    (startCycle s).imn.measurerHeard = s.imn.measurerHeard ∧
    (startCycle s).imn.ownFault = s.imn.ownFault ∧
    (startCycle s).imn.heaterIsolated = s.imn.heaterIsolated ∧
    (startCycle s).imn.selfCheck = s.imn.selfCheck ∧ (startCycle s).imn.clearing = s.imn.clearing ∧
    (startCycle s).imn.lastClearing = s.imn.lastClearing ∧
    (startCycle s).imn.measureFaults = s.imn.measureFaults ∧
    (startCycle s).imn.sweep = s.imn.sweep ∧ (startCycle s).imn.target = s.imn.target ∧
    (startCycle s).imn.pendingRelease = s.imn.pendingRelease ∧
    (startCycle s).imn.outcome = s.imn.outcome ∧
    (startCycle s).imn.disagreement = s.imn.disagreement ∧ (startCycle s).imn.hold = s.imn.hold := by
  and_intros <;> rfl

@[simp] theorem stopInjection_imn (s : State) :
    (stopInjection s).imn.mode = s.imn.mode ∧
    (stopInjection s).imn.contactorClosed = s.imn.contactorClosed ∧
    (stopInjection s).imn.coupling = false ∧ (stopInjection s).imn.driver = .zero ∧
    (stopInjection s).imn.cycle = none ∧ (stopInjection s).imn.halfIndex = s.imn.halfIndex ∧
    (stopInjection s).imn.localResult = s.imn.localResult ∧
    (stopInjection s).imn.jointResult = s.imn.jointResult ∧
    (stopInjection s).imn.resultInRole = s.imn.resultInRole ∧
    (stopInjection s).imn.localFlag = s.imn.localFlag ∧ (stopInjection s).imn.net = s.imn.net ∧
    (stopInjection s).imn.own = s.imn.own ∧ (stopInjection s).imn.unmonitored = s.imn.unmonitored ∧
    (stopInjection s).imn.unmonTimer = s.imn.unmonTimer ∧
    (stopInjection s).imn.clearCount = s.imn.clearCount ∧
    (stopInjection s).imn.backoff = s.imn.backoff ∧
    (stopInjection s).imn.measurerHeard = s.imn.measurerHeard ∧
    (stopInjection s).imn.ownFault = s.imn.ownFault ∧
    (stopInjection s).imn.heaterIsolated = s.imn.heaterIsolated ∧
    (stopInjection s).imn.selfCheck = s.imn.selfCheck ∧
    (stopInjection s).imn.clearing = s.imn.clearing ∧
    (stopInjection s).imn.lastClearing = s.imn.lastClearing ∧
    (stopInjection s).imn.measureFaults = s.imn.measureFaults ∧
    (stopInjection s).imn.sweep = s.imn.sweep ∧ (stopInjection s).imn.target = s.imn.target ∧
    (stopInjection s).imn.pendingRelease = s.imn.pendingRelease ∧
    (stopInjection s).imn.outcome = s.imn.outcome ∧
    (stopInjection s).imn.disagreement = s.imn.disagreement ∧
    (stopInjection s).imn.hold = s.imn.hold := by
  and_intros <;> rfl

@[simp] theorem hearMeasurer_imn (s : State) :
    (hearMeasurer s).imn.mode = s.imn.mode ∧
    (hearMeasurer s).imn.contactorClosed = s.imn.contactorClosed ∧
    (hearMeasurer s).imn.coupling = s.imn.coupling ∧ (hearMeasurer s).imn.driver = s.imn.driver ∧
    (hearMeasurer s).imn.cycle = s.imn.cycle ∧ (hearMeasurer s).imn.halfIndex = s.imn.halfIndex ∧
    (hearMeasurer s).imn.localResult = s.imn.localResult ∧
    (hearMeasurer s).imn.jointResult = s.imn.jointResult ∧
    (hearMeasurer s).imn.resultInRole = s.imn.resultInRole ∧
    (hearMeasurer s).imn.localFlag = s.imn.localFlag ∧ (hearMeasurer s).imn.net = s.imn.net ∧
    (hearMeasurer s).imn.own = s.imn.own ∧ (hearMeasurer s).imn.unmonitored = s.imn.unmonitored ∧
    (hearMeasurer s).imn.unmonTimer = s.imn.unmonTimer ∧
    (hearMeasurer s).imn.clearCount = s.imn.clearCount ∧
    (hearMeasurer s).imn.backoff = s.imn.backoff ∧ (hearMeasurer s).imn.measurerHeard = true ∧
    (hearMeasurer s).imn.ownFault = s.imn.ownFault ∧
    (hearMeasurer s).imn.heaterIsolated = s.imn.heaterIsolated ∧
    (hearMeasurer s).imn.selfCheck = s.imn.selfCheck ∧
    (hearMeasurer s).imn.clearing = s.imn.clearing ∧
    (hearMeasurer s).imn.lastClearing = s.imn.lastClearing ∧
    (hearMeasurer s).imn.measureFaults = s.imn.measureFaults ∧
    (hearMeasurer s).imn.sweep = s.imn.sweep ∧ (hearMeasurer s).imn.target = s.imn.target ∧
    (hearMeasurer s).imn.pendingRelease = s.imn.pendingRelease ∧
    (hearMeasurer s).imn.outcome = s.imn.outcome ∧
    (hearMeasurer s).imn.disagreement = s.imn.disagreement ∧
    (hearMeasurer s).imn.hold = s.imn.hold := by
  and_intros <;> rfl

@[simp] theorem stopTimers_psq (s : State) :
    (stopTimers s).psq.prox = s.psq.prox ∧ (stopTimers s).psq.settleMs = s.psq.settleMs ∧
    (stopTimers s).psq.seq = s.psq.seq ∧ (stopTimers s).psq.ident = s.psq.ident ∧
    (stopTimers s).psq.prechargeCmd = s.psq.prechargeCmd ∧
    (stopTimers s).psq.contactorCmd = s.psq.contactorCmd ∧
    (stopTimers s).psq.cancelPending = s.psq.cancelPending ∧
    (stopTimers s).psq.cancelContactor = s.psq.cancelContactor ∧
    (stopTimers s).psq.faultCause = s.psq.faultCause ∧
    (stopTimers s).psq.stopCause = s.psq.stopCause ∧ (stopTimers s).psq.forced = s.psq.forced ∧
    (stopTimers s).psq.start = s.psq.start ∧ (stopTimers s).psq.isoReturn = s.psq.isoReturn ∧
    (stopTimers s).psq.batteryLow = s.psq.batteryLow ∧ (stopTimers s).psq.query = s.psq.query ∧
    (stopTimers s).psq.assembly = s.psq.assembly ∧ (stopTimers s).psq.prevCode = s.psq.prevCode ∧
    (stopTimers s).psq.identTimer = s.psq.identTimer ∧ (stopTimers s).psq.prechargeTimer = false ∧
    (stopTimers s).psq.contactorTimer = false ∧ (stopTimers s).psq.stopTimer = false ∧
    (stopTimers s).psq.contactorSup = s.psq.contactorSup ∧
    (stopTimers s).psq.prechargeSup = s.psq.prechargeSup ∧
    (stopTimers s).psq.contactorFb = s.psq.contactorFb ∧
    (stopTimers s).psq.prechargeFb = s.psq.prechargeFb := by
  and_intros <;> rfl

@[simp] theorem forgetStop_psq (s : State) :
    (forgetStop s).psq.prox = s.psq.prox ∧ (forgetStop s).psq.settleMs = s.psq.settleMs ∧
    (forgetStop s).psq.seq = s.psq.seq ∧ (forgetStop s).psq.ident = s.psq.ident ∧
    (forgetStop s).psq.prechargeCmd = s.psq.prechargeCmd ∧
    (forgetStop s).psq.contactorCmd = s.psq.contactorCmd ∧
    (forgetStop s).psq.cancelPending = false ∧
    (forgetStop s).psq.cancelContactor = false ∧ (forgetStop s).psq.faultCause = s.psq.faultCause ∧
    (forgetStop s).psq.stopCause = none ∧ (forgetStop s).psq.forced = false ∧
    (forgetStop s).psq.start = none ∧ (forgetStop s).psq.isoReturn = none ∧
    (forgetStop s).psq.batteryLow = s.psq.batteryLow ∧ (forgetStop s).psq.query = s.psq.query ∧
    (forgetStop s).psq.assembly = s.psq.assembly ∧ (forgetStop s).psq.prevCode = s.psq.prevCode ∧
    (forgetStop s).psq.identTimer = s.psq.identTimer ∧
    (forgetStop s).psq.prechargeTimer = s.psq.prechargeTimer ∧
    (forgetStop s).psq.contactorTimer = s.psq.contactorTimer ∧
    (forgetStop s).psq.stopTimer = s.psq.stopTimer ∧
    (forgetStop s).psq.contactorSup = s.psq.contactorSup ∧
    (forgetStop s).psq.prechargeSup = s.psq.prechargeSup ∧
    (forgetStop s).psq.contactorFb = s.psq.contactorFb ∧
    (forgetStop s).psq.prechargeFb = s.psq.prechargeFb := by
  and_intros <;> rfl

@[simp] theorem removeMeasureFrames_fli (s : State) :
    (removeMeasureFrames s).fli.line = s.fli.line ∧
    (removeMeasureFrames s).fli.silentTimer = s.fli.silentTimer ∧
    (removeMeasureFrames s).fli.queue = (s.fli.queue.filter fun q => !q.frame.body.isMeasure) ∧
    (removeMeasureFrames s).fli.attempt = s.fli.attempt ∧
    (removeMeasureFrames s).fli.errorCount = s.fli.errorCount ∧
    (removeMeasureFrames s).fli.duplicate = s.fli.duplicate ∧
    (removeMeasureFrames s).fli.ackHistory = s.fli.ackHistory ∧
    (removeMeasureFrames s).fli.foreignReported = s.fli.foreignReported ∧
    (removeMeasureFrames s).fli.departed = s.fli.departed ∧
    (removeMeasureFrames s).fli.beaconTimer = s.fli.beaconTimer ∧
    (removeMeasureFrames s).fli.ackDriven = s.fli.ackDriven := by
  and_intros <;> rfl

@[simp] theorem dropAttempt_fli (s : State) :
    (dropAttempt s).fli.line = s.fli.line ∧ (dropAttempt s).fli.silentTimer = s.fli.silentTimer ∧
    (dropAttempt s).fli.queue = unmark s.fli.queue ∧ (dropAttempt s).fli.attempt = none ∧
    (dropAttempt s).fli.errorCount = s.fli.errorCount ∧
    (dropAttempt s).fli.duplicate = s.fli.duplicate ∧
    (dropAttempt s).fli.ackHistory = s.fli.ackHistory ∧
    (dropAttempt s).fli.foreignReported = s.fli.foreignReported ∧
    (dropAttempt s).fli.departed = s.fli.departed ∧
    (dropAttempt s).fli.beaconTimer = s.fli.beaconTimer ∧
    (dropAttempt s).fli.ackDriven = s.fli.ackDriven := by
  and_intros <;> rfl

@[simp] theorem leaveQueue_fli (s : State) :
    (leaveQueue s).fli.line = s.fli.line ∧ (leaveQueue s).fli.silentTimer = s.fli.silentTimer ∧
    (leaveQueue s).fli.queue = (s.fli.queue.filter fun q => !q.inAttempt) ∧
    (leaveQueue s).fli.attempt = none ∧ (leaveQueue s).fli.errorCount = s.fli.errorCount ∧
    (leaveQueue s).fli.duplicate = s.fli.duplicate ∧
    (leaveQueue s).fli.ackHistory = s.fli.ackHistory ∧
    (leaveQueue s).fli.foreignReported = s.fli.foreignReported ∧
    (leaveQueue s).fli.departed = s.fli.departed ∧
    (leaveQueue s).fli.beaconTimer = s.fli.beaconTimer ∧
    (leaveQueue s).fli.ackDriven = s.fli.ackDriven := by
  and_intros <;> rfl

@[simp] theorem driveAck_fli (s : State) :
    (driveAck s).fli.line = s.fli.line ∧ (driveAck s).fli.silentTimer = s.fli.silentTimer ∧
    (driveAck s).fli.queue = s.fli.queue ∧ (driveAck s).fli.attempt = s.fli.attempt ∧
    (driveAck s).fli.errorCount = s.fli.errorCount ∧ (driveAck s).fli.duplicate = s.fli.duplicate ∧
    (driveAck s).fli.ackHistory = s.fli.ackHistory ∧
    (driveAck s).fli.foreignReported = s.fli.foreignReported ∧
    (driveAck s).fli.departed = s.fli.departed ∧ (driveAck s).fli.beaconTimer = s.fli.beaconTimer ∧
    (driveAck s).fli.ackDriven = (s.fli.line == .listen || s.fli.line == .online) := by
  and_intros <;> rfl

@[simp] theorem computeShare_shu (s : State) :
    (computeShare s).shu.peers = s.shu.peers ∧ (computeShare s).shu.identCopy = s.shu.identCopy ∧
    (computeShare s).shu.session = s.shu.session ∧ (computeShare s).shu.joint = s.shu.joint ∧
    (computeShare s).shu.dOwnHanded = s.shu.dOwnHanded ∧
    (computeShare s).shu.sweepTarget = s.shu.sweepTarget ∧ (computeShare s).shu.sNew = newShare s ∧
    (computeShare s).shu.activeCount = (activeSet s).length ∧
    (computeShare s).shu.sEff = s.shu.sEff ∧ (computeShare s).shu.pendingRise = s.shu.pendingRise ∧
    (computeShare s).shu.joining = s.shu.joining ∧ (computeShare s).shu.overflow = s.shu.overflow ∧
    (computeShare s).shu.conds = s.shu.conds := by
  and_intros <;> rfl

@[simp] theorem watchConflicts_ptu (s : State) :
    (watchConflicts s).ptu.fc = s.ptu.fc ∧ (watchConflicts s).ptu.divider = s.ptu.divider ∧
    (watchConflicts s).ptu.nextTiming = s.ptu.nextTiming ∧
    (watchConflicts s).ptu.position = s.ptu.position ∧
    (watchConflicts s).ptu.troughCount = s.ptu.troughCount ∧
    (watchConflicts s).ptu.buffer = s.ptu.buffer ∧ (watchConflicts s).ptu.inUse = s.ptu.inUse ∧
    (watchConflicts s).ptu.heaterBuffer = s.ptu.heaterBuffer ∧
    (watchConflicts s).ptu.heaterInUse = s.ptu.heaterInUse ∧
    (watchConflicts s).ptu.heaterOnTime = s.ptu.heaterOnTime ∧
    (watchConflicts s).ptu.feedback = s.ptu.feedback ∧
    (watchConflicts s).ptu.enable = s.ptu.enable ∧ (watchConflicts s).ptu.trip = s.ptu.trip ∧
    (watchConflicts s).ptu.extActive = s.ptu.extActive ∧
    (watchConflicts s).ptu.extFilter = s.ptu.extFilter ∧
    (watchConflicts s).ptu.extInactive = s.ptu.extInactive ∧
    (watchConflicts s).ptu.gridTimer = s.ptu.gridTimer := by
  and_intros <;> rfl

@[simp] theorem cancelClears_mst (s : State) :
    (cancelClears s).mst.page = s.mst.page ∧ (cancelClears s).mst.working = s.mst.working ∧
    (cancelClears s).mst.queue = s.mst.queue ∧ (cancelClears s).mst.stacked = s.mst.stacked ∧
    (cancelClears s).mst.waiting = s.mst.waiting ∧
    (cancelClears s).mst.nextPlacement = s.mst.nextPlacement ∧
    (cancelClears s).mst.sessionEnergy = s.mst.sessionEnergy ∧
    (cancelClears s).mst.lifeEnergy = s.mst.lifeEnergy ∧ (cancelClears s).mst.torn = s.mst.torn := by
  and_intros <;> rfl

end Sys2Proof.Machine
end

