-- ==== Sys2Proof/Tests/Slice0.lean ====
section
/-! SUPPORT. The model's own tests: well-formedness, the manual's worked figures, and for every statement
with hypotheses a state that meets them, each clause with a witness. -/

open Sys2Proof Sys2Proof.Machine

set_option synthInstance.maxSize 4096
set_option synthInstance.maxHeartbeats 200000
set_option Elab.async false

namespace Sys2Proof.Tests

/-! ## Well-formedness refuses -/

/-- A payload of CONFIGURE within its ranges, with `slots` slots. -/
def payload (slots : Nat) : ConfigPayload where
  station := 5
  fc := 16000
  divider := 1
  deadTime := 1000
  feLevel := 0
  dcLevel := 0
  heaterLevel := 0
  floatOnTrip := 0
  extFilter := 4
  eta := 940
  margin := 0
  riseStep := 20
  joinCurrent := 60
  fallback := 60
  policy := 0
  vPre := 6000
  vLinkTarget := 7000
  linkCeiling := 8200
  iFull := 400
  kCv := 20
  rUp := 20
  kpLink := 512
  kiLink := 16
  kpBat := 256
  kiBat := 8
  tCold := 0
  rc := 470
  rm := 30
  uInj := 50
  tHalfMax := 4
  rWarn := 400
  rAlarm := 80
  slots := List.replicate slots ⟨0, 65536, 0, 100, 0⟩

theorem test_wellFormed_readOnly : (Instr.readOnlyTransaction [3, 0, 0, 0xBD]).wellFormed = false := by
  decide
theorem test_wellFormed_rejected : (Instr.requestRejected [0, 1]).wellFormed = false := by decide
theorem test_wellFormed_rejected_empty : (Instr.requestRejected []).wellFormed = false := by decide
theorem test_wellFormed_configure : (Instr.configure (payload 15)).wellFormed = false := by decide
theorem test_wellFormed_position : (Instr.legCommandChange .u 4097).wellFormed = false := by decide
theorem test_wellFormed_feedback : (Instr.gateFeedbackChange .d .lower true).wellFormed = false := by
  decide
theorem test_wellFormed_accepts :
    (Instr.configure (payload 16)).wellFormed = true ∧ (Instr.legCommandChange .u 4096).wellFormed ∧
      (Instr.requestRejected [3]).wellFormed ∧ (Instr.readOnlyTransaction []).wellFormed := by decide

/-! ## States the witnesses start from -/

/-- The outcome is a next state with `p`. -/
def ok (o : Host.Outcome State Fault Refusal) (p : State → Bool) : Bool :=
  match o with
  | .next t => p t
  | _ => false

/-- The outcome is the next state `t`. -/
def gives (o : Host.Outcome State Fault Refusal) (t : State) : Bool := ok o (· == t)

/-- The writes that a row leaves: the one in flight and those pending. -/
def writesLeft (o : Host.Outcome State Fault Refusal) : List PageWrite :=
  match o with
  | .next t => (t.mst.inFlight.map (·.write)).toList ++ t.mst.writes
  | _ => []

/-- Settled in PLUGGED after CONFIGURE. -/
def plugged : State :=
  { State.reset with
    cpt.configured := true
    cfg.station := 5
    psq.seq := .plugged
    psq.prox := .latched
    fli.line := .listen
    fli.beaconTimer := some 250 }

/-- The station's descriptor in slot 0. -/
def tariff : Descriptor := ⟨true, 2, 0, 100, 200, 1, false, true, false⟩

/-- IDENTIFIED on feeder 9 of 400 A, ONLINE. -/
def identified : State :=
  { plugged with
    psq.seq := .identified
    psq.ident := some ⟨9, 4000, 3, false⟩
    shu.identCopy := some ⟨9, 4000, 160⟩
    shu.conds := ⟨false, false, false, false⟩
    fli.line := .online
    imn.localFlag := true
    mtr.table := plugged.mtr.table.set 0 tariff }

/-- The open session of `charging`. -/
def session : Session :=
  ⟨⟨1, 5, 9, 3, 7, 0, ⟨false, false, false, false, false, false⟩, [⟨0, 100, 200, 0, 0, 0, none⟩]⟩,
    some ⟨⟨0, tariff⟩, 2000, 0, false⟩⟩

/-- ACTIVE with an open session, JOINT-passive. -/
def charging : State :=
  { identified with
    psq.seq := .active
    psq.contactorCmd := true
    psq.contactorFb := true
    ptu.enable := true
    ptu.gridTimer := true
    shu.session := true
    shu.joint := true
    mtr.session := some session
    imn.mode := .passive
    imn.contactorClosed := true
    imn.cycle := none
    imn.coupling := false
    imn.unmonTimer := true }

/-- PRECHARGE with the contactor commanded closed and its timer running. -/
def closing : State :=
  { identified with
    psq.seq := .precharge
    psq.prechargeCmd := true
    psq.prechargeFb := true
    psq.contactorCmd := true
    psq.contactorTimer := true
    psq.start := some (0, 7)
    mtr.prefetched := some ⟨0, tariff⟩ }

/-- STOPPING with the contactor still closed. -/
def stopping : State :=
  { charging with psq.seq := .stopping, psq.stopCause := some .released, psq.stopTimer := true }

/-- Isolated for a sweep, in ISO_WAIT. -/
def waiting : State :=
  { identified with
    psq.seq := .sweepIsolated .isoWait
    psq.isoReturn := some .active
    shu.session := true
    mtr.session := some session
    imn.target := some ⟨3, none⟩
    imn.sweep := .following 2 true
    shu.sweepTarget := true }

/-- In ISO_OPEN, the contactor commanded open and still closed. -/
def opening : State :=
  { waiting with psq.seq := .sweepIsolated .isoOpen, psq.contactorFb := true, psq.contactorSup := true }

/-- In ISO_REJOIN, the precharge relay commanded closed. -/
def rejoining : State :=
  { waiting with
    psq.seq := .sweepIsolated .isoRejoin, psq.prechargeCmd := true, psq.prechargeTimer := true }

/-- The trip latch set by EXT in FAULT. -/
def tripFault : State :=
  { identified with
    psq.seq := .fault, psq.faultCause := some .trip, ptu.trip := some ⟨.ext, []⟩ }

/-- A joint measurer on the line, injecting. -/
def measurer : State :=
  { charging with
    imn.mode := .measurer
    imn.cycle := some .fresh
    imn.coupling := true
    imn.unmonTimer := false }

/-- A peer of the own feeder. -/
def peer (n : Nat) : PeerEntry := ⟨n, 9, 100, 90, true, true, false, .ok, none, none, 0, 2⟩

/-- A leader awaiting the answer of station 8, with station 5 last. -/
def leading : State :=
  { measurer with
    shu.peers := [peer 8]
    imn.net := ⟨some .alarm, 2, 0⟩
    imn.sweep := .leading ⟨[8, 5], 0, .awaitingAnswer, 0, true, false, 0⟩ }

theorem test_states_settled :
    LineSettled plugged ∧ LineSettled identified ∧ LineSettled charging ∧ LineSettled closing ∧
      LineSettled stopping ∧ LineSettled waiting ∧ LineSettled opening ∧ LineSettled rejoining ∧
      LineSettled tripFault ∧ LineSettled measurer ∧ LineSettled leading := by decide +kernel

theorem test_states_drive :
    DriveSafe plugged ∧ DriveSafe identified ∧ DriveSafe charging ∧ DriveSafe closing ∧
      DriveSafe stopping ∧ DriveSafe waiting ∧ DriveSafe opening ∧ DriveSafe rejoining ∧
      DriveSafe tripFault ∧ DriveSafe measurer ∧ DriveSafe leading := by decide +kernel

/-- A session in PRECHARGE, and a monitor in JOINT while the contactor is being closed, are shut out. -/
theorem test_states_drive_refuses :
    ¬ DriveSafe { closing with mtr.session := some session } ∧
      ¬ DriveSafe { closing with imn.mode := .passive } ∧
      ¬ DriveSafe { rejoining with psq.contactorCmd := true, imn.mode := .measurer } := by
  decide +kernel

theorem test_states_regulation :
    RegulationSafe plugged ∧ RegulationSafe identified ∧ RegulationSafe charging ∧
      RegulationSafe closing ∧ RegulationSafe stopping ∧ RegulationSafe waiting ∧
      RegulationSafe tripFault ∧ RegulationSafe measurer ∧ RegulationSafe leading := by
  decide +kernel

theorem test_states_running :
    plugged.power = .running ∧ identified.power = .running ∧ charging.power = .running ∧
      closing.power = .running ∧ waiting.power = .running ∧ leading.power = .running :=
  ⟨rfl, rfl, rfl, rfl, rfl, rfl⟩

/-! ## The manual's worked figures -/

/-- R194: the request of READ_EVENTS. -/
theorem test_crc8_readEvents :
    crc8 [3] = 0x09 ∧ crc8 [3, 0] = 0x3F ∧ crc8 [3, 0, 0] = 0xBD ∧ crc8 [3, 0, 0, 0xBD] = 0 := by decide

theorem test_requestOf_readEvents : requestOf [3, 0, 0, 0xBD] = some .readEvents := by decide +kernel

/-- 12.3, 12.4: field by field, a request written out by hand. -/
theorem test_requestOf_setCharge :
    requestOf ([4, 0, 4, 1, 0x90, 0x1B, 0x58] ++ [crc8 [4, 0, 4, 1, 0x90, 0x1B, 0x58]]) =
      some (.setCharge 400 7000) := by decide +kernel

theorem test_configOfBytes :
    (configBytes (payload 16)).length = 224 ∧
      configOfBytes (configBytes (payload 16)) = some (payload 16) := by decide +kernel

/-- R55, R56: the worked case of five stations. -/
theorem test_share_fiveStations :
    allocate 900 [⟨3, 170⟩, ⟨7, 320⟩, ⟨12, 320⟩, ⟨20, 90⟩, ⟨25, 320⟩] =
      [⟨20, 90⟩, ⟨3, 170⟩, ⟨7, 214⟩, ⟨12, 213⟩, ⟨25, 213⟩] := by decide +kernel

/-- R85: the worked compare values. -/
theorem test_compare_worked :
    compareValue 1600 0 0 = 2048 ∧ compareValue 1600 0 1 = 3439 ∧ compareValue 1600 0 2 = 676 := by
  decide +kernel

theorem test_sine_quadrants :
    sine 0 = 0 ∧ sine 64 = 2047 ∧ sine 128 = 0 ∧ sine 192 = -2047 ∧ sine 85 = 1781 ∧
      sine 170 = -1756 := by decide +kernel

/-- R109: the corrections worked in 6.2. -/
theorem test_corrected_worked :
    corrected 7 ⟨12, 65208, 0, 65535, .none⟩ 2412 = 2387 ∧
      corrected 0 ⟨12, 65208, 0, 65535, .none⟩ (-1000) = -1007 := by decide

/-- R116, R117: the lapse at 16,000 Hz is 356. -/
theorem test_lapse_worked : lapseCount State.reset = 356 := by decide

theorem test_isqrt : isqrt 0 = 0 ∧ isqrt 15 = 3 ∧ isqrt 16 = 4 ∧ isqrt 5290000 = 2300 := by
  decide +kernel

/-- R117: 45 Hz to 65 Hz. -/
theorem test_period_range :
    periodInRange 16000 247 = true ∧ periodInRange 16000 246 = false ∧
      periodInRange 16000 355 = true ∧ periodInRange 16000 356 = false := by decide

/-- R118: θ holds at 255. -/
theorem test_theta : thetaAt 320 0 = 0 ∧ thetaAt 320 160 = 128 ∧ thetaAt 320 320 = 255 := by decide

/-- R140: 1 % of 1500 is 15 mV, and never less than 2 mV. -/
theorem test_settled :
    settledDifference 1500 1498 = true ∧ settledDifference 1500 1485 = true ∧
      settledDifference 1500 1484 = false ∧ settledDifference 50 52 = true ∧
      settledDifference 50 53 = false := by decide

/-- R141: above range to 10 mV, and held at 65534 above it. -/
theorem test_resistance :
    resistance .default 10 = 65535 ∧ resistance .default 11 = 65534 ∧
      resistance .default 3000 = 500 ∧ resistance .default 6000 = 0 := by decide

/-- R143: two in a row below R_alarm; two in a row above R_ok. -/
theorem test_judge_twice :
    judge .default 79 .none = ⟨some .warn, 1, 0⟩ ∧
      judge .default 79 ⟨some .warn, 1, 0⟩ = ⟨some .alarm, 2, 0⟩ ∧
      judge .default 501 ⟨some .alarm, 2, 0⟩ = ⟨some .alarm, 0, 1⟩ ∧
      judge .default 501 ⟨some .alarm, 0, 1⟩ = ⟨some .ok, 0, 2⟩ ∧
      judge .default 500 ⟨some .warn, 0, 1⟩ = ⟨some .warn, 0, 0⟩ := by decide

/-- R180: half a price unit rounds up. -/
theorem test_price : priceOf 499999 = 0 ∧ priceOf 500000 = 1 ∧ priceOf 1499999 = 1 := by decide

/-- R7: the bits of the widths. -/
theorem test_pulse_widths :
    pulseBit 69 = none ∧ pulseBit 70 = some false ∧ pulseBit 130 = some false ∧ pulseBit 131 = none ∧
      pulseBit 169 = none ∧ pulseBit 170 = some true ∧ pulseBit 230 = some true ∧
      pulseBit 231 = none := by decide

/-- Feeder 9, 400 A, class 3 with the sum of its six ones. -/
def code : List Bool :=
  [false, false, false, false, true, false, false, true] ++ [true, false, true, false, false, false]
    ++ [false, false, true, true] ++ [true, false]

theorem test_code_valid :
    code.length = 20 ∧ CodeIsValid code ∧ codeValid code = true ∧
      identOfCode code = ⟨9, 4000, 3, false⟩ := by decide

/-- R26: a bit of the opposite level after every five equal ones. -/
theorem test_stuff_worked :
    stuff [false, false, false, false, false, true, true, true, true, true] =
      [false, false, false, false, false, true, true, true, true, true, false, true] := by decide

/-- A beacon of station 8 on feeder 9. -/
def beacon : Frame := ⟨8, 9, .beacon 100 90 3 65535 0⟩

theorem test_frame_received : receiveBits beacon.bits = some ⟨2, 8, 7, beacon.payload⟩ := by
  decide +kernel

/-- R28: class 0 outranks; the arbitration field of an ALERT of station 5 is 00 000101. -/
theorem test_alert_head :
    (Frame.checkedBits ⟨5, 9, .alert 0x1234⟩).take 16 =
      [false, false, false, false, false, true, false, true]
        ++ [false, false, false, true, false, false, true, true] := by decide +kernel

/-- 12.6: the three bytes of READ_EVENTS. -/
theorem test_eventBytes :
    eventBytes [.plug, .trip, .shareFallback, .lowQuota, .measureFault] = [0x09, 0x01, 0x81] := by
  decide

/-- R29: the flags of a beacon. -/
theorem test_beaconFlags :
    beaconFlags charging = 0x03 ∧ beaconFlags measurer = 0x07 ∧ beaconFlags leading = 0x1F := by
  decide +kernel

/-- R170: the interval's whole milliwatt-hours and the carry, and no energy of 0 or less. -/
theorem test_wholeMwh :
    wholeMwh 28799999 = (0, 28799999) ∧ wholeMwh 28800000 = (1, 0) ∧ wholeMwh (-5) = (0, 0) := by
  decide

/-- 12.4: the clamps and the cross check of the limits. -/
theorem test_badField :
    badField (payload 16) = none ∧ badField { payload 16 with station := 0 } = some 1 ∧
      badField { payload 16 with rAlarm := 400 } = some 32 ∧
      badField { payload 16 with slots := List.replicate 16 ⟨0, 65536, 101, 100, 0⟩ } = some 35 := by
  decide +kernel

theorem test_clampedFields :
    clampedFields { payload 16 with deadTime := 199, rUp := 0, joinCurrent := 61 } = [4, 13, 21] := by
  decide

/-! ## The machine, resets and the store's start -/

theorem test_StepTakesTheFront_clauses :
    { plugged with pending := [.goIdentify, .cancel] }.pending = .goIdentify :: [.cancel] ∧
      step { plugged with pending := [.goIdentify, .cancel] } =
        exec .goIdentify { plugged with pending := [.cancel] } ∧
      plugged.pending = [] ∧ step plugged = .next plugged := ⟨rfl, rfl, rfl, rfl⟩

/-- Held in reset, with the contactor's contact open. -/
def held : State := { State.reset with power := .heldInReset }

theorem test_EveryCommandCompletes_clauses :
    held.power = .heldInReset ∧ gives (exec .goIdentify held) held = true ∧
      gives (exec (.gateFeedbackChange .d .lower true) held) held = true ∧
      ok (exec (.relayFeedbackChange .contactor true) held) (·.psq.contactorFb) = true ∧
      ok (exec (.extTripLineChange true) held) (·.ptu.extActive) = true ∧
      ok (exec .powerOn held) (fun t => t.power == .running) = true := by decide +kernel

theorem test_HostSettingsHold_premises :
    isReset .getStatus = false ∧ isReset (.setCharge 0 0) = false ∧
      isReset (.setBatteryLimit 0) = false ∧ isReset (.writeDescriptor 0 0 0 0 0 0 0) = false := by
  decide

/-- A page with a torn counters copy. -/
def tornPage : Page := { Page.factory with counters := { Page.factory.counters with b := .torn } }

theorem test_StartRestoresTheResetState_premises :
    StartsAnew .powerOn held ∧ StartsAnew .brownOut charging ∧ StartsAnew .resetLine charging ∧
      ok (exec .powerOn { held with mst.page := tornPage })
        (fun t => t.cpt.events == [.storeTorn] && t.mst.torn) = true := by
  refine ⟨.inl rfl, .inr (.inl rfl), .inr (.inr ⟨rfl, rfl⟩), ?_⟩
  decide +kernel

/-- A record of the session of `charging`. -/
def record : SessionRecord := recordOf session.base .hostStop

/-- A write of a doubled entry, and one of a place, in flight. -/
def flightCounters : State := { charging with mst.inFlight := some ⟨.counters ⟨1, 0, 0⟩, .b, 1⟩ }
@[inherit_doc flightCounters]
def flightCheckpoint : State :=
  { charging with mst.inFlight := some ⟨.checkpoint (.opened session.base), .b, 1⟩ }
@[inherit_doc flightCounters]
def flightPlace : State :=
  { charging with mst.inFlight := some ⟨.place .p1 (some ⟨1, record⟩) true, .a, 0⟩ }

theorem test_PowerLossTearsTheWriteInFlight_clauses :
    charging.mst.inFlight = none ∧
      ok (exec .powerLoss charging) (fun t => t.mst.page == charging.mst.page) = true ∧
      ok (exec .powerLoss flightCounters) (fun t => t.mst.page.counters.b == .torn) = true ∧
      ok (exec .powerLoss flightCheckpoint) (fun t => t.mst.page.checkpoint.b == .torn) = true ∧
      ok (exec .powerLoss flightPlace)
        (fun t => t.mst.page.p1 == .torn && t.mst.page.p2 == .valid none) = true ∧
      ok (exec .resetLine flightPlace) (fun t => t.mst.queue.length == 1) = true := by
  decide +kernel

/-- A page with a leftover checkpoint over an older EMPTY one. -/
def pageWith (c : Checkpoint) : Page :=
  { Page.factory with checkpoint := ⟨.valid ⟨0, .empty⟩, .valid ⟨1, c⟩⟩ }

theorem test_StartUpReadsThePage_empty :
    StartsAnew .powerOn held ∧
      Page.factory.counters.inForce = some (.a, ⟨0, ⟨0, 0, 0⟩⟩) ∧
      Page.factory.checkpoint.inForce = some (.a, ⟨0, .empty⟩) ∧
      ok (exec .powerOn { held with
          mst.page := { Page.factory with
            p2 := .valid (some ⟨7, record⟩), p3 := .valid (some ⟨6, record⟩) } })
        (fun t => t.mst.queue.map (·.place) == [.p3, .p2] && t.mst.nextPlacement == 8
          && t.cpt.events == [.reportReady] && t.mst.page == { Page.factory with
            p2 := .valid (some ⟨7, record⟩), p3 := .valid (some ⟨6, record⟩) }) = true ∧
      ok (exec .brownOut { plugged with mst.inFlight := some ⟨.place .p2 (some ⟨7, record⟩) true, .a, 0⟩ })
        (fun t => t.mst.page == { Page.factory with p2 := .torn }) = true ∧
      ok (exec .resetLine { plugged with mst.inFlight := some ⟨.place .p2 (some ⟨7, record⟩) true, .a, 0⟩ })
        (fun t => t.mst.page == { Page.factory with p2 := .valid (some ⟨7, record⟩) }) = true := by
  refine ⟨.inl rfl, ?_⟩
  decide +kernel

theorem test_StartUpReadsThePage_leftover :
    (pageWith (.opened session.base)).checkpoint.inForce =
        some (.b, ⟨1, .opened session.base⟩) ∧
      (pageWith (.closed session.base .trip)).checkpoint.inForce =
        some (.b, ⟨1, .closed session.base .trip⟩) ∧
      (∀ p r c, (pageWith c).place p ≠ .valid (some r)) ∧
      ok (exec .powerOn { held with mst.page := pageWith (.opened session.base) })
        (fun t => t.mst.queue.map (·.placed.record.endCause) == [.powerLost]
          && t.mst.queue.all (·.placed.record.flags.estimated)) = true ∧
      ok (exec .powerOn { held with mst.page := pageWith (.closed session.base .trip) })
        (fun t => t.mst.queue.map (·.placed.record.endCause) == [.trip]) = true := by
  refine ⟨by decide +kernel, by decide +kernel, ?_, by decide +kernel, by decide +kernel⟩
  intro p r c
  cases p <;> simp [pageWith, Page.place, Page.factory]

/-! ## The command port -/

theorem test_TransactionsReturnTheHeldReply_clauses :
    plugged.power = .running ∧
      ok (exec .chipSelectAssert plugged)
        (fun t => t.cpt.shifting == some ⟨.noReply, .empty⟩ && shiftedOut t 0 == some 25
          && shiftedOut t 4 == some 0) = true ∧
      gives (exec (.readOnlyTransaction []) plugged) plugged = true ∧
      gives (exec (.readOnlyTransaction [0, 7]) plugged) plugged = true := by decide +kernel

/-- The status a rejected request leaves. -/
def rejects (bs : List Byte) : Status :=
  match exec (.requestRejected bs) plugged with
  | .next t => t.cpt.reply.status
  | _ => .accepted

theorem test_BadRequestsAreRefused_length :
    ([3] ++ List.replicate 256 0 : List Byte).length = 257 ∧
      rejects ([3] ++ List.replicate 256 0) = .frameError ∧
      rejects [3, 0, 1, crc8 [3, 0, 1]] = .frameError ∧ rejects [3] = .frameError ∧
      rejects [3, 0, 0] = .frameError := by decide +kernel

theorem test_BadRequestsAreRefused_checks :
    rejects [3, 0, 0, 0xBC] = .frameError ∧ rejects [24, 0, 0, crc8 [24, 0, 0]] = .unknown ∧
      rejects [255, 0, 0, crc8 [255, 0, 0]] = .unknown ∧
      rejects [4, 0, 0, crc8 [4, 0, 0]] = .frameError ∧
      rejects [23, 0, 1, 0, crc8 [23, 0, 1, 0]] = .frameError := by decide +kernel

theorem test_EventsAreHeldUntilRead_premises :
    plugged.power = .running ∧ attentionLow (raiseEvent .trip plugged) = true ∧
      ok (exec .readEvents (raiseEvent .trip plugged))
        (fun t => t.cpt.reply == ⟨.accepted, .events [.trip]⟩ && !attentionLow t) = true := by
  decide +kernel

theorem test_ReadingCommandsOnlyAnswer_premises :
    charging.power = .running ∧
      ok (exec .readShare charging) (fun t => t.cpt.reply.status == .accepted) = true ∧
      ok (exec .getStatus charging) (fun t => t.psq == charging.psq) = true := by decide +kernel

theorem test_MeasureAndInsulationAreRead_clauses :
    15 < (16 : Byte).toNat ∧ gives (exec (.readMeasure 16 0) plugged) (answerEmpty .badSlot plugged) = true ∧
      gives (exec (.readMeasure 15 2) plugged) (answerEmpty .badValue plugged) = true ∧
      ok (exec (.readMeasure 15 1) plugged) (fun t => t.cpt.reply.status == .accepted) = true ∧
      plugged.imn.hold = false ∧ holdTimeLeft plugged = 0 := by decide +kernel

theorem payload_passes : ConfigPasses (payload 16) := by
  intro n _
  have slot : ∀ (i : Fin 16) (x : SlotPayload), (payload 16).slots[i.val]? = some x →
      x = ⟨0, 65536, 0, 100, 0⟩ := fun i x hx =>
    List.eq_of_mem_replicate (List.mem_of_getElem? hx)
  constructor <;> and_intros <;> first
  | exact fun _ => by decide
  | exact fun i x hx => by simp [slot i x hx]

theorem test_ConfigureIsCheckedAndTaken_clauses :
    (payload 16).slots.length = 16 ∧ State.reset.cpt.configured = false ∧
      LineSettled State.reset ∧ UnconfiguredSafe State.reset ∧
      gives (exec (.configure (payload 16)) plugged) (answerEmpty .locked plugged) = true ∧
      ok (exec (.configure { payload 16 with station := 63 }) State.reset)
        (fun t => t.cpt.reply == ⟨.badConfig, .badField 1⟩ && !t.cpt.configured) = true ∧
      ok (exec (.configure (payload 16)) State.reset)
        (fun t => t.cpt.configured && t.cfg.station == 5 && t.cpt.reply == ⟨.accepted, .clamped []⟩
          && t.cpt.events == [.configDone]) = true := by decide +kernel

theorem test_ConfigureIsCheckedAndTaken_fails :
    ¬ ConfigPasses { payload 16 with station := 63 } := fun h =>
  absurd ((h 1 (by decide)).1.1 rfl).2 (by decide)

/-! ## The plug sequencer -/

theorem test_SequencerChangesAreRaised_premises :
    isReset .goStop = false ∧
      ok (exec .goStop charging)
        (fun t => t.psq.seq != charging.psq.seq && t.cpt.events.contains .seqState) = true := by
  decide +kernel

theorem test_GoIdentifyStartsTheQuery_clauses :
    LineSettled State.reset ∧ LineSettled identified ∧
      gives (exec .goIdentify State.reset) (answerEmpty .notConfigured State.reset) = true ∧
      gives (exec .goIdentify identified) (answerEmpty .wrongState identified) = true ∧
      gives (exec .goIdentify { plugged with psq.cancelPending := true })
        (answerEmpty .busy { plugged with psq.cancelPending := true }) = true ∧
      ok (exec .goIdentify plugged) (fun t => t.psq.seq == .identifying && t.psq.query) = true := by
  decide +kernel

/-- IDENTIFYING with a code assembled so far, and the code taken before it. -/
def querying (a : PilotAssembly) (previous : Option (List Bool)) : State :=
  { plugged with
    psq.seq := .identifying, psq.query := true, psq.identTimer := true, psq.assembly := a
    psq.prevCode := previous }

/-- The assembly after an edge. -/
def assembled (a : PilotAssembly) (span : PilotSpan) (w : Nat) : PilotAssembly :=
  match exec (.pilotSenseEdge span w) (querying a none) with
  | .next t => t.psq.assembly
  | _ => .complete

theorem test_PilotEdgesAssembleTheCode_pulses :
    plugged.psq.query = false ∧ (querying .waiting none).psq.query = true ∧
      assembled .waiting .pulse 100 = .waiting ∧ assembled .complete .pulse 100 = .waiting ∧
      assembled (.collecting []) .pulse 130 = .collecting [false] ∧
      assembled (.collecting []) .pulse 131 = .waiting ∧
      assembled (.collecting []) .pulse 170 = .collecting [true] := by decide +kernel

theorem test_PilotEdgesAssembleTheCode_rests :
    assembled (.collecting [true]) .rest 400 = .collecting [] ∧
      assembled (.collecting [true]) .rest 399 = .waiting ∧
      assembled (.collecting [true]) .rest 250 = .collecting [true] ∧
      assembled (.collecting [true]) .rest 49 = .waiting ∧
      assembled .waiting .rest 399 = .waiting ∧ assembled .complete .rest 400 = .collecting [] := by
  decide +kernel

theorem test_CodesAndTimeoutIdentify_codes :
    LineSettled (querying (.collecting code) (some code)) ∧
      DriveSafe (querying (.collecting code) (some code)) ∧
      RegulationSafe (querying (.collecting code) (some code)) ∧ CodeIsValid code ∧
      ok (exec .pilotCodeComplete (querying (.collecting code) (some code)))
        (fun t => t.psq.ident == some ⟨9, 4000, 3, false⟩ && t.psq.seq == .identified
          && t.shu.identCopy == some ⟨9, 4000, 160⟩ && t.fli.line == .online) = true ∧
      ok (exec .pilotCodeComplete (querying (.collecting code) none))
        (fun t => t.psq.assembly == .complete && t.psq.prevCode == some code) = true ∧
      gives (exec .pilotCodeComplete plugged) plugged = true := by decide +kernel

theorem test_CodesAndTimeoutIdentify_timeout :
    (querying .waiting none).psq.identTimer = true ∧ plugged.psq.identTimer = false ∧
      (querying .waiting none).cfg.policy = .strict ∧
      ok (exec .identTimeout (querying .waiting none))
        (fun t => t.psq.seq == .fault && t.psq.faultCause == some .identFail) = true ∧
      ok (exec .identTimeout { querying .waiting none with cfg.policy := .lenient })
        (fun t => t.psq.ident == some ⟨0, 0, 0, true⟩ && t.shu.identCopy == some ⟨0, 0, 60⟩) = true := by
  decide +kernel

/-- SUSPENDED with the session open. -/
def suspended : State :=
  { charging with
    psq.seq := .suspended
    mtr.session := some ⟨session.base, none⟩ }

/-- GO_ENERGIZE's answer in a state. -/
def energizeStatus (s : State) (slot : Byte) : Status :=
  match exec (.goEnergize slot 7) s with
  | .next t => t.cpt.reply.status
  | _ => .unknown

theorem test_GoEnergizeChecksAndStarts_checks :
    energizeStatus State.reset 0 = .notConfigured ∧
      energizeStatus { identified with psq.cancelPending := true } 0 = .busy ∧
      energizeStatus plugged 0 = .wrongState ∧
      energizeStatus { identified with ptu.trip := some ⟨.ext, []⟩ } 0 = .tripLatched ∧
      energizeStatus { identified with imn.ownFault := true } 0 = .insulationFault ∧
      energizeStatus { identified with imn.localFlag := false } 0 = .insulationUnknown ∧
      energizeStatus { identified with mst.stacked := some record } 0 = .backlog ∧
      energizeStatus identified 1 = .badSlot ∧ energizeStatus identified 16 = .badSlot := by
  decide +kernel

theorem test_GoEnergizeChecksAndStarts_taken :
    LineSettled suspended ∧ suspended.psq.seq = .suspended ∧
      (suspended.mtr.session.map (·.base.items.length)) = some 1 ∧
      ok (exec (.goEnergize 0 7) identified)
        (fun t => t.psq.seq == .precharge && t.psq.prechargeCmd && t.psq.prechargeTimer
          && t.mtr.prefetched == some ⟨0, tariff⟩) = true ∧
      ok (exec (.goEnergize 0 7) suspended)
        (fun t => t.psq.seq == .active && t.psq.start == none
          && (t.mtr.session.bind (·.running)) == some ⟨⟨0, tariff⟩, 2000, 0, false⟩
          && (t.mtr.session.map (·.base.items.length)) == some 2) = true ∧
      (writesLeft (exec (.goEnergize 0 7) suspended)).length = 2 := by decide +kernel

theorem test_GoStopStartsAStop_clauses :
    gives (exec .goStop { closing with psq.cancelPending := true })
        (answerEmpty .busy { closing with psq.cancelPending := true }) = true ∧
      gives (exec .goStop plugged) (answerEmpty .wrongState plugged) = true ∧
      ok (exec .goStop charging)
        (fun t => t.psq.seq == .stopping && t.psq.stopTimer && t.psq.stopCause == some .hostStop) = true ∧
      gives (exec .goStop { opening with psq.stopCause := some .released })
        (answerEmpty .accepted { opening with psq.stopCause := some .released }) = true := by
  decide +kernel

theorem test_GoStopStartsAStop_isolated :
    DriveSafe opening ∧ DriveSafe rejoining ∧
      ok (exec .goStop opening)
        (fun t => t.psq.seq == .sweepIsolated .isoOpen && t.psq.stopCause == some .hostStop
          && t.imn.target == none) = true ∧
      ok (exec .goStop waiting)
        (fun t => t.psq.seq == .identified && t.mtr.session == none && t.mst.queue.length == 1) = true ∧
      ok (exec .goStop rejoining)
        (fun t => t.psq.seq == .identified && !t.psq.prechargeCmd) = true ∧
      ok (exec .goStop { rejoining with psq.prechargeFb := true })
        (fun t => t.psq.seq == .sweepIsolated .isoRejoin && t.psq.prechargeSup) = true := by
  decide +kernel

theorem test_GoIdleReturnsToPlugged_clauses :
    gives (exec .goIdle { closing with psq.cancelPending := true })
        (answerEmpty .busy { closing with psq.cancelPending := true }) = true ∧
      gives (exec .goIdle stopping) (answerEmpty .wrongState stopping) = true ∧
      gives (exec .goIdle tripFault) (answerEmpty .tripLatched tripFault) = true ∧
      gives (exec .goIdle { tripFault with ptu.trip := none, psq.contactorFb := true })
        (answerEmpty .contactorClosed { tripFault with ptu.trip := none, psq.contactorFb := true })
        = true ∧
      ok (exec .goIdle { tripFault with ptu.trip := none })
        (fun t => t.psq.seq == .plugged && t.psq.faultCause == none) = true ∧
      ok (exec .goIdle charging)
        (fun t => t.psq.seq == .plugged && t.psq.ident == none && t.mtr.session == none
          && t.fli.line == .listen && t.fli.queue.map (·.frame.body) == [.leave]) = true := by
  decide +kernel

theorem test_CancelWithdrawsByState_clauses :
    DriveSafe (querying .waiting none) ∧ LineSettled (querying .waiting none) ∧
      DriveSafe { closing with psq.prechargeFb := false } ∧
      ok (exec .cancel (querying .waiting none)) (fun t => t.psq.seq == .plugged && !t.psq.query) = true ∧
      ok (exec .cancel closing)
        (fun t => t.psq.seq == .precharge && t.psq.cancelPending && t.mtr.prefetched == none) = true ∧
      ok (exec .cancel { closing with psq.prechargeFb := false })
        (fun t => t.psq.seq == .identified && !t.psq.cancelPending) = true ∧
      gives (exec .cancel charging) (answerEmpty .tooLate charging) = true ∧
      gives (exec .cancel stopping) (answerEmpty .notCancelable stopping) = true ∧
      gives (exec .cancel waiting) (answerEmpty .notCancelable waiting) = true ∧
      gives (exec .cancel plugged) (answerEmpty .wrongState plugged) = true := by decide +kernel

/-- LATCHED for 90 ms or 100 ms in PLUG_SETTLE. -/
def settling (ms : Nat) : State :=
  { State.reset with psq.seq := .plugSettle, psq.prox := .latched, psq.settleMs := ms }

theorem test_ProximityMovesPlugDetection_levels :
    LineSettled State.reset ∧ settleDue State.reset = false ∧
      (takeProximity 1999 State.reset).psq.seq = .plugSettle ∧
      (takeProximity 2000 State.reset).psq.seq = .unplugged ∧
      (takeProximity 1999 (settling 80)).psq.settleMs = 90 ∧
      (takeProximity 3499 (settling 80)).psq.settleMs = 0 ∧
      (takeProximity 3500 (settling 80)).psq.seq = .unplugged := by decide +kernel

theorem test_ProximityMovesPlugDetection_loss :
    LineSettled charging ∧ settleDue charging = false ∧
      ((takeProximity 3500 charging).ptu.trip.map fun l => l.holds .plugLost) = some true ∧
      (takeProximity 3500 tripFault).psq.seq = .fault ∧ leading.fli.line ≠ .offline ∧
      OfflineEntered leading (takeProximity 3500 leading) ∧
      OfflineEntered { identified with shu.peers := [peer 8], imn.hold := true, fli.departed := true }
        (takeProximity 3500
          { identified with shu.peers := [peer 8], imn.hold := true, fli.departed := true }) ∧
      (takeProximity 3500 identified).psq.seq = .unplugged ∧
      (takeProximity 2000 charging).psq.stopCause = some .released := by decide +kernel

/-- A live loss is a trip, in a leader's earlier step and in its own one as well. -/
theorem test_ProximityMovesPlugDetection_live :
    (takeProximity 3500 charging).ptu.trip = some ⟨.plugLost, []⟩ ∧
      (takeProximity 3500 charging).ptu.enable = false ∧
      (takeProximity 3500 charging).psq.contactorSup = true ∧
      (takeProximity 3500 charging).mst.queue.map (·.placed.record.endCause) = [.trip] ∧
      (takeProximity 3500 leading).psq.faultCause = some .trip ∧
      (takeProximity 3500 leading).imn.outcome = .abandoned ∧
      .sweep ∈ (takeProximity 3500 leading).cpt.events ∧
      (takeProximity 3500 { charging with psq.prox := .none }).ptu.trip = none := by decide +kernel

theorem test_ProximityMovesPlugDetection_settles :
    LineSettled (settling 100) ∧ (settling 100).power = .running ∧
      ok (exec .plugSettleComplete (settling 100))
        (fun t => t.psq.seq == .plugged && t.cpt.events == [.plug, .seqState] && t.fli.line == .listen)
        = true ∧
      gives (exec .plugSettleComplete (settling 99)) (settling 99) = true := by decide +kernel

theorem test_RelayTimersEnterFault_timers :
    DriveSafe rejoining ∧ RegulationSafe rejoining ∧ rejoining.psq.prechargeTimer = true ∧
      closing.psq.contactorTimer = true ∧
      ok (exec .prechargeTimeout rejoining)
        (fun t => t.psq.faultCause == some .prechargeFail && t.mtr.session == none) = true ∧
      ok (exec .contactorTimeout closing)
        (fun t => t.psq.faultCause == some .contactorFail && t.psq.prechargeSup) = true ∧
      gives (exec .prechargeTimeout plugged) plugged = true ∧
      gives (exec .contactorTimeout plugged) plugged = true := by decide +kernel

theorem test_RelayTimersEnterFault_supervisions :
    opening.psq.contactorSup = true ∧ opening.psq.contactorFb = true ∧
      ok (exec (.openSupervisionExpiry .contactor) opening)
        (fun t => t.psq.faultCause == some .contactorWeld) = true ∧
      ok (exec (.openSupervisionExpiry .precharge)
          { identified with psq.prechargeSup := true, psq.prechargeFb := true })
        (fun t => t.psq.faultCause == some .relayStuck) = true ∧
      gives (exec (.openSupervisionExpiry .contactor) { tripFault with psq.contactorSup := true })
        tripFault = true := by decide +kernel

theorem test_StopTimersOpenTheContactor_clauses :
    DriveSafe { charging with psq.batteryLow := true } ∧ plugged.psq.stopTimer = false ∧
      stopping.psq.contactorFb = true ∧ stopping.psq.stopTimer = true ∧
      ok (exec .batteryLowTimeout { charging with psq.batteryLow := true })
        (fun t => t.psq.seq == .stopping && t.psq.stopCause == some .batteryLow) = true ∧
      ok (exec .stopTimerExpiry stopping)
        (fun t => t.psq.forced && !t.ptu.enable && t.psq.contactorSup && !t.shu.joint) = true := by
  decide +kernel

/-- ISO_RAMP with the contactor closed. -/
def ramping : State :=
  { charging with
    psq.seq := .sweepIsolated .isoRamp, psq.isoReturn := some .active, psq.stopTimer := true
    shu.sweepTarget := true, imn.target := some ⟨3, none⟩ }

theorem test_StopTimersOpenTheContactor_ramp :
    LineSettled ramping ∧ DriveSafe ramping ∧
      ok (exec .stopTimerExpiry ramping)
        (fun t => t.psq.seq == .sweepIsolated .isoOpen && !t.psq.forced && !t.ptu.enable) = true ∧
      gives (exec .stopTimerExpiry plugged) plugged = true := by decide +kernel

theorem test_ContactorClosedMakesActive_clauses :
    closing.psq.contactorFb = false ∧ closing.psq.contactorTimer = true ∧
      closing.mtr.prefetched = some ⟨0, tariff⟩ ∧ identified.psq.contactorCmd = false ∧
      ok (exec (.relayFeedbackChange .contactor true) closing)
        (fun t => t.psq.seq == .active && t.ptu.enable && t.shu.joint && t.imn.mode == .passive
          && t.mst.working.sessions == 1
          && (t.mtr.session.bind (·.running)) == some ⟨⟨0, tariff⟩, 2000, 0, false⟩) = true ∧
      writesLeft (exec (.relayFeedbackChange .contactor true) closing)
        = [.counters ⟨0, 0, 1⟩, .counters ⟨0, 0, 1⟩, .checkpoint (.opened session.base)] ∧
      ok (exec (.relayFeedbackChange .contactor true) { closing with
          mtr.prefetched := some ⟨1, { tariff with quota := 1, chain := true, next := 0 }⟩ })
        (fun t => t.mtr.prefetched == some ⟨0, tariff⟩ && t.cpt.events.contains .lowQuota) = true ∧
      ok (exec (.relayFeedbackChange .contactor true) identified)
        (fun t => t.psq.faultCause == some .contactorWeld) = true ∧
      gives (exec (.relayFeedbackChange .contactor true) charging) charging = true ∧
      gives (exec (.relayFeedbackChange .contactor true) tripFault)
        { tripFault with psq.contactorFb := true } = true := by decide +kernel

/-- STOPPING with the contactor commanded open. -/
def stopOpening : State :=
  { stopping with
    psq.contactorCmd := false, psq.contactorSup := true, psq.stopTimer := false, ptu.enable := false
    shu.joint := false, imn.mode := .localMode, imn.contactorClosed := false }

theorem test_ContactorOpenCompletesAStop_clauses :
    LineSettled stopOpening ∧ DriveSafe stopOpening ∧ stopOpening.psq.stopCause = some .released ∧
      stopOpening.fli.queue.length < 4 ∧ opening.psq.stopCause = none ∧
      opening.imn.pendingRelease = false ∧
      ok (exec (.relayFeedbackChange .contactor false) stopOpening)
        (fun t => t.psq.seq == .identified && t.mtr.session == none
          && t.fli.queue.map (·.frame.body) == [.leave]) = true ∧
      ok (exec (.relayFeedbackChange .contactor false) opening)
        (fun t => t.psq.seq == .sweepIsolated .isoWait && t.imn.cycle == some .fresh
          && t.imn.target == some ⟨3, none⟩ && t.fli.queue.map (·.frame.body) == [.sweepAnswer 5 1])
        = true ∧
      ok (exec (.relayFeedbackChange .contactor false)
          { opening with imn.sweep := .leading ⟨[8, 5], 1, .ownStep, 0, false, false, 1⟩ })
        (fun t => t.imn.sweep == .leading ⟨[8, 5], 1, .ownStep, 0, false, true, 0⟩
          && t.imn.cycle == some .fresh && t.fli.queue == []) = true ∧
      ok (exec (.relayFeedbackChange .contactor false)
          { opening with imn.sweep := .none, imn.target := none })
        (fun t => t.psq.seq == .sweepIsolated .isoWait && t.imn.target == none) = true ∧
      ok (exec (.relayFeedbackChange .contactor false)
          { opening with
            psq.stopCause := some .hostStop, imn.pendingRelease := true, imn.target := none })
        (fun t => t.psq.seq == .identified && !t.imn.pendingRelease) = true := by decide +kernel

theorem test_ContactorOpenCompletesAStop_readings :
    (.sweepIsolated .isoOpen : SeqState) ≠ .sweepIsolated .isoRejoin ∧
      gives (exec (.relayFeedbackChange .precharge true) plugged)
        { plugged with psq.prechargeFb := true } = true ∧
      gives (exec (.relayFeedbackChange .precharge false)
          { identified with psq.prechargeFb := true, psq.prechargeSup := true }) identified = true ∧
      gives (exec (.relayFeedbackChange .contactor false) plugged) plugged = true := by decide +kernel

/-! ## Power timing -/

/-- The trip latch set by EXT, with the inactive timer at 10 ms. -/
def clearable : State :=
  { tripFault with ptu.extInactive := true }

/-- TRIP_CLEAR's reply in a state. -/
def clearReply (s : State) : Reply :=
  match exec .tripClear s with
  | .next t => t.cpt.reply
  | _ => ⟨.unknown, .empty⟩

/-- The latch of a LIMIT of slot 6 whose latest result is `v`. -/
def limited (v : Int) : State :=
  { clearable with
    ptu.trip := some ⟨.limit 6, []⟩
    msq.slots := clearable.msq.slots.set 6 { clearable.msq.slots[6] with latest := v } }

theorem test_TripClearChecksItsConditions_clauses :
    plugged.ptu.trip = none ∧ gives (exec .tripClear plugged) (answerEmpty .accepted plugged) = true ∧
      clearReply tripFault = ⟨.tripPersists, .tripCause .ext⟩ ∧
      clearReply (limited 8801) = ⟨.tripPersists, .tripCause (.limit 6)⟩ ∧
      clearReply (limited 8800) = ⟨.tripPersists, .tripCause .linkOver⟩ ∧
      clearReply { clearable with ptu.feedback.w.lower := true } =
        ⟨.tripPersists, .tripCause (.legConflict .w)⟩ ∧
      ok (exec .tripClear (limited 8200))
        (fun t => t.ptu.trip == none && t.cpt.reply == ⟨.accepted, .empty⟩) = true := by
  decide +kernel

theorem test_TripCausesSetTheLatch_external :
    gives (exec (.extTripLineChange false) charging) charging = true ∧
      ok (exec (.extTripLineChange true) charging) (fun t => t.ptu.extFilter == .running) = true ∧
      ok (exec .extInactiveTimerExpiry charging) (·.ptu.extInactive) = true ∧
      DriveSafe { charging with ptu.extActive := true, ptu.extFilter := .running } ∧
      ok (exec .extTripFilterExpiry { charging with ptu.extActive := true, ptu.extFilter := .running })
        (fun t => t.ptu.trip == some ⟨.ext, []⟩ && t.psq.seq == .fault && !t.ptu.enable) = true ∧
      gives (exec .extTripFilterExpiry charging) charging = true := by decide +kernel

theorem test_TripCausesSetTheLatch_grid :
    charging.ptu.gridTimer = true ∧
      ok (exec .gridSupervisionExpiry charging)
        (fun t => t.ptu.trip == some ⟨.gridLost, []⟩ && t.cpt.events.contains .trip
          && t.mst.queue.map (·.placed.record.endCause) == [.trip]) = true ∧
      ok (exec .gridSupervisionExpiry { tripFault with ptu.gridTimer := true })
        (fun t => t.ptu.trip == some ⟨.ext, [.gridLost]⟩) = true ∧
      gives (exec .gridSupervisionExpiry plugged) plugged = true := by decide +kernel

/-- Leg U with the upper device just turned off, its feedback reading `on`. -/
def dead (on : Bool) : State :=
  { charging with
    ptu.legs.u := ⟨.lower, false, false, some ⟨some .upper⟩, .clear⟩
    ptu.feedback.u.upper := on }

theorem test_TripCausesSetTheLatch_legs :
    DriveSafe (dead true) ∧
      ok (exec (.deadTimeEnd .u) (dead true))
        (fun t => t.ptu.trip == some ⟨.legConflict .u, []⟩ && !t.ptu.legs.u.lowerOn
          && t.ptu.legs.u.deadTime == none) = true ∧
      ok (exec (.legConflictTimerExpiry .v) { charging with ptu.legs.v.conflict := .timing })
        (fun t => t.ptu.trip == some ⟨.legConflict .v, []⟩) = true ∧
      ok (exec (.legConflictTimerExpiry .v) { charging with ptu.legs.v.conflict := .leaving })
        (fun t => t.ptu.trip == none && t.ptu.legs.v.conflict == .clear) = true ∧
      gives (exec (.legConflictTimerExpiry .v) charging) charging = true := by decide +kernel

theorem test_LegsSwitchByCommandAndDeadTime_command :
    ok (exec (.legCommandChange .u 2049) charging)
        (fun t => t.ptu.legs.u == ⟨.upper, false, false, some ⟨none⟩, .clear⟩) = true ∧
      ok (exec (.legCommandChange .u 2048) charging)
        (fun t => t.ptu.legs.u == ⟨.lower, false, false, some ⟨none⟩, .clear⟩) = true ∧
      ok (exec (.legCommandChange .u 0)
          { charging with ptu.legs.u := ⟨.upper, true, false, none, .clear⟩ })
        (fun t => t.ptu.legs.u == ⟨.lower, false, false, some ⟨some .upper⟩, .clear⟩) = true ∧
      ok (exec (.legCommandChange .d 4096) charging)
        (fun t => t.ptu.legs.d.command == .lower && t.ptu.position == 4096) = true := by decide +kernel

theorem test_LegsSwitchByCommandAndDeadTime_ends :
    gives (exec (.deadTimeEnd .u) charging) charging = true ∧
      ok (exec (.deadTimeEnd .u) (dead false))
        (fun t => t.ptu.legs.u == ⟨.lower, false, true, none, .clear⟩) = true ∧
      ok (exec (.gateFeedbackChange .u .lower true) (dead true))
        (fun t => t.ptu.legs.u.conflict == .timing) = true ∧
      gives (exec (.gateFeedbackChange .d .lower true) charging) charging = true := by decide +kernel

/-- The trough counter at the divider, with a link of 6990 dV against a target of 7000. -/
def loopReady : State :=
  { charging with
    ptu.troughCount := 1
    crg.setpoint := 10
    msq.slots := charging.msq.slots.set 6 { charging.msq.slots[6] with latest := 6990 } }

theorem test_TroughsAndLoopEventsRun_loop :
    gives (exec .loopComputationEvent charging) charging = true ∧
      ok (exec .loopComputationEvent { loopReady with ptu.enable := false })
        (fun t => t.ptu.troughCount == 0 && t.crg.linkI == 0) = true ∧
      ok (exec .loopComputationEvent loopReady)
        (fun t => t.crg.aFe == 20 && t.crg.linkI == 160 && t.crg.dcDuty == 10 && t.crg.batI == 80
          && t.ptu.buffer == ⟨2048, 2065, 2030, 10⟩) = true := by decide +kernel

theorem test_TroughsAndLoopEventsRun_trough :
    charging.ptu.buffer.inRange ∧ charging.ptu.troughCount < charging.ptu.divider ∧
      charging.msq.outOfRange = true ∧
      ok (exec .carrierTrough charging)
        (fun t => t.ptu.troughCount == 1 && t.msq.troughs == 1 && t.msq.fastScan == some []
          && t.msq.converting == some .fast && t.ptu.legs.u.command == .lower) = true ∧
      ok (exec .carrierTrough { charging with ptu.nextTiming := some (8000, 2) })
        (fun t => t.ptu.fc == 8000 && t.ptu.divider == 2 && t.ptu.troughCount == 0
          && t.msq.troughs == 0 && t.crg.gridRange) = true ∧
      ok (exec .carrierTrough { charging with ptu.nextTiming := some (16000, 4) })
        (fun t => t.ptu.divider == 4 && t.ptu.troughCount == 0 && t.msq.troughs == 1) = true := by
  decide +kernel

/-- R94: levels of a tripped and a running output. -/
theorem test_output_levels :
    gateOutput { tripFault with cfg.feLevel := some .low } .u .upper = .high ∧
      gateOutput { tripFault with cfg.feLevel := some .low, cfg.floatOnTrip := true } .u .upper
        = .floating ∧
      heaterOutput { charging with cfg.heaterLevel := some .high, ptu.heaterOnTime := true } = .high ∧
      gateOutput { dead false with cfg.feLevel := some .high, ptu.legs.u.lowerOn := true } .u .lower
        = .high ∧ gateOutput State.reset .w .lower = .floating := by decide +kernel

/-! ## Measurement -/

/-- A fast or slow scan with one pair left. -/
def lastFast : State :=
  { charging with
    msq.converting := some .fast
    msq.fastScan := some (List.replicate 3 (0, 0) ++ [(7000, 4000)]) }
@[inherit_doc lastFast]
def lastSlow : State :=
  { charging with
    msq.converting := some .slow
    msq.slowScan := some [(200, 210), (300, 0)] }

theorem test_ScansConvertAndPublish_pairs :
    ok (exec .slowScanTimerExpiry charging)
        (fun t => t.msq.slowScan == some [] && t.msq.converting == some .slow) = true ∧
      gives (exec .slowScanTimerExpiry lastSlow) lastSlow = true ∧
      gives (exec (.pairConversionDone 1 2) charging) charging = true ∧
      ok (exec (.pairConversionDone 1 2)
          { charging with msq.converting := some .fast, msq.fastScan := some [] })
        (fun t => t.msq.fastScan == some [(1, 2)] && t.msq.converting == some .fast) = true ∧
      ok (exec (.pairConversionDone 1 2)
          { charging with
            msq.converting := some .slow, msq.slowScan := some [], msq.fastScan := some [] })
        (fun t => t.msq.slowScan == some [(1, 2)] && t.msq.converting == some .fast) = true := by
  decide +kernel

theorem test_ScansConvertAndPublish_fast :
    lastFast.msq.fastScan.map (·.length) = some 4 ∧
      ok (exec (.pairConversionDone 11000 0) lastFast)
        (fun t => slotValue 6 t == 7000 && slotValue 8 t == 11000 && t.ptu.trip == none
          && t.msq.fastScan == none && t.msq.converting == none) = true ∧
      ok (exec (.pairConversionDone 11001 0) lastFast)
        (fun t => t.ptu.trip == some ⟨.limit 8, []⟩ && t.msq.slots[8].highSeen) = true ∧
      ok (exec (.pairConversionDone 0 0)
          { lastFast with msq.fastScan := some (List.replicate 3 (0, 0) ++ [(8201, 0)]) })
        (fun t => t.ptu.trip == some ⟨.linkOver, []⟩) = true := by decide +kernel

theorem test_ScansConvertAndPublish_slow :
    lastSlow.msq.slowScan.map (·.length) = some 2 ∧
      ok (exec (.pairConversionDone 0 1999) lastSlow)
        (fun t => t.msq.tbat1Valid && t.psq.prox == .latched && slotValue 10 t == 200
          && t.htr.tBat == some 200) = true ∧
      ok (exec (.pairConversionDone 0 2000) lastSlow)
        (fun t => t.psq.prox == .release && t.psq.stopCause == some .released) = true ∧
      ok (exec (.pairConversionDone 0 1999) { lastSlow with msq.slowScan := some [(1201, 0), (300, 0)] })
        (fun t => !t.msq.tbat1Valid && t.msq.tbat2Valid) = true := by decide +kernel

/-- Phase U armed after a crossing, with a span of 16 samples of 2300 and 100. -/
def spanning : State :=
  { charging with
    msq.phases.u := ⟨true, true, 16 * 5290000, 16 * 10000, 16, 0, 0⟩
    msq.troughs := 320 }

theorem test_CrossingsAndLapsesCloseSpans_crossing :
    spanning.msq.phases.u.armed = true ∧ 0 ≤ slotValue (voltageSlot .u) spanning ∧
      (phaseResult .u spanning).msq.phases.u = ⟨false, true, 0, 0, 1, 2300, 100⟩ ∧
      (phaseResult .u spanning).msq.period = 320 ∧
      (phaseResult .u spanning).msq.outOfRange = false ∧
      (phaseResult .v spanning).msq.phases.v.count = 1 := by decide +kernel

theorem test_CrossingsAndLapsesCloseSpans_lapses :
    gives (exec (.spanLapse .v) charging) charging = true ∧
      ok (exec (.spanLapse .u) { spanning with msq.phases.u.count := 356 })
        (fun t => t.msq.phases.u == ⟨true, false, 0, 0, 0, 0, 0⟩ && t.crg.rmsSeen.u) = true ∧
      gives (exec .linePeriodLapse { charging with msq.outOfRange := false, msq.troughs := 355 })
        { charging with msq.outOfRange := false, msq.troughs := 355 } = true ∧
      ok (exec .linePeriodLapse { charging with msq.outOfRange := false, msq.troughs := 356 })
        (fun t => t.msq.outOfRange && t.crg.gridRange && t.cpt.events == [.gridFreq]) = true := by
  decide +kernel

/-! ## Charging and heating -/

/-- A grid of 230 V, a battery of 350 V, a share of 160 dA and a request of 30 A. -/
def supplied : State :=
  { charging with
    crg.gridRange := false, crg.vPh := 2300, crg.vMax := 4000, crg.iReq := 300, crg.stale := false
    shu.sEff := 160, shu.dOwnHanded := 160, msq.tcoolValid := true
    msq.slots := charging.msq.slots.set 7 { charging.msq.slots[7] with latest := 3500 } }

theorem test_HostLimitsRunTheChain_clauses :
    gives (exec (.setCharge 1001 0) charging) (answerEmpty .badValue charging) = true ∧
      gives (exec (.setCharge 0 10001) charging) (answerEmpty .badValue charging) = true ∧
      gives (exec (.setBatteryLimit 1001) charging) (answerEmpty .badValue charging) = true ∧
      gives (exec .freshnessTimerExpiry charging) charging = true ∧
      ok (exec .freshnessTimerExpiry { supplied with crg.freshTimer := true })
        (fun t => t.crg.stale && t.crg.iTarget == 0 && t.cpt.events == [.limitStale]) = true ∧
      ok (exec (.setCharge 1000 10000) charging) (fun t => t.crg.vMax == 10000) = true := by
  decide +kernel

/-- R74 to R81 on figures: P_allow 10377 W, of which 300 dA at 350 V takes 10377 W: 296 dA. -/
theorem test_HostLimitsRunTheChain_figures :
    ok (exec (.setBatteryLimit 1000) supplied)
        (fun t => t.crg.pAllow == 10377 && t.crg.pChgReq == 10500 && t.crg.pC == 10377
          && t.crg.iShare == 296 && t.crg.iTarget == 296 && t.crg.dOwn == 160
          && t.crg.freshTimer) = true ∧
      ok (exec .rampEvent { supplied with crg.iBms := 1000 })
        (fun t => t.crg.setpoint == 20) = true ∧
      ok (exec .rampEvent { supplied with crg.iBms := 1000, crg.setpoint := 290 })
        (fun t => t.crg.setpoint == 296) = true := by decide +kernel

/-- The status SET_HEATING answers. -/
def heatingStatus (s : State) (a b m : Word16) (p : Byte) (q : Word16) (c : Byte) : Status :=
  match exec (.setHeating a b m p q c) s with
  | .next t => t.cpt.reply.status
  | _ => .unknown

theorem test_SetHeatingSelectsTheState_checks :
    heatingStatus State.reset 0 100 6000 2 2000 0 = .notConfigured ∧
      heatingStatus charging (-401) 100 6000 2 2000 0 = .badValue ∧
      heatingStatus charging 0 1201 6000 2 2000 0 = .badValue ∧
      heatingStatus charging 0 100 12001 2 2000 0 = .badValue ∧
      heatingStatus charging 0 100 6000 3 2000 0 = .badValue ∧
      heatingStatus charging 0 100 6000 2 12001 0 = .badValue ∧
      heatingStatus charging 0 100 6000 2 2000 2 = .badValue ∧
      heatingStatus charging 100 100 6000 2 2000 0 = .badWindow ∧
      heatingStatus charging (-400) 1200 12000 0 12000 1 = .accepted := by decide +kernel

theorem test_SetHeatingSelectsTheState_taken :
    ok (exec (.setHeating 0 100 6000 1 2000 1)
        { charging with htr.tBat := some (-10), htr.openLatch := true })
        (fun t => t.htr.state == .heating && t.htr.relay && t.htr.settleTimer
          && t.htr.pHeatReq == 6000 && t.cpt.reply == ⟨.accepted, .heating .heating false false⟩)
        = true ∧
      ok (exec (.setHeating 0 100 6000 1 2000 0)
          { charging with htr.tBat := some 25, htr.state := .heating, htr.relay := true })
        (fun t => t.htr.pHeatReq == 4500) = true := by decide +kernel

/-- Heating from a budget of 2000 W with a mean of 5 A measured at 350 V: 1750 W. -/
def warming (duty : Nat) : State :=
  { supplied with
    htr.relay := true, htr.state := .heating, htr.budget := 2000, htr.duty := duty
    htr.accSum := 5000, htr.accCount := 10, ptu.heaterBuffer := duty }

theorem test_HeaterEventAdjustsTheDuty_event :
    (warming 100).htr.openMs < 1000 ∧ pMeas (warming 100) = 1750 ∧
      ok (exec .heaterEvent (warming 100))
        (fun t => t.htr.duty == 116 && t.ptu.heaterBuffer == 116 && t.htr.accCount == 0) = true ∧
      ok (exec .heaterEvent { warming 100 with htr.budget := 1785 })
        (fun t => t.htr.duty == 100) = true ∧
      ok (exec .heaterEvent { warming 100 with htr.budget := 1749 })
        (fun t => t.htr.duty == 36) = true ∧
      ok (exec .heaterEvent { warming 2048 with htr.accSum := 285 })
        (fun t => t.htr.openMs == 10) = true := by decide +kernel

theorem test_HeaterEventAdjustsTheDuty_open :
    1000 ≤ { warming 100 with htr.openMs := 1000 }.htr.openMs ∧
      ok (exec .heaterOpenDetect
          { warming 100 with cpt.configured := true, htr.openMs := 1000, htr.permission := .gridOnly })
        (fun t => t.htr.openLatch && t.htr.state == .heaterFault && t.htr.duty == 0 && !t.htr.relay
          && t.cpt.events == [.heater]) = true ∧
      gives (exec .heaterOpenDetect { warming 100 with htr.openMs := 990 })
        { warming 100 with htr.openMs := 990 } = true ∧
      charging.ptu.trip = none ∧
      ok (exec .heaterPeriodStart (warming 100)) (fun t => t.ptu.heaterOnTime) = true ∧
      ok (exec .heaterPeriodStart (warming 0)) (fun t => !t.ptu.heaterOnTime) = true := by
  decide +kernel


theorem test_conflict_is_timed_from_a_start :
    ok (exec .powerOn { State.reset with ptu.feedback.u := ⟨true, true⟩ })
      (fun t => t.ptu.legs.u.conflict == .timing && t.ptu.legs.d.conflict == .clear) = true := by
  decide +kernel

theorem test_only_a_change_to_ok_ends_the_hold :
    (judgeNet 65535 { State.reset with imn.net := ⟨some .ok, 0, 0⟩, imn.hold := true }).imn.hold
      = true ∧
    (judgeNet 65535 { State.reset with imn.net := ⟨some .alarm, 0, 1⟩, imn.hold := true }).imn.hold
      = false := by decide +kernel
/-! ## The feeder line -/

/-- The own beacon of `identified`. -/
def ownFrame : Frame := ⟨5, 9, .beacon 0 0 0 65535 0⟩

/-- A queue with a beacon in an attempt and a LEAVE behind it. -/
def sending (errors : Nat) : State :=
  { identified with
    fli.errorCount := errors
    fli.attempt := some ownFrame
    fli.queue := [⟨ownFrame, true⟩, ⟨⟨5, 9, .leave⟩, false⟩] }

/-- Silent, with an identification of feeder 9. -/
def silent : State :=
  { identified with fli.line := .silent, fli.silentTimer := true, shu.conds := ⟨true, false, false, false⟩ }

theorem test_AttemptsSendOrSilence_errors :
    LineSettled (sending 15) ∧
      gives (exec .txBitError identified) identified = true ∧
      ok (exec .txBitError (sending 14))
        (fun t => t.fli.errorCount == 15 && t.fli.attempt == none && t.fli.queue.length == 2) = true ∧
      ok (exec .txBitError (sending 15))
        (fun t => t.fli.line == .silent && t.fli.queue == [] && t.fli.errorCount == 0
          && t.shu.conds.line && t.cpt.events == [.shareFallback, .lineFault]) = true := by
  decide +kernel

theorem test_AttemptsSendOrSilence_silent :
    LineSettled silent ∧
      gives (exec .silentTimerExpiry identified) identified = true ∧
      ok (exec .silentTimerExpiry silent)
        (fun t => t.fli.line == .online && t.fli.beaconTimer == some 265
          && t.cpt.events.contains .lineResumed) = true ∧
      ok (exec .silentTimerExpiry { silent with fli.duplicate := true })
        (fun t => t.fli.line == .listen && t.cpt.events == []) = true := by decide +kernel

theorem test_AttemptsSendOrSilence_attempts :
    ok (exec .txAttemptStart { sending 3 with fli.attempt := none })
        (fun t => t.fli.attempt == some ownFrame && t.fli.queue == (sending 3).fli.queue) = true ∧
      ok (exec .txAttemptStart { plugged with fli.queue := [⟨⟨5, 9, .leave⟩, false⟩] })
        (fun t => t.fli.attempt == some ⟨5, 9, .leave⟩) = true ∧
      ok (exec .txAttemptStart { plugged with fli.queue := [⟨ownFrame, false⟩] })
        (fun t => t.fli.attempt == none) = true ∧
      gives (exec .txAttemptStart (sending 3)) (sending 3) = true ∧
      ok (exec .txArbitrationLost (sending 3))
        (fun t => t.fli.attempt == none && t.fli.errorCount == 3
          && t.fli.queue.map (·.frame) == [ownFrame, ⟨5, 9, .leave⟩]) = true := by decide +kernel

theorem test_AttemptsSendOrSilence_complete :
    gives (exec (.txComplete true) identified) identified = true ∧
      ok (exec (.txComplete false) { sending 3 with fli.ackHistory := [false, false, true] })
        (fun t => t.fli.queue == [⟨⟨5, 9, .leave⟩, false⟩] && t.fli.errorCount == 0
          && t.fli.ackHistory == [false, false, false] && !t.shu.conds.unheard) = true ∧
      ok (exec (.txComplete false)
          { sending 3 with fli.ackHistory := [false, false], shu.peers := [{ peer 8 with age := 1 }] })
        (fun t => t.shu.conds.unheard && t.cpt.events == [.shareFallback]) = true ∧
      ok (exec (.txComplete true)
          { sending 3 with
            fli.attempt := some ⟨5, 9, .leave⟩, fli.queue := [⟨⟨5, 9, .leave⟩, true⟩] })
        (fun t => t.fli.departed && t.fli.queue == []) = true := by decide +kernel

/-! ## Received frames -/

theorem test_ReceivedFramesAreRouted_dropped :
    gives (exec (receivedRow ownFrame) State.reset) State.reset = true ∧
      gives (exec (.beaconReceived 8 9 631 0 0 0 0) identified) (Acked identified) = true ∧
      gives (exec (.leaveReceived 8 9) plugged) (Acked plugged) = true ∧
      heldFeeder identified = 9 ∧
      ok (exec (.leaveReceived 8 7) identified)
        (fun t => t.fli.foreignReported && t.fli.ackDriven && t.cpt.events == [.foreignFeeder]) = true ∧
      gives (exec (.leaveReceived 8 7) { identified with fli.foreignReported := true })
        (Acked { identified with fli.foreignReported := true }) = true := by decide +kernel

theorem test_ReceivedFramesAreRouted_duplicate :
    DuplicateSeen ownFrame identified ∧
      ok (exec (receivedRow ownFrame) (sending 0))
        (fun t => t.fli.duplicate && t.fli.line == .listen && t.fli.queue == []
          && t.fli.attempt == none && t.cpt.events.contains .duplicate) = true ∧
      ok (exec (receivedRow ownFrame) silent) (fun t => t.fli.duplicate && t.fli.line == .silent)
        = true := by decide +kernel

theorem test_ReceivedFramesAreRouted_bits :
    receiveChecked (List.replicate 6 false) = none ∧
      gives (exec (.frameDropped ((Frame.bits ⟨8, 9, .leave⟩).dropLast ++ [false])) identified)
        (Acked identified) = true ∧
      (receiveChecked ((Frame.bits ⟨8, 9, .leave⟩).dropLast ++ [false])).map (·.2) = some false ∧
      gives (exec (.frameDropped (List.replicate 6 false)) (Acked identified)) identified = true ∧
      gives (exec (.frameDropped (Frame.bits ⟨8, 9, .leave⟩)) State.reset) State.reset = true ∧
      (receiveBits (Frame.bits ⟨8, 9, .leave⟩)).bind (·.frame?) = some ⟨8, 9, .leave⟩ ∧
      (receiveBits (Frame.bits ⟨8, 9, .beacon 631 0 0 0 0⟩)).map (·.frame?) = some none ∧
      gives (exec (.frameDropped (Frame.bits ⟨8, 9, .beacon 631 0 0 0 0⟩)) identified)
        (Acked identified) = true := by decide +kernel

/-! ## The share -/

theorem test_ShareWalkIsMaxMinFair_witness :
    (([⟨5, 300⟩, ⟨8, 100⟩, ⟨12, 200⟩] : List Amount).map (·.station)).Nodup ∧
      allocate 400 [⟨5, 300⟩, ⟨8, 100⟩, ⟨12, 200⟩] = [⟨8, 100⟩, ⟨12, 150⟩, ⟨5, 150⟩] := by decide

/-- A session with a share of 100 dA, a demand of 160 dA and a capacity of 120 dA. -/
def sharing : State :=
  { charging with
    shu.identCopy := some ⟨9, 120, 160⟩
    shu.dOwnHanded := 160
    shu.sEff := 100
    shu.joining := 2
    cfg.fallback := 60
    cfg.joinCurrent := 80 }

theorem test_ComputationsMoveTheShare_cases :
    (fullComputation identified).shu.sEff = 0 ∧
      (fullComputation { sharing with shu.conds.unheard := true }).shu.sEff = 60 ∧
      (fullComputation { sharing with shu.joining := 1 }).shu.sEff = 80 ∧
      (fullComputation { sharing with shu.sEff := 121 }).shu.sEff = 120 ∧
      (fullComputation sharing).shu.pendingRise = some 120 ∧
      (fullComputation { sharing with shu.pendingRise := some 105 }).shu.sEff = 105 ∧
      (fullComputation { sharing with shu.pendingRise := some 130 }).shu.sEff = 110 ∧
      (extraComputation { sharing with shu.sEff := 130 }).shu.sEff = 120 ∧
      (extraComputation sharing).shu.sEff = 100 ∧
      (extraComputation { sharing with shu.conds.overflow := true }).shu.sEff = 60 := by
  decide +kernel

/-- A full table of stations 6 to 37. -/
def crowded : State := { identified with shu.peers := (List.range 32).map fun i => peer (i + 6) }

theorem test_BeaconsFillThePeerTable_beacon :
    Delivered ⟨8, 9, .beacon 100 90 0x0F 250 3⟩ identified ∧
      ok (exec (.beaconReceived 8 9 100 90 0x0F 250 3) identified)
        (fun t => t.shu.peers == [⟨8, 9, 100, 90, true, true, true, .warn, some 250, some 3, 0, 1⟩]
          && t.imn.measurerHeard && t.cpt.events == [.peers]) = true ∧
      ok (exec (.beaconReceived 8 9 100 90 0x1B 250 0) { identified with shu.peers := [peer 8] })
        (fun t => t.shu.peers == [⟨8, 9, 100, 90, true, true, false, .sweep, none, none, 0, 2⟩]
          && t.cpt.events == []) = true ∧
      ok (exec (.beaconReceived 62 9 100 90 0 250 0) crowded)
        (fun t => t.shu.overflow == 4 && t.shu.peers == crowded.shu.peers && t.shu.conds.overflow)
        = true ∧
      ok (exec (.beaconReceived 63 9 100 90 0 250 0) identified) (fun t => t.shu.peers == [])
        = true := by decide +kernel

theorem test_BeaconsFillThePeerTable_role :
    Delivered ⟨2, 9, .beacon 100 90 7 250 0⟩ measurer ∧
      ok (exec (.beaconReceived 2 9 100 90 7 250 0) measurer)
        (fun t => t.imn.mode == .passive && t.imn.cycle == none && !t.imn.coupling) = true ∧
      ok (exec (.beaconReceived 8 9 100 90 3 250 0) measurer) (fun t => t.imn.mode == .measurer)
        = true := by decide +kernel

theorem test_BeaconsFillThePeerTable_removal :
    Delivered ⟨8, 9, .leave⟩ crowded ∧
      ok (exec (.leaveReceived 8 9) crowded)
        (fun t => t.shu.peers.length == 31 && t.cpt.events == [.peers]) = true ∧
      ok (exec .peerAgedOut { identified with shu.peers := [peer 8, { peer 9 with age := 4 }] })
        (fun t => t.shu.peers == [peer 8] && t.cpt.events == [.peers]) = true ∧
      gives (exec .overflowEnd identified) identified = true ∧
      gives (exec .backoffEnd identified) identified = true := by decide +kernel

theorem test_BeaconPeriodRunsTheShare_event :
    LineSettled charging ∧ charging.imn.clearCount < 3 ∧
      gives (exec .beaconPeriodEvent State.reset) State.reset = true ∧
      ok (exec .beaconPeriodEvent { charging with shu.peers := [{ peer 8 with age := 3 }, peer 9] })
        (fun t => t.shu.peers == [{ peer 9 with age := 1 }] && t.imn.clearCount == 1
          && t.cpt.events.contains .peers && t.fli.beaconTimer == some 250
          && t.fli.queue.map (·.frame) == [⟨5, 9, .beacon 0 0 3 65535 0⟩]) = true ∧
      ok (exec .beaconPeriodEvent { charging with imn.measurerHeard := true, imn.clearCount := 2 })
        (fun t => t.imn.clearCount == 0 && !t.imn.measurerHeard) = true ∧
      ok (exec .beaconPeriodEvent { charging with imn.backoff := 1 })
        (fun t => t.imn.clearCount == 0 && t.imn.backoff == 0) = true := by decide +kernel

/-! ## The insulation monitor -/

/-- The resistance a step of `upp` mV measures with the default bridge. -/
theorem test_resistance_figures :
    resistance Settings.default 10 = 65535 ∧ resistance Settings.default 11 = 65534 ∧
      resistance Settings.default 6000 = 0 ∧ resistance Settings.default 5000 = 100 := by decide

/-- `charging`'s successor in LOCAL with a cycle of `c`. -/
def cycling (c : Cycle) : State := { identified with imn.cycle := some c }

theorem test_SamplesRunTheHalves_clauses :
    charging.imn.cycle = none ∧
      (takeViso 500 identified).imn.cycle = some ⟨.positive, 1, 0, some 500, none, false⟩ ∧
      (takeViso 502 (cycling ⟨.positive, 18, 6, some 500, none, false⟩)).imn.cycle
        = some ⟨.positive, 19, 7, some 502, none, false⟩ ∧
      (takeViso 502 (cycling ⟨.positive, 19, 7, some 500, none, false⟩)).imn.cycle
        = some ⟨.negative, 0, 0, none, some 502, false⟩ ∧
      (takeViso 502 (cycling ⟨.positive, 399, 2, some 500, none, false⟩)).imn.cycle
        = some ⟨.negative, 0, 0, none, some 502, true⟩ ∧
      (takeViso 510 (cycling ⟨.positive, 19, 7, some 500, none, false⟩)).imn.cycle
        = some ⟨.positive, 20, 0, some 510, none, false⟩ := by decide +kernel

/-- A cycle of ±2500 mV ends at its last sample: 100 kΩ. -/
theorem test_cycle_end :
    (takeViso (-2500) (cycling ⟨.negative, 19, 7, some (-2500), some 2500, false⟩)).imn.localResult
        = some ⟨100, false, some 2500, some (-2500)⟩ ∧
      (takeViso 2501 (cycling ⟨.negative, 19, 7, some 2501, some 2500, false⟩)).imn.measureFaults
        = 1 ∧
      (takeViso (-2500) { measurer with
          imn.cycle := some ⟨.negative, 19, 7, some (-2500), some 2500, false⟩ }).fli.queue.map
          (·.frame.body) = [.measureResult 100 0, .measureStart 0 0] := by decide +kernel

/-- A LOCAL result of `rf` kΩ. -/
def result (rf : Nat) : InsResult := ⟨rf, false, some 100, some (-100)⟩

/-- One result below R_alarm has been taken. -/
def falling : State := { identified with imn.own := ⟨some .warn, 1, 0⟩ }

/-- The own-side fault is latched, with a self-check or a clearing. -/
def checking (c : SelfCheck) (clearing isolated : Bool) : State :=
  { identified with
    imn.ownFault := true, imn.own := ⟨some .alarm, 2, 0⟩, imn.selfCheck := c
    imn.clearing := clearing, imn.heaterIsolated := isolated, htr.isolateReq := true }

theorem test_LocalResultsJudgeTheOwnSide_evaluation :
    ownStepMeasuring falling = none ∧
      (localResult (result 399) identified).imn.own = ⟨some .warn, 0, 0⟩ ∧
      (localResult (result 79) falling).imn.own = ⟨some .alarm, 2, 0⟩ ∧
      (localResult (result 79) falling).imn.ownFault = true ∧
      (localResult (result 79) falling).cpt.events = [.insulation] ∧
      (localResult (result 80) falling).imn.ownFault = false ∧
      (localResult (result 79) { falling with imn.ownFault := true }).imn.selfCheck = .idle ∧
      (localResult (result 501) { identified with imn.own := ⟨some .alarm, 0, 1⟩ }).imn.own
        = ⟨some .ok, 0, 2⟩ := by decide +kernel

theorem test_LocalResultsJudgeTheOwnSide_checks :
    (localResult (result 400) (checking (.running 1) false false)).imn.selfCheck = .idle ∧
      (localResult (result 400) (checking (.running 1) false false)).htr.isolateReq = false ∧
      (localResult (result 401) (checking (.running 0) false false)).imn.selfCheck = .running 1 ∧
      (localResult (result 401) (checking (.running 1) false false)).imn.ownFault = false ∧
      (localResult (result 401) (checking (.running 1) false false)).imn.heaterIsolated = true ∧
      (localResult (result 400) (checking .idle true true)).imn.lastClearing = some false ∧
      (localResult (result 400) (checking .idle true true)).htr.isolateReq = true ∧
      (localResult (result 401) (checking .idle true true)).imn.ownFault = false ∧
      (localResult (result 401) (checking .idle true true)).imn.lastClearing = some true := by
  decide +kernel

theorem test_MeasurerFramesAreTaken_frames :
    Delivered ⟨8, 9, .measureStart 0 0⟩ measurer ∧
      ok (exec (.measureStartReceived 8 9 0 0) measurer)
        (fun t => t.imn.mode == .passive && t.imn.backoff == 8 && t.imn.cycle == none) = true ∧
      gives (exec (.measureStartReceived 8 9 0 0) charging)
        { Acked charging with imn.measurerHeard := true } = true ∧
      Delivered ⟨8, 9, .measureResult 79 1⟩ charging ∧
      ok (exec (.measureResultReceived 8 9 79 1)
          { charging with imn.net := ⟨some .warn, 1, 0⟩, imn.unmonitored := true })
        (fun t => t.imn.net == ⟨some .alarm, 2, 0⟩ && !t.imn.unmonitored
          && t.imn.jointResult == some ⟨79, true, none, none⟩
          && (t.mtr.session.map (·.base.flags.insulation)) == some true) = true ∧
      gives (exec (.measureResultReceived 8 9 79 1) measurer)
        { Acked measurer with imn.measurerHeard := true } = true ∧
      ok (exec .unmonitoredTimerExpiry charging)
        (fun t => t.imn.unmonitored && t.cpt.events == [.insulation]) = true := by decide +kernel

theorem test_RoleAndClearingStartACycle_role :
    gives (exec .measuringRoleTake charging) charging = true ∧
      ok (exec .measuringRoleTake { charging with imn.clearCount := 3 })
        (fun t => t.imn.mode == .measurer && t.imn.coupling && t.imn.sweep == .none) = true ∧
      ok (exec .measuringRoleTake
          { charging with imn.clearCount := 3, shu.peers := [{ peer 2 with heard := 2 }] })
        (fun t => t.imn.mode == .passive && t.imn.clearCount == 0) = true ∧
      ok (exec .measuringRoleTake
          { charging with imn.clearCount := 3, imn.net := ⟨some .alarm, 2, 0⟩, shu.peers := [peer 8] })
        (fun t => t.imn.sweep == .leading ⟨[8, 5], 0, .awaitingAnswer, 0, true, false, 0⟩
          && t.fli.queue.map (·.frame.body) == [.alert 65535, .sweepStep 8 0]) = true := by
  decide +kernel

theorem test_RoleAndClearingStartACycle_clearing :
    gives (exec .clearInsulation charging) (answerEmpty .wrongState charging) = true ∧
      gives (exec .clearInsulation (checking (.running 0) false false))
        (answerEmpty .busy (checking (.running 0) false false)) = true ∧
      gives (exec .clearInsulation identified) (answerEmpty .accepted identified) = true ∧
      ok (exec .clearInsulation (checking .idle false true))
        (fun t => t.imn.clearing && !t.htr.isolateReq && t.imn.cycle == some .fresh) = true := by
  decide +kernel

/-! ## The sweep -/

/-- A follower of station 2 without a target. -/
def following : State := { charging with imn.sweep := .following 2 false }

theorem test_LeaderFramesMakeATarget_alert :
    Delivered ⟨2, 9, .alert 50⟩ charging ∧
      ok (exec (.alertReceived 2 9 50) charging)
        (fun t => t.imn.sweep == .following 2 true && t.cpt.events == [.sweep]) = true ∧
      ok (exec (.alertReceived 2 9 50) following) (fun t => t.imn.sweep == .following 2 true)
        = true ∧
      gives (exec (.alertReceived 3 9 50) following) (Acked following) = true ∧
      gives (exec (.alertReceived 3 9 50) leading) (Acked leading) = true := by decide +kernel

theorem test_LeaderFramesMakeATarget_step :
    LineSettled following ∧ RegulationSafe following ∧ Delivered ⟨2, 9, .sweepStep 5 1⟩ following ∧
      gives (exec (.sweepStepReceived 3 9 5 1) following) (Acked following) = true ∧
      gives (exec (.sweepStepReceived 3 9 5 1) leading) (Acked leading) = true ∧
      ok (exec (.sweepStepReceived 2 9 5 1) charging)
        (fun t => t.psq.seq == .sweepIsolated .isoRamp && t.imn.target == some ⟨1, none⟩
          && t.shu.sweepTarget && t.psq.stopTimer) = true ∧
      ok (exec (.sweepStepReceived 2 9 5 1) { stopping with imn.sweep := .following 2 true })
        (fun t => t.imn.target == none
          && t.fli.queue.map (·.frame.body) == [.sweepAnswer 5 2]) = true ∧
      ok (exec (.sweepStepReceived 2 9 5 1) { identified with imn.sweep := .following 2 true })
        (fun t => t.imn.target == some ⟨1, none⟩
          && t.fli.queue.map (·.frame.body) == [.sweepAnswer 5 3]) = true ∧
      ok (exec (.sweepStepReceived 2 9 5 3) waiting)
        (fun t => t.imn.target == some ⟨3, none⟩ && t.fli.queue == []) = true ∧
      ok (exec (.sweepStepReceived 2 9 8 4) waiting)
        (fun t => t.imn.target == none && t.psq.seq == .sweepIsolated .isoRejoin) = true ∧
      ok (exec (.sweepStepReceived 2 9 8 4) opening)
        (fun t => t.imn.target == none && t.imn.pendingRelease) = true := by decide +kernel

theorem test_ResultsEndAFollowersSweep_frames :
    LineSettled waiting ∧ DriveSafe waiting ∧ RegulationSafe waiting ∧
      Delivered ⟨2, 9, .sweepResult 1 5 0⟩ waiting ∧ NoSweepStarts waiting ∧
      gives (exec (.sweepResultReceived 3 9 1 5 0) waiting) (Acked waiting) = true ∧
      ok (exec (.sweepResultReceived 2 9 1 5 0) waiting)
        (fun t => t.imn.ownFault && t.imn.disagreement && t.imn.outcome == .found 5 && t.imn.hold
          && t.imn.target == none) = true ∧
      ok (exec (.sweepResultReceived 2 9 1 5 0) { waiting with imn.target := some ⟨3, some 400⟩ })
        (fun t => t.imn.ownFault && !t.imn.disagreement) = true ∧
      ok (exec (.sweepResultReceived 2 9 1 8 0) waiting)
        (fun t => !t.imn.ownFault && t.imn.outcome == .found 8 && t.imn.hold
          && t.psq.seq == .sweepIsolated .isoRejoin) = true ∧
      ok (exec (.sweepResultReceived 2 9 2 0 0) waiting)
        (fun t => t.imn.outcome == .notFound && t.imn.hold) = true ∧
      ok (exec (.sweepResultReceived 2 9 3 0 0) waiting)
        (fun t => t.imn.outcome == .abandoned && !t.imn.hold) = true := by decide +kernel

theorem test_ResultsEndAFollowersSweep_timers :
    ok (exec .leaderSilenceExpiry waiting)
        (fun t => t.imn.sweep == .none && t.imn.outcome == .abandoned
          && t.psq.seq == .sweepIsolated .isoRejoin) = true ∧
      gives (exec .leaderSilenceExpiry following) following = true ∧
      gives (exec .sweepHoldExpiry charging) charging = true ∧
      ok (exec .sweepHoldExpiry { charging with imn.hold := true }) (fun t => !t.imn.hold) = true ∧
      ok (exec .sweepHoldExpiry { leading with imn.sweep := .none, imn.hold := true })
        (fun t => t.imn.sweep == leading.imn.sweep && !t.imn.hold) = true := by decide +kernel

/-- The leader's record in `leading` at a later point. -/
def leader (index : Nat) (phase : StepPhase) (answer cycle : Bool) : State :=
  { leading with imn.sweep := .leading ⟨[8, 9, 5], index, phase, 0, answer, cycle, 0⟩ }

theorem test_LeaderStepsThroughItsList_answers :
    LineSettled (leader 0 .awaitingAnswer true false) ∧
      RegulationSafe (leader 0 .awaitingAnswer true false) ∧
      Delivered ⟨8, 9, .sweepAnswer 8 2⟩ (leader 0 .awaitingAnswer true false) ∧
      ok (exec (.sweepAnswerReceived 8 9 8 2) (leader 0 .awaitingAnswer true false))
        (fun t => t.imn.sweep == .leading ⟨[8, 9, 5], 1, .awaitingAnswer, 1, true, false, 0⟩
          && t.fli.queue.map (·.frame.body) == [.sweepStep 9 1]) = true ∧
      ok (exec (.sweepAnswerReceived 8 9 8 1) (leader 0 .awaitingAnswer true false))
        (fun t => t.imn.sweep == .leading ⟨[8, 9, 5], 0, .measuring, 0, false, true, 0⟩
          && t.imn.cycle == some .fresh) = true ∧
      gives (exec (.sweepAnswerReceived 9 9 9 1) (leader 0 .awaitingAnswer true false))
        (Acked (leader 0 .awaitingAnswer true false)) = true ∧
      gives (exec (.sweepAnswerReceived 8 9 8 1) following) (Acked following) = true := by
  decide +kernel

theorem test_LeaderStepsThroughItsList_timers :
    gives (exec .sweepAnswerTimeout following) following = true ∧
      gives (exec .sweepAnswerTimeout (leader 0 .measuring false true))
        (leader 0 .measuring false true) = true ∧
      ok (exec .sweepAnswerTimeout (leader 1 .awaitingAnswer true false))
        (fun t => t.psq.seq == .sweepIsolated .isoRamp && t.shu.sweepTarget
          && t.imn.sweep == .leading ⟨[8, 9, 5], 2, .ownStep, 1, false, false, 0⟩) = true ∧
      ok (exec .sweepCycleTimeout (leader 0 .measuring false true))
        (fun t => t.imn.sweep == .leading ⟨[8, 9, 5], 1, .awaitingAnswer, 0, true, false, 0⟩)
        = true ∧
      ok (exec .sweepCycleTimeout
          { leader 2 .ownStep false true with
            imn.mode := .localMode, psq.seq := .sweepIsolated .isoWait
            psq.contactorCmd := false, imn.target := some ⟨2, none⟩ })
        (fun t => t.imn.outcome == .notFound && t.imn.hold && t.imn.target == none
          && t.psq.seq == .sweepIsolated .isoRejoin) = true ∧
      gives (exec .sweepCycleTimeout (leader 0 .awaitingAnswer true false))
        (leader 0 .awaitingAnswer true false) = true := by decide +kernel

/-! ## The tariff meter -/

/-- `charging` with 8000 samples of `p` and of the heater's `h` taken. -/
def metered (p : Int) (h : Nat) : State :=
  { charging with mtr.sampleCount := 8000, mtr.powerSum := p, mtr.heaterSum := h }

/-- The line items of the open session. -/
def items (s : State) : List LineItem := (s.mtr.session.map (·.base.items)).getD []

theorem test_IntervalsMeterEveryPair_samples :
    charging.mtr.sampleCount < 8000 ∧
      gives (exec .meteringInterval charging) charging = true ∧
      ok (exec .meterSample
          { supplied with
            htr.source := .grid
            msq.slots := (supplied.msq.slots.set 9 { supplied.msq.slots[9] with latest := 100 }).set 0
              { supplied.msq.slots[0] with latest := 2300 } })
        (fun t => t.mtr.sampleCount == 1 && t.mtr.heaterSum == 350000 && t.mtr.powerSum == 0) = true := by
  decide +kernel

theorem test_IntervalsMeterEveryPair_interval :
    items charging ≠ [] ∧ 8000 ≤ (metered 0 0).mtr.sampleCount ∧
      ok (exec .meteringInterval (metered 57600000 28800000))
        (fun t => items t == [⟨0, 100, 200, 1, 1, 300, none⟩] && t.crg.pMeter == 7
          && t.mst.working.imported == 2 && t.mst.working.conditioning == 1) = true ∧
      ok (exec .meteringInterval (metered (-28800001) 0))
        (fun t => t.mtr.importCarry == 0
          && (t.mtr.session.map (·.base.flags.reverseFlow)) == some true) = true ∧
      ok (exec .meteringInterval (metered (2001 * 28800000 + 5) 0))
        (fun t => t.psq.seq == .stopping && t.psq.stopCause == some .quotaEnd
          && (items t).map (·.overrun) == [some (1, 0)] && t.mtr.importCarry == 5) = true ∧
      ok (exec .meteringInterval (metered (1000 * 28800000) 0))
        (fun t => (t.mtr.session.bind (·.running)) == some ⟨⟨0, tariff⟩, 1000, 0, true⟩
          && t.cpt.events == [.lowQuota] && t.mst.sessionEnergy == 1000 && t.mst.writes == []
          && t.mst.inFlight == none) = true ∧
      ok (exec .meteringInterval (metered (999 * 28800000) 0))
        (fun t => (t.mtr.session.bind (·.running)) == some ⟨⟨0, tariff⟩, 1001, 0, false⟩
          && t.cpt.events == []) = true ∧
      ok (exec .meteringInterval { metered 28800000 0 with mst.sessionEnergy := 99998 })
        (fun t => t.mst.sessionEnergy == 99999 && t.mst.inFlight == none) = true ∧
      ok (exec .meteringInterval { metered 28800000 0 with mst.sessionEnergy := 99999 })
        (fun t => t.mst.sessionEnergy == 0
          && t.mtr.session.map (fun ss => [PageWrite.checkpoint (.opened ss.base)]) == some t.mst.writes
          && t.mst.inFlight.map (·.write) == some (.counters ⟨1, 0, 0⟩)) = true ∧
      writesLeft (exec .meteringInterval
          { metered 28800000 0 with mtr.session := none, mst.lifeEnergy := 99999 })
        = [.counters ⟨1, 0, 0⟩] ∧
      ok (exec .meteringInterval { metered 57600000 28800000 with mtr.session := none })
        (fun t => t.mst.working.imported == 2 && t.mst.working.conditioning == 0) = true := by
  decide +kernel

theorem test_MeterCommandsFollowTheirChecks_descriptors :
    gives (exec (.writeDescriptor 16 3 1 0 1 1 0) charging) (answerEmpty .badSlot charging) = true ∧
      gives (exec (.writeDescriptor 15 16 1 0 1 1 0) charging) (answerEmpty .badValue charging)
        = true ∧
      gives (exec (.writeDescriptor 15 3 1 0 1 1 16) charging) (answerEmpty .badValue charging)
        = true ∧
      SlotInUse 0 charging ∧ SlotInUse 0 closing ∧ ¬ SlotInUse 15 charging ∧
      ok (exec (.writeDescriptor 0 15 1 2 3 4 15) charging)
        (fun t => t.cpt.reply == ⟨.inUseLater, .empty⟩
          && t.mtr.table[0] == ⟨true, 1, 2, 3, 4, 15, true, true, true⟩) = true ∧
      ok (exec (.writeDescriptor 15 0 1 2 3 4 15) charging)
        (fun t => t.cpt.reply == ⟨.accepted, .empty⟩) = true := by decide +kernel

/-- `charging` whose running copy has no CHAIN yet, or none runs. -/
def unchained : State :=
  { charging with mtr.session := some { session with
      running := some ⟨⟨0, { tariff with chain := false }⟩, 2000, 0, false⟩ } }
@[inherit_doc unchained]
def unmetered : State := { charging with mtr.session := some { session with running := none } }

/-- The status of the reply. -/
def status (o : Host.Outcome State Fault Refusal) (x : Status) : Bool :=
  ok o fun t => t.cpt.reply.status == x

theorem test_MeterCommandsFollowTheirChecks_extend :
    status (exec (.extend 0) identified) .noSession ∧
      status (exec (.extend 0) { charging with psq.seq := .suspended }) .suspended ∧
      status (exec (.extend 0) unmetered) .noSession ∧
      status (exec (.extend 0)
        { charging with mtr.session := some { session with
            running := some ⟨⟨0, { tariff with chain := true }⟩, 2000, 0, false⟩ } })
        .alreadyChained ∧
      ValidSlot 0 unchained ∧ status (exec (.extend 1) unchained) .badSlot ∧
      status (exec (.extend 16) unchained) .badSlot ∧ status (exec (.extend 0) unchained) .accepted := by
  refine ⟨?_, ?_, ?_, ?_, ⟨0, ?_⟩, ?_, ?_, ?_⟩ <;> decide +kernel

theorem test_MeterCommandsFollowTheirChecks_split :
    status (exec (.sessionSplit 0 9) identified) .noSession ∧
      status (exec (.sessionSplit 0 9) stopping) .ending ∧
      status (exec (.sessionSplit 0 9) { waiting with psq.stopCause := some .released }) .ending ∧
      status (exec (.sessionSplit 0 9)
        { charging with mst.stacked := some (recordOf session.base .split) }) .backlog ∧
      status (exec (.sessionSplit 1 9) charging) .badSlot ∧
      ok (exec (.sessionSplit 0 9) charging)
        (fun t => t.cpt.reply == ⟨.splitDone, .empty⟩ && (t.mtr.session.map (·.base.stamp)) == some 9
          && t.mst.queue.map (·.placed.record) == [closedRecord session .split false]
          && items t == [⟨0, 100, 200, 0, 0, 0, none⟩]) = true ∧
      (let b := { session.base with number := 1, stamp := 9 }
       writesLeft (exec (.sessionSplit 0 9) charging)
        = [.counters ⟨0, 0, 0⟩, .place .p1 (some ⟨1, closedRecord session .split false⟩) false,
            .counters ⟨0, 0, 1⟩, .checkpoint (.opened b)]) := by decide +kernel

/-! ## The meter store -/

/-- A record of the session numbered `n`. -/
def meterRecord (n : Nat) : SessionRecord := recordOf { session.base with number := n } .hostStop

/-- `charging` with a write in flight. -/
def writing (w : PageWrite) (ws : List PageWrite) : State :=
  { charging with mst.inFlight := some ⟨w, .b, 1⟩, mst.writes := ws }

theorem test_StoreWritesAndReportsLeaveInOrder_writes :
    gives (exec .storeWriteComplete charging) charging = true ∧
      ok (exec .storeWriteComplete (writing (.counters ⟨1, 0, 1⟩) [.checkpoint .empty]))
        (fun t => t.mst.page.counters.b == .valid ⟨1, ⟨1, 0, 1⟩⟩
          && t.mst.inFlight == some ⟨.checkpoint .empty, .b, 1⟩ && t.mst.writes == []) = true ∧
      ok (exec .storeWriteComplete (writing (.checkpoint (.opened session.base)) []))
        (fun t => t.mst.page.checkpoint.b == .valid ⟨1, .opened session.base⟩
          && t.mst.inFlight == none) = true ∧
      ok (exec .storeWriteComplete (writing (.place .p2 (some ⟨1, meterRecord 1⟩) true) []))
        (fun t => t.mst.page.p2 == .valid (some ⟨1, meterRecord 1⟩)
          && t.mst.inFlight == some ⟨.checkpoint .empty, .b, 1⟩) = true ∧
      ok (exec .storeWriteComplete (writing (.place .p2 none false) []))
        (fun t => t.mst.page.p2 == .valid none && t.mst.inFlight == none) = true := by decide +kernel

/-- Two queued reports, with a stacked record or not. -/
def reporting (x : Option SessionRecord) : State :=
  { identified with
    mst.queue := [⟨.p1, ⟨1, meterRecord 1⟩⟩, ⟨.p2, ⟨2, meterRecord 2⟩⟩], mst.nextPlacement := 3
    mst.stacked := x }

theorem test_StoreWritesAndReportsLeaveInOrder_reports :
    status (exec .readReport identified) .none ∧ status (exec .removeReport identified) .none ∧
      ok (exec .readReport (reporting none))
        (fun t => t.cpt.reply == ⟨.accepted, .report ⟨1, meterRecord 1⟩⟩) = true ∧
      ok (exec .removeReport (reporting none))
        (fun t => t.mst.queue == [⟨.p2, ⟨2, meterRecord 2⟩⟩]
          && t.mst.inFlight == some ⟨.place .p1 none false, .a, 0⟩) = true ∧
      ok (exec .removeReport (reporting (some (meterRecord 3))))
        (fun t => t.mst.queue == [⟨.p2, ⟨2, meterRecord 2⟩⟩, ⟨.p1, ⟨3, meterRecord 3⟩⟩]
          && t.mst.nextPlacement == 4 && t.mst.stacked == none
          && t.cpt.events == [.reportReady]) = true := by decide +kernel

/-! ## The invariants hold in states of a session, and the codes have frames -/

theorem test_StepKeeps_share : ShareSafe identified ∧ ShareSafe charging ∧ ShareSafe waiting := by
  decide +kernel

theorem test_StepKeepsTheCutoffs_witness :
    HeaterSafe identified ∧ HeaterSafe charging ∧ HeaterSafe tripFault ∧ RegulationSafe charging := by
  decide +kernel

theorem test_StepKeepsRanges_witness : RangesHold charging ∧ RangesHold loopReady := by
  decide +kernel

theorem test_StepKeepsTables_witness : TablesHold charging := by
  refine ⟨?_, ?_, ?_, ?_, ?_, ?_, ?_, ?_, ?_, ?_, ?_⟩
  case refine_4 =>
    intro ss h
    cases h
    decide
  all_goals decide +kernel

theorem test_StepKeepsInjectionSafe_witness : InjectionSafe charging ∧ InjectionSafe leading := by
  have leads : ∀ r, leading.imn.sweep = .leading r →
      (r.phase = .ownStep → r.answerTimer = false) ∧
        (r.phase = .ownStep ∨ leading.imn.mode = .measurer) := by
    intro r h
    cases h
    exact ⟨fun x => (nomatch x), .inr rfl⟩
  exact ⟨⟨by decide +kernel, by decide +kernel, by decide +kernel, fun _ h => nomatch h⟩,
    ⟨by decide +kernel, by decide +kernel, by decide +kernel, leads⟩⟩

theorem test_StepKeepsTheStore_witness :
    storedCounters charging.mst.page = ⟨0, 0, 0⟩ ∧ charging.mst.page.hasForce ∧
      charging.mst.inFlight = none ∧ charging.mst.writes = [] := by decide +kernel

theorem test_storeSound_charging : StoreSound charging := by
  refine ⟨by decide +kernel, by decide +kernel, fun _ => ⟨by decide +kernel, by decide +kernel,
    by decide +kernel, fun f h => ?_, fun w h => ?_⟩, fun h => by cases h⟩
  · cases h
  · cases h

theorem test_RequestFramesReadBack_witness :
    (Instr.goEnergize 3 0x01020304).wellFormed = true ∧
      requestBytes (.goEnergize 3 0x01020304) = some [8, 0, 5, 3, 1, 2, 3, 4, 0x50] ∧
      requestOf [8, 0, 5, 3, 1, 2, 3, 4, 0x50] = some (.goEnergize 3 0x01020304) := by
  decide +kernel

theorem test_FeederFramesReadBack_witness :
    (Frame.inRange ⟨12, 9, .beacon 630 93 0x1F 250 62⟩) = true ∧
      (receiveBits (Frame.bits ⟨12, 9, .beacon 630 93 0x1F 250 62⟩)).bind (·.frame?)
        = some ⟨12, 9, .beacon 630 93 0x1F 250 62⟩ := by decide +kernel

/-! ## Welds, releases and completions of the sequencer (R5, R14, R16 to R18, R20, R23, R24) -/

theorem test_weld_of_an_open_command :
    ok (exec (.relayFeedbackChange .contactor true) identified)
        (fun t => t.psq.faultCause == some .contactorWeld) = true ∧
      (takeProximity 3500 { opening with psq.contactorSup := true }).psq.faultCause
        = some .contactorWeld ∧
      (takeProximity 3500 { tripFault with psq.contactorFb := true, psq.contactorSup := true }).psq
        = { tripFault.psq with prox := .none, ident := none, contactorFb := true } := by decide +kernel

/-- A reset in ACTIVE leaves UNPLUGGED with no fault and the contactor supervised, and the plug settles again; the
weld is found at the supervision's end, and not where the contact has opened. -/
theorem test_StartRestoresTheResetState_supervision :
    let t (o : Host.Outcome State Fault Refusal) : State := (match o with
      | .next u => u
      | _ => charging)
    let u := t (exec .resetLine charging)
    (u.psq.seq, u.psq.faultCause, u.psq.contactorSup, u.psq.prechargeSup, u.cpt.events)
        = (.unplugged, none, true, false, []) ∧
      (takeProximity 1000 u).psq.seq = .plugSettle ∧
      ok (exec (.openSupervisionExpiry .contactor) u)
        (fun v => v.psq.faultCause == some .contactorWeld) = true ∧
      ok (exec (.openSupervisionExpiry .contactor) (t (exec (.relayFeedbackChange .contactor false) u)))
        (fun v => v.psq.seq == .unplugged) = true ∧
      ok (exec .resetLine closing) (fun v => v.psq.prechargeSup && v.psq.seq == .unplugged) = true ∧
      ok (exec .powerOn { held with psq.contactorFb := true })
        (fun v => v.psq.contactorSup && v.psq.faultCause == none) = true := by decide +kernel

theorem test_ProximityMovesPlugDetection_release :
    DriveSafe charging ∧ DriveSafe opening ∧
      (takeProximity 2000 opening).psq.stopCause = some .released ∧
      (takeProximity 2000 opening).imn.target = none ∧
      (takeProximity 2000 waiting).psq.seq = .identified ∧
      (takeProximity 2000 waiting).fli.queue.map (·.frame.body) = [.leave] ∧
      takeProximity 2000 { opening with psq.stopCause := some .insulation } =
        { opening with psq.stopCause := some .insulation, psq.prox := .release } ∧
      (takeProximity 2000 identified).fli.queue.map (·.frame.body) = [.leave] := by decide +kernel

theorem test_GoIdleReturnsToPlugged_fault :
    LineSettled { tripFault with ptu.trip := none, psq.prox := .none, fli.line := .offline
                                 shu.conds.line := true } ∧
      ok (exec .goIdle { tripFault with ptu.trip := none, psq.prox := .none, fli.line := .offline })
        (fun t => t.psq.seq == .unplugged) = true ∧
      ok (exec .goIdle { ramping with psq.isoReturn := some .active })
        (fun t => t.psq.seq == .plugged && t.imn.target == none && !t.shu.sweepTarget) = true := by
  decide +kernel

theorem test_target_goes_with_ACTIVE :
    ok (exec .goStop { charging with imn.target := some ⟨1, none⟩, imn.sweep := .following 2 true })
        (fun t => t.imn.target == none && t.psq.seq == .stopping) = true ∧
      ok (exec .gridSupervisionExpiry { charging with imn.target := some ⟨1, none⟩ })
        (fun t => t.imn.target == none && t.psq.seq == .fault) = true := by decide +kernel

/-- ISO_REJOIN with the contactor commanded closed. -/
def rejoinClosing : State :=
  { rejoining with psq.prechargeTimer := false, psq.contactorTimer := true, psq.contactorCmd := true }

theorem test_ContactorClosedMakesActive_rejoin :
    DriveSafe rejoinClosing ∧ LineSettled rejoinClosing ∧ RegulationSafe rejoinClosing ∧
      ok (exec (.relayFeedbackChange .contactor true) rejoinClosing)
        (fun t => t.psq.seq == .active && t.psq.isoReturn == none && t.ptu.enable && t.shu.joint
          && t.imn.mode == .passive && t.psq.prechargeSup && t.mtr == rejoinClosing.mtr) = true ∧
      ok (exec (.relayFeedbackChange .contactor true)
          { rejoinClosing with psq.isoReturn := some .suspended })
        (fun t => t.psq.seq == .suspended) = true := by decide +kernel

/-- A cancel with the contactor still closed, and a stop recorded in ISO_REJOIN with both contacts
closed. -/
def canceling : State :=
  { closing with
    psq.cancelPending := true, psq.contactorCmd := false, psq.prechargeCmd := false
    psq.prechargeFb := false, psq.contactorFb := true, psq.contactorSup := true
    psq.contactorTimer := false }
@[inherit_doc canceling]
def rejoinStopping : State :=
  { rejoining with
    psq.stopCause := some .hostStop, psq.prechargeTimer := false, psq.prechargeCmd := false
    psq.contactorFb := true, psq.contactorSup := true, psq.prechargeFb := true
    psq.prechargeSup := true }

theorem test_ContactorOpenCompletesAStop_others :
    DriveSafe canceling ∧ DriveSafe rejoinStopping ∧ LineSettled canceling ∧
      ok (exec (.relayFeedbackChange .contactor false) canceling)
        (fun t => t.psq.seq == .identified && !t.psq.cancelPending) = true ∧
      ok (exec (.relayFeedbackChange .precharge false)
          { canceling with psq.contactorFb := false, psq.contactorSup := false
                           psq.prechargeFb := true, psq.prechargeSup := true })
        (fun t => t.psq.seq == .identified) = true ∧
      gives (exec (.relayFeedbackChange .contactor false) rejoinStopping)
        { rejoinStopping with psq.contactorFb := false, psq.contactorSup := false } = true ∧
      ok (exec (.relayFeedbackChange .precharge false)
          { rejoinStopping with psq.contactorFb := false, psq.contactorSup := false })
        (fun t => t.psq.seq == .identified && t.mtr.session == none) = true ∧
      ok (exec (.relayFeedbackChange .contactor false) { opening with imn.pendingRelease := true })
        (fun t => t.psq.seq == .sweepIsolated .isoRejoin) = true ∧
      gives (exec (.relayFeedbackChange .contactor false)
          { plugged with psq.contactorFb := true, psq.contactorSup := true }) plugged = true := by
  decide +kernel

/-! ## What a publication moves (R10, R13, R14, R22, R128, R131) -/

/-- The last pair of a fast scan with VLINK, VBAT, IBAT and IHEAT in a state. -/
def published (s : State) (link bat ibat iheat : Word16) : State :=
  match exec (.pairConversionDone ibat iheat)
    { s with
      msq.converting := some .fast
      msq.fastScan := some (List.replicate 3 (0, 0) ++ [(link, bat)]) } with
  | .next t => t
  | _ => s

/-- PRECHARGE with its timer running. -/
def precharging : State :=
  { closing with psq.contactorCmd := false, psq.contactorTimer := false, psq.prechargeTimer := true
                 cfg.vPre := 6500 }

theorem test_ScansConvertAndPublish_precharge :
    DriveSafe precharging ∧ LineSettled precharging ∧
      (published precharging 6499 4000 0 0).psq = precharging.psq ∧
      (published precharging 6500 4000 0 0).psq =
        { precharging.psq with contactorCmd := true, prechargeTimer := false, contactorTimer := true } ∧
      (published { precharging with psq.contactorFb := true, psq.contactorSup := true }
        6500 4000 0 0).psq.seq = .active := by decide +kernel

theorem test_ScansConvertAndPublish_currents :
    (published stopping 0 4000 99 0).psq =
        { stopping.psq with contactorCmd := false, contactorSup := true, stopTimer := false } ∧
      (published stopping 0 4000 100 0).psq = stopping.psq ∧
      (published { stopping with psq.contactorFb := false } 0 4000 99 0).psq.seq = .identified ∧
      (published ramping 0 4000 99 0).psq.seq = .sweepIsolated .isoOpen ∧
      (published { ramping with psq.contactorFb := false } 0 4000 99 0).psq.seq
        = .sweepIsolated .isoWait ∧
      (published charging 0 1999 0 0).psq.batteryLow = true ∧
      (published charging 0 2000 0 0).psq.batteryLow = false := by decide +kernel

theorem test_ScansConvertAndPublish_heater :
    (published (warming 100) 0 4000 0 50).htr.accSum = 5050 ∧
      (published (warming 100) 0 4000 0 50).htr.accCount = 11 ∧
      (published { warming 100 with
          msq.slots := charging.msq.slots.set 9
            { charging.msq.slots[9] with inUse := ⟨0, 65536, 0, 49, .none⟩ } } 0 4000 0 50).htr.state
        = .heaterFault := by decide +kernel

/-! ## The share at a beacon period (R58 to R60) -/

/-- `supplied` with a demand of 160 dA in a session joined for `n` periods. -/
def beaconing (n share : Nat) (rise : Option Nat) : State :=
  { supplied with
    crg.iBms := 1000, crg.dOwnLast := 160, crg.pHeatReq := 0, shu.joining := n, shu.sEff := share
    shu.pendingRise := rise, cfg.joinCurrent := 80, cfg.riseStep := 20 }

/-- The share after the next beacon period event. -/
def nextShare (s : State) : Nat × Nat × Option Nat :=
  match exec .beaconPeriodEvent s with
  | .next t => (t.shu.sEff, t.shu.joining, t.shu.pendingRise)
  | _ => (0, 0, none)

theorem test_BeaconPeriodRunsTheShare_share :
    LineSettled (beaconing 2 100 none) ∧
      nextShare (beaconing 0 0 none) = (80, 1, none) ∧
      nextShare (beaconing 2 160 (some 3)) = (160, 2, none) ∧
      nextShare (beaconing 2 100 none) = (100, 2, some 160) ∧
      nextShare (beaconing 2 100 (some 110)) = (110, 2, none) ∧
      nextShare (beaconing 2 100 (some 150)) = (120, 2, none) := by decide +kernel

/-! ## The end of a cycle (R139, R142, R148, R154, R157, R162) -/

/-- The negative half's last sample in a state, with a positive step of 2500 mV. -/
def lastSample (v : Int) (s : State) : State :=
  takeViso v { s with imn.cycle := some ⟨.negative, 19, 7, some v, some 2500, false⟩ }

theorem test_SamplesRunTheHalves_measurer :
    (takeViso 5 measurer).fli.queue.map (·.frame.body) = [.measureStart 0 0] ∧
      (takeViso 5 measurer).imn.halfIndex = 1 ∧
      (lastSample (-2500) measurer).imn.net = ⟨some .warn, 0, 0⟩ ∧
      (lastSample 2501 measurer).imn.mode = .passive ∧
      (lastSample 2501 measurer).imn.backoff = 8 ∧
      (lastSample 2501 leading).imn.outcome = .abandoned := by decide +kernel

theorem test_SamplesRunTheHalves_decides :
    (lastSample (-2500) (leader 0 .measuring false true)).imn.sweep
        = .leading ⟨[8, 9, 5], 1, .awaitingAnswer, 0, true, false, 0⟩ ∧
      (lastSample 2000 (leader 0 .measuring false true)).imn.outcome = .found 8 ∧
      (lastSample 2000 (leader 0 .measuring false true)).imn.hold = true ∧
      (lastSample (-2700) { measurer with imn.net := ⟨some .warn, 1, 0⟩ }).imn.outcome
        = .none ∧
      (lastSample (-2700) { measurer with imn.net := ⟨some .warn, 1, 0⟩ }).psq.seq
        = .sweepIsolated .isoRamp := by decide +kernel

/-- The leader's own step in ISO_WAIT after `n` results. -/
def ownStep (n : Nat) (own : Evaluation) : State :=
  { waiting with
    imn.own := own, imn.target := some ⟨2, none⟩
    imn.sweep := .leading ⟨[8, 9, 5], 2, .ownStep, 1, false, true, n⟩ }

theorem test_LocalResultsJudgeTheOwnSide_ownStep :
    (ownStepMeasuring (ownStep 0 .good)).isSome = true ∧ LineSettled (ownStep 0 .good) ∧
      DriveSafe (ownStep 0 .good) ∧ DriveSafe (ownStep 1 ⟨some .warn, 1, 0⟩) ∧
      LineSettled (ownStep 1 ⟨some .warn, 1, 0⟩) ∧
      (localResult (result 900) (ownStep 0 .good)).imn.sweep
        = .leading ⟨[8, 9, 5], 2, .ownStep, 1, false, true, 1⟩ ∧
      (localResult (result 900) (ownStep 1 .good)).imn.outcome = .notFound ∧
      (localResult (result 900) (ownStep 1 .good)).psq.seq = .sweepIsolated .isoRejoin ∧
      (localResult (result 79) (ownStep 1 ⟨some .warn, 1, 0⟩)).imn.outcome = .found 5 ∧
      (localResult (result 79) (ownStep 1 ⟨some .warn, 1, 0⟩)).psq.seq = .identified ∧
      (localResult (result 79) (ownStep 1 ⟨some .warn, 1, 0⟩)).imn.ownFault = true := by
  decide +kernel

theorem test_LocalResultsJudgeTheOwnSide_latch :
    DriveSafe { closing with imn.own := ⟨some .warn, 1, 0⟩ } ∧
      LineSettled { closing with imn.own := ⟨some .warn, 1, 0⟩ } ∧
      DriveSafe { opening with imn.own := ⟨some .warn, 1, 0⟩ } ∧
      (localResult (result 79) { closing with imn.own := ⟨some .warn, 1, 0⟩ }).psq.seq = .identified ∧
      (localResult (result 79) { opening with imn.own := ⟨some .warn, 1, 0⟩ }).psq.stopCause
        = some .insulation ∧
      (localResult (result 79) { falling with htr.permission := .gridOnly, htr.tBat := some 0
          }).imn.selfCheck = .running 0 ∧
      (localResult (result 79) { ramping with
          imn.mode := .localMode, imn.own := ⟨some .warn, 1, 0⟩ }).imn.target = none := by
  decide +kernel

/-! ## Targets, sweeps and chain ends (R12, R13, R154, R158, R160, R162, R179) -/

theorem test_LeaderFramesMakeATarget_refused :
    ok (exec (.sweepStepReceived 2 9 5 1) { closing with imn.sweep := .following 2 true })
        (fun t => t.imn.target == none
          && t.fli.queue.map (·.frame.body) == [.sweepAnswer 5 2]) = true ∧
      ok (exec (.sweepStepReceived 2 9 5 4) { rejoining with imn.target := none })
        (fun t => t.imn.target == none
          && t.fli.queue.map (·.frame.body) == [.sweepAnswer 5 2]) = true := by decide +kernel

theorem test_ResultsEndAFollowersSweep_starts :
    ¬ NoSweepStarts { leading with imn.sweep := .following 2 true } ∧
      ok (exec .leaderSilenceExpiry { leading with imn.sweep := .following 2 true })
        (fun t => t.imn.sweep == leading.imn.sweep && t.imn.outcome == .none) = true ∧
      ok (exec (.sweepResultReceived 2 9 3 0 0) { leading with imn.sweep := .following 2 true })
        (fun t => t.imn.sweep == leading.imn.sweep) = true := by decide +kernel

theorem test_own_step_left_is_abandoned :
    ok (exec (.measureStartReceived 2 9 0 0)
        { leader 2 .ownStep false false with
          psq.seq := .sweepIsolated .isoRamp, imn.target := some ⟨2, none⟩ })
        (fun t => t.imn.outcome == .abandoned && t.imn.target == none && !t.imn.pendingRelease)
        = true := by decide +kernel

/-- An interval of `e` mWh in a state, with the running copy's flags and 1 s left of it. -/
def chainEnding (s : State) (chain suspend : Bool) (n : Nat) : State :=
  let d : Descriptor := { tariff with quota := 0, duration := 5, chain := chain, endSuspend := suspend, next := 1 }
  match exec .meteringInterval
    { s with
      mtr.sampleCount := 8000
      mtr.session := some
        ⟨{ session.base with items := List.replicate n ⟨0, 1, 1, 0, 0, 0, none⟩ },
          some ⟨⟨0, d⟩, 0, 1, true⟩⟩ } with
  | .next t => t
  | _ => s

theorem test_IntervalsMeterEveryPair_chainEnds :
    (chainEnding charging false true 1).psq.seq = .suspended ∧
      (chainEnding ramping false true 1).psq.isoReturn = some .suspended ∧
      (chainEnding charging false false 1).psq.stopCause = some .quotaEnd ∧
      (chainEnding charging true false 1).psq.stopCause = some .chainBroken ∧
      (chainEnding { charging with mtr.table := charging.mtr.table.set 1 tariff } true true 16).psq.stopCause
        = some .lineLimit ∧
      (chainEnding { charging with mtr.table := charging.mtr.table.set 1 tariff } true true 15).psq
        = charging.psq ∧
      (chainEnding waiting false false 1).psq.seq = .identified ∧
      (chainEnding waiting false false 1).mtr.session = none ∧
      (chainEnding waiting false false 1).mst.queue.map (·.placed.record.endCause) = [.quotaEnd] ∧
      (chainEnding waiting false false 1).mst.queue.map (·.placed.record.duration) = [1] := by
  decide +kernel

/-! ## Peers read, clamps and counts (R66, R186, R198) -/

theorem test_readPeers_codes :
    ok (exec .readPeers { identified with shu.peers := [peer 8] })
        (fun t => t.cpt.reply == ⟨.accepted, .peers 1 0
          [⟨8, 9, 100, 90, true, true, false, .ok, 65535, 0, 0, 2⟩]⟩) = true ∧
      ok (exec .readPeers { identified with shu.overflow := 2, shu.peers :=
            [{ peer 8 with resistance := some 250, leader := some 3 }] })
        (fun t => t.cpt.reply == ⟨.accepted, .peers 1 2
          [⟨8, 9, 100, 90, true, true, false, .ok, 250, 3, 0, 2⟩]⟩) = true := by decide +kernel

theorem test_BAD_CONFIG_names_the_first_field :
    badField { payload 16 with divider := 5, eta := 0, rAlarm := 400 } = some 3 ∧
      badField { payload 16 with rAlarm := 400, slots := List.replicate 16 ⟨0, 65536, 101, 100, 0⟩ }
        = some 32 := by decide +kernel

theorem test_write_count_wraps :
    (Doubled.target (α := Checkpoint) ⟨.valid ⟨0xFFFFFFFF, .empty⟩, .torn⟩) = (.b, 0) := by decide

/-! ## Cancels, departed stations and removals (R16, R41, R190) -/

/-- A cancel whose precharge contact has opened and closed again, after its supervision. -/
def reclosed : State :=
  { canceling with psq.prechargeFb := true, psq.contactorFb := false, psq.contactorSup := false }

theorem test_cancel_waits_for_its_contacts :
    DriveSafe reclosed ∧ reclosed.psq.prechargeSup = false ∧
      ok (exec .cancel closing)
        (fun t => t.psq.cancelPending && t.psq.cancelContactor && t.psq.seq == .precharge) = true ∧
      ok (exec .cancel { closing with psq.prechargeFb := false })
        (fun t => t.psq.seq == .identified && !t.psq.cancelContactor) = true ∧
      ok (exec .cancel { closing with psq.prechargeFb := false, psq.contactorFb := true })
        (fun t => t.psq.seq == .precharge) = true ∧
      ok (exec .cancel { precharging with psq.prechargeFb := false })
        (fun t => t.psq.seq == .identified) = true ∧
      ok (exec (.relayFeedbackChange .contactor false)
        { reclosed with psq.contactorFb := true, psq.contactorSup := true })
        (fun t => t.psq.seq == .precharge && t.psq.cancelPending) = true ∧
      ok (exec (.relayFeedbackChange .precharge false) reclosed)
        (fun t => t.psq.seq == .identified) = true ∧
      ok (exec (.relayFeedbackChange .precharge false)
          { reclosed with psq.contactorFb := true, psq.contactorSup := true })
        (fun t => t.psq.seq == .identified) = true ∧
      ok (exec (.relayFeedbackChange .precharge false)
          { reclosed with
            psq.cancelContactor := true, psq.contactorFb := true, psq.contactorSup := true })
        (fun t => t.psq.seq == .precharge) = true := by decide +kernel

/-- ONLINE and departed, with a BEACON still queued before the frames of `qs`. -/
def departing (qs : List Queued) : State :=
  { identified with fli.departed := true, fli.queue := ⟨ownFrame, false⟩ :: qs }

theorem test_AttemptsSendOrSilence_departed :
    gives (exec .txAttemptStart (departing [])) (departing []) = true ∧
      gives (exec .txAttemptStart (departing [⟨⟨5, 9, .alert 50⟩, false⟩]))
        { departing [⟨⟨5, 9, .alert 50⟩, true⟩] with fli.attempt := some ⟨5, 9, .alert 50⟩ }
        = true ∧
      ok (exec .txAttemptStart { departing [] with fli.departed := false })
        (fun t => t.fli.attempt == some ownFrame) = true := by decide +kernel

theorem test_StoreWritesAndReportsLeaveInOrder_removal :
    writesLeft (exec .removeReport (reporting none)) = [.place .p1 none false, .place .p5 none false] ∧
      writesLeft (exec .removeReport (reporting (some (meterRecord 3))))
        = [.place .p1 (some ⟨3, meterRecord 3⟩) false, .place .p5 none false] ∧
      writesLeft (exec .removeReport
          { reporting (some (meterRecord 3)) with mst.waiting := some (meterRecord 4) })
        = [.place .p1 (some ⟨3, meterRecord 3⟩) false, .place .p5 (some ⟨0, meterRecord 4⟩) true] ∧
      writesLeft (exec .removeReport
          { reporting (some (meterRecord 3)) with
            mst.inFlight := some ⟨.counters ⟨0, 0, 0⟩, .b, 1⟩
            mst.writes := [.place .p5 (some ⟨0, meterRecord 3⟩) true] })
        = [.counters ⟨0, 0, 0⟩, .place .p5 none false, .place .p1 (some ⟨3, meterRecord 3⟩) true] := by
  decide +kernel

/-- Four records queued, with the stacked slot as given. -/
def backlogged (x : Option SessionRecord) : State :=
  { identified with
    mst.queue := ([.p1, .p2, .p3, .p4] : List Place).map fun p => ⟨p, ⟨1, meterRecord 1⟩⟩
    mst.nextPlacement := 5, mst.stacked := x }

theorem test_StoreWritesAndReportsLeaveInOrder_placed :
    LowestFree .p3 (reporting none).mst.queue ∧
      writesLeft (.next (placeRecord session.base .hostStop false (reporting none)))
        = [.counters ⟨0, 0, 0⟩, .place .p3 (some ⟨3, record⟩) true] ∧
      writesLeft (.next (placeRecord session.base .hostStop false (backlogged none)))
        = [.counters ⟨0, 0, 0⟩, .place .p5 (some ⟨0, record⟩) true] ∧
      writesLeft (.next (placeRecord session.base .hostStop false (backlogged (some (meterRecord 9)))))
        = [.counters ⟨0, 0, 0⟩, .checkpoint (.closed session.base .hostStop)] := by decide +kernel

/-- A page whose places 1 to 4 hold records, with place 5 and a checkpoint as given. -/
def fullPage (x : Option Placed) (c : Checkpoint) : Page :=
  { pageWith c with
    p1 := .valid (some ⟨1, meterRecord 11⟩), p2 := .valid (some ⟨2, meterRecord 12⟩)
    p3 := .valid (some ⟨3, meterRecord 13⟩), p4 := .valid (some ⟨4, meterRecord 14⟩), p5 := .valid x }

theorem test_StartUpReadsThePage_full :
    ok (exec .powerOn { held with mst.page := { pageWith (.opened session.base) with
          p2 := .valid (some ⟨7, record⟩) } })
        (fun t => t.mst.queue.length == 1 && t.mst.writes == [] && t.mst.inFlight == none) = true ∧
      ok (exec .powerOn { held with mst.page := fullPage none (.opened session.base) })
        (fun t => t.mst.queue.length == 4 && t.mst.stacked.isSome && t.mst.waiting == none) = true ∧
      ok (exec .powerOn { held with
          mst.page := fullPage (some ⟨0, meterRecord 15⟩) (.opened session.base) })
        (fun t => t.mst.waiting.isSome && t.mst.writes ==
          [.checkpoint (.closed
            { session.base with flags := { session.base.flags with estimated := true } }
            .powerLost)]) = true ∧
      ok (exec .powerOn { held with
          mst.page := fullPage (some ⟨0, meterRecord 15⟩) (.closed session.base .trip) })
        (fun t => t.mst.waiting.isSome && t.mst.writes == []) = true ∧
      HeldOnPage { pageWith (.opened session.base) with p2 := .valid (some ⟨7, record⟩) }
        session.base :=
  ⟨by decide +kernel, by decide +kernel, by decide +kernel, by decide +kernel,
    .p2, ⟨7, record⟩, by decide +kernel⟩

/-! ## A leader's own step that ends (R162), and the monitor's mode (R138, R144, R149) -/

/-- The leader's own step in ISO_RAMP, the measurer's role still held. -/
def ownRamp (net : Evaluation) : State :=
  { leader 2 .ownStep false false with
    psq.seq := .sweepIsolated .isoRamp, psq.stopTimer := true, psq.isoReturn := some .active
    imn.target := some ⟨2, none⟩, shu.sweepTarget := true, imn.net := net }

theorem test_own_step_ends_with_a_stop :
    DriveSafe (ownRamp .good) ∧ LineSettled (ownRamp .good) ∧ NoSweepStarts (ownRamp .good) ∧
      ¬ NoSweepStarts (ownRamp ⟨some .alarm, 2, 0⟩) ∧
      ok (exec .goStop (ownRamp .good))
        (fun t => t.imn.sweep == .none && t.imn.outcome == .abandoned && !t.imn.hold
          && t.imn.target == none && t.fli.queue.map (·.frame.body) == [.sweepResult 3 0 0]) = true ∧
      ok (exec .goStop (ownRamp ⟨some .alarm, 2, 0⟩))
        (fun t => t.imn.sweep == .leading ⟨[8, 5], 0, .awaitingAnswer, 0, true, false, 0⟩) = true ∧
      ok (exec .goStop (ownStep 0 .good))
        (fun t => t.imn.outcome == .abandoned && t.psq.seq == .identified) = true ∧
      ok (exec .goIdle (ownRamp .good))
        (fun t => t.imn.outcome == .abandoned && t.imn.sweep == .none) = true := by decide +kernel

theorem test_own_step_ends_with_a_fault :
    ok (exec (.openSupervisionExpiry .contactor)
        { ownStep 0 .good with
          psq.seq := .sweepIsolated .isoOpen, psq.contactorFb := true, psq.contactorSup := true })
        (fun t => t.psq.faultCause == some .contactorWeld && t.imn.outcome == .abandoned
          && t.fli.queue.map (·.frame.body) == [.sweepResult 3 0 1]) = true ∧
      ok (exec .gridSupervisionExpiry (ownRamp .good))
        (fun t => t.psq.faultCause == some .trip && t.imn.outcome == .abandoned
          && t.imn.mode == .localMode) = true := by decide +kernel

/-- A measurer's stop with a pending self-check, in a sweep with this role. -/
def dropping (role : SweepRole) : State :=
  { stopping with
    imn.mode := .measurer, imn.cycle := some ⟨.negative, 3, 2, some 1, some 4, false⟩
    imn.net := ⟨some .alarm, 2, 0⟩, imn.selfCheck := .pending, imn.clearCount := 2
    imn.sweep := role, imn.ownFault := true, htr.permission := .gridOnly, htr.tBat := some 0
    fli.queue := [⟨⟨5, 9, .measureStart 0 1⟩, false⟩] }

theorem test_StopTimersOpenTheContactor_mode :
    DriveSafe (dropping .none) ∧ LineSettled (dropping .none) ∧
      ok (exec .stopTimerExpiry (dropping .none))
        (fun t => t.imn.mode == .localMode && t.imn.cycle == some .fresh && t.imn.net == .none
          && t.imn.clearCount == 0 && t.imn.selfCheck == .running 0 && t.htr.isolateReq
          && t.fli.queue == [] && t.cpt.events.contains .insulation) = true ∧
      ok (exec .stopTimerExpiry { dropping .none with imn.heaterIsolated := true })
        (fun t => t.imn.selfCheck == .idle) = true ∧
      ok (exec .stopTimerExpiry
          { stopping with imn.unmonitored := true, imn.unmonTimer := false })
        (fun t => !t.imn.unmonitored && t.cpt.events.contains .insulation) = true ∧
      ok (exec .stopTimerExpiry
          (dropping (.leading ⟨[8, 5], 0, .measuring, 1, false, true, 0⟩)))
        (fun t => t.imn.outcome == .abandoned
          && t.fli.queue.map (·.frame.body) == [.sweepResult 3 0 1]) = true := by decide +kernel

theorem test_ContactorClosedMakesActive_mode :
    ok (exec (.relayFeedbackChange .contactor true)
        { closing with imn.selfCheck := .running 1, imn.ownFault := true, htr.isolateReq := true
                       imn.clearCount := 2, imn.driver := .minus })
        (fun t => t.imn.mode == .passive && t.imn.cycle == none && t.imn.driver == .zero
          && t.imn.selfCheck == .idle && t.imn.ownFault && !t.htr.isolateReq && t.imn.unmonTimer
          && t.imn.clearCount == 0 && t.cpt.events.contains .insulation) = true ∧
      ok (exec (.relayFeedbackChange .contactor true)
          { closing with imn.clearing := true, imn.heaterIsolated := true })
        (fun t => t.imn.lastClearing == some false && t.htr.isolateReq && t.imn.heaterIsolated)
        = true := by decide +kernel

/-! ## The own-side fault latch (R21, R149, R150, R161) -/

theorem test_ResultsEndAFollowersSweep_latch :
    Delivered ⟨2, 9, .sweepResult 1 5 0⟩ waiting ∧
      ok (exec (.sweepResultReceived 2 9 1 5 0) waiting)
        (fun t => t.psq.seq == .identified && t.mtr.session == none
          && t.mst.queue.map (·.placed.record.endCause) == [.insulation]
          && t.imn.selfCheck == .idle) = true ∧
      ok (exec (.sweepResultReceived 2 9 1 5 0)
          { waiting with htr.permission := .gridOnly, htr.tBat := some 0 })
        (fun t => t.imn.selfCheck == .running 0 && t.imn.cycle == some .fresh) = true ∧
      ok (exec (.sweepResultReceived 2 9 1 5 0) { ramping with imn.sweep := .following 2 true })
        (fun t => t.imn.selfCheck == .pending && t.psq.stopCause == some .insulation) = true ∧
      ok (exec (.sweepResultReceived 2 9 1 5 0) { waiting with imn.ownFault := true })
        (fun t => t.psq == waiting.psq && t.imn.sweep == .none) = true := by decide +kernel

theorem test_LocalResultsJudgeTheOwnSide_failed_clearing :
    (localResult (result 400) (checking .idle true true)).imn.ownFault = true ∧
      (localResult (result 400) (checking .idle true true)).imn.heaterIsolated = true ∧
      (localResult (result 400) (checking .idle true true)).imn.lastClearing = some false ∧
      (localResult (result 400)
        { checking .idle true true with imn.ownFault := false }).imn.ownFault = false := by
  decide +kernel

/-! ## Chains of several descriptors (R175, R177 to R179) -/

/-- An interval of `e` mWh with 1000 mWh left of slot 0, whose chain leads on through slots 1 and 2 of
1000 mWh each, the last as given; `n` line items are held. -/
def chained (last : Descriptor) (n : Nat) (e : Int) : State :=
  let d : Descriptor := ⟨true, 1, 0, 100, 200, 1, true, false, false⟩
  { charging with
    mtr.table := (charging.mtr.table.set 1 { d with next := 2 }).set 2 last
    mtr.sampleCount := 8000, mtr.powerSum := 28800000 * e
    mtr.session := some
      ⟨{ session.base with items := List.replicate n ⟨0, 100, 200, 0, 0, 0, none⟩ },
        some ⟨⟨0, d⟩, 1000, 0, true⟩⟩ }

theorem test_IntervalsMeterEveryPair_several :
    intervalEnergy (chained tariff 1 2500) = 2500 ∧
      ok (exec .meteringInterval (chained tariff 1 2500))
        (fun t => t.psq.seq == .active && (items t).length == 3
          && (t.mtr.session.bind (·.running)).map (·.copy.slot) == some 2) = true ∧
      ok (exec .meteringInterval (chained { tariff with quota := 1 } 1 3500))
        (fun t => t.psq.stopCause == some .quotaEnd) = true ∧
      ok (exec .meteringInterval (chained { tariff with valid := false } 1 2500))
        (fun t => t.psq.stopCause == some .chainBroken) = true ∧
      ok (exec .meteringInterval (chained tariff 15 2500))
        (fun t => t.psq.stopCause == some .lineLimit) = true ∧
      ok (exec .meteringInterval (chained tariff 1 2500))
        (fun t => t.mst.writes.length == 2
          && t.mst.writes.head? == t.mtr.session.map (fun ss => .checkpoint (.opened (asActivated ss.base))))
        = true ∧
      let s := chained tariff 1 2500
      let d : Descriptor := ⟨true, 1, 0, 100, 200, 1, true, false, false⟩
      let r : Running := ⟨⟨0, d⟩, 1000, 0, true⟩
      let next : DescCopy := ⟨1, { d with next := 2 }⟩
      let i : LineItem := ⟨0, 100, 200, 0, 0, 0, none⟩
      let full : LineItem := { i with charging := 1000, accumulator := 100000 }
      chainWalk s 18 [i] r none true 999 99
        = ⟨.inl { r with quotaLeft := 1 }, some next, false, 0,
            [{ i with charging := 900, conditioning := 99, accumulator := 109800 }]⟩ ∧
      chainWalk s 18 [i] r none true 1000 0
        = ⟨.inl ⟨next, 1000, 0, true⟩, some ⟨2, tariff⟩, false, 1, [full, { i with slot := 1 }]⟩ ∧
      chainWalk s 18 [i] r none true 2500 0
        = ⟨.inl ⟨⟨2, tariff⟩, 1500, 0, false⟩, none, false, 2,
            [full, { full with slot := 1 }, { i with slot := 2, charging := 500, accumulator := 50000 }]⟩ ∧
      chainWalk s 18 [i] r none true 4500 0
        = ⟨.inr (.quotaEnd, tariff.endSuspend), none, false, 2,
            [full, { full with slot := 1 },
              { i with slot := 2, charging := 2000, accumulator := 250000, overrun := some (500, 0) }]⟩ ∧
      (chainWalk s 18 (List.replicate 15 i) r none true 2500 0).next = .inr (.lineLimit, false) ∧
      (chainWalk s 18 (List.replicate 15 i) r none true 2500 0).activations = 1 ∧
      (chainWalk s 18 [i] { r with copy := ⟨0, { d with duration := 9 }⟩, timeLeft := 2 } none true 5 0).next
        = .inl ⟨⟨0, { d with duration := 9 }⟩, 995, 1, true⟩ ∧
      (chainWalk s 18 [i] { r with copy := ⟨0, { d with duration := 9 }⟩, timeLeft := 1 } none true 5 0).next
        = .inl ⟨next, 1000, 0, true⟩ := by decide +kernel

/-- The worked interval of 10.6: slot 2 ends with 1200 mWh left and slot 3 takes the rest; and the same pair with
slot 3 not valid goes to the overrun. -/
theorem test_intervalWalk_worked_interval :
    let slot2 : Descriptor := ⟨true, 5, 0, 3000, 1500, 3, true, false, false⟩
    let slot3 : Descriptor := ⟨true, 20, 0, 2000, 1000, 0, false, false, false⟩
    let s (v : Bool) : State :=
      { charging with mtr.table := charging.mtr.table.set 3 { slot3 with valid := v } }
    let walk (v : Bool) : WalkEnd :=
      chainWalk (s v) 18 [⟨2, 3000, 1500, 3800, 0, 11400000, none⟩] ⟨⟨2, slot2⟩, 1200, 0, false⟩ none true
        3066 555
    walk true = ⟨.inl ⟨⟨3, slot3⟩, 18134, 0, false⟩, none, false, 1,
        [⟨2, 3000, 1500, 4445, 555, 14167500, none⟩, ⟨3, 2000, 1000, 1866, 0, 3732000, none⟩]⟩ ∧
      walk false = ⟨.inr (.chainBroken, false), none, false, 0,
        [⟨2, 3000, 1500, 4445, 555, 14167500 + 5598000, some (1866, 0)⟩]⟩ := by decide +kernel

theorem test_GoEnergizeChecksAndStarts_full :
    ok (exec (.goEnergize 0 7)
        { suspended with mtr.session := some { session with
            base := { session.base with items := List.replicate 16 ⟨0, 100, 200, 0, 0, 0, none⟩ }
            running := none } })
        (fun t => t.psq.seq == .stopping && t.psq.stopCause == some .lineLimit
          && t.mtr.prefetched == none && t.cpt.reply == ⟨.accepted, .empty⟩) = true := by
  decide +kernel

/-! ## Crossings and beacons (R46, R101, R116, R117) -/

theorem test_CrossingsAndLapsesCloseSpans_period :
    (phaseResult .u { spanning with msq.phases.u.seen := false, msq.period := 300 }).msq.period = 300 ∧
      (phaseResult .u { spanning with ptu.gridTimer := true }).ptu.gridTimer = true ∧
      (phaseResult .u { spanning with msq.troughs := 356, msq.outOfRange := false }).msq.outOfRange
        = true ∧
      .gridFreq ∈
        (phaseResult .u { spanning with msq.troughs := 356, msq.outOfRange := false }).cpt.events := by
  decide +kernel

/-- `supplied` with a share of 160 dA of a feeder of 200 A, and station 8 with a demand of 10 dA. -/
def shared (session : Bool) : State :=
  { supplied with
    shu.identCopy := some ⟨9, 200, 160⟩
    shu.peers := [{ peer 8 with demand := 10, session := session }] }

theorem test_BeaconsFillThePeerTable_extra :
    Delivered ⟨8, 9, .beacon 160 0 3 65535 0⟩ (shared true) ∧
      ok (exec (.beaconReceived 8 9 160 0 3 65535 0) (shared true))
        (fun t => t.shu.sNew == 100 && t.shu.sEff == 100 && t.shu.activeCount == 2) = true ∧
      ok (exec (.beaconReceived 8 9 10 0 3 65535 0) (shared true))
        (fun t => t.shu.sNew == 0 && t.shu.sEff == 160) = true ∧
      ok (exec (.beaconReceived 8 9 10 0 3 65535 0) (shared false))
        (fun t => t.shu.sNew == 160 && t.shu.activeCount == 2) = true ∧
      ok (exec (.beaconReceived 9 9 160 0 3 65535 0) (shared false))
        (fun t => t.shu.sNew == 100 && t.shu.sEff == 100) = true := by decide +kernel

/-! ## Trips of a publication, and the cause of a session that an interval ends (R19, R24, R99, R102, R103) -/

theorem test_ScansConvertAndPublish_trips :
    let t := published charging 8500 4000 0 0
    let u := published charging 9000 4000 0 0
    let v := published identified 8500 4000 0 0
    DriveSafe charging ∧ t.ptu.trip = some ⟨.linkOver, []⟩ ∧ t.ptu.enable = false ∧
      .trip ∈ t.cpt.events ∧ t.psq.faultCause = some .trip ∧ t.mst.queue.map (·.placed.record.endCause) = [.trip] ∧
      u.ptu.trip = some ⟨.limit 6, [.linkOver]⟩ ∧ v.ptu.trip = some ⟨.linkOver, []⟩ ∧ v.psq.seq = .identified ∧
      (published tripFault 8500 4000 0 0).ptu.trip = some ⟨.ext, [.linkOver]⟩ ∧
      LimitTrips u 6 ∧ ¬ LimitTrips t 6 := by decide +kernel

/-- A battery temperature above its limit trips, and the plug's loss in the same publication finds FAULT. -/
theorem test_ScansConvertAndPublish_slow_trip :
    ok (exec (.pairConversionDone 0 3500)
        { lastSlow with
          msq.slots := charging.msq.slots.set 10
            { charging.msq.slots[10] with inUse := ⟨0, 65536, -400, 199, .trip⟩ } })
      (fun t => t.ptu.trip == some ⟨.limit 10, []⟩ && t.psq.seq == .fault && !t.ptu.enable
        && t.psq.faultCause == some .trip && t.mtr.session == none && t.psq.ident == none
        && t.cpt.events.contains .trip) = true := by decide +kernel

theorem test_IntervalsMeterEveryPair_cause :
    let d : Descriptor := { tariff with quota := 0, duration := 5, chain := true, next := 1 }
    let s : State :=
      { waiting with
        mtr.sampleCount := 8000
        mtr.session := some ⟨session.base, some ⟨⟨0, d⟩, 0, 1, true⟩⟩ }
    (intervalWalk s).map (·.next) = some (.inr (.chainBroken, false)) ∧
      ok (exec .meteringInterval s)
        (fun t => t.mst.queue.map (·.placed.record.endCause) == [.chainBroken]) = true := by
  decide +kernel

/-! ## What follows from the chain and the crossings (R53, R60, R72, R77, R86, R127, R151) -/

/-- `supplied` with the grid permitted to heat, 160 dA handed and a setpoint of 100 dA. -/
def handing : State :=
  { supplied with
    crg.iBms := 1000, crg.dOwnLast := 160, crg.setpoint := 100
    htr.permission := .gridOnly, htr.source := .grid }

theorem test_HostLimitsRunTheChain_hands :
    HeaterSafe handing ∧
      ok (exec (.setCharge 0 0) handing)
        (fun t => t.crg.dOwnLast == 0 && t.shu.dOwnHanded == 0 && t.shu.sEff == 0
          && t.crg.setpoint == 0 && t.htr.source == .grid) = true ∧
      ok (exec .rampEvent { handing with crg.iReq := 0 })
        (fun t => t.crg.dOwn == 0 && t.crg.dOwnLast == 160 && t.shu == handing.shu) = true ∧
      ok (exec (.setCharge 300 4000) { handing with crg.dOwnLast := 100, shu.dOwnHanded := 100 })
        (fun t => t.crg.dOwn == 160 && t.crg.dOwnLast == 100 && t.shu == { handing.shu with
          dOwnHanded := 100 }) = true := by decide +kernel

/-- `handing` with the heater at a duty of 100 on its whole request, with the charge first. -/
def heated : State :=
  { handing with
    crg.tBat := some 50, crg.pHeatReq := 3000, crg.pH := 3000
    htr := { handing.htr with
      state := .heating, relay := true, tBat := some 50, tOn := 0, tOff := 100, pHmax := 6000
      pHeatReq := 3000, budget := 3000, duty := 100 }
    ptu.heaterBuffer := 100 }

theorem test_HostLimitsRunTheChain_duty :
    HeaterSafe heated ∧
      ok (exec (.setBatteryLimit 1000) heated)
        (fun t => t.htr.budget == 0 && t.htr.duty == 0 && t.ptu.heaterBuffer == 0) = true ∧
      ok (exec (.setBatteryLimit 0) heated)
        (fun t => t.htr.budget == 3000 && t.htr.duty == 100) = true := by decide +kernel

theorem test_SetHeatingSelectsTheState_hands :
    ok (exec (.setHeating 0 100 6000 1 0 0) heated)
        (fun t => t.htr.state == .heating && t.crg == heated.crg && t.shu == heated.shu) = true ∧
      ok (exec (.setHeating 0 100 6000 0 0 0) heated)
        (fun t => t.htr.state == .off && t.crg.pHeatReq == 0 && t.htr.budget == 0
          && t.htr.source == .none && t.htr.duty == 0 && t.ptu.heaterBuffer == 0) = true := by
  decide +kernel

/-- Phase V armed, with all three RMS voltages at `n` dV and a span of it. -/
def spanV (seen : Bool) (n : Nat) : State :=
  { handing with
    msq.phases := ⟨⟨false, true, 0, 0, 1, n, 0⟩, ⟨true, seen, 16 * (n * n), 0, 16, 2300, 0⟩,
      ⟨false, true, 0, 0, 1, n, 0⟩⟩
    msq.outOfRange := false, crg.rmsSeen := ⟨true, false, true⟩ }

theorem test_CrossingsAndLapsesCloseSpans_grid :
    RmsTaken .v (spanV true 1700) (phaseResult .v (spanV true 1700)) ∧
      (phaseResult .v (spanV true 1700)).crg.vPh = 1700 ∧
      (phaseResult .v (spanV true 1700)).crg.gridRange = true ∧
      (phaseResult .v (spanV true 1700)).cpt.events = [.gridRange] ∧
      (phaseResult .v (spanV true 1700)).shu.sEff = 0 ∧
      (phaseResult .v (spanV true 2400)).crg.vPh = 2400 ∧
      (phaseResult .v (spanV true 2400)).cpt.events = [] ∧
      (phaseResult .v (spanV false 1700)).crg = (spanV false 1700).crg ∧
      (phaseResult .v (spanV false 1700)).cpt = (spanV false 1700).cpt := by decide +kernel

theorem test_CrossingsAndLapsesCloseSpans_follows :
    let s : State :=
      { spanning with
        crg.rmsSeen := ⟨true, false, true⟩, crg.gridRange := true, msq.outOfRange := true }
    let t : State := { handing with msq.troughs := 356, msq.outOfRange := false }
    (phaseResult .u s).msq.outOfRange = false ∧ (phaseResult .u s).crg.gridRange = true ∧
      (phaseResult .u s).cpt = s.cpt ∧
      ok (exec .linePeriodLapse t)
        (fun u => decide (PeriodTaken t u) && u.crg.gridRange && u.cpt.events == [.gridFreq]
          && u.shu.sEff == 0) = true := by decide +kernel

/-- The draw is that of 4.7: 11037 W at 2300 dV are 159 dA. -/
theorem test_BeaconPeriodRunsTheShare_beacon :
    let s : State :=
      { beaconing 2 160 none with
        crg.pMeter := 11037, imn.sweep := .following 8 true, imn.target := some ⟨8, none⟩ }
    let m : State :=
      { measurer with
        imn.net := ⟨some .alarm, 2, 0⟩, imn.resultInRole := true
        imn.jointResult := some ⟨75, false, some 100, some (-100)⟩ }
    LineSettled s ∧ LineSettled m ∧ BeaconOf s 160 159 65535 59 8 ∧
      ok (exec .beaconPeriodEvent s)
        (fun t => t.crg.dOwn == 160 && t.crg.dOwnLast == 160 && t.shu.dOwnHanded == 160
          && t.fli.queue.map (·.frame) == [⟨5, 9, .beacon 160 159 59 65535 8⟩]) = true ∧
      ok (exec .beaconPeriodEvent m)
        (fun t => t.fli.queue.map (·.frame) == [⟨5, 9, .beacon 0 0 23 75 0⟩]) = true := by
  decide +kernel

/-- The context of 10.6 after its interval, and its record of placement 57. -/
def meteredBase : SessionBase :=
  ⟨205, 12, 9, 3, 0x01020304, 300, ⟨true, false, false, true, false, false⟩,
    [⟨2, 3000, 1500, 4445, 555, 14167500, none⟩, ⟨3, 2000, 1000, 1866, 0, 3732000, some (7, 5)⟩]⟩
@[inherit_doc meteredBase]
def meteredRecord : Placed := ⟨57, recordOf meteredBase .hostStop⟩

theorem test_StoreWritesAndReportsLeaveInOrder_record :
    meteredRecord.record.items.map (·.price) = [14, 4] ∧
      (meteredRecord.record.totalEnergy, meteredRecord.record.totalCond,
        meteredRecord.record.totalPrice) = (6878, 560, 18) ∧
      RecordFormed meteredBase .hostStop meteredRecord.record ∧
      (ReplyBody.report meteredRecord).bytes =
        [0, 0, 0, 57, 0, 205, 12, 9, 3, 1, 2, 3, 4, 0, 0, 1, 44, 1, 9, 2,
          0, 0, 0x1A, 0xDE, 0, 0, 0x02, 0x30, 0, 0, 0, 18] ++
        [2, 0, 0, 0, 0x11, 0x5D, 0, 0, 0x02, 0x2B, 0, 0, 0, 14, 0, 0, 0, 0, 0, 0, 0, 0] ++
        [3, 1, 0, 0, 0x07, 0x4A, 0, 0, 0, 0, 0, 0, 0, 4, 0, 0, 0, 7, 0, 0, 0, 5] ∧
      ReportLaidOut meteredRecord (ReplyBody.report meteredRecord).bytes := by decide +kernel

theorem test_IntervalsMeterEveryPair_items : ItemsSound charging := by
  intro ss h
  cases h
  decide

end Sys2Proof.Tests
end

section
/-! PROOF. TRIP_CLEAR's refusals in R104's order, and what a clearing leaves (R94, R96, R104). -/

namespace Sys2Proof.Machine

/-! ## The conditions one by one (R104) -/

theorem TripLatch.holds_iff (l : TripLatch) (c : TripCause) :
    l.holds c = true ↔ l.first = c ∨ c ∈ l.also := by simp [TripLatch.holds]

theorem SlotRecord.outside_iff (r : SlotRecord) :
    r.outside = true ↔ r.latest < r.inUse.low ∨ r.inUse.high < r.latest := by
  simp [SlotRecord.outside]

theorem limitPersists_iff (l : TripLatch) (s : State) (i : Fin 16) :
    LimitPersists l s i ↔ (l.holds (.limit i) && s.msq.slots[i].outside) = true := by
  rw [Bool.and_eq_true, TripLatch.holds_iff, SlotRecord.outside_iff]
  rfl

theorem limitPersists_of_persistingLimit {l : TripLatch} {s : State} {i : Fin 16}
    (h : persistingLimit l s = some i) : LimitPersists l s i := by
  have found := List.find?_some h
  exact (limitPersists_iff l s i).2 found

theorem persistingLimit_eq_none_iff (l : TripLatch) (s : State) :
    persistingLimit l s = none ↔ ¬ ∃ i, LimitPersists l s i := by
  simp only [persistingLimit, List.find?_eq_none, limitPersists_iff, not_exists, List.mem_finRange,
    true_implies]

theorem feedbackOn_iff (s : State) (k : Leg) :
    FeedbackOn s k ↔ ((s.ptu.feedback.get k).upper || (s.ptu.feedback.get k).lower) = true := by
  rw [Bool.or_eq_true]

theorem feedbackOn_of_eq_some {s : State} {k : Leg} (h : feedbackOn s = some k) : FeedbackOn s k := by
  have found := List.find?_some h
  exact (feedbackOn_iff s k).2 found

theorem feedbackOn_eq_none_iff (s : State) :
    feedbackOn s = none ↔
      ¬ (FeedbackOn s .u ∨ FeedbackOn s .v ∨ FeedbackOn s .w ∨ FeedbackOn s .d) := by
  simp only [feedbackOn, List.find?_eq_none, feedbackOn_iff, List.forall_mem_cons, List.not_mem_nil,
    false_implies, implies_true, and_true, not_or]

/-! ## Their order (R104) -/

theorem tripPersists_ext {l : TripLatch} {s : State} (ext : s.ptu.extInactive = false) :
    tripPersists l s = some .ext := by simp [tripPersists, ext]

theorem tripPersists_limit {l : TripLatch} {s : State} (ext : s.ptu.extInactive ≠ false)
    (limit : ∃ i, LimitPersists l s i) :
    ∃ i, LimitPersists l s i ∧ tripPersists l s = some (.limit i) := by
  cases found : persistingLimit l s with
  | none => exact absurd limit ((persistingLimit_eq_none_iff l s).1 found)
  | some i => exact ⟨i, limitPersists_of_persistingLimit found, by simp [tripPersists, ext, found]⟩

theorem tripPersists_legConflict {l : TripLatch} {s : State} (ext : s.ptu.extInactive ≠ false)
    (limit : ¬ ∃ i, LimitPersists l s i)
    (feedback : FeedbackOn s .u ∨ FeedbackOn s .v ∨ FeedbackOn s .w ∨ FeedbackOn s .d) :
    ∃ k, FeedbackOn s k ∧ tripPersists l s = some (.legConflict k) := by
  rw [← persistingLimit_eq_none_iff] at limit
  cases found : feedbackOn s with
  | none => exact absurd feedback ((feedbackOn_eq_none_iff s).1 found)
  | some k => exact ⟨k, feedbackOn_of_eq_some found, by simp [tripPersists, ext, limit, found]⟩

theorem tripPersists_linkOver {l : TripLatch} {s : State} (ext : s.ptu.extInactive ≠ false)
    (limit : ¬ ∃ i, LimitPersists l s i)
    (feedback : ¬ (FeedbackOn s .u ∨ FeedbackOn s .v ∨ FeedbackOn s .w ∨ FeedbackOn s .d))
    (link : s.cfg.linkCeiling < vLink s) : tripPersists l s = some .linkOver := by
  rw [← persistingLimit_eq_none_iff] at limit
  rw [← feedbackOn_eq_none_iff] at feedback
  simp [tripPersists, ext, limit, feedback, link]

theorem tripPersists_none {l : TripLatch} {s : State} (ext : s.ptu.extInactive ≠ false)
    (limit : ¬ ∃ i, LimitPersists l s i)
    (feedback : ¬ (FeedbackOn s .u ∨ FeedbackOn s .v ∨ FeedbackOn s .w ∨ FeedbackOn s .d))
    (link : ¬ s.cfg.linkCeiling < vLink s) : tripPersists l s = none := by
  rw [← persistingLimit_eq_none_iff] at limit
  rw [← feedbackOn_eq_none_iff] at feedback
  simp [tripPersists, ext, limit, feedback, link]

/-! ## The command (R104) -/

theorem exec_tripClear {s : State} (run : s.power = .running) :
    exec .tripClear s = .next (tripClear s) := whenRunning_running run

theorem tripClear_untripped {s : State} (trip : s.ptu.trip = none) :
    tripClear s = answerEmpty .accepted s := by simp [tripClear, trip]

theorem tripClear_refused {l : TripLatch} {c : TripCause} {s : State} (trip : s.ptu.trip = some l)
    (persists : tripPersists l s = some c) :
    tripClear s = answer .tripPersists (.tripCause c) s := by simp [tripClear, trip, persists]

theorem tripClear_cleared {l : TripLatch} {s : State} (trip : s.ptu.trip = some l)
    (persists : tripPersists l s = none) :
    tripClear s = answerEmpty .accepted (watchConflicts { s with ptu.trip := none }) := by
  simp [tripClear, trip, persists]

/-! ## What a clearing leaves (R94, R96) -/

theorem watchConflicts_eq (s : State) :
    watchConflicts s = { s with ptu.legs := (watchConflicts s).ptu.legs } := rfl

theorem watchConflicts_legs (s : State) : LegsButConflicts s (watchConflicts s) := by
  intro k
  simp [watchConflicts]

theorem driven_inactive (a : Level) : driven a false = inactiveLevel (some a) := by
  cases a <;> rfl

/-- With the latch clear and the output enable clear, no device is driven (R94). -/
theorem gateOutput_disabled {s : State} (trip : s.ptu.trip = none) (enable : s.ptu.enable = false)
    (k : Leg) (d : Device) :
    gateOutput s k d = inactiveLevel (if k = .d then s.cfg.dcLevel else s.cfg.feLevel) := by
  have group : legLevel s k = if k = .d then s.cfg.dcLevel else s.cfg.feLevel := by cases k <;> rfl
  rw [gateOutput, group]
  split
  · next floats => rw [floats]
  · next a level => simp [tripped, trip, enable, level, driven_inactive]

/-- Settles O26: the conditions of R104 one after the other, each by its place in `tripPersists`. -/
theorem tripClearChecksItsConditions : Obligations.TripClearChecksItsConditions := by
  intro s run
  rw [exec_tripClear run]
  split
  case h_1 trip => rw [tripClear_untripped trip]
  case h_2 l trip =>
    split_ifs with ext limit feedback link
    · rw [tripClear_refused trip (tripPersists_ext ext)]
    · obtain ⟨i, outside, first⟩ := tripPersists_limit ext limit
      exact ⟨i, outside, by rw [tripClear_refused trip first]⟩
    · obtain ⟨k, on, first⟩ := tripPersists_legConflict ext limit feedback
      exact ⟨k, on, by rw [tripClear_refused trip first]⟩
    · rw [tripClear_refused trip (tripPersists_linkOver ext limit feedback link)]
    · rw [tripClear_cleared trip (tripPersists_none ext limit feedback link)]
      refine ⟨_, rfl, ?_, ?_, ?_⟩
      · exact congrArg (answerEmpty .accepted) (watchConflicts_eq { s with ptu.trip := none })
      · exact watchConflicts_legs { s with ptu.trip := none }
      · exact fun enable => gateOutput_disabled rfl enable

end Sys2Proof.Machine
end

section
/-! PROOF. The event set, the attention line and the three bytes READ_EVENTS answers (R195, R196, 12.6). -/

namespace Sys2Proof.Machine

/-! ## A byte of bits (12.6) -/

theorem byteOfBits_getLsbD (bs : List Bool) {i : Nat} (h : i < 8) :
    (byteOfBits bs).getLsbD i = bs.getD i false := by
  rw [byteOfBits, BitVec.getLsbD_ofNat, decide_eq_true h, Bool.true_and]
  clear h
  induction bs generalizing i with
  | nil => simp
  | cons b bs ih =>
    rw [List.foldr_cons, ← Nat.bit_val]
    cases i with
    | zero => simp only [Nat.testBit_bit_zero, List.getD_cons_zero]
    | succ i => simpa only [Nat.testBit_bit_succ, List.getD_cons_succ] using ih

theorem eventByte_getLsbD (kinds es : List EventKind) {i : Nat} (h : i < 8) :
    (eventByte kinds es).getLsbD i = true ↔ ∃ k, kinds[i]? = some k ∧ k ∈ es := by
  rw [eventByte, byteOfBits_getLsbD _ h, List.getD_eq_getElem?_getD, List.getElem?_map]
  cases kinds[i]? <;> simp

/-! ## The set, the attention line and the command (R195, R196) -/

theorem raiseEvent_eq (k : EventKind) (s : State) :
    raiseEvent k s = { s with cpt.events := (raiseEvent k s).cpt.events } := rfl

theorem attentionLow_iff (s : State) : attentionLow s = true ↔ s.cpt.events ≠ [] := by
  simp [attentionLow]

theorem exec_readEvents {s : State} (run : s.power = .running) :
    exec .readEvents s = .next (readEvents s) := whenRunning_running run

theorem readEvents_attention (s : State) : attentionLow (readEvents s) = false := rfl

/-- Settles O9: the set by what `insertEvent` holds, the reply's bytes bit by bit. -/
theorem eventsAreHeldUntilRead : Obligations.EventsAreHeldUntilRead := by
  intro k s
  refine ⟨fun e => mem_insertEvent e k _, insertEvent_nodup k _, raiseEvent_eq k s,
    attentionLow_iff s, fun run => ⟨_, exec_readEvents run, rfl, readEvents_attention s, ?_⟩⟩
  intro i
  refine ⟨?_, ?_, ?_⟩
  · rw [eventByte_getLsbD _ _ i.isLt, List.getElem?_take_of_lt i.isLt]
  · rw [eventByte_getLsbD _ _ i.isLt, List.getElem?_take_of_lt i.isLt, List.getElem?_drop]
  · rw [eventByte_getLsbD _ _ i.isLt, List.getElem?_drop]

end Sys2Proof.Machine
end

section
/-! PROOF. The shapes of the transmit queue, the peer table, the event set and the line items, through the
operations that write them (R39, R45, R50, R175, R177, R195). -/

namespace Sys2Proof.Machine

/-! ## The transmit queue (R39) -/

/-- Two frames in queue order: of different kinds, the first of no later class. -/
abbrev Frame.Ordered (f g : Frame) : Prop := f.body.code ≠ g.body.code ∧ f.body.cls ≤ g.body.cls

@[inherit_doc Frame.Ordered]
abbrev Queued.Ordered (x y : Queued) : Prop := x.frame.Ordered y.frame

theorem QueueShape.nil : QueueShape [] := ⟨Nat.zero_le 4, .nil⟩

theorem QueueShape.sublist {p q : List Queued} (h : QueueShape q) (s : p.Sublist q) : QueueShape p :=
  ⟨s.length_le.trans h.1, h.2.sublist s⟩

/-- The shape is one of the frames alone. -/
theorem QueueShape.of_frames {p q : List Queued} (h : QueueShape q)
    (e : p.map (·.frame) = q.map (·.frame)) : QueueShape p := by
  obtain ⟨len, order⟩ := h
  have same : p.length = q.length := by simpa using congrArg List.length e
  refine ⟨same ▸ len, ?_⟩
  have k : (q.map (·.frame)).Pairwise Frame.Ordered := List.pairwise_map.2 order
  rw [← e] at k
  exact List.pairwise_map.1 k

theorem unmark_frames (qs : List Queued) : (unmark qs).map (·.frame) = qs.map (·.frame) := by
  simp [unmark, Function.comp_def]

theorem joinClass_pairwise (q : Queued) {qs : List Queued} (h : qs.Pairwise Queued.Ordered)
    (fresh : ∀ x ∈ qs, x.frame.body.code ≠ q.frame.body.code) :
    (joinClass q qs).Pairwise Queued.Ordered := by
  induction qs with
  | nil => simp [joinClass]
  | cons x xs ih =>
    obtain ⟨head, tail⟩ := List.pairwise_cons.1 h
    rw [joinClass]
    split
    next lt =>
      refine List.pairwise_cons.2 ⟨fun y m => ⟨(fresh y m).symm, ?_⟩, h⟩
      obtain rfl | m := List.mem_cons.1 m
      · exact lt.le
      · exact lt.le.trans (head y m).2
    next le =>
      refine List.pairwise_cons.2 ⟨fun y m => ?_, ih tail fun y m => fresh y (.tail _ m)⟩
      obtain rfl | m := (mem_joinClass ..).1 m
      · exact ⟨fresh x (.head _), not_lt.1 le⟩
      · exact head y m

theorem FrameBody.cls_of_sameKind {a b : FrameBody} (h : a.sameKind b = true) : a.cls = b.cls := by
  rw [FrameBody.sameKind, beq_iff_eq] at h
  rw [FrameBody.cls, FrameBody.cls, h]

theorem enqueueFrame_shape (f : Frame) {qs : List Queued} (h : QueueShape qs) :
    QueueShape (enqueueFrame f qs) := by
  refine ⟨enqueueFrame_length f qs h.1, ?_⟩
  unfold enqueueFrame
  dsimp only
  split
  next =>
    refine List.pairwise_map.2 (h.2.imp fun {x y} o => ?_)
    have kind (z : Queued) : ((if z.frame.body.sameKind f.body then (⟨f, false⟩ : Queued) else z).frame.body.code
        = z.frame.body.code) ∧ ((if z.frame.body.sameKind f.body then (⟨f, false⟩ : Queued) else z).frame.body.cls
        = z.frame.body.cls) := by
      split
      next k => exact ⟨(beq_iff_eq.1 k).symm, (FrameBody.cls_of_sameKind k).symm⟩
      next => exact ⟨rfl, rfl⟩
    rw [(kind x).1, (kind y).1, (kind x).2, (kind y).2]
    exact o
  next none =>
    have fresh : ∀ x ∈ qs, x.frame.body.code ≠ f.body.code := fun x m k =>
      none (List.any_eq_true.2 ⟨x, m, beq_iff_eq.2 k⟩)
    split
    · exact joinClass_pairwise _ h.2 fresh
    · split
      · exact joinClass_pairwise _ (h.2.sublist (List.dropLast_sublist _)) fun x m =>
          fresh x (List.mem_of_mem_dropLast m)
      · exact h.2

theorem enterLine_queue {target : LineState} {n : Nat} {f : Fli} (h : QueueShape f.queue) :
    QueueShape (enterLine target n f).queue := by
  unfold enterLine
  split
  · exact .nil
  · split
    · refine QueueShape.sublist ?_ List.filter_sublist
      split
      · exact h
      · exact h.of_frames (unmark_frames _)
    · exact h
    · exact h
  · exact h
  · exact h

theorem enterLine_counts (target : LineState) (n : Nat) (f : Fli) :
    (enterLine target n f).errorCount ≤ f.errorCount ∧
      (enterLine target n f).ackHistory.length ≤ f.ackHistory.length := by
  unfold enterLine
  split
  · simp
  · split <;> simp
  · simp
  · simp

/-! ## The peer table (R45, R50) -/

theorem putPeer_sorted (e : PeerEntry) {ps : List PeerEntry}
    (h : ps.Pairwise fun x y => x.station < y.station) :
    (putPeer e ps).Pairwise fun x y => x.station < y.station := by
  induction ps with
  | nil => simp [putPeer]
  | cons x xs ih =>
    obtain ⟨head, tail⟩ := List.pairwise_cons.1 h
    rw [putPeer]
    split
    next lt =>
      refine List.pairwise_cons.2 ⟨fun y m => ?_, h⟩
      obtain rfl | m := List.mem_cons.1 m
      · exact lt
      · exact lt.trans (head y m)
    next ge =>
      split
      next eq => exact List.pairwise_cons.2 ⟨fun y m => eq ▸ head y m, tail⟩
      next ne =>
        refine List.pairwise_cons.2 ⟨fun y m => ?_, ih tail⟩
        obtain rfl | m := mem_putPeer e y xs m
        · omega
        · exact head y m

/-- An entry of a station that the table holds takes its place. -/
theorem putPeer_length_of_found {e old : PeerEntry} {ps : List PeerEntry}
    (sorted : ps.Pairwise fun x y => x.station < y.station)
    (found : findPeer e.station ps = some old) : (putPeer e ps).length = ps.length := by
  induction ps with
  | nil => simp [findPeer] at found
  | cons x xs ih =>
    obtain ⟨head, tail⟩ := List.pairwise_cons.1 sorted
    rw [putPeer]
    by_cases eq : e.station = x.station
    · simp [eq]
    · have rest : findPeer e.station xs = some old := by
        simpa [findPeer, List.find?_cons, show (x.station == e.station) = false from by
          simp; omega] using found
      have lt : x.station < e.station := by
        have m := List.mem_of_find?_eq_some rest
        have s := List.find?_some (p := fun x : PeerEntry => x.station == e.station) rest
        exact beq_iff_eq.1 s ▸ head old m
      simp [eq, not_lt.2 lt.le, ih tail rest]

theorem PeersShape.nil : PeersShape [] := by simp [PeersShape]

theorem PeersShape.sublist {p q : List PeerEntry} (h : PeersShape q) (s : p.Sublist q) : PeersShape p :=
  ⟨s.length_le.trans h.1, h.2.1.sublist s, fun e m => h.2.2 e (s.mem m)⟩

theorem agePeers_shape {ps : List PeerEntry} (h : PeersShape ps) : PeersShape (agePeers ps) := by
  obtain ⟨len, sorted, entries⟩ := h
  refine ⟨(agePeers_length ps).trans len, ?_, fun e m => ?_⟩
  · exact List.Pairwise.sublist List.filter_sublist (List.pairwise_map.2 (by exact sorted))
  · obtain ⟨m, age⟩ := List.mem_filter.1 m
    obtain ⟨x, mx, rfl⟩ := List.mem_map.1 m
    obtain ⟨a, b, -, c, d⟩ := entries x mx
    have age := of_decide_eq_true age
    exact ⟨a, b, by dsimp only at *; omega, c, d⟩

/-- An entry of a station of the line, aged 0 and heard once or twice. -/
abbrev FreshEntry (e : PeerEntry) : Prop :=
  1 ≤ e.station ∧ e.station ≤ 62 ∧ e.age ≤ 3 ∧ 1 ≤ e.heard ∧ e.heard ≤ 2

theorem putPeer_shape {e : PeerEntry} {ps : List PeerEntry} (h : PeersShape ps) (fresh : FreshEntry e)
    (room : (findPeer e.station ps).isSome = true ∨ ps.length < 32) : PeersShape (putPeer e ps) := by
  obtain ⟨len, sorted, entries⟩ := h
  refine ⟨?_, putPeer_sorted e sorted, fun x m => ?_⟩
  · obtain found | room := room
    · obtain ⟨old, found⟩ := Option.isSome_iff_exists.1 found
      rw [putPeer_length_of_found sorted found]
      exact len
    · exact (putPeer_length e ps).trans room
  · obtain rfl | m := mem_putPeer e x ps m
    · exact fresh
    · exact entries x m

/-! ## The line items (R175, R177) -/

/-- What a line item shares with the copy it was opened for. -/
def LineItem.key (i : LineItem) : Fin 16 × Nat × Nat := (i.slot, i.rateChg, i.rateCond)

@[simp] theorem LineItem.add_key (e c : Nat) (i : LineItem) : (i.add e c).key = i.key := rfl

@[simp] theorem LineItem.addOverrun_key (e c : Nat) (i : LineItem) : (i.addOverrun e c).key = i.key := by
  unfold LineItem.addOverrun; split <;> rfl

theorem updateLast_length {α : Type} (f : α → α) (xs : List α) :
    (updateLast f xs).length = xs.length := by
  induction xs using updateLast.induct with
  | case1 => rfl
  | case2 x => rfl
  | case3 x y ys ih => simp [updateLast, ih]

theorem updateLast_getLast? {α : Type} (f : α → α) (xs : List α) :
    (updateLast f xs).getLast? = xs.getLast?.map f := by
  induction xs using updateLast.induct with
  | case1 => rfl
  | case2 x => rfl
  | case3 x y ys ih =>
    have n : updateLast f (y :: ys) ≠ [] := fun e => by simpa [e] using updateLast_length f (y :: ys)
    rw [updateLast, List.getLast?_cons_of_ne_nil n, ih, List.getLast?_cons_cons]

/-- The items of one session with its running descriptor, if one runs (`ItemsSound`). -/
abbrev ItemsOf (items : List LineItem) (running : Option Running) : Prop :=
  items.length ≤ 16 ∧ ∀ r, running = some r →
    (items.getLast?.map fun i => (i.slot, i.rateChg, i.rateCond)) =
      some (r.copy.slot, r.copy.desc.rateChg, r.copy.desc.rateCond) ∧
    (r.copy.desc.quota ≠ 0 →
      (items.getLast?.map fun i => i.charging + i.conditioning + r.quotaLeft) =
        some (r.copy.desc.quota * 1000))

theorem itemsSound_none {s : State} (h : s.mtr.session = none) : ItemsSound s := by
  intro ss e
  rw [h] at e
  cases e

theorem itemsSound_some {s : State} {ss : Session} (h : s.mtr.session = some ss) :
    ItemsSound s ↔ ItemsOf ss.base.items ss.running := by
  constructor
  · exact fun k => k ss h
  · intro k x e
    rw [h] at e
    cases e
    exact k

theorem ItemsOf.ended {items : List LineItem} {running : Option Running} (h : ItemsOf items running) :
    ItemsOf items none := ⟨h.1, fun _ e => nomatch e⟩

/-- With nothing running the last item may take what is left over. -/
theorem ItemsOf.overrun {items : List LineItem} (f : LineItem → LineItem) (h : ItemsOf items none) :
    ItemsOf (updateLast f items) none := ⟨by rw [updateLast_length]; exact h.1, fun _ e => nomatch e⟩

/-- A portion goes into the last item and out of the running descriptor's quota (R177). -/
theorem ItemsOf.take {items : List LineItem} {r : Running} (h : ItemsOf items (some r)) (first : Bool)
    (e c : Nat) :
    ItemsOf (updateLast (.add (r.take first e c).2.1 (r.take first e c).2.2) items)
      (some (r.take first e c).1) := by
  obtain ⟨len, last⟩ := h
  obtain ⟨key, quota⟩ := last r rfl
  refine ⟨by rw [updateLast_length]; exact len, fun t e => ?_⟩
  cases e
  rw [updateLast_getLast?]
  constructor
  · rw [Option.map_map]
    exact key
  · intro q
    have q : r.copy.desc.quota ≠ 0 := q
    have used := quota q
    obtain ⟨i, li, used⟩ := Option.map_eq_some_iff.1 used
    rw [li]
    simp only [Option.map_some, Option.some.injEq, LineItem.add, Running.take, if_neg q]
    omega

/-- A copy that becomes the running descriptor opens its item (R175). -/
theorem ItemsOf.start {items : List LineItem} (room : items.length < 16) (c : DescCopy) :
    ItemsOf (items ++ [LineItem.start c]) (some (Running.start c)) := by
  refine ⟨by simp; omega, fun r e => ?_⟩
  cases e
  simp [LineItem.start, Running.start]

/-- The near-end check leaves copy and quota as they are. -/
theorem ItemsOf.nearEnd {items : List LineItem} {r : Running} (h : ItemsOf items (some r)) (b : Bool) :
    ItemsOf items (some { r with nearEnd := b }) := by
  obtain ⟨len, last⟩ := h
  exact ⟨len, fun t e => by cases e; exact last r rfl⟩

/-! ## The event set (R195) -/

theorem raiseEvent_canonical (k : EventKind) (s : State) : EventsCanonical (raiseEvent k s) :=
  insertEvent_canonical k _

end Sys2Proof.Machine
end

section
/-! PROOF. The meter store in order: the page's doubled entries, the write queue and the lifetime counters, through
the operations that write them (R186 to R190, R192). -/

namespace Sys2Proof.Machine

/-- What holds with a condition and without it holds of a step under it. -/
theorem onlyIf_ind {σ : Type} {P : σ → Prop} (c : Bool) {f : σ → σ} {s : σ} (no : P s) (yes : P (f s)) :
    P (onlyIf c f s) := by cases c <;> assumption

/-! ## Lifetime counters (R188) -/

theorem Counters.le_refl (a : Counters) : a.le a := ⟨Nat.le_refl _, Nat.le_refl _⟩

theorem Counters.le_trans {a b c : Counters} (h : a.le b) (k : b.le c) : a.le c :=
  ⟨h.1.trans k.1, h.2.trans k.2⟩

theorem le_addHeld {a : Nat} (h : a < 2 ^ 48) (b : Nat) : a ≤ addHeld a b ∧ addHeld a b < 2 ^ 48 := by
  unfold addHeld; omega

/-! ## Doubled entries (R186, R187) -/

/-- A completed write of a doubled entry leaves its own contents in force, or, where the count has wrapped (log 9),
the former ones. -/
theorem Doubled.put_target_inForce {α : Type} (d : Doubled α) (c : α) (force : d.inForce.isSome = true) :
    ∃ x, (d.put d.target.1 (.valid ⟨d.target.2, c⟩)).inForce = some x ∧
      (x.2.content = c ∨ d.inForce.map (·.2.content) = some x.2.content) := by
  obtain ⟨a, b⟩ := d
  cases a with
  | torn =>
    cases b with
    | torn => simp [Doubled.inForce] at force
    | valid y =>
      by_cases w : y.count + 1#32 < y.count <;> simp [Doubled.put, Doubled.target, Doubled.inForce, w]
  | valid x =>
    cases b with
    | torn =>
      by_cases w : x.count < x.count + 1#32 <;> simp [Doubled.put, Doubled.target, Doubled.inForce, w]
    | valid y =>
      by_cases h : x.count < y.count
      · by_cases w : y.count + 1#32 < y.count <;>
          simp [Doubled.put, Doubled.target, Doubled.inForce, h, w]
      · by_cases w : x.count < x.count + 1#32 <;>
          simp [Doubled.put, Doubled.target, Doubled.inForce, h, w]

/-- Tearing the copy that a write goes to leaves the copy in force as it is (R187). -/
theorem Doubled.tear_target_inForce {α : Type} (d : Doubled α) (force : d.inForce.isSome = true) :
    (d.put d.target.1 .torn).inForce = d.inForce := by
  obtain ⟨a, b⟩ := d
  cases a with
  | torn =>
    cases b with
    | torn => simp [Doubled.inForce] at force
    | valid y => simp [Doubled.put, Doubled.target, Doubled.inForce]
  | valid x =>
    cases b with
    | torn => simp [Doubled.put, Doubled.target, Doubled.inForce]
    | valid y =>
      by_cases h : x.count < y.count <;> simp [Doubled.put, Doubled.target, Doubled.inForce, h]

/-! ## Targets of writes (R187) -/

/-- Two writes with one target have the same target as any third. -/
theorem PageWrite.sameTarget_congr {v w : PageWrite} (h : v.sameTarget w = true) (x : PageWrite) :
    w.sameTarget x = v.sameTarget x := by
  cases v <;> cases w <;> cases x <;> simp_all [PageWrite.sameTarget]

@[simp] theorem PageWrite.keepSnapshot_sameTarget (v w : PageWrite) :
    v.keepSnapshot.sameTarget w.keepSnapshot = v.sameTarget w := by
  cases v <;> cases w <;> rfl

theorem PageWrite.keepSnapshot_eq_counters {w : PageWrite} {c : Counters} :
    w.keepSnapshot = .counters c ↔ w = .counters c := by
  cases w <;> simp [PageWrite.keepSnapshot]

theorem PageWrite.keepSnapshot_eq_checkpoint {w : PageWrite} {c : Checkpoint} :
    w.keepSnapshot = .checkpoint c ↔ w = .checkpoint c := by
  cases w <;> simp [PageWrite.keepSnapshot]

/-- At most one write a target. -/
abbrev OneATarget (ws : List PageWrite) : Prop := ws.Pairwise fun x y => x.sameTarget y = false

theorem putWrite_oneATarget (w : PageWrite) {ws : List PageWrite} (h : OneATarget ws) :
    OneATarget (putWrite w ws) := by
  unfold putWrite
  split
  next =>
    refine List.pairwise_map.2 (h.imp fun {x y} o => ?_)
    have target (z u : PageWrite) :
        (if w.sameTarget z = true then w else z).sameTarget u = z.sameTarget u := by
      split
      next e => exact (PageWrite.sameTarget_congr e u).symm
      next => rfl
    rw [target, PageWrite.sameTarget_comm, target, PageWrite.sameTarget_comm, o]
  next none =>
    refine List.pairwise_append.2 ⟨h, List.pairwise_singleton _ _, fun x m y e => ?_⟩
    cases List.mem_singleton.1 e
    rw [PageWrite.sameTarget_comm]
    exact Bool.eq_false_iff.2 fun t => none (List.any_eq_true.2 ⟨x, m, t⟩)

/-! ## A running store (R187, R188, R192) -/

/-- The store of a running part: its page has copies in force, with counters of 48 bits, and is in order. -/
structure StoreRuns (m : Mst) : Prop where
  force : m.page.hasForce
  fits : (storedCounters m.page).fits
  ordered : StoreOrdered m

/-- The store stays in order, and no stored lifetime counter falls. -/
def StoreKept (m n : Mst) : Prop :=
  StoreRuns m → StoreRuns n ∧ (storedCounters m.page).le (storedCounters n.page)

theorem StoreKept.refl (m : Mst) : StoreKept m m := fun h => ⟨h, Counters.le_refl _⟩

theorem StoreKept.trans {l m n : Mst} (h : StoreKept l m) (k : StoreKept m n) : StoreKept l n := fun r =>
  have ⟨a, b⟩ := h r
  have ⟨c, d⟩ := k a
  ⟨c, Counters.le_trans b d⟩

/-- The working counters may be written as they stand. -/
theorem writeSound_working {m : Mst} (h : StoreOrdered m) : WriteSound m (.counters m.working) := by
  obtain ⟨-, low, -, flight, -⟩ := h
  intro c e
  cases e
  refine ⟨low, Counters.le_refl _, fun f d inf eq => ?_⟩
  exact ((flight f inf).1 d eq).2.2

theorem writeSound_checkpoint (m : Mst) (c : Checkpoint) : WriteSound m (.checkpoint c) :=
  fun _ e => nomatch e

theorem writeSound_place (m : Mst) (p : Place) (x : Option Placed) (b : Bool) :
    WriteSound m (.place p x b) := fun _ e => nomatch e

/-- The next write starts by R187's choice of the copy. -/
theorem Mst.startNext_runs {m : Mst} (h : StoreRuns m) : StoreRuns m.startNext := by
  unfold Mst.startNext
  split
  next w ws inf pend =>
    obtain ⟨force, fits, work, low, one, -, sound⟩ := h
    rw [pend] at one sound
    obtain ⟨head, tail⟩ := List.pairwise_cons.1 one
    refine ⟨force, fits, work, low, tail, ?_, fun x mem c e => ?_⟩
    · intro f e
      cases e
      refine ⟨fun c e => ?_, fun c e => ?_⟩
      · have w_eq : w = .counters c := by cases w <;> exact e
        obtain ⟨a, b, -⟩ := sound w (.head _) c w_eq
        exact ⟨by rw [w_eq]; rfl, a, b⟩
      · have w_eq : w = .checkpoint c := by cases w <;> exact e
        rw [w_eq]; rfl
    · obtain ⟨a, b, -⟩ := sound x (.tail _ mem) c e
      refine ⟨a, b, fun f d e₁ e₂ => ?_⟩
      cases e₁
      have w_eq : w = .counters d := by cases w <;> exact e₂
      have clash := head x mem
      rw [w_eq, e] at clash
      cases clash
  next => exact h

theorem Mst.startNext_page (m : Mst) : m.startNext.page = m.page := by
  unfold Mst.startNext; split <;> rfl

theorem Mst.queueWrite_kept {w : PageWrite} {m : Mst} (sound : StoreOrdered m → WriteSound m w) :
    StoreKept m (m.queueWrite w) := by
  intro h
  refine ⟨Mst.startNext_runs ?_, by rw [Mst.queueWrite, Mst.startNext_page]; exact Counters.le_refl _⟩
  obtain ⟨force, fits, ordered⟩ := h
  have sound := sound ordered
  obtain ⟨work, low, one, flight, pend⟩ := ordered
  refine ⟨force, fits, work, low, putWrite_oneATarget w one, flight, fun x mem => ?_⟩
  obtain rfl | mem := mem_putWrite mem
  · exact sound
  · exact pend x mem

theorem queueWrite_kept {w : PageWrite} {s : State} (sound : StoreOrdered s.mst → WriteSound s.mst w) :
    StoreKept s.mst (queueWrite w s).mst := by
  rw [queueWrite_mst]; exact Mst.queueWrite_kept sound

theorem queueCounters_kept (s : State) : StoreKept s.mst (queueCounters s).mst :=
  queueWrite_kept writeSound_working

theorem queuePlace_kept (p : Place) (x : Option Placed) (b : Bool) (s : State) :
    StoreKept s.mst (queueWrite (.place p x b) s).mst :=
  queueWrite_kept fun _ => writeSound_place _ p x b

theorem queueCheckpoint_kept (c : Checkpoint) (s : State) :
    StoreKept s.mst (queueWrite (.checkpoint c) s).mst :=
  queueWrite_kept fun _ => writeSound_checkpoint _ c

theorem cancelClears_kept (s : State) : StoreKept s.mst (cancelClears s).mst := by
  intro h
  obtain ⟨force, fits, work, low, one, flight, pend⟩ := h
  refine ⟨⟨force, fits, work, low, ?_, fun f e => ?_, fun w mem c e => ?_⟩, Counters.le_refl _⟩
  · exact List.pairwise_map.2 (one.imp fun o => by simpa using o)
  · obtain ⟨g, inf, rfl⟩ := Option.map_eq_some_iff.1 e
    obtain ⟨a, b⟩ := flight g inf
    exact ⟨fun c e => a c (PageWrite.keepSnapshot_eq_counters.1 e),
      fun c e => b c (PageWrite.keepSnapshot_eq_checkpoint.1 e)⟩
  · obtain ⟨v, memv, rfl⟩ := List.mem_map.1 mem
    obtain ⟨a, b, d⟩ := pend v memv c (PageWrite.keepSnapshot_eq_counters.1 e)
    refine ⟨a, b, fun f k e₁ e₂ => ?_⟩
    obtain ⟨g, inf, rfl⟩ := Option.map_eq_some_iff.1 e₁
    exact d g k inf (PageWrite.keepSnapshot_eq_counters.1 e₂)

theorem queueSnapshot_kept (c : Checkpoint) (s : State) : StoreKept s.mst (queueSnapshot c s).mst :=
  (cancelClears_kept s).trans (queueCheckpoint_kept c _)

/-! ## A page write done or torn (R187) -/

/-- The page of a completed write: its copies are in force, and its counters are the written or the former
ones. -/
theorem Page.complete_force {m : Mst} {f : Flight} (force : m.page.hasForce) (sound : FlightSound m f) :
    (m.page.complete f).hasForce ∧
      (storedCounters (m.page.complete f) = storedCounters m.page ∨
        f.write = .counters (storedCounters (m.page.complete f))) := by
  obtain ⟨cforce, kforce⟩ := force
  obtain ⟨w, copy, count⟩ := f
  cases w with
  | counters c =>
    obtain ⟨target, -, -⟩ := sound.1 c rfl
    have ec : copy = m.page.counters.target.1 := congrArg Prod.fst target
    have en : count = m.page.counters.target.2 := congrArg Prod.snd target
    obtain ⟨x, inForce, content⟩ := m.page.counters.put_target_inForce c cforce
    have stored : storedCounters (m.page.complete ⟨.counters c, copy, count⟩) = x.2.content := by
      simp [storedCounters, Page.complete, ec, en, inForce]
    refine ⟨⟨by simp [Page.complete, ec, en, inForce], kforce⟩, ?_⟩
    obtain rfl | old := content
    · exact .inr (by rw [stored])
    · exact .inl (by rw [stored, storedCounters, old]; rfl)
  | checkpoint c =>
    have target := sound.2 c rfl
    have ec : copy = m.page.checkpoint.target.1 := congrArg Prod.fst target
    have en : count = m.page.checkpoint.target.2 := congrArg Prod.snd target
    obtain ⟨x, inForce, -⟩ := m.page.checkpoint.put_target_inForce c kforce
    exact ⟨⟨cforce, by simp [Page.complete, ec, en, inForce]⟩, .inl rfl⟩
  | place p x b =>
    have same := m.page.putPlace_doubled p (.valid x)
    refine ⟨?_, .inl ?_⟩
    · simp only [Page.hasForce, Page.complete, same]; exact ⟨cforce, kforce⟩
    · simp only [storedCounters, Page.complete, same]

/-- The page of a torn write keeps its copies in force (R187). -/
theorem Page.tear_force {m : Mst} {f : Flight} (force : m.page.hasForce) (sound : FlightSound m f) :
    (m.page.tear f).hasForce ∧ storedCounters (m.page.tear f) = storedCounters m.page := by
  obtain ⟨cforce, kforce⟩ := force
  obtain ⟨w, copy, count⟩ := f
  cases w with
  | counters c =>
    have ec : copy = m.page.counters.target.1 := congrArg Prod.fst (sound.1 c rfl).1
    have same := m.page.counters.tear_target_inForce cforce
    refine ⟨⟨?_, kforce⟩, ?_⟩
    · simp only [Page.tear, ec, same]; exact cforce
    · simp only [storedCounters, Page.tear, ec, same]
  | checkpoint c =>
    have ec : copy = m.page.checkpoint.target.1 := congrArg Prod.fst (sound.2 c rfl)
    have same := m.page.checkpoint.tear_target_inForce kforce
    refine ⟨⟨cforce, ?_⟩, rfl⟩
    simp only [Page.tear, ec, same]; exact kforce
  | place p x b =>
    have same := m.page.putPlace_doubled p (.torn)
    refine ⟨?_, ?_⟩
    · simp only [Page.hasForce, Page.tear, same]; exact ⟨cforce, kforce⟩
    · simp only [storedCounters, Page.tear, same]

/-- What the completed write leaves in the store, before the next one starts. -/
theorem complete_runs {m : Mst} {f : Flight} (h : StoreRuns m) (inf : m.inFlight = some f) :
    StoreRuns { m with page := m.page.complete f, inFlight := none } ∧
      (storedCounters m.page).le (storedCounters (m.page.complete f)) := by
  obtain ⟨force, fits, work, low, one, flight, pend⟩ := h
  have sound := flight f inf
  obtain ⟨force', stored⟩ := Page.complete_force force sound
  have le : (storedCounters m.page).le (storedCounters (m.page.complete f)) ∧
      (storedCounters (m.page.complete f)).le m.working := by
    obtain same | written := stored
    · rw [same]; exact ⟨Counters.le_refl _, low⟩
    · exact (sound.1 _ written).2
  refine ⟨⟨force', ?_, work, le.2, one, (fun _ e => nomatch e), fun w mem c e => ?_⟩, le.1⟩
  · obtain ⟨wi, wc⟩ := work
    exact ⟨le.2.1.trans_lt wi, le.2.2.trans_lt wc⟩
  · obtain ⟨a, b, d⟩ := pend w mem c e
    refine ⟨?_, b, fun _ _ e => nomatch e⟩
    obtain same | written := stored
    · exact (congrArg (Counters.le · c) same).mpr a
    · exact d f _ inf written

theorem completeWrite_kept (s : State) : StoreKept s.mst (completeWrite s).mst := by
  unfold completeWrite
  split
  next => exact .refl _
  next f inf =>
    intro h
    obtain ⟨runs, le⟩ := complete_runs h inf
    dsimp only
    split
    · obtain ⟨a, b⟩ := queueCheckpoint_kept .empty
        { s with mst.page := s.mst.page.complete f, mst.inFlight := none } runs
      exact ⟨a, Counters.le_trans le b⟩
    · refine ⟨Mst.startNext_runs runs, ?_⟩
      rw [Mst.startNext_page]
      exact le

/-! ## Counters, checkpoints and records (R188 to R190) -/

theorem countInterval_kept (e : Nat) (cond : Option Nat) (s : State) :
    StoreKept s.mst (countInterval e cond s).mst := by
  intro h
  obtain ⟨force, fits, ⟨wi, wc⟩, low, one, flight, pend⟩ := h
  obtain ⟨ri, fi⟩ := le_addHeld wi e
  obtain ⟨rc, fc⟩ := le_addHeld wc (cond.getD 0)
  have rises : s.mst.working.le (countInterval e cond s).mst.working := ⟨ri, rc⟩
  refine ⟨⟨force, fits, ⟨fi, fc⟩, Counters.le_trans low rises, one, fun f inf => ?_, fun w mem c e => ?_⟩,
    Counters.le_refl _⟩
  · obtain ⟨a, b⟩ := flight f inf
    exact ⟨fun c e => have ⟨x, y, z⟩ := a c e; ⟨x, y, Counters.le_trans z rises⟩, b⟩
  · obtain ⟨a, b, d⟩ := pend w mem c e
    exact ⟨a, Counters.le_trans b rises, d⟩

theorem raiseSessionCounter_kept (s : State) : StoreKept s.mst (raiseSessionCounter s).mst := by
  unfold raiseSessionCounter
  refine StoreKept.trans ?_ (queueCounters_kept _)
  exact fun h => ⟨⟨h.force, h.fits, h.ordered⟩, Counters.le_refl _⟩

theorem takeCheckpoint_kept (s : State) : StoreKept s.mst (takeCheckpoint s).mst := by
  have emptied (t : State) :
      StoreKept t.mst { t.mst with sessionEnergy := 0, lifeEnergy := 0 } :=
    fun h => ⟨⟨h.force, h.fits, h.ordered⟩, Counters.le_refl _⟩
  unfold takeCheckpoint
  dsimp only
  split
  · exact ((queueCounters_kept s).trans (queueSnapshot_kept _ _)).trans (emptied _)
  · exact (queueCounters_kept s).trans (emptied _)

theorem checkpointIfDue_kept (s : State) : StoreKept s.mst (checkpointIfDue s).mst := by
  unfold checkpointIfDue
  exact onlyIf_ind (P := fun t : State => StoreKept s.mst t.mst) _ (.refl _) (takeCheckpoint_kept s)

theorem joinQueue_kept (p : Place) (r : SessionRecord) (s : State) :
    StoreKept s.mst (joinQueue p r s).mst :=
  fun h => ⟨⟨h.force, h.fits, h.ordered⟩, Counters.le_refl _⟩

theorem placeRecord_kept (b : SessionBase) (cause : EndCause) (stored : Bool) (s : State) :
    StoreKept s.mst (placeRecord b cause stored s).mst := by
  unfold placeRecord onlyIf
  dsimp only
  have plain (n : Mst) (e : n = { s.mst with stacked := n.stacked, waiting := n.waiting }) :
      StoreKept s.mst n := by
    rw [e]; exact fun h => ⟨⟨h.force, h.fits, h.ordered⟩, Counters.le_refl _⟩
  split
  · exact (joinQueue_kept _ _ s).trans ((queueCounters_kept _).trans (queuePlace_kept _ _ _ _))
  · split
    · refine StoreKept.trans ?_ (queuePlace_kept _ _ _ _)
      refine StoreKept.trans ?_ (queueCounters_kept _)
      exact plain _ rfl
    · split
      · refine StoreKept.trans ?_ (queueSnapshot_kept _ _)
        refine StoreKept.trans ?_ (queueCounters_kept _)
        exact plain _ rfl
      · refine StoreKept.trans ?_ (queueCounters_kept _)
        exact plain _ rfl

theorem moveStacked_kept (p : Place) (s : State) : StoreKept s.mst (moveStacked p s).mst := by
  unfold moveStacked
  split
  · exact .refl _
  · exact fun h => ⟨⟨h.force, h.fits, h.ordered⟩, Counters.le_refl _⟩

theorem removeOldest_kept (oldest : Report) (rest : List Report) (s : State) :
    StoreKept s.mst (removeOldest oldest rest s).mst := by
  unfold removeOldest
  dsimp only
  refine StoreKept.trans ?_ (queuePlace_kept _ _ _ _)
  refine StoreKept.trans ?_ (queuePlace_kept _ _ _ _)
  refine StoreKept.trans ?_ (moveStacked_kept _ _)
  exact fun h => ⟨⟨h.force, h.fits, h.ordered⟩, Counters.le_refl _⟩

/-! ## The start-up read (R192) -/

/-- The store as the start-up read forms it from a sound page. -/
theorem startupView_runs {g : Page} (force : g.hasForce) (fits : (storedCounters g).fits) :
    StoreRuns (startupView g) :=
  ⟨force, fits, fits, Counters.le_refl _, .nil, (fun _ e => nomatch e), fun _ m => nomatch m⟩

theorem startupSnapshot_kept (s : State) : StoreKept s.mst (startupSnapshot s).mst := by
  unfold startupSnapshot
  split
  · exact .refl _
  · split
    · exact .refl _
    · exact placeRecord_kept _ _ _ _
  · split
    · exact .refl _
    · exact placeRecord_kept _ _ _ _

theorem startupRead_runs {s : State} (force : s.mst.page.hasForce)
    (fits : (storedCounters s.mst.page).fits) :
    StoreRuns (startupRead s).mst ∧
      (storedCounters s.mst.page).le (storedCounters (startupRead s).mst.page) := by
  unfold startupRead onlyIf
  dsimp only
  have runs := startupView_runs force fits
  have kept (t : State) (e : t.mst = startupView s.mst.page) :
      StoreRuns (startupSnapshot t).mst ∧
        (storedCounters s.mst.page).le (storedCounters (startupSnapshot t).mst.page) := by
    have k := startupSnapshot_kept t
    rw [e] at k
    exact k runs
  split <;> split <;> exact kept _ rfl

end Sys2Proof.Machine
end

section
/-! PROOF. The share walk is max-min fair, and what a full and an extra computation make of its result (R54 to R60,
R63). -/

namespace Sys2Proof.Machine

/-! ## Ranks by station number (R56) -/

/-- In a strictly rising list the number of smaller elements is the place. -/
theorem map_countLower_of_sorted {xs : List Nat} (h : xs.Pairwise (· < ·)) :
    (xs.map fun x => (xs.filter (· < x)).length) = List.range xs.length := by
  induction xs with
  | nil => rfl
  | cons x xs ih =>
    obtain ⟨head, tail⟩ := List.pairwise_cons.1 h
    have first : ((x :: xs).filter (· < x)).length = 0 := by
      rw [List.length_eq_zero_iff, List.filter_eq_nil_iff]
      intro y m
      obtain rfl | m := List.mem_cons.1 m
      · simp
      · simpa using (head y m).le
    have rest : ∀ y ∈ xs, ((x :: xs).filter (· < y)).length = (xs.filter (· < y)).length + 1 := by
      intro y m
      simp [head y m]
    rw [List.length_cons, List.range_succ_eq_map, List.map_cons, first, List.map_congr_left rest, ← ih tail,
      List.map_map]
    rfl

/-- The ranks of distinct numbers are the numbers below their count. -/
theorem map_countLower_perm {xs : List Nat} (h : xs.Nodup) :
    (xs.map fun x => (xs.filter (· < x)).length).Perm (List.range xs.length) := by
  have perm := xs.mergeSort_perm (· ≤ ·)
  have strict : (xs.mergeSort (· ≤ ·)).Pairwise (· < ·) := by
    have sorted := xs.pairwise_mergeSort' (· ≤ ·)
    exact (sorted.and (perm.nodup_iff.2 h)).imp fun {x y} ⟨le, ne⟩ => lt_of_le_of_ne le ne
  have ranks := map_countLower_of_sorted strict
  rw [perm.length_eq] at ranks
  rw [← ranks]
  refine (perm.map _).symm.trans ?_
  rw [List.map_congr_left fun x _ => (perm.filter (· < x)).symm.length_eq]

theorem lowerNumbers_eq (station : Nat) (as : List Amount) :
    lowerNumbers station as = ((as.map (·.station)).filter (· < station)).length := by
  rw [lowerNumbers, List.filter_map, List.length_map]
  rfl

/-- Of stations of different numbers, `r` have a rank below `r`. -/
theorem countP_rank {as : List Amount} (h : (as.map (·.station)).Nodup) {r : Nat} (le : r ≤ as.length) :
    as.countP (fun a => lowerNumbers a.station as < r) = r := by
  have ranks := (map_countLower_perm h).countP_eq (· < r)
  rw [List.map_map, List.countP_map, List.length_map] at ranks
  have below : (List.range as.length).countP (· < r) = r := by
    rw [List.countP_eq_length_filter]
    calc ((List.range as.length).filter (· < r)).length
        = (List.range r).length := by
          congr 1
          refine List.Perm.eq_of_pairwise' (r := (· < ·)) ?_ ?_ ?_
          · exact List.pairwise_lt_range.filter _
          · exact List.pairwise_lt_range
          · refine (List.perm_ext_iff_of_nodup (List.nodup_range.filter _) List.nodup_range).2 fun n => ?_
            simp only [List.mem_filter, List.mem_range, decide_eq_true_eq]
            omega
      _ = r := List.length_range
  rw [below] at ranks
  refine (List.countP_congr fun a _ => ?_).trans ranks
  simp [lowerNumbers_eq]

/-! ## The walk (R55, R56) -/

theorem insertAmount_sorted (a : Amount) {as : List Amount}
    (h : as.Pairwise fun x y => x.amount ≤ y.amount) :
    (insertAmount a as).Pairwise fun x y => x.amount ≤ y.amount := by
  induction as with
  | nil => simp [insertAmount]
  | cons b bs ih =>
    obtain ⟨head, tail⟩ := List.pairwise_cons.1 h
    rw [insertAmount]
    split
    next lt =>
      have le : a.amount ≤ b.amount := by simp [Amount.before] at lt; omega
      refine List.pairwise_cons.2 ⟨fun y m => ?_, h⟩
      obtain rfl | m := List.mem_cons.1 m
      · exact le
      · exact le.trans (head y m)
    next ge =>
      have le : b.amount ≤ a.amount := by simp [Amount.before] at ge; omega
      refine List.pairwise_cons.2 ⟨fun y m => ?_, ih tail⟩
      obtain rfl | m := List.mem_cons.1 ((insertAmount_perm a bs).mem_iff.1 m)
      · exact le
      · exact head y m

theorem walkOrder_sorted (as : List Amount) :
    (walkOrder as).Pairwise fun x y => x.amount ≤ y.amount := by
  induction as with
  | nil => exact .nil
  | cons a as ih => exact insertAmount_sorted a ih

theorem shareOf_cons (station : Nat) (a : Amount) (as : List Amount) :
    shareOf station (a :: as) = if a.station = station then a.amount else shareOf station as := by
  unfold shareOf
  by_cases h : a.station = station <;> simp [h]

theorem shareOf_handOut (f r : Nat) {as : List Amount} {x : Amount} (m : x ∈ as) :
    shareOf x.station (handOut f r as) = if lowerNumbers x.station as < r then f + 1 else f := by
  unfold handOut
  generalize as = all at m ⊢
  suffices H : ∀ bs : List Amount, x ∈ bs → shareOf x.station
      (bs.map fun a => ⟨a.station, if lowerNumbers a.station all < r then f + 1 else f⟩) =
        if lowerNumbers x.station all < r then f + 1 else f from H all m
  intro bs m
  induction bs with
  | nil => cases m
  | cons b bs ih =>
    rw [List.map_cons, shareOf_cons]
    by_cases e : b.station = x.station
    · rw [if_pos e, e]
    · rw [if_neg e]
      obtain rfl | m := List.mem_cons.1 m
      · exact absurd rfl e
      · exact ih m

theorem handOut_sum (f : Nat) {r : Nat} {as : List Amount} (h : (as.map (·.station)).Nodup)
    (le : r ≤ as.length) : ((handOut f r as).map (·.amount)).sum = f * as.length + r := by
  have count := countP_rank h le
  unfold handOut
  rw [List.map_map]
  generalize as = all at count ⊢
  suffices H : ∀ bs : List Amount, (bs.map ((·.amount) ∘ fun a : Amount =>
      (⟨a.station, if lowerNumbers a.station all < r then f + 1 else f⟩ : Amount))).sum =
        f * bs.length + bs.countP (fun a => lowerNumbers a.station all < r) by
    rw [H, count]
  intro bs
  induction bs with
  | nil => rfl
  | cons b bs ih =>
    rw [List.map_cons, List.sum_cons, ih, List.countP_cons, List.length_cons, Nat.mul_succ]
    simp only [Function.comp_apply, decide_eq_true_eq]
    split <;> omega

/-- A share that passes over a demand below it does not fall (R55). -/
theorem div_le_div_rest {rem n a : Nat} (pos : 0 < n) (le : a ≤ rem / (n + 1)) :
    rem / (n + 1) ≤ (rem - a) / n := by
  rw [Nat.le_div_iff_mul_le pos]
  have := Nat.div_mul_le_self rem (n + 1)
  rw [Nat.mul_succ] at this
  omega

theorem walk_share_le {rem : Nat} {as : List Amount} (sorted : as.Pairwise fun x y => x.amount ≤ y.amount)
    {b : Amount} (m : b ∈ walk rem as) : ∃ a ∈ as, a.station = b.station ∧ b.amount ≤ a.amount := by
  induction as generalizing rem with
  | nil => cases m
  | cons a as ih =>
    obtain ⟨head, tail⟩ := List.pairwise_cons.1 sorted
    simp only [walk] at m
    split at m
    next =>
      obtain rfl | m := List.mem_cons.1 m
      · exact ⟨b, .head _, rfl, le_rfl⟩
      · obtain ⟨x, mx, st, le⟩ := ih tail m
        exact ⟨x, .tail _ mx, st, le⟩
    next short =>
      obtain ⟨x, mx, rfl⟩ := List.mem_map.1 m
      refine ⟨x, mx, rfl, ?_⟩
      have above : a.amount ≤ x.amount := by
        obtain rfl | mx := List.mem_cons.1 mx
        · exact le_rfl
        · exact head x mx
      dsimp only
      split <;> omega

theorem walk_sum {rem : Nat} {as : List Amount} (sorted : as.Pairwise fun x y => x.amount ≤ y.amount)
    (distinct : (as.map (·.station)).Nodup) :
    ((walk rem as).map (·.amount)).sum = min rem (as.map (·.amount)).sum := by
  induction as generalizing rem with
  | nil => simp [walk]
  | cons a as ih =>
    obtain ⟨head, tail⟩ := List.pairwise_cons.1 sorted
    simp only [walk]
    split
    next fits =>
      rw [List.map_cons, List.sum_cons, ih tail (List.nodup_cons.1 distinct).2, List.map_cons, List.sum_cons]
      have := fits.trans (Nat.div_le_self rem (as.length + 1))
      omega
    next short =>
      have r : rem - rem / (as.length + 1) * (as.length + 1) = rem % (as.length + 1) := by
        rw [Nat.mod_eq_sub_mul_div, Nat.mul_comm]
      rw [r, handOut_sum _ distinct (Nat.mod_lt _ (Nat.succ_pos _)).le, List.length_cons, Nat.div_add_mod',
        Nat.min_eq_left]
      have least : (as.length + 1) * (rem / (as.length + 1) + 1) ≤ ((a :: as).map (·.amount)).sum := by
        have := List.card_nsmul_le_sum ((a :: as).map (·.amount)) (rem / (as.length + 1) + 1) fun y m => by
          obtain ⟨x, mx, rfl⟩ := List.mem_map.1 m
          obtain rfl | mx := List.mem_cons.1 mx
          · omega
          · have := head x mx; omega
        simpa using this
      exact (Nat.lt_mul_div_succ rem (Nat.succ_pos _)).le.trans least

/-- A station left short gets at least an even share of what the walk began with. -/
theorem walk_short {rem : Nat} {as : List Amount} (distinct : (as.map (·.station)).Nodup) {x : Amount}
    (mx : x ∈ as) (short : shareOf x.station (walk rem as) < x.amount) :
    rem / as.length ≤ shareOf x.station (walk rem as) := by
  induction as generalizing rem with
  | nil => cases mx
  | cons a as ih =>
    obtain ⟨fresh, distinct'⟩ := List.nodup_cons.1 distinct
    simp only [walk] at short ⊢
    split at short
    next fits =>
      rw [if_pos fits]
      rw [shareOf_cons] at short ⊢
      obtain rfl | mx := List.mem_cons.1 mx
      · simp at short
      · have ne : a.station ≠ x.station := fun e => fresh (List.mem_map.2 ⟨x, mx, e.symm⟩)
        rw [if_neg ne] at short ⊢
        exact (div_le_div_rest (List.length_pos_of_mem mx) fits).trans (ih distinct' mx short)
    next lack =>
      rw [if_neg lack, shareOf_handOut _ _ mx]
      split <;> simp

theorem walk_fair {rem : Nat} {as : List Amount} (distinct : (as.map (·.station)).Nodup) {x y : Amount}
    (mx : x ∈ as) (my : y ∈ as) (short : shareOf x.station (walk rem as) < x.amount) :
    shareOf y.station (walk rem as) ≤ shareOf x.station (walk rem as) ∨
      (shareOf y.station (walk rem as) = shareOf x.station (walk rem as) + 1 ∧
        y.station < x.station) := by
  induction as generalizing rem with
  | nil => cases mx
  | cons a as ih =>
    obtain ⟨fresh, distinct'⟩ := List.nodup_cons.1 distinct
    simp only [walk] at short ⊢
    split at short
    next fits =>
      rw [if_pos fits]
      rw [shareOf_cons] at short
      simp only [shareOf_cons]
      have ne {z : Amount} (mz : z ∈ as) : a.station ≠ z.station := fun e =>
        fresh (List.mem_map.2 ⟨z, mz, e.symm⟩)
      obtain rfl | rx := List.mem_cons.1 mx
      · simp at short
      rw [if_neg (ne rx)] at short ⊢
      obtain rfl | ry := List.mem_cons.1 my
      · rw [if_pos rfl]
        refine .inl (fits.trans (le_trans ?_ (walk_short distinct' rx short)))
        exact div_le_div_rest (List.length_pos_of_mem rx) fits
      · rw [if_neg (ne ry)]
        exact ih distinct' rx ry short
    next lack =>
      rw [if_neg lack, shareOf_handOut _ _ mx, shareOf_handOut _ _ my]
      have rank : y.station < x.station ∨
          lowerNumbers x.station (a :: as) ≤ lowerNumbers y.station (a :: as) := by
        by_cases lt : y.station < x.station
        · exact .inl lt
        · right
          unfold lowerNumbers
          refine (List.monotone_filter_right _ fun z h => ?_).length_le
          simp at h ⊢
          omega
      split <;> split <;> omega

/-! ## Allocations (R55, R56) -/

/-- Among distinct stations a share is the one line of its station. -/
theorem sum_shareOf {as bs : List Amount} (distinct : (bs.map (·.station)).Nodup)
    (stations : (bs.map (·.station)).Perm (as.map (·.station))) :
    (as.map fun x => shareOf x.station bs).sum = (bs.map (·.amount)).sum := by
  have own : (bs.map fun x => shareOf x.station bs) = bs.map (·.amount) := by
    clear stations
    induction bs with
    | nil => rfl
    | cons b bs ih =>
      obtain ⟨fresh, distinct⟩ := List.nodup_cons.1 distinct
      rw [List.map_cons, shareOf_cons, if_pos rfl, List.map_cons, ← ih distinct]
      congr 1
      refine List.map_congr_left fun x m => ?_
      have ne : b.station ≠ x.station := fun e => fresh (List.mem_map.2 ⟨x, m, e.symm⟩)
      rw [shareOf_cons, if_neg ne]
  have e := (stations.map fun n => shareOf n bs).sum_eq
  rw [List.map_map, List.map_map] at e
  rw [← own]
  exact e.symm

theorem shareOf_allocate_le (available : Nat) {as : List Amount} {n bound : Nat}
    (own : ∀ a ∈ as, a.station = n → a.amount ≤ bound) : shareOf n (allocate available as) ≤ bound := by
  unfold shareOf
  cases found : (allocate available as).find? fun a => a.station == n with
  | none => simp
  | some b =>
    obtain ⟨a, m, st, le⟩ := walk_share_le (walkOrder_sorted as) (List.mem_of_find?_eq_some found)
    have nb : b.station = n := by simpa using List.find?_some found
    exact le.trans (own a ((walkOrder_perm as).mem_iff.1 m) (st.trans nb))

/-- Settles O37: the walk's order is by rising demand, so a station that it leaves short gets an even share. -/
theorem shareWalkIsMaxMinFair : Obligations.ShareWalkIsMaxMinFair := by
  intro a active distinct
  have order := walkOrder_perm active
  have distinct' : ((walkOrder active).map (·.station)).Nodup := (order.map _).nodup_iff.2 distinct
  refine ⟨fun x mx => ?_, ?_, fun x mx y my short => ?_⟩
  · refine shareOf_allocate_le a fun z mz e => ?_
    rw [List.inj_on_of_nodup_map distinct mz mx e]
  · have stations := allocate_stations a active
    rw [sum_shareOf (stations.nodup_iff.2 distinct) stations, allocate,
      walk_sum (walkOrder_sorted active) distinct', (order.map (·.amount)).sum_eq]
  · exact walk_fair distinct' (order.mem_iff.2 mx) (order.mem_iff.2 my) short

/-! ## Computations (R58 to R60, R63) -/

theorem computeShare_eq (s : State) : computeShare s = Computed s := rfl

theorem dOwnInUse_computed (s : State) : dOwnInUse (Computed s) = dOwnInUse s := rfl

theorem extraComputation_eq (s : State) :
    extraComputation s =
      (if s.shu.session = false then Computed s
       else if s.shu.conds.any = true then
        { Computed s with shu := { (Computed s).shu with sEff := min (dOwnInUse s) s.cfg.fallback } }
       else { Computed s with shu := { (Computed s).shu with
        sEff := min s.shu.sEff (Computed s).shu.sNew } }) := by
  rw [extraComputation, computeShare_eq, fallOnly, keepFallback]
  cases session : s.shu.session with
  | false => simp
  | true =>
    cases fallback : s.shu.conds.any with
    | true => simp [session, fallbackShare, dOwnInUse]
    | false =>
      by_cases lower : (Computed s).shu.sNew < s.shu.sEff
      · simp [session] at lower ⊢
        simp [lower, lower.le]
      · simp [session] at lower ⊢
        simp [session, not_lt.2 lower, lower]

theorem fullComputation_eq (s : State) :
    fullComputation s =
      (if s.shu.session = false then Computed s
       else if s.shu.conds.any = true then
        { Computed s with shu := { (Computed s).shu with
            sEff := min (dOwnInUse s) s.cfg.fallback, joining := min 2 (s.shu.joining + 1)
            pendingRise := none } }
       else if s.shu.joining < 2 then
        { Computed s with shu := { (Computed s).shu with
            sEff := min (Computed s).shu.sNew s.cfg.joinCurrent, joining := s.shu.joining + 1
            pendingRise := none } }
       else riseRule (Computed s)) := by
  rw [fullComputation, computeShare_eq, fullRule, keepFallback]
  cases session : s.shu.session with
  | false => simp
  | true =>
    cases fallback : s.shu.conds.any with
    | true => simp [session, fallbackShare, dOwnInUse]
    | false => simp [session]

/-- Settles O38: by SESSION, the fallback conditions and the joining count. -/
theorem computationsMoveTheShare : Obligations.ComputationsMoveTheShare := by
  intro s
  refine ⟨rfl, ?_, extraComputation_eq s⟩
  rw [fullComputation_eq]
  rfl

end Sys2Proof.Machine
end

section
/-! PROOF. What every operation inside a row keeps: the host's settings, the ranges, the shapes of queues and tables,
the store, the heater's and the setpoint's cutoffs, the settled line and the share. `Sound` is that relation between
the state before a row and a state within it; each operation has one lemma here. -/

namespace Sys2Proof.Machine

/-! ## The relation -/

/-- What only the host's commands and a reset set (R70, R71, R121, R173, R199), with power and the queue. -/
abbrev HostKept (r s : State) : Prop :=
  s.power = r.power ∧ s.pending = r.pending ∧ s.cpt.resetCause = r.cpt.resetCause ∧
  (s.cfg = r.cfg ∧ s.cpt.configured = r.cpt.configured) ∧
  (s.crg.iReq = r.crg.iReq ∧ s.crg.vMax = r.crg.vMax) ∧ s.crg.iBms = r.crg.iBms ∧
  (s.htr.tOn = r.htr.tOn ∧ s.htr.tOff = r.htr.tOff ∧ s.htr.pHmax = r.htr.pHmax ∧
    s.htr.permission = r.htr.permission ∧ s.htr.pBattMax = r.htr.pBattMax) ∧
  s.mtr.table = r.mtr.table

/-- The part of `HeaterSafe` that does not speak of the trip latch or of the budget's table. -/
abbrev DutyHeld (s : State) : Prop :=
  (s.htr.relay = false ∨ s.htr.settleTimer = true ∨ s.htr.budget = 0 → s.htr.duty = 0) ∧
  s.ptu.heaterBuffer = s.htr.duty ∧ s.htr.duty ≤ 4095

/-- The heater duty has fallen to 0, or it is the former one and no trip has come. -/
abbrev DutyCut (r s : State) : Prop :=
  s.htr.duty = 0 ∨ (s.htr.duty = r.htr.duty ∧ (tripped s = true → tripped r = true))

/-- The share without the two clauses that an evaluation of R77 restores. -/
abbrev ShareHeld (s : State) : Prop :=
  s.shu.sEff ≤ dOwnInUse s ∧ (s.shu.conds.any = true → s.shu.sEff ≤ s.cfg.fallback) ∧
  (s.shu.session = false → s.shu.sEff = 0) ∧ s.shu.dOwnHanded ≤ s.crg.dOwnLast ∧
  ∀ e ∈ s.shu.peers, e.station ≠ s.cfg.station

/-- No identification is held before IDENTIFIED (R8): the third clause of `LineSettled`. -/
abbrev IdentHeld (s : State) : Prop :=
  s.psq.seq = .unplugged ∨ s.psq.seq = .plugSettle ∨ s.psq.seq = .plugged ∨
    s.psq.seq = .identifying → s.psq.ident = none

/-- The line and SHU's conditions are those of R36 and R61: the first two clauses of `LineSettled`. -/
abbrev LineHeld (s : State) : Prop := s.fli.line = lineTarget s ∧ s.shu.conds = fallbackConds s

/-- `s` is reached from `r` within a row. `cut` says that the duty has followed the trip latch, and `line` that the
line and the conditions are those of R36 and R61. -/
structure Sound (cut line : Prop) (r s : State) : Prop where
  host : HostKept r s
  ranges : RangesHold r → RangesHold s
  tables : TablesHold r → TablesHold s
  store : StoreKept r.mst s.mst
  duty : DutyHeld r → DutyHeld s
  budget : BudgetHeld r → BudgetHeld s
  cutoff : cut → DutyCut r s
  regulation : RegulationSafe r → RegulationSafe s
  settled : line → LineHeld s
  ident : IdentHeld r → IdentHeld s
  share : ShareSafe r → ShareSafe s

/-- As `Sound`, with an evaluation of R77 still to come: the results of the chain may be out of date. -/
structure Unevaluated (cut line : Prop) (r s : State) : Prop where
  host : HostKept r s
  ranges : RangesHold r → RangesHold s
  tables : TablesHold r → TablesHold s
  store : StoreKept r.mst s.mst
  duty : DutyHeld r → DutyHeld s
  cutoff : cut → DutyCut r s
  regulation : RegulationSafe r → s.ptu.enable = false → s.crg.setpoint = 0
  settled : line → LineHeld s
  ident : IdentHeld r → IdentHeld s
  share : ShareSafe r → ShareHeld s

variable {cut line : Prop} {r s t : State}

theorem Sound.refl (cut : Prop) (s : State) (held : line → LineHeld s) : Sound cut line s s where
  host := by and_intros <;> rfl
  ranges := id
  tables := id
  store := .refl _
  duty := id
  budget := id
  cutoff _ := .inr ⟨rfl, id⟩
  regulation := id
  settled := held
  ident := id
  share := id

theorem Sound.trans (h : Sound cut line r s) (k : Sound cut line s t) : Sound cut line r t where
  host := by
    obtain ⟨a, b, c, ⟨d, e⟩, ⟨f, g⟩, i, ⟨j, l, m, n, o⟩, p⟩ := h.host
    obtain ⟨a', b', c', ⟨d', e'⟩, ⟨f', g'⟩, i', ⟨j', l', m', n', o'⟩, p'⟩ := k.host
    exact ⟨a'.trans a, b'.trans b, c'.trans c, ⟨d'.trans d, e'.trans e⟩, ⟨f'.trans f, g'.trans g⟩,
      i'.trans i, ⟨j'.trans j, l'.trans l, m'.trans m, n'.trans n, o'.trans o⟩, p'.trans p⟩
  ranges := k.ranges ∘ h.ranges
  tables := k.tables ∘ h.tables
  store := h.store.trans k.store
  duty := k.duty ∘ h.duty
  budget := k.budget ∘ h.budget
  cutoff c := by
    obtain z | ⟨e, t⟩ := k.cutoff c
    · exact .inl z
    · obtain z | ⟨e', t'⟩ := h.cutoff c
      · exact .inl (e.trans z)
      · exact .inr ⟨e.trans e', t' ∘ t⟩
  regulation := k.regulation ∘ h.regulation
  settled := k.settled
  ident := k.ident ∘ h.ident
  share := k.share ∘ h.share

/-- The claims about the duty and the line may be dropped. -/
theorem Sound.weaken {cut' line' : Prop} (c : cut' → cut) (l : line' → line) (h : Sound cut line r s) :
    Sound cut' line' r s :=
  { h with cutoff := h.cutoff ∘ c, settled := h.settled ∘ l }

theorem Sound.unevaluated (h : Sound cut line r s) : Unevaluated cut line r s where
  host := h.host
  ranges := h.ranges
  tables := h.tables
  store := h.store
  duty := h.duty
  cutoff := h.cutoff
  regulation k e := (h.regulation k).2.1 (.inl e)
  settled := h.settled
  ident := h.ident
  share k := by
    obtain ⟨a, -, c, d, e, -, f⟩ := h.share k
    exact ⟨a, c, d, e, f⟩

/-- The state with every field that `Sound` does not speak of at its reset value. -/
def soundView (s : State) : State :=
  { s with
    psq := { Psq.reset false false with seq := s.psq.seq, prox := s.psq.prox, ident := s.psq.ident }
    fli := { Fli.reset with
      line := s.fli.line, silentTimer := s.fli.silentTimer, duplicate := s.fli.duplicate,
      queue := s.fli.queue, errorCount := s.fli.errorCount, ackHistory := s.fli.ackHistory }
    shu := { Shu.reset with
      peers := s.shu.peers, identCopy := s.shu.identCopy, session := s.shu.session,
      dOwnHanded := s.shu.dOwnHanded, sweepTarget := s.shu.sweepTarget, sEff := s.shu.sEff,
      joining := s.shu.joining, overflow := s.shu.overflow, conds := s.shu.conds }
    crg := { Crg.reset with
      iReq := s.crg.iReq, vMax := s.crg.vMax, iBms := s.crg.iBms, linkI := s.crg.linkI,
      batI := s.crg.batI, setpoint := s.crg.setpoint, iTarget := s.crg.iTarget, stale := s.crg.stale,
      pC := s.crg.pC, pH := s.crg.pH, pAllow := s.crg.pAllow, dOwnLast := s.crg.dOwnLast }
    ptu := { Ptu.reset ⟨⟨false, false⟩, ⟨false, false⟩, ⟨false, false⟩, ⟨false, false⟩⟩ false with
      buffer := s.ptu.buffer, inUse := s.ptu.inUse, enable := s.ptu.enable,
      heaterBuffer := s.ptu.heaterBuffer, trip := s.ptu.trip }
    msq := { Msq.reset with
      slots := s.msq.slots, theta := s.msq.theta, troughs := s.msq.troughs }
    htr := { Htr.reset with
      tOn := s.htr.tOn, tOff := s.htr.tOff, pHmax := s.htr.pHmax, permission := s.htr.permission,
      pBattMax := s.htr.pBattMax, pHeatReq := s.htr.pHeatReq, budget := s.htr.budget,
      source := s.htr.source, duty := s.htr.duty, relay := s.htr.relay, settleTimer := s.htr.settleTimer }
    imn := { Imn.reset with
      clearCount := s.imn.clearCount, backoff := s.imn.backoff, measureFaults := s.imn.measureFaults }
    mtr := { Mtr.reset with table := s.mtr.table, session := s.mtr.session }
    cpt := { Cpt.reset s.cpt.resetCause with
      configured := s.cpt.configured, events := s.cpt.events }
    fresh := 0 }

/-- An update of fields that `Sound` does not speak of. -/
theorem Sound.plain (h : Sound cut line r s) (e : soundView t = soundView s) : Sound cut line r t := by
  have v : Sound cut line r (soundView s) :=
    ⟨h.host, h.ranges, h.tables, h.store, h.duty, h.budget, h.cutoff, h.regulation, h.settled, h.ident, h.share⟩
  rw [← e] at v
  exact ⟨v.host, v.ranges, v.tables, v.store, v.duty, v.budget, v.cutoff, v.regulation, v.settled, v.ident, v.share⟩

theorem Unevaluated.plain (h : Unevaluated cut line r s) (e : soundView t = soundView s) :
    Unevaluated cut line r t := by
  have v : Unevaluated cut line r (soundView s) :=
    ⟨h.host, h.ranges, h.tables, h.store, h.duty, h.cutoff, h.regulation, h.settled, h.ident, h.share⟩
  rw [← e] at v
  exact ⟨v.host, v.ranges, v.tables, v.store, v.duty, v.cutoff, v.regulation, v.settled, v.ident, v.share⟩

theorem Sound.onlyIf (c : Bool) {f : State → State} (h : Sound cut line r s)
    (k : Sound cut line r (f s)) : Sound cut line r (onlyIf c f s) :=
  onlyIf_ind (P := Sound cut line r) c h k

end Sys2Proof.Machine
end

section
/-! PROOF. The operations that every block uses keep `Sound`: events, replies, the store, the transmit queue, power and
the heater's duty. -/

namespace Sys2Proof.Machine

variable {cut line : Prop} {r s : State}

/-! ## Events and replies -/

/-- What a raised event leaves, stated for both relations. -/
theorem raiseEvent_tables (k : EventKind) (h : TablesHold s) : TablesHold (raiseEvent k s) :=
  ⟨raiseEvent_canonical k s, h.2⟩

theorem Sound.raiseEvent (h : Sound cut line r s) (k : EventKind) : Sound cut line r (raiseEvent k s) where
  host := h.host
  ranges := h.ranges
  tables x := raiseEvent_tables k (h.tables x)
  store := h.store
  duty := h.duty
  budget := h.budget
  cutoff := h.cutoff
  regulation := h.regulation
  settled := h.settled
  ident := h.ident
  share := h.share

theorem Unevaluated.raiseEvent (h : Unevaluated cut line r s) (k : EventKind) :
    Unevaluated cut line r (raiseEvent k s) where
  host := h.host
  ranges := h.ranges
  tables x := raiseEvent_tables k (h.tables x)
  store := h.store
  duty := h.duty
  cutoff := h.cutoff
  regulation := h.regulation
  settled := h.settled
  ident := h.ident
  share := h.share

theorem Sound.answer (h : Sound cut line r s) (status : Status) (body : ReplyBody) :
    Sound cut line r (answer status body s) := h.plain rfl

theorem Sound.answerEmpty (h : Sound cut line r s) (status : Status) :
    Sound cut line r (answerEmpty status s) := h.plain rfl

/-! ## The meter's session and the store -/

/-- The meter's table stays, and its line items keep their shape. -/
theorem Sound.meter (h : Sound cut line r s) (m : Mtr) (table : m.table = s.mtr.table)
    (items : ItemsSound s → ItemsSound { s with mtr := m }) : Sound cut line r { s with mtr := m } where
  host := by
    obtain ⟨a, b, c, d, e, f, g, t⟩ := h.host
    exact ⟨a, b, c, d, e, f, g, table.trans t⟩
  ranges := h.ranges
  tables x := by
    obtain ⟨a, b, c, d, e⟩ := h.tables x
    exact ⟨a, b, c, items d, e⟩
  store := h.store
  duty := h.duty
  budget := h.budget
  cutoff := h.cutoff
  regulation := h.regulation
  settled := h.settled
  ident := h.ident
  share := h.share

/-- The store alone has changed, and is kept. -/
theorem Sound.ofStore (h : Sound cut line r s) (m : Mst) (kept : StoreKept s.mst m) :
    Sound cut line r { s with mst := m } where
  host := h.host
  ranges := h.ranges
  tables := h.tables
  store := h.store.trans kept
  duty := h.duty
  budget := h.budget
  cutoff := h.cutoff
  regulation := h.regulation
  settled := h.settled
  ident := h.ident
  share := h.share

theorem Sound.queueWrite (h : Sound cut line r s) (w : PageWrite)
    (sound : StoreOrdered s.mst → WriteSound s.mst w) : Sound cut line r (queueWrite w s) := by
  have k : Sound cut line r { s with mst := s.mst.queueWrite w } :=
    h.ofStore _ (Mst.queueWrite_kept sound)
  exact k.onlyIf _ (k.raiseEvent _)

theorem Sound.queueCounters (h : Sound cut line r s) : Sound cut line r (queueCounters s) :=
  h.queueWrite _ writeSound_working

theorem Sound.queuePlace (h : Sound cut line r s) (p : Place) (x : Option Placed) (b : Bool) :
    Sound cut line r (Machine.queueWrite (.place p x b) s) :=
  h.queueWrite _ fun _ => writeSound_place _ p x b

theorem Sound.queueSnapshot (h : Sound cut line r s) (c : Checkpoint) :
    Sound cut line r (queueSnapshot c s) :=
  (h.ofStore _ (cancelClears_kept s)).queueWrite _ fun _ => writeSound_checkpoint _ c

theorem Sound.takeCheckpoint (h : Sound cut line r s) : Sound cut line r (takeCheckpoint s) := by
  unfold Machine.takeCheckpoint
  dsimp only
  split
  · exact (h.queueCounters.queueSnapshot _).ofStore _ fun k =>
      ⟨⟨k.force, k.fits, k.ordered⟩, Counters.le_refl _⟩
  · exact h.queueCounters.ofStore _ fun k => ⟨⟨k.force, k.fits, k.ordered⟩, Counters.le_refl _⟩

theorem Sound.checkpointIfDue (h : Sound cut line r s) : Sound cut line r (checkpointIfDue s) :=
  h.onlyIf _ h.takeCheckpoint

theorem Sound.countInterval (h : Sound cut line r s) (e : Nat) (cond : Option Nat) :
    Sound cut line r (countInterval e cond s) := h.ofStore _ (countInterval_kept e cond s)

theorem Sound.raiseSessionCounter (h : Sound cut line r s) :
    Sound cut line r (raiseSessionCounter s) :=
  Sound.queueCounters (h.ofStore _ fun k => ⟨⟨k.force, k.fits, k.ordered⟩, Counters.le_refl _⟩)

theorem Sound.joinQueue (h : Sound cut line r s) (p : Place) (x : SessionRecord) :
    Sound cut line r (joinQueue p x s) := by
  refine Sound.raiseEvent ?_ _
  exact h.ofStore _ fun k => ⟨⟨k.force, k.fits, k.ordered⟩, Counters.le_refl _⟩

theorem Sound.placeRecord (h : Sound cut line r s) (b : SessionBase) (cause : EndCause) (stored : Bool) :
    Sound cut line r (placeRecord b cause stored s) := by
  unfold Machine.placeRecord
  dsimp only
  split
  · exact ((h.joinQueue _ _).queueCounters).queuePlace _ _ _
  · split
    · refine Sound.queuePlace (Sound.queueCounters ?_) _ _ _
      exact h.ofStore _ fun k => ⟨⟨k.force, k.fits, k.ordered⟩, Counters.le_refl _⟩
    · have k : Sound cut line r (Machine.queueCounters { s with mst.waiting := some (recordOf b cause) }) :=
        Sound.queueCounters (h.ofStore _ fun k => ⟨⟨k.force, k.fits, k.ordered⟩, Counters.le_refl _⟩)
      exact k.onlyIf _ (k.queueSnapshot _)

theorem Sound.completeWrite (h : Sound cut line r s) : Sound cut line r (completeWrite s) := by
  have kept := completeWrite_kept s
  unfold Machine.completeWrite at kept ⊢
  split
  next => exact h
  next f inf =>
    rw [inf] at kept
    dsimp only at kept ⊢
    split
    next w p x e =>
      rw [e] at kept
      have k := h.ofStore _ kept
      unfold Machine.queueWrite
      dsimp only
      rw [queueWrite_mst] at k
      exact Sound.onlyIf _ k (k.raiseEvent _)
    next w ne =>
      refine h.ofStore _ fun k => ?_
      obtain ⟨runs, le⟩ := complete_runs k inf
      exact ⟨Mst.startNext_runs runs, by rw [Mst.startNext_page]; exact le⟩

theorem Sound.removeOldest (h : Sound cut line r s) (oldest : Report) (rest : List Report) :
    Sound cut line r (removeOldest oldest rest s) := by
  unfold Machine.removeOldest
  dsimp only
  refine Sound.queuePlace (Sound.queuePlace ?_ _ _ _) _ _ _
  have k : Sound cut line r { s with mst.queue := rest } :=
    h.ofStore _ fun k => ⟨⟨k.force, k.fits, k.ordered⟩, Counters.le_refl _⟩
  unfold moveStacked
  split
  · exact k
  · refine Sound.joinQueue ?_ _ _
    exact k.ofStore _ fun k => ⟨⟨k.force, k.fits, k.ordered⟩, Counters.le_refl _⟩

theorem ItemsSound.markSession (f : SessionFlags → SessionFlags) (h : ItemsSound s) :
    ItemsSound (markSession f s) := by
  intro ss e
  obtain ⟨x, o, rfl⟩ := Option.map_eq_some_iff.1 e
  exact h x o

theorem Sound.markSession (h : Sound cut line r s) (f : SessionFlags → SessionFlags) :
    Sound cut line r (markSession f s) := h.meter _ rfl fun i => i.markSession f

theorem Sound.closeSession (h : Sound cut line r s) (cause : EndCause) (forced : Bool) :
    Sound cut line r (closeSession cause forced s) := by
  unfold Machine.closeSession
  split
  · exact h
  · refine Sound.raiseEvent (Sound.placeRecord ?_ _ _ _) _
    exact h.meter _ rfl fun _ => itemsSound_none rfl

theorem Sound.dropPrefetched (h : Sound cut line r s) : Sound cut line r (dropPrefetched s) :=
  h.meter _ rfl fun i => i

/-! ## The transmit queue (R39) -/

theorem Sound.lineQueue (h : Sound cut line r s) (f : Fli)
    (same : f = { s.fli with
      queue := f.queue, attempt := f.attempt, departed := f.departed, beaconTimer := f.beaconTimer
      ackDriven := f.ackDriven, foreignReported := f.foreignReported })
    (shape : QueueShape s.fli.queue → QueueShape f.queue) : Sound cut line r { s with fli := f } := by
  rw [same]
  exact
    { h with
      tables := fun x => by
        obtain ⟨a, b, c⟩ := h.tables x
        exact ⟨a, shape b, c⟩
      settled := h.settled
      share := h.share }

theorem Sound.enqueue (h : Sound cut line r s) (b : FrameBody) : Sound cut line r (enqueue b s) := by
  unfold Machine.enqueue
  split
  · exact h.lineQueue _ rfl fun k => enqueueFrame_shape _ k
  · exact h

theorem Sound.removeMeasureFrames (h : Sound cut line r s) : Sound cut line r (removeMeasureFrames s) :=
  h.lineQueue _ rfl fun k => k.sublist List.filter_sublist

theorem Sound.dropAttempt (h : Sound cut line r s) : Sound cut line r (dropAttempt s) :=
  h.lineQueue _ rfl fun k => k.of_frames (unmark_frames _)

theorem Sound.leaveQueue (h : Sound cut line r s) : Sound cut line r (leaveQueue s) :=
  h.lineQueue _ rfl fun k => k.sublist List.filter_sublist

theorem Sound.startAttempt (h : Sound cut line r s) : Sound cut line r (startAttempt s) := by
  unfold Machine.startAttempt
  split
  · exact h.lineQueue _ rfl fun k => k.of_frames (markFirst_frames _ _)
  · exact h

theorem Sound.emptyForDuplicate (h : Sound cut line r s) : Sound cut line r (emptyForDuplicate s) :=
  h.lineQueue _ rfl fun _ => .nil

/-! ## Power (R82, R97 to R99) -/

theorem Sound.watchConflicts (h : Sound cut line r s) : Sound cut line r (watchConflicts s) := h.plain rfl

theorem Sound.formCommands (h : Sound cut line r s) : Sound cut line r (formCommands s) := h.plain rfl

theorem neutral_inRange : Compare.neutral.inRange := by decide

theorem Sound.clearEnable (h : Sound cut line r s) : Sound cut line r (clearEnable s) := by
  unfold Machine.clearEnable
  split
  · refine Sound.formCommands ?_
    exact
      { h with
        ranges := fun x => by
          obtain ⟨-, -, -, u, t⟩ := h.ranges x
          exact ⟨by simp [integratorBound], by simp [integratorBound], neutral_inRange, u, t⟩
        duty := h.duty
        budget := h.budget
        cutoff := h.cutoff
        regulation := fun x => by
          obtain ⟨-, -, p⟩ := h.regulation x
          exact ⟨Nat.zero_le _, fun _ => rfl, p⟩
        share := h.share }
  · exact h

theorem Sound.armEnable (h : Sound cut line r s) : Sound cut line r (armEnable s) := by
  unfold Machine.armEnable
  split
  · exact h
  · refine Sound.formCommands ?_
    exact
      { h with
        ranges := h.ranges
        regulation := fun x => by
          obtain ⟨a, b, p⟩ := h.regulation x
          exact ⟨a, fun k => b (.inr (k.resolve_left (by simp))), p⟩ }

/-- A duty of 0 fits every state. -/
theorem Sound.zeroDuty (h : Sound False line r s) : Sound cut line r (writeHeaterDuty 0 s) :=
  { h with
    ranges := h.ranges
    duty := fun _ => ⟨fun _ => rfl, rfl, Nat.zero_le _⟩
    budget := h.budget
    cutoff := fun _ => .inl rfl
    regulation := h.regulation
    settled := h.settled }

theorem Sound.toFalse (h : Sound cut line r s) : Sound False line r s := h.weaken False.elim id

end Sys2Proof.Machine
end

section
/-! PROOF. The regulator's evaluations, the share's computations, fallback and the heater keep `Sound` (R52, R53, R60
to R63, R72, R73, R77, R81, R122 to R134). -/

namespace Sys2Proof.Machine

variable {cut line : Prop} {r s : State}

/-! ## Evaluations (R73, R127) -/

/-- The results of an evaluation with the budget formed from them, before the duty follows. -/
def evaluated (s : State) : State :=
  { s with
    crg := chain s
    htr.budget := (budgetOf { s with crg := chain s }).1
    htr.source := (budgetOf { s with crg := chain s }).2 }

theorem evaluate_eq (s : State) :
    evaluate s =
      onlyIf (s.htr.budget != 0 && (evaluated s).htr.budget == 0) (writeHeaterDuty 0) (evaluated s) := rfl

/-- Where the duty is not written, a budget of 0 is not new. -/
theorem evaluate_cases (s : State) :
    (evaluate s = evaluated s ∧ ((evaluated s).htr.budget = 0 → s.htr.budget = 0)) ∨
      evaluate s = writeHeaterDuty 0 (evaluated s) := by
  rw [evaluate_eq]
  cases h : s.htr.budget != 0 && (evaluated s).htr.budget == 0 with
  | true => exact .inr rfl
  | false =>
    refine .inl ⟨rfl, fun z => ?_⟩
    rw [z] at h
    simpa using h

theorem iTargetOf_stale (h : s.crg.stale = true) : iTargetOf s = 0 := by
  simp [iTargetOf, iBmsCounted, h]

theorem splitOf_le (s : State) : (splitOf s).1 + (splitOf s).2 ≤ pAllowOf s := by
  unfold splitOf
  split
  · simp
  · split <;> dsimp only <;> omega

theorem splitOf_inactive (h : s.psq.seq ≠ .active) : (splitOf s).2 = 0 := by simp [splitOf, h]

/-- The chain's results meet R79 and R81 in every state whose setpoint follows the output enable. -/
theorem evaluated_regulation (h : s.ptu.enable = false → s.crg.setpoint = 0) :
    RegulationSafe (evaluated s) := by
  refine ⟨Nat.min_le_right _ _, fun k => ?_, splitOf_le s, splitOf_inactive⟩
  show min s.crg.setpoint (iTargetOf s) = 0
  obtain off | stale := k
  · rw [h off, Nat.zero_min]
  · rw [iTargetOf_stale (s := s) stale, Nat.min_zero]

theorem evaluate_regulation (h : s.ptu.enable = false → s.crg.setpoint = 0) :
    RegulationSafe (evaluate s) := by
  obtain ⟨e, -⟩ | e := evaluate_cases s <;> rw [e] <;> exact evaluated_regulation h

theorem evaluate_duty (h : DutyHeld s) : DutyHeld (evaluate s) := by
  obtain ⟨e, same⟩ | e := evaluate_cases s
  · rw [e]
    obtain ⟨a, b, c⟩ := h
    exact ⟨fun k => a (k.imp id (.imp id same)), b, c⟩
  · rw [e]
    exact ⟨fun _ => rfl, rfl, Nat.zero_le _⟩

theorem DutyCut.evaluate (h : DutyCut r s) : DutyCut r (evaluate s) := by
  obtain ⟨e, -⟩ | e := evaluate_cases s
  · rw [e]; exact h
  · rw [e]; exact .inl rfl

theorem Unevaluated.evaluate (h : Unevaluated cut line r s) : Unevaluated cut line r (evaluate s) where
  host := by obtain ⟨e, -⟩ | e := evaluate_cases s <;> rw [e] <;> exact h.host
  ranges := by obtain ⟨e, -⟩ | e := evaluate_cases s <;> rw [e] <;> exact h.ranges
  tables := by obtain ⟨e, -⟩ | e := evaluate_cases s <;> rw [e] <;> exact h.tables
  store := by obtain ⟨e, -⟩ | e := evaluate_cases s <;> rw [e] <;> exact h.store
  duty k := evaluate_duty (h.duty k)
  cutoff c := (h.cutoff c).evaluate
  regulation k off := (evaluate_regulation (h.regulation k)).2.1 (.inl off)
  settled := by obtain ⟨e, -⟩ | e := evaluate_cases s <;> rw [e] <;> exact h.settled
  ident := by obtain ⟨e, -⟩ | e := evaluate_cases s <;> rw [e] <;> exact h.ident
  share := by obtain ⟨e, -⟩ | e := evaluate_cases s <;> rw [e] <;> exact h.share

/-- An evaluation brings the chain up to date; it leaves the share as it is. -/
theorem Unevaluated.evaluated (h : Unevaluated cut line r s) (share : ShareSafe r → ShareSafe s) :
    Sound cut line r (Machine.evaluate s) :=
  have k := h.evaluate
  { host := k.host
    ranges := k.ranges
    tables := k.tables
    store := k.store
    duty := fun x => evaluate_duty (h.duty x)
    budget := fun _ => evaluate_budget s
    cutoff := k.cutoff
    regulation := fun x => evaluate_regulation (h.regulation x)
    settled := k.settled
    ident := k.ident
    share := by obtain ⟨e, -⟩ | e := evaluate_cases s <;> rw [e] <;> exact share }

theorem Sound.evaluate (h : Sound cut line r s) : Sound cut line r (evaluate s) :=
  h.unevaluated.evaluated h.share

/-! ## The share (R53, R60, R63) -/

/-- The own share is within the own demand: no peer has the own number. -/
theorem newShare_le (others : ∀ e ∈ s.shu.peers, e.station ≠ s.cfg.station) :
    newShare s ≤ dOwnInUse s := by
  unfold newShare
  split
  next session =>
    refine shareOf_allocate_le _ fun a m own => ?_
    rw [activeSet, if_pos session] at m
    obtain m | m := List.mem_append.1 m
    · rw [List.mem_singleton.1 m]
    · obtain ⟨e, me, rfl⟩ := List.mem_map.1 m
      exact absurd own (others e (List.mem_of_mem_filter me))
  next => exact Nat.zero_le _

/-- SHU's results alone change: the share, the own flags and what is handed. -/
abbrev SharesOnly (x y : Shu) : Prop :=
  y = { x with
    session := y.session, joint := y.joint, dOwnHanded := y.dOwnHanded, sweepTarget := y.sweepTarget
    sNew := y.sNew, activeCount := y.activeCount, sEff := y.sEff, pendingRise := y.pendingRise
    joining := y.joining }

theorem Unevaluated.shares (h : Unevaluated cut line r s) (x : Shu) (last : Nat)
    (only : SharesOnly s.shu x) (join : s.shu.joining ≤ 2 → x.joining ≤ 2)
    (share : ShareSafe r → ShareHeld { s with shu := x, crg.dOwnLast := last }) :
    Unevaluated cut line r { s with shu := x, crg.dOwnLast := last } where
  host := h.host
  ranges := h.ranges
  tables k := by
    obtain ⟨a, b, c, d, e, f, g, i, j⟩ := h.tables k
    rw [only]
    exact ⟨a, b, c, d, e, f, g, join i, j⟩
  store := h.store
  duty := h.duty
  cutoff := h.cutoff
  regulation := h.regulation
  settled l := by
    rw [only]
    exact h.settled l
  ident := h.ident
  share := share

theorem Sound.shares (h : Sound cut line r s) (x : Shu) (only : SharesOnly s.shu x)
    (join : s.shu.joining ≤ 2 → x.joining ≤ 2) (share : ShareSafe r → ShareSafe { s with shu := x }) :
    Sound cut line r { s with shu := x } where
  host := h.host
  ranges := h.ranges
  tables k := by
    obtain ⟨a, b, c, d, e, f, g, i, j⟩ := h.tables k
    rw [only]
    exact ⟨a, b, c, d, e, f, g, join i, j⟩
  store := h.store
  duty := h.duty
  budget := h.budget
  cutoff := h.cutoff
  regulation := h.regulation
  settled l := by
    rw [only]
    exact h.settled l
  ident := h.ident
  share := share

/-- An extra computation writes S_new, the active count and S_eff (R60). -/
theorem extraComputation_shu (s : State) :
    extraComputation s = { s with shu := { s.shu with
      sNew := newShare s, activeCount := (activeSet s).length, sEff := (extraComputation s).shu.sEff } } := by
  rw [extraComputation_eq]
  split
  · rfl
  · split <;> rfl

/-- After an extra computation S_eff is within d_own and the fallback current (R60, R63). -/
theorem extraComputation_share (others : ∀ e ∈ s.shu.peers, e.station ≠ s.cfg.station)
    (idle : s.shu.session = false → s.shu.sEff = 0) :
    (extraComputation s).shu.sEff ≤ dOwnInUse s ∧
      (s.shu.conds.any = true → (extraComputation s).shu.sEff ≤ s.cfg.fallback) ∧
      (s.shu.session = false → (extraComputation s).shu.sEff = 0) := by
  have fair := newShare_le others
  rw [(extraComputation_shares s).2.2]
  cases session : s.shu.session with
  | false => simp [idle session]
  | true =>
    cases fallback : s.shu.conds.any with
    | true => simp
    | false => simp; omega

theorem dOwnOf_le (s : State) : dOwnOf s ≤ outletRating s := by
  unfold dOwnOf
  split
  · exact Nat.min_le_left _ _
  · exact Nat.zero_le _

theorem dOwnOf_inactive (h : s.psq.seq ≠ .active) : dOwnOf s = 0 := by simp [dOwnOf, h]

/-- What a hand-over writes (R53, R63). -/
theorem handDOwn_eq (s : State) :
    handDOwn s = { s with
      shu := { s.shu with
        dOwnHanded := min s.crg.dOwn (outletRating s), sEff := (handDOwn s).shu.sEff }
      crg.dOwnLast := s.crg.dOwn } := by
  unfold handDOwn keepFallback
  split <;> rfl

theorem handDOwn_sEff (s : State) :
    (handDOwn s).shu.sEff =
      if s.shu.session = true ∧ s.shu.conds.any = true then
        min (dOwnInUse (handDOwn s)) s.cfg.fallback
      else s.shu.sEff := by rw [handDOwn_shares]

/-- A hand-over of the chain's own d_own keeps to the rating, and to 0 outside ACTIVE (R53, R77). -/
theorem handDOwn_handed (own : s.crg.dOwn = dOwnOf s) :
    (handDOwn s).shu.dOwnHanded ≤ outletRating s ∧
      (handDOwn s).shu.dOwnHanded ≤ (handDOwn s).crg.dOwnLast ∧
      (s.psq.seq ≠ .active → (handDOwn s).shu.dOwnHanded = 0) := by
  rw [handDOwn_eq]
  refine ⟨Nat.min_le_right _ _, Nat.min_le_left _ _, fun off => ?_⟩
  show min s.crg.dOwn (outletRating s) = 0
  rw [own, dOwnOf_inactive off, Nat.zero_min]

theorem handLower_share (own : s.crg.dOwn = dOwnOf s) (h : ShareHeld s) :
    ShareSafe (if dOwnInUse (handDOwn s) < dOwnInUse s then extraComputation (handDOwn s)
      else handDOwn s) := by
  obtain ⟨demand, fallback, idle, last, others⟩ := h
  obtain ⟨rating, handed, inactive⟩ := handDOwn_handed own
  have eq := handDOwn_eq s
  have others' : ∀ e ∈ (handDOwn s).shu.peers, e.station ≠ (handDOwn s).cfg.station := by
    rw [eq]; exact others
  have idle' : (handDOwn s).shu.session = false → (handDOwn s).shu.sEff = 0 := by
    intro off
    have off : s.shu.session = false := by rw [eq] at off; exact off
    rw [handDOwn_sEff]
    simp [off, idle off]
  split
  · obtain ⟨a, b, c⟩ := extraComputation_share others' idle'
    rw [extraComputation_shu]
    refine ⟨a, ?_, b, c, handed, ?_, others'⟩
    · rw [eq] at rating ⊢; exact rating
    · rw [eq] at inactive ⊢; exact inactive
  next higher =>
    have sEff := handDOwn_sEff s
    refine ⟨?_, ?_, ?_, idle', handed, ?_, others'⟩
    · rw [sEff]
      split
      · exact Nat.min_le_left _ _
      · exact demand.trans (not_lt.1 higher)
    · rw [eq] at rating ⊢; exact rating
    · have cond : (handDOwn s).shu.conds = s.shu.conds := by rw [eq]
      rw [cond, sEff, handDOwn_cfg]
      intro any
      split
      · exact Nat.min_le_right _ _
      next no =>
        have off : s.shu.session = false := by simpa [any] using no
        rw [idle off]; exact Nat.zero_le _
    · rw [eq] at inactive ⊢; exact inactive

/-- An evaluation of R77 brings the chain and the share up to date. -/
theorem Unevaluated.evaluateAndHand (h : Unevaluated cut line r s) :
    Sound cut line r (evaluateAndHand s) := by
  unfold Machine.evaluateAndHand
  dsimp only
  split
  next lower =>
    have own : (Machine.evaluate s).crg.dOwn = dOwnOf (Machine.evaluate s) := by
      rw [evaluate_dOwn, dOwnOf_onlyChain (evaluate_onlyChain s)]
    have k := h.evaluate
    have share x := handLower_share own (k.share x)
    unfold handLower
    dsimp only
    have u : Unevaluated cut line r (if dOwnInUse (handDOwn (Machine.evaluate s)) <
        dOwnInUse (Machine.evaluate s) then extraComputation (handDOwn (Machine.evaluate s))
          else handDOwn (Machine.evaluate s)) := by
      have held (x : ShareSafe r) : ShareHeld (if dOwnInUse (handDOwn (Machine.evaluate s)) <
          dOwnInUse (Machine.evaluate s) then extraComputation (handDOwn (Machine.evaluate s))
            else handDOwn (Machine.evaluate s)) := by
        obtain ⟨a, -, c, d, e, -, g⟩ := share x
        exact ⟨a, c, d, e, g⟩
      split at held
      next c =>
        rw [if_pos c]
        rw [extraComputation_shu, handDOwn_eq] at held ⊢
        exact k.shares _ _ rfl id held
      next c =>
        rw [if_neg c]
        rw [handDOwn_eq] at held ⊢
        exact k.shares _ _ rfl id held
    split at u
    next c =>
      rw [if_pos c]
      simp only [if_pos c] at share
      exact u.evaluated share
    next c =>
      rw [if_neg c]
      simp only [if_neg c] at share
      exact u.evaluated share
  next higher =>
    rw [evaluate_dOwn, evaluate_dOwnLast, not_lt] at higher
    refine h.evaluated fun k => ?_
    obtain ⟨a, b, c, d, e⟩ := h.share k
    exact ⟨a, d.trans (higher.trans (dOwnOf_le s)), b, c, d,
      fun off => by have := dOwnOf_inactive off; omega, e⟩

theorem Sound.evaluateAndHand (h : Sound cut line r s) : Sound cut line r (evaluateAndHand s) :=
  h.unevaluated.evaluateAndHand

theorem Sound.setSession (h : Sound cut line r s) : Sound cut line r (setSession s) := by
  have k : Sound cut line r { s with fli.departed := false } := h.plain rfl
  refine Sound.shares k _ rfl (fun _ => Nat.zero_le _) fun x => ?_
  obtain ⟨a, b, c, -, d⟩ := h.share x
  exact ⟨a, b, c, nofun, d⟩

theorem Sound.clearSession (h : Sound cut line r s) : Sound cut line r (clearSession s) := by
  refine Sound.evaluate (h.shares _ rfl (fun _ => Nat.zero_le _) fun x => ?_)
  obtain ⟨-, b, -, -, d⟩ := h.share x
  exact ⟨Nat.zero_le _, b, fun _ => Nat.zero_le _, fun _ => rfl, d⟩

theorem Sound.endTargetReport (h : Sound cut line r s) : Sound cut line r (endTargetReport s) := by
  refine h.shares _ rfl id fun x => ?_
  obtain ⟨a, b⟩ := h.share x
  refine ⟨a.trans ?_, b⟩
  simp only [dOwnInUse]
  split <;> simp

theorem Sound.reportTarget (h : Sound cut line r s) : Sound cut line r (reportTarget s) := by
  refine Sound.evaluate ?_
  rw [extraComputation_shu]
  refine h.shares _ rfl id fun x => ?_
  obtain ⟨-, b, -, d, e⟩ := h.share x
  obtain ⟨i, j, k⟩ := extraComputation_share (s := { s with shu.sweepTarget := true }) e.2.2 d
  exact ⟨i, b, j, k, e⟩

/-- The JOINT flag at SHU. -/
theorem Sound.joint (h : Sound cut line r s) (b : Bool) : Sound cut line r { s with shu.joint := b } :=
  h.plain rfl

/-! ## Fallback (R61 to R63) -/

/-- What the conditions, once they are judged, make of the share: in an entry to fallback S_eff follows
(R63). -/
theorem keepFallback_share (conds : FallbackConds) (h : ShareSafe s) :
    ShareSafe (keepFallback { s with shu.conds := conds, shu.pendingRise := none }) := by
  obtain ⟨a, b, -, d, e⟩ := h
  unfold keepFallback
  split
  · exact ⟨Nat.min_le_left _ _, b, fun _ => Nat.min_le_right _ _, fun off => by simp_all, e⟩
  next no =>
    refine ⟨a, b, fun any => ?_, d, e⟩
    have off : s.shu.session = false := by simpa [show conds.any = true from any] using no
    show s.shu.sEff ≤ s.cfg.fallback
    rw [d off]; exact Nat.zero_le _

theorem keepFallback_markSession (f : SessionFlags → SessionFlags) (s : State) :
    keepFallback (markSession f s) = markSession f (keepFallback s) :=
  (apply_ite (markSession f) (s.shu.session = true ∧ s.shu.conds.any = true)
    { s with shu.sEff := fallbackShare s } s).symm

theorem keepFallback_raiseEvent (k : EventKind) (s : State) :
    keepFallback (raiseEvent k s) = raiseEvent k (keepFallback s) :=
  (apply_ite (raiseEvent k) (s.shu.session = true ∧ s.shu.conds.any = true)
    { s with shu.sEff := fallbackShare s } s).symm

/-- The entry to fallback, with the share first. -/
theorem enterFallback_eq (s : State) :
    enterFallback s = evaluate (markSession (fun f => { f with fallbackUsed := true })
      (raiseEvent .shareFallback (keepFallback { s with shu.pendingRise := none }))) := by
  rw [enterFallback, keepFallback_markSession, keepFallback_raiseEvent]

/-- The conditions are judged anew. Where the line is the one R36 gives, the line is settled with it. -/
theorem Sound.updateFallback' (h : Sound cut False r s)
    (settled : line → s.fli.line = lineTarget s) :
    Sound cut line r (updateFallback s) := by
  have judged (any : s.shu.conds.any = true ∨ (fallbackConds s).any = false) :
      Sound cut line r { s with shu.conds := fallbackConds s } :=
    { h with
      settled := fun l => ⟨settled l, rfl⟩
      share := fun k => by
        obtain ⟨a, b, c, d⟩ := h.share k
        refine ⟨a, b, fun any' => ?_, d⟩
        obtain any | none := any
        · exact c any
        · rw [none] at any'; cases any' }
  unfold updateFallback
  dsimp only
  split
  next out enters =>
    rw [enterFallback_eq]
    refine Sound.evaluate (Sound.markSession (Sound.raiseEvent ?_ _) _)
    have k : Sound cut line r (keepFallback { s with shu.conds := fallbackConds s, shu.pendingRise := none }) := by
      have share x := keepFallback_share (fallbackConds s) (h.share x)
      unfold keepFallback at share ⊢
      split at share
      next c =>
        rw [if_pos c]
        exact { h with
          settled := fun l => ⟨settled l, rfl⟩
          share := share }
      next c =>
        rw [if_neg c]
        exact { h with
          settled := fun l => ⟨settled l, rfl⟩
          share := share }
    exact k
  next any _ => exact Sound.evaluate (Sound.raiseEvent (judged (.inl any)) _)
  next ne₁ ne₂ =>
    refine judged ?_
    cases a : s.shu.conds.any with
    | true => exact .inl rfl
    | false =>
      cases b : (fallbackConds s).any with
      | false => exact .inr rfl
      | true => exact (ne₁ a b).elim

theorem Sound.updateFallback (h : Sound cut line r s) : Sound cut line r (updateFallback s) :=
  Sound.updateFallback' (h.weaken id False.elim) fun l => (h.settled l).1

/-! ## The grid, the ramp and the loops (R72, R81, R83 to R85) -/

theorem Sound.newRms (h : Sound cut line r s) (k : Phase) : Sound cut line r (newRms k s) := by
  unfold Machine.newRms
  dsimp only
  generalize gridRangeOf _ _ = g
  generalize vPhOf _ = v
  have t : Sound cut line r
      { s with crg.rmsSeen := s.crg.rmsSeen.set k true, crg.vPh := v, crg.gridRange := g } := h.plain rfl
  have u := t.onlyIf (g && !s.crg.gridRange) (t.raiseEvent .gridRange)
  split
  · exact u.evaluate
  · exact u.evaluateAndHand

theorem Sound.takeOutOfRange (h : Sound cut line r s) (b : Bool) :
    Sound cut line r (takeOutOfRange b s) := by
  unfold Machine.takeOutOfRange
  dsimp only
  generalize gridRangeOf _ _ = g
  have t : Sound cut line r { s with msq.outOfRange := b, crg.gridRange := g } := h.plain rfl
  split
  · exact t
  · exact t.evaluateAndHand

theorem evaluate_stale (h : (evaluate s).crg.stale = true) : (evaluate s).crg.iTarget = 0 := by
  rw [evaluate_crg] at h ⊢
  exact iTargetOf_stale h

theorem Sound.rampEvent (h : Sound cut line r s) : Sound cut line r (rampEvent s) := by
  have k := h.evaluate
  have stale := evaluate_stale (s := s)
  unfold Machine.rampEvent
  dsimp only
  split
  next on =>
    exact
      { k with
        ranges := k.ranges
        share := k.share
        regulation := fun x => by
          obtain ⟨-, -, d⟩ := k.regulation x
          refine ⟨Nat.min_le_right _ _, fun y => ?_, d⟩
          have st := y.resolve_left (by rw [on.1]; simp)
          show min _ (Machine.evaluate s).crg.iTarget = 0
          rw [stale st, Nat.min_zero] }
  next => exact k

theorem Sound.runLoops (h : Sound cut line r s) : Sound cut line r (runLoops s) :=
  { h with
    ranges := fun x => by
      obtain ⟨a, b, -, d⟩ := h.ranges x
      exact ⟨piIntegrator_bounds _ _ _ _ a, piIntegrator_bounds _ _ _ _ b,
        ⟨compareValue_le _ _ _, compareValue_le _ _ _, compareValue_le _ _ _,
          (piOutput_le _ _ _).trans (by decide)⟩, d⟩
    regulation := h.regulation
    duty := h.duty
    budget := h.budget
    share := h.share }

theorem Sound.loopEvent (h : Sound cut line r s) : Sound cut line r (loopEvent s) := by
  unfold Machine.loopEvent
  split
  · have k : Sound cut line r { s with ptu.troughCount := 0 } := h.plain rfl
    exact k.onlyIf _ k.runLoops
  · exact h

theorem Sound.freshnessExpiry (h : Sound cut line r s) : Sound cut line r (freshnessExpiry s) := by
  unfold Machine.freshnessExpiry
  split
  · refine Unevaluated.evaluateAndHand (Unevaluated.raiseEvent ?_ _)
    have k := h.unevaluated
    exact { k with ranges := k.ranges, share := k.share }
  · exact h

/-! ## The heater (R122 to R134) -/

theorem formBudget_duty (h : DutyHeld s) : DutyHeld (formBudget s) := by
  unfold formBudget
  dsimp only
  cases c : s.htr.budget != 0 && (budgetOf s).1 == 0 with
  | true => exact ⟨fun _ => rfl, rfl, Nat.zero_le _⟩
  | false =>
    obtain ⟨a, b, d⟩ := h
    refine ⟨fun k => a (k.imp id (.imp id fun z => ?_)), b, d⟩
    rw [onlyIf_false] at z
    simpa [show (budgetOf s).1 = 0 from z] using c

theorem DutyCut.formBudget (h : DutyCut r s) : DutyCut r (formBudget s) := by
  unfold Machine.formBudget
  dsimp only
  cases s.htr.budget != 0 && (budgetOf s).1 == 0 with
  | true => exact .inl rfl
  | false => exact h

theorem followRelay_duty (h : DutyHeld s) : DutyHeld (followRelay s) := by
  unfold followRelay
  split
  · exact ⟨fun _ => rfl, rfl, Nat.zero_le _⟩
  · exact ⟨fun _ => rfl, rfl, Nat.zero_le _⟩
  · exact h

theorem formRequest_duty (h : DutyHeld s) : DutyHeld (formRequest s) :=
  formBudget_duty (s := { s with htr.pHeatReq := heatRequest s.htr }) h

theorem formRequest_budget (s : State) : BudgetHeld (formRequest s) := formBudget_budget _

theorem Sound.followRelay (h : Sound cut line r s) : Sound cut line r (followRelay s) := by
  have duty := followRelay_duty (s := s)
  unfold Machine.followRelay at duty ⊢
  split
  next a b =>
    rw [a, b] at duty
    exact { h with
      ranges := h.ranges, regulation := h.regulation, settled := h.settled, share := h.share
      duty := fun k => duty (h.duty k)
      budget := h.budget
      cutoff := fun _ => .inl rfl }
  next a b =>
    rw [a, b] at duty
    exact { h with
      ranges := h.ranges, regulation := h.regulation, settled := h.settled, share := h.share
      duty := fun k => duty (h.duty k)
      budget := h.budget
      cutoff := fun _ => .inl rfl }
  next => exact h

/-- The request's update leaves everything but the request, the budget, its source and the duty. -/
theorem Sound.formRequest (h : Sound cut line r s) : Sound cut line r (formRequest s) := by
  have duty k := formRequest_duty (s := s) (h.duty k)
  have budget := formRequest_budget s
  have cutoff c := DutyCut.formBudget (s := { s with htr.pHeatReq := heatRequest s.htr }) (h.cutoff c)
  unfold Machine.formRequest Machine.formBudget at *
  dsimp only at *
  generalize hc : (s.htr.budget != 0 &&
    (budgetOf { s with htr.pHeatReq := heatRequest s.htr }).1 == 0) = c at *
  cases c with
  | true =>
    exact { h with
      ranges := h.ranges, regulation := h.regulation, settled := h.settled, share := h.share
      duty := duty, budget := fun _ => budget, cutoff := cutoff }
  | false =>
    exact { h with
      ranges := h.ranges, regulation := h.regulation, settled := h.settled, share := h.share
      duty := duty, budget := fun _ => budget, cutoff := cutoff }

theorem Sound.handHeatRequest (h : Sound cut line r s) : Sound cut line r (handHeatRequest s) :=
  Sound.evaluateAndHand (h.plain rfl)

theorem Sound.selectHeater (h : Sound cut line r s) : Sound cut line r (selectHeater s) := by
  unfold Machine.selectHeater
  dsimp only
  generalize heaterChoice _ s = c
  have k : Sound cut line r (Machine.formRequest (Machine.followRelay { s with htr.state := c })) :=
    Sound.formRequest (Sound.followRelay (h.plain rfl))
  split
  · exact k
  · exact k.handHeatRequest

theorem Sound.setIsolate (h : Sound cut line r s) (b : Bool) : Sound cut line r (setIsolate b s) := by
  unfold Machine.setIsolate
  split
  · exact h
  · exact Sound.selectHeater (h.plain rfl)

theorem Sound.takeTemperature (h : Sound cut line r s) : Sound cut line r (takeTemperature s) := by
  refine Sound.handHeatRequest ?_
  refine Sound.plain (s := Machine.selectHeater { s with htr.tBat := batteryTemperature s }) ?_ rfl
  exact Sound.selectHeater (h.plain rfl)

theorem Sound.heaterOvercurrent (h : Sound cut line r s) : Sound cut line r (heaterOvercurrent s) := by
  have k : Sound cut line r (Machine.selectHeater { s with htr.overcurrent := true }) :=
    Sound.selectHeater (h.plain rfl)
  exact k.onlyIf _ (k.raiseEvent _)

theorem Sound.heaterOpenDetect (h : Sound cut line r s) : Sound cut line r (heaterOpenDetect s) := by
  unfold Machine.heaterOpenDetect
  split
  · refine Sound.raiseEvent (Sound.selectHeater ?_) _
    exact h.plain rfl
  · exact h

/-- The latch's message to the heater restores the duty's claim (R130). -/
theorem Sound.heaterTripped (h : Sound False line r s) : Sound cut line r (heaterTripped s) :=
  Sound.zeroDuty (h.plain rfl)

theorem Sound.relaySettleExpiry (h : Sound cut line r s) : Sound cut line r (relaySettleExpiry s) :=
  { h with
    ranges := h.ranges, regulation := h.regulation, settled := h.settled, share := h.share
    duty := fun k => by
      obtain ⟨a, b⟩ := h.duty k
      exact ⟨fun x => a (x.imp id (.imp nofun id)), b⟩
    budget := h.budget
    cutoff := h.cutoff }

end Sys2Proof.Machine
end

section
/-! PROOF. The sequencer's changes of state, the line and the Insulation Monitor keep `Sound` (R1, R8, R36, R37, R44,
R51, R136 to R168). -/

namespace Sys2Proof.Machine

variable {cut line : Prop} {r s : State}

/-! ## Changes of the sequencer's state (R1, R44) -/

/-- What a change of state writes in the sequencer's record besides the state (R6, R13). -/
theorem leaveState_eq (q : SeqState) (p : Psq) :
    leaveState q p = { p with
      seq := q, query := (leaveState q p).query, identTimer := (leaveState q p).identTimer
      assembly := (leaveState q p).assembly, prevCode := (leaveState q p).prevCode
      batteryLow := (leaveState q p).batteryLow } := by
  unfold leaveState
  cases p.seq <;> rfl

/-- The sequencer's state changes together with the identification; the evaluation that follows brings the chain, the
budget and the share up to date (R73). -/
theorem Sound.reseat {line' : Prop} (h : Sound cut line r s) (new : SeqState) (x : Option Identification)
    (c : Option IdentCopy) (f : Bool)
    (copy : s.psq.seq = new → new ≠ .active ∨ c = s.shu.identCopy)
    (ident : IdentHeld r → IdentHeld { s with psq.seq := new, psq.ident := x })
    (settled : line' → LineHeld { s with
      psq.seq := new, psq.ident := x, shu.identCopy := c, fli.foreignReported := f }) :
    Sound cut line' r (setSeq new
      { s with psq.ident := x, shu.identCopy := c, fli.foreignReported := f }) := by
  unfold Machine.setSeq
  split
  next same =>
    have same : s.psq.seq = new := same
    subst same
    exact
      { h with
        settled := settled
        ident := ident
        share := fun k => by
          obtain ⟨a, rating, b, d, e, inactive, g⟩ := h.share k
          refine ⟨a, ?_, b, d, e, inactive, g⟩
          obtain off | rfl := copy rfl
          · rw [inactive off]; exact Nat.zero_le _
          · exact rating }
  next =>
    refine Unevaluated.evaluateAndHand (Unevaluated.raiseEvent ?_ _)
    rw [leaveState_eq]
    have u := h.unevaluated
    exact { u with settled := settled, ident := ident, share := u.share }

theorem Sound.setSeq {line' : Prop} (h : Sound cut line r s) (new : SeqState)
    (ident : IdentHeld r → IdentHeld { s with psq.seq := new })
    (settled : line' → LineHeld { s with psq.seq := new }) :
    Sound cut line' r (setSeq new s) :=
  h.reseat new s.psq.ident s.shu.identCopy s.fli.foreignReported (fun _ => .inr rfl) ident settled

/-- The states in which the line is OFFLINE whatever the plug (R36). -/
abbrev SeqState.lineOff (q : SeqState) : Prop := q = .unplugged ∨ q = .plugSettle

/-- Between two states with a settled plug the line's state stays the one of R36. -/
theorem LineHeld.seq {q : SeqState} (h : LineHeld s) (was : ¬ s.psq.seq.lineOff) (is : ¬ q.lineOff) :
    LineHeld { s with psq.seq := q } := by
  obtain ⟨a, b⟩ := h
  refine ⟨?_, b⟩
  have off : Machine.lineOff { s with psq.seq := q } = Machine.lineOff s := by
    have u : (s.psq.seq == .unplugged) = false := by simpa using fun e => was (.inl e)
    have p : (s.psq.seq == .plugSettle) = false := by simpa using fun e => was (.inr e)
    have u' : (q == .unplugged) = false := by simpa using fun e => is (.inl e)
    have p' : (q == .plugSettle) = false := by simpa using fun e => is (.inr e)
    simp [Machine.lineOff, u, p, u', p']
  unfold lineTarget at a ⊢
  rw [off]
  exact a

theorem not_lineOff_of_isolated {q : SeqState} (h : q.isolated = true) : ¬ q.lineOff := by
  rintro (rfl | rfl) <;> cases h

theorem Sound.setPhase (h : Sound cut line r s) (p : IsoPhase) (iso : s.psq.seq.isolated = true) :
    Sound cut line r (setPhase p s) := by
  have off : s.psq.seq ≠ .active := by rintro e; rw [e] at iso; cases iso
  refine Sound.raiseEvent ?_ _
  exact
    { h with
      ranges := h.ranges
      duty := h.duty
      budget := fun k => by
        obtain ⟨b, c⟩ := h.budget k
        exact ⟨by simpa [off] using b, by simpa [off] using c⟩
      regulation := fun k => by
        obtain ⟨a, b, c, d⟩ := h.regulation k
        exact ⟨a, b, c, fun _ => d off⟩
      settled := fun l => (h.settled l).seq (not_lineOff_of_isolated iso) (by simp)
      ident := fun _ k => by simp at k
      share := fun k => by
        obtain ⟨a, b, c, d, e, f, g⟩ := h.share k
        exact ⟨a, b, c, d, e, fun _ => f off, g⟩ }

theorem Sound.takeRelease (h : Sound cut line r s) : Sound cut line r (takeRelease s) := by
  unfold Machine.takeRelease
  split
  next iso =>
    refine Sound.setPhase ?_ _ (by simp [iso, SeqState.isolated])
    exact h.plain rfl
  next => exact h

/-- The report is taken in ACTIVE and SUSPENDED alone (R22). -/
theorem Sound.enterIsolation (h : Sound cut line r s) (ret : ReturnState) {x : ReturnState}
    (taken : returnStateOf s.psq.seq = some x) : Sound cut line r (enterIsolation ret s) := by
  have off : ¬ s.psq.seq.lineOff := by rintro (e | e) <;> rw [e] at taken <;> cases taken
  have k : Sound cut line r
      { s with psq.isoReturn := some ret, psq.stopTimer := true, psq.stopCause := none, psq.forced := false } :=
    h.plain rfl
  exact k.setSeq _ (fun _ => by simp) fun l => (k.settled l).seq off (by simp)

/-! ## The monitor's own record -/

theorem Sound.monitor (h : Sound cut line r s) (m : Imn)
    (counts : s.imn.clearCount ≤ 3 ∧ s.imn.backoff ≤ 8 ∧ s.imn.measureFaults ≤ 255 →
      m.clearCount ≤ 3 ∧ m.backoff ≤ 8 ∧ m.measureFaults ≤ 255) :
    Sound cut line r { s with imn := m } :=
  { h with
    tables := fun x => by
      obtain ⟨a, b, c, d, e, f, g, i, k⟩ := h.tables x
      exact ⟨a, b, c, d, e, f, g, i, counts k⟩
    settled := h.settled
    share := h.share }

theorem Sound.startCycle (h : Sound cut line r s) : Sound cut line r (startCycle s) := h.plain rfl

theorem Sound.stopInjection (h : Sound cut line r s) : Sound cut line r (stopInjection s) := h.plain rfl

theorem Sound.noteChange (h : Sound cut line r s) (old new : Evaluation) :
    Sound cut line r (noteChange old new s) := by
  unfold Machine.noteChange
  dsimp only
  split
  · exact h
  · exact (h.onlyIf _ (h.markSession _)).raiseEvent _

theorem Sound.judgeOwn (h : Sound cut line r s) (x : Nat) : Sound cut line r (judgeOwn x s) := by
  refine Sound.noteChange ?_ _ _
  exact h.plain rfl

theorem Sound.judgeNet (h : Sound cut line r s) (x : Nat) : Sound cut line r (judgeNet x s) := by
  refine Sound.noteChange ?_ _ _
  exact h.plain rfl

theorem Sound.endUnmonitored (h : Sound cut line r s) : Sound cut line r (endUnmonitored s) := by
  have k : Sound cut line r { s with imn.unmonitored := false, imn.unmonTimer := false } := h.plain rfl
  exact k.onlyIf _ (k.raiseEvent _)

theorem Sound.startSelfCheck (h : Sound cut line r s) : Sound cut line r (startSelfCheck s) := by
  unfold Machine.startSelfCheck
  split
  · split
    · exact h.plain rfl
    · refine Sound.startCycle (Sound.setIsolate ?_ _)
      exact h.plain rfl
  · exact h

theorem Sound.failSelfCheck (h : Sound cut line r s) : Sound cut line r (failSelfCheck s) := by
  refine Sound.raiseEvent (Sound.setIsolate ?_ _) _
  exact h.plain rfl

theorem Sound.failClearing (h : Sound cut line r s) : Sound cut line r (failClearing s) := by
  have k : Sound cut line r { s with imn.clearing := false, imn.lastClearing := some false } := h.plain rfl
  exact (k.onlyIf _ (k.setIsolate _)).raiseEvent _

theorem Sound.endLocalChecks (h : Sound cut line r s) : Sound cut line r (endLocalChecks s) := by
  have k := h.onlyIf s.imn.selfCheck.isRunning h.failSelfCheck
  exact k.onlyIf _ k.failClearing

/-! ## Sweeps -/

theorem Sound.clearTarget (h : Sound cut line r s) : Sound cut line r (clearTarget s) :=
  Sound.endTargetReport (h.plain rfl)

theorem Sound.endSweep (h : Sound cut line r s) (o : SweepOutcome) (hold : Bool) :
    Sound cut line r (endSweep o hold s) := by
  refine Sound.raiseEvent ?_ _
  exact h.plain rfl

theorem Sound.endLeading (h : Sound cut line r s) (l : LeaderRecord) (o : SweepOutcome) (hold : Bool) :
    Sound cut line r (endLeading l o hold s) := ((h.enqueue _).endSweep o hold).clearTarget

theorem Sound.sweepOffline (h : Sound cut line r s) : Sound cut line r (sweepOffline s) :=
  Sound.clearTarget (h.plain rfl)

theorem Sound.ownNotFound (h : Sound cut line r s) (l : LeaderRecord) :
    Sound cut line r (ownNotFound l s) := (h.endLeading l .notFound true).takeRelease

theorem Sound.startOwnStep (h : Sound cut line r s) (l : LeaderRecord) :
    Sound cut line r (startOwnStep l s) := by
  unfold Machine.startOwnStep
  dsimp only
  have k (x : LeaderRecord) (b : FrameBody) : Sound cut line r
      (Machine.raiseEvent .sweep (Machine.enqueue b { s with imn.sweep := .leading x })) := by
    refine (Sound.enqueue ?_ _).raiseEvent _
    exact h.plain rfl
  split
  next ret taken =>
    refine Sound.reportTarget (Sound.enterIsolation ?_ ret (x := ret) ?_)
    · exact (k _ _).plain rfl
    · simpa using taken
  next => exact (k _ _).ownNotFound _

theorem Sound.startStep (h : Sound cut line r s) (l : LeaderRecord) :
    Sound cut line r (startStep l s) := by
  unfold Machine.startStep
  split
  · exact h.startOwnStep l
  · refine (Sound.enqueue ?_ _).raiseEvent _
    exact h.plain rfl

theorem Sound.nextStep (h : Sound cut line r s) (l : LeaderRecord) :
    Sound cut line r (nextStep l s) := h.startStep _

theorem Sound.startSweep (h : Sound cut line r s) : Sound cut line r (startSweep s) := by
  refine Sound.startStep ((Sound.enqueue ?_ _).raiseEvent _) _
  exact h.plain rfl

theorem Sound.checkSweepStart (h : Sound cut line r s) : Sound cut line r (checkSweepStart s) :=
  h.onlyIf _ h.startSweep

theorem Sound.abandonSweep (h : Sound cut line r s) : Sound cut line r (abandonSweep s) := by
  unfold Machine.abandonSweep
  split
  · exact h.endLeading _ _ _
  · exact h

theorem Sound.yieldRole (h : Sound cut line r s) : Sound cut line r (yieldRole s) := by
  unfold Machine.yieldRole
  split
  · refine Sound.abandonSweep (Sound.removeMeasureFrames (Sound.stopInjection ?_))
    exact h.monitor _ fun k => ⟨Nat.zero_le _, k.2⟩
  · exact h

theorem Sound.interference (h : Sound cut line r s) : Sound cut line r (interference s) := by
  refine Sound.raiseEvent ?_ _
  exact h.yieldRole.monitor _ fun k => ⟨k.1, le_rfl, k.2.2⟩

theorem Sound.takeRole (h : Sound cut line r s) : Sound cut line r (takeRole s) := by
  refine Sound.checkSweepStart (Sound.startCycle (Sound.endUnmonitored ?_))
  exact h.monitor _ fun k => ⟨Nat.zero_le _, k.2⟩

/-! ## Changes of mode (R138) -/

theorem Sound.contactorClosed (h : Sound cut line r s) : Sound cut line r (contactorClosed s) := by
  have k : Sound cut line r { s with imn.contactorClosed := true } := h.plain rfl
  unfold Machine.contactorClosed
  dsimp only
  split
  · refine Sound.stopInjection ?_
    exact k.endLocalChecks.monitor _ fun k => ⟨Nat.zero_le _, k.2⟩
  · exact k

theorem Sound.forgetNet (h : Sound cut line r s) : Sound cut line r (forgetNet s) := by
  have k : Sound cut line r { s with imn.net := .none } := h.plain rfl
  exact k.onlyIf _ (k.raiseEvent _)

theorem Sound.enterLocal (h : Sound cut line r s) : Sound cut line r (enterLocal s) := by
  refine Sound.startSelfCheck (Sound.startCycle (Sound.forgetNet (Sound.endUnmonitored ?_)))
  exact h.monitor _ fun k => ⟨Nat.zero_le _, k.2⟩

theorem Sound.loseRole (h : Sound cut line r s) : Sound cut line r (loseRole s) := by
  unfold Machine.loseRole
  split
  · split
    · exact h
    · exact h.abandonSweep
  · exact h

theorem Sound.contactorOpened (h : Sound cut line r s) : Sound cut line r (contactorOpened s) := by
  have k : Sound cut line r { s with imn.contactorClosed := false } := h.plain rfl
  unfold Machine.contactorOpened
  dsimp only
  split
  · exact k
  · exact k.enterLocal
  · exact k.removeMeasureFrames.enterLocal.loseRole

/-! ## The target (R158 to R160) -/

theorem Sound.releaseTarget (h : Sound cut line r s) : Sound cut line r (releaseTarget s) := by
  have k : Sound cut line r (Machine.endTargetReport { s with imn.target := none }) :=
    Sound.endTargetReport (h.plain rfl)
  unfold Machine.releaseTarget
  split
  · exact h
  · dsimp only
    split
    · exact k.takeRelease
    · exact k.plain rfl
    · exact k.plain rfl
    · exact k

theorem Sound.isolationReached (h : Sound cut line r s) : Sound cut line r (isolationReached s) := by
  unfold Machine.isolationReached
  split
  · exact Sound.takeRelease (h.plain rfl)
  · split
    · exact Sound.startCycle (h.plain rfl)
    · refine Sound.startCycle (Sound.enqueue ?_ _)
      exact h.plain rfl
    · exact h

theorem Sound.leftSweep (h : Sound cut line r s) : Sound cut line r (leftSweep s) := by
  unfold Machine.leftSweep
  split
  · split
    · exact (h.endLeading _ _ _).checkSweepStart
    · exact h.clearTarget
  · exact h.clearTarget

theorem Sound.leaveTarget (h : Sound cut line r s) (q : SeqState) : Sound cut line r (leaveTarget q s) := by
  unfold Machine.leaveTarget
  split
  · exact h.clearTarget
  · exact h.clearTarget
  · exact h.leftSweep
  · exact h

/-! ## The line (R36, R37, R51) -/

theorem Sound.emptyPeers (h : Sound cut line r s) : Sound cut False r (emptyPeers s) := by
  have k : Sound cut False r { s with shu.peers := [], shu.overflow := 0 } :=
    { h with
      tables := fun x => by
        obtain ⟨a, b, -, d, e, f, -, g⟩ := h.tables x
        exact ⟨a, b, .nil, d, e, f, Nat.zero_le _, g⟩
      settled := nofun
      share := fun x => by
        obtain ⟨a, b, c, d, e, f, -⟩ := h.share x
        exact ⟨a, b, c, d, e, f, nofun⟩ }
  exact k.onlyIf _ (k.raiseEvent _)

theorem Sound.changeLine (h : Sound cut line r s) (target : LineState) :
    Sound cut False r (changeLine target s) := by
  have k : Sound cut False r { s with fli := enterLine target s.cfg.station s.fli } :=
    { h with
      tables := fun x => by
        obtain ⟨a, b, c, d, e, f, g⟩ := h.tables x
        obtain ⟨e', f'⟩ := enterLine_counts target s.cfg.station s.fli
        exact ⟨a, enterLine_queue b, c, d, e'.trans e, f'.trans f, g⟩
      settled := nofun
      share := h.share }
  unfold Machine.changeLine
  dsimp only
  have k := k.onlyIf (target == .online && s.fli.line == .silent) (k.raiseEvent .lineResumed)
  have k := k.onlyIf (target == .offline) (f := fun x => Machine.sweepOffline (Machine.emptyPeers x))
    k.emptyPeers.sweepOffline
  exact k.onlyIf _ k.yieldRole

/-- What `yieldRole` and a sweep's end change of FLI is the queue. -/
theorem endLeading_fli (l : LeaderRecord) (o : SweepOutcome) (hold : Bool) (s : State) :
    (endLeading l o hold s).fli = { s.fli with queue := (endLeading l o hold s).fli.queue } := by
  have same : (endLeading l o hold s).fli = (enqueue (.sweepResult (outcomeCode o) (outcomeStation o)
      (BitVec.ofNat 8 l.unresponsive)) s).fli := by simp [endLeading]
  rw [same]
  exact enqueue_fli _ s

theorem yieldRole_fli (s : State) :
    (yieldRole s).fli = { s.fli with queue := (yieldRole s).fli.queue } := by
  unfold yieldRole
  split
  · unfold abandonSweep
    split
    · rw [endLeading_fli]; rfl
    · rfl
  · rfl

theorem changeLine_fli (target : LineState) (s : State) :
    (changeLine target s).fli =
      { enterLine target s.cfg.station s.fli with queue := (changeLine target s).fli.queue } := by
  have sub (t : State) (e : t.fli = enterLine target s.cfg.station s.fli) (b : Bool) :
      (onlyIf b yieldRole t).fli =
        { enterLine target s.cfg.station s.fli with queue := (onlyIf b yieldRole t).fli.queue } := by
    cases b
    · rw [onlyIf_false, e]
    · rw [onlyIf_true, yieldRole_fli, e]
  refine sub _ ?_ _
  cases target == LineState.offline <;> cases target == .online && s.fli.line == .silent <;>
    simp [sweepOffline, emptyPeers, onlyIf, apply_ite State.fli]

theorem enterLine_flags (target : LineState) (n : Nat) (f : Fli) :
    (enterLine target n f).duplicate = f.duplicate ∧
      (target ≠ .offline → (enterLine target n f).silentTimer = f.silentTimer) := by
  unfold enterLine
  split
  · exact ⟨rfl, fun h => absurd rfl h⟩
  · split <;> exact ⟨rfl, fun _ => rfl⟩
  · exact ⟨rfl, fun _ => rfl⟩
  · exact ⟨rfl, fun _ => rfl⟩

/-- The line is the one of R36 after it has gone there. -/
theorem lineTarget_changeLine (s : State) : lineTarget (changeLine (lineTarget s) s) = lineTarget s := by
  obtain ⟨-, -, psq, -⟩ := changeLine_keeps (lineTarget s) s
  obtain ⟨-, -, -, ⟨-, configured⟩, -⟩ := ((Sound.refl (line := False) True s nofun).changeLine (lineTarget s)).host
  obtain ⟨duplicate, silent⟩ := enterLine_flags (lineTarget s) s.cfg.station s.fli
  have fli := changeLine_fli (lineTarget s) s
  cases off : lineOff s with
  | true =>
    have off' : lineOff (changeLine (lineTarget s) s) = true := by rw [← off]; unfold lineOff; rw [psq]
    have offline : lineTarget s = .offline := by simp [lineTarget, off]
    rw [offline] at off' ⊢
    simp [lineTarget, off']
  | false =>
    have online : lineTarget s ≠ .offline := by
      rw [lineTarget, off, if_neg Bool.false_ne_true]
      split
      · simp
      · split <;> simp
    unfold lineTarget lineOff lineListens heldFeeder at *
    rw [psq, configured, fli]
    dsimp only
    rw [duplicate, silent online]

/-- A decision of the line settles it (R36, R61). -/
theorem Sound.refreshLine {line' : Prop} (h : Sound cut line r s) : Sound cut line' r (refreshLine s) := by
  unfold Machine.refreshLine
  refine Sound.updateFallback' ?_ fun _ => ?_
  · split
    · exact h.weaken id False.elim
    · exact h.changeLine _
  · split
    next same => exact same.symm
    next => rw [changeLine_line, lineTarget_changeLine]

/-- An entry to a state settles the line. The identification may be new where the state is IDENTIFIED (R8). -/
theorem Sound.enterSeqWith {line' : Prop} (h : Sound cut line r s) (q : SeqState) (x : Option Identification)
    (ident : IdentHeld r → IdentHeld { s with psq.seq := q, psq.ident := x }) :
    Sound cut line' r (enterSeq q { s with psq.ident := x }) := by
  refine Sound.refreshLine (line := False) ?_
  unfold identOnEntry
  split
  · exact h.reseat _ none none false (fun _ => .inl (by simp)) (fun _ _ => rfl) nofun
  · exact h.reseat _ none none false (fun _ => .inl (by simp)) (fun _ _ => rfl) nofun
  · exact h.reseat _ x _ s.fli.foreignReported (fun _ => .inl (by simp)) ident nofun
  · exact h.reseat q x s.shu.identCopy s.fli.foreignReported (fun _ => .inr rfl) ident nofun

theorem Sound.enterSeq {line' : Prop} (h : Sound cut line r s) (q : SeqState)
    (ident : q = .plugSettle ∨ q = .identifying → IdentHeld r → s.psq.ident = none) :
    Sound cut line' r (enterSeq q s) := by
  cases q with
  | unplugged => exact h.enterSeqWith .unplugged none fun _ _ => rfl
  | plugged => exact h.enterSeqWith .plugged none fun _ _ => rfl
  | plugSettle => exact h.enterSeqWith _ s.psq.ident fun k _ => ident (.inl rfl) k
  | identifying => exact h.enterSeqWith _ s.psq.ident fun k _ => ident (.inr rfl) k
  | _ => exact h.enterSeqWith _ s.psq.ident fun _ k => by simp at k

end Sys2Proof.Machine
end

section
/-! PROOF. The Tariff Meter and the Plug Sequencer's operations keep `Sound` (R1 to R24, R99, R169 to R183). -/

namespace Sys2Proof.Machine

variable {cut line : Prop} {r s : State}

/-! ## The meter (R169 to R179) -/

/-- An open session becomes another one whose items are sound. -/
theorem Sound.session (h : Sound cut line r s) {ss : Session} (m : Mtr) (was : s.mtr.session = some ss)
    (table : m.table = s.mtr.table)
    (items : ItemsOf ss.base.items ss.running →
      ∀ x, m.session = some x → ItemsOf x.base.items x.running) :
    Sound cut line r { s with mtr := m } :=
  h.meter m table fun k => items ((itemsSound_some was).1 k)

theorem Sound.nearEndCheck (h : Sound cut line r s) : Sound cut line r (nearEndCheck s) := by
  unfold Machine.nearEndCheck
  split
  next base x was =>
    dsimp only
    refine Sound.onlyIf _ ?_ (Sound.raiseEvent ?_ _)
    all_goals
      refine h.session _ was rfl fun k y e => ?_
      cases e
      exact k.nearEnd _
  next => exact h

theorem Sound.endChain (h : Sound cut line r s) : Sound cut line r (endChain s) := by
  refine h.meter _ rfl fun k ss e => ?_
  obtain ⟨x, was, rfl⟩ := Option.map_eq_some_iff.1 e
  exact (k x was |> ItemsOf.ended : ItemsOf _ _)

theorem Sound.chainEnd (h : Sound cut line r s) (cause : EndCause) (suspend : Bool) :
    Sound cut line r (chainEnd cause suspend s).1 := by
  unfold Machine.chainEnd chainEndEvent
  dsimp only
  split
  · exact h.endChain.raiseEvent _
  · exact h.endChain

/-- Nothing runs after a chain's end (R179). -/
theorem chainEnd_running (cause : EndCause) (suspend : Bool) (s : State) (ss : Session)
    (e : (chainEnd cause suspend s).1.mtr.session = some ss) : ss.running = none := by
  unfold chainEnd chainEndEvent at e
  dsimp only at e
  have e : (s.mtr.session.map fun ss => { ss with running := none }) = some ss := by
    split at e <;> exact e
  obtain ⟨x, -, rfl⟩ := Option.map_eq_some_iff.1 e
  rfl

theorem takeCheckpoint_mtr (s : State) : (takeCheckpoint s).mtr = s.mtr := by simp

theorem Sound.activate (h : Sound cut line r s) (c : DescCopy) : Sound cut line r (activate c s).1 := by
  unfold Machine.activate
  split
  · exact h
  next ss was =>
    dsimp only
    split
    · exact h.chainEnd _ _
    next room =>
      refine Sound.nearEndCheck (Sound.takeCheckpoint ?_)
      refine h.session _ was rfl fun _ x e => ?_
      cases e
      exact ItemsOf.start (not_le.1 room) c

/-- An activation that asks for a stop has ended the chain (R175). -/
theorem activate_running {c : DescCopy} {s t : State} {q : MeterRequest} (asks : activate c s = (t, some q))
    (ss : Session) (e : t.mtr.session = some ss) : ss.running = none := by
  unfold activate at asks
  split at asks
  · cases asks
  · dsimp only at asks
    split at asks
    · have t' : t = (chainEnd .lineLimit false s).1 := by rw [asks]
      rw [t'] at e
      exact chainEnd_running _ _ _ _ e
    · cases asks

theorem Sound.activatePrefetched (h : Sound cut line r s) : Sound cut line r (activatePrefetched s).1 := by
  unfold Machine.activatePrefetched
  split
  · exact h.activate _
  · exact h

/-- What is left over goes to the overrun of an item nothing runs on (R177, R179). -/
theorem Sound.overrun (h : Sound cut line r s) (e c : Nat)
    (ended : ∀ ss, s.mtr.session = some ss → ss.running = none) :
    Sound cut line r (onLastItem (.addOverrun e c) s) := by
  refine h.meter _ rfl fun k ss x => ?_
  obtain ⟨y, was, rfl⟩ := Option.map_eq_some_iff.1 x
  have k : ItemsOf y.base.items y.running := k y was
  rw [ended y was] at k
  show ItemsOf _ y.running
  rw [ended y was]
  exact k.overrun _

theorem Sound.applyPair (fuel : Nat) (first : Bool) (e c : Nat) (h : Sound cut line r s) :
    Sound cut line r (applyPair fuel first e c s).1 := by
  induction fuel generalizing first e c s with
  | zero => exact h
  | succ n ih =>
    unfold Machine.applyPair
    split
    next => exact h
    next base was => exact h.overrun _ _ fun ss e => by rw [was] at e; cases e; rfl
    next base x was =>
      dsimp only
      have k : Sound cut line r (onLastItem (.add (x.take first e c).2.1 (x.take first e c).2.2)
          { s with mtr.session := some ⟨base, some (x.take first e c).1⟩ }) := by
        refine h.session _ was rfl fun k y e => ?_
        cases e
        exact k.take first _ _
      split
      next =>
        split
        next =>
          split
          next => exact (k.chainEnd _ _).overrun _ _ (chainEnd_running _ _ _)
          next d _ =>
            have a := k.activate d
            split
            next t q asks =>
              rw [asks] at a
              exact a.overrun _ _ (activate_running asks)
            next t goes =>
              rw [goes] at a
              split
              · exact a
              · exact ih false _ _ a
        next => exact (k.chainEnd _ _).overrun _ _ (chainEnd_running _ _ _)
      next => exact k.nearEndCheck

theorem Sound.formEnergies (h : Sound cut line r s) : Sound cut line r (formEnergies s).1 := by
  unfold Machine.formEnergies
  dsimp only
  exact (h.onlyIf _ (h.markSession _)).plain rfl

theorem Sound.countElapsed (h : Sound cut line r s) : Sound cut line r (countElapsed s) := by
  refine h.meter _ rfl fun k ss e => ?_
  obtain ⟨x, was, rfl⟩ := Option.map_eq_some_iff.1 e
  exact k x was

theorem Sound.meterInterval (h : Sound cut line r s) : Sound cut line r (meterInterval s).1 := by
  unfold Machine.meterInterval
  dsimp only
  refine Sound.checkpointIfDue (Sound.applyPair _ _ _ _ (Sound.countElapsed (Sound.countInterval ?_ _ _)))
  exact h.formEnergies.plain rfl

theorem Sound.takeSample (h : Sound cut line r s) : Sound cut line r (takeSample s) := h.plain rfl

theorem Sound.openSession (h : Sound cut line r s) (stamp : Word32) (c : Option DescCopy) :
    Sound cut line r (openSession stamp c s).1 := by
  have k := h.raiseSessionCounter
  unfold Machine.openSession
  dsimp only
  have k : Sound cut line r { Machine.raiseSessionCounter s with
      mtr.session := some (newSession (Machine.raiseSessionCounter s).mst.working.sessions stamp
        (Machine.raiseSessionCounter s)) } := by
    refine k.meter _ rfl fun _ ss e => ?_
    cases e
    exact (⟨Nat.zero_le _, nofun⟩ : ItemsOf [] none)
  split
  · exact k.activate _
  · exact k

theorem Sound.extend (h : Sound cut line r s) (next : Byte) : Sound cut line r (extend next s) := by
  unfold Machine.extend
  split
  · exact h.answerEmpty _
  next ss was =>
    split
    · exact h.answerEmpty _
    · split
      · exact h.answerEmpty _
      next x running =>
        split
        · exact h.answerEmpty _
        · split
          · exact h.answerEmpty _
          · refine Sound.answerEmpty ?_ _
            refine h.session _ was rfl fun k y e => ?_
            cases e
            obtain ⟨len, last⟩ := k
            exact ⟨len, fun t e => by cases e; exact last x running⟩

theorem Sound.sessionSplit (h : Sound cut line r s) (slot : Byte) (stamp : Word32) :
    Sound cut line r (sessionSplit slot stamp s) := by
  unfold Machine.sessionSplit
  repeat' split
  · exact h.answerEmpty _
  · exact h.answerEmpty _
  · exact h.answerEmpty _
  · exact h.answerEmpty _
  · exact ((h.closeSession _ _).openSession _ _).answerEmpty _

/-! ## Relays and FAULT (R4, R20) -/

theorem Sound.openContactor (h : Sound cut line r s) : Sound cut line r (openContactor s) := by
  unfold Machine.openContactor
  split
  · exact Sound.contactorOpened (h.plain rfl)
  · exact h

theorem Sound.openPrecharge (h : Sound cut line r s) : Sound cut line r (openPrecharge s) := by
  unfold Machine.openPrecharge
  split
  · exact h.plain rfl
  · exact h

theorem Sound.openRelays (h : Sound cut line r s) : Sound cut line r (openRelays s) :=
  h.openPrecharge.openContactor

theorem Sound.stopTimers (h : Sound cut line r s) : Sound cut line r (stopTimers s) := h.plain rfl

theorem Sound.forgetStop (h : Sound cut line r s) : Sound cut line r (forgetStop s) := h.plain rfl

theorem Sound.endSession (h : Sound cut line r s) (cause : EndCause) :
    Sound cut line r (endSession cause s) := (h.closeSession _ _).clearSession

/-- An entry to a state of which R8 asks nothing, or which forgets the identification. -/
theorem Sound.enterLater {line' : Prop} (h : Sound cut line r s) (q : SeqState) (settle : q ≠ .plugSettle)
    (query : q ≠ .identifying) : Sound cut line' r (Machine.enterSeq q s) :=
  h.enterSeq q fun e => by simp_all

theorem Sound.enterFault {line' : Prop} (h : Sound cut line r s) (cause : FaultCause) :
    Sound cut line' r (enterFault cause s) := by
  unfold Machine.enterFault
  dsimp only
  have k := (((h.clearEnable.openRelays.stopTimers.endSession (faultEndCause cause)).leaveTarget
    s.psq.seq).dropPrefetched).forgetStop
  refine Sound.enterLater (line := line) ?_ _ (by simp) (by simp)
  exact k.plain rfl

theorem Sound.weldAtOnce (h : Sound cut line r s) : Sound cut line r (weldAtOnce s) := by
  unfold Machine.weldAtOnce
  split
  · exact h.enterFault _
  · exact h

/-! ## Trips (R19, R99, R130) -/

theorem Sound.tripTold (h : Sound cut line r s) : Sound cut line r (tripTold s) :=
  h.onlyIf _ (h.enterFault _)

/-- The latch alone; the duty has still to follow (R99, R130). -/
theorem Sound.latch (h : Sound cut line r s) (x : Option TripLatch) :
    Sound False line r { s with ptu.trip := x } :=
  { h with
    ranges := h.ranges
    duty := h.duty
    budget := h.budget
    cutoff := nofun
    regulation := h.regulation
    settled := h.settled
    share := h.share }

theorem Sound.setTrip (h : Sound cut line r s) (c : TripCause) : Sound cut line r (setTrip c s) :=
  (((h.latch _).clearEnable.raiseEvent _).tripTold).heaterTripped

theorem Sound.raiseTrip (h : Sound cut line r s) (c : TripCause) : Sound cut line r (raiseTrip c s) := by
  unfold Machine.raiseTrip
  split
  · exact h.setTrip c
  next t latched =>
    exact
      { h with
        ranges := h.ranges
        duty := h.duty
        budget := h.budget
        cutoff := fun x => by
          obtain z | ⟨e, k⟩ := h.cutoff x
          · exact .inl z
          · exact .inr ⟨e, fun _ => k (by simp [tripped, latched])⟩
        regulation := h.regulation
        settled := h.settled
        share := h.share }

/-! ## Stops (R13, R14, R22, R24) -/

theorem Sound.finishStop {line' : Prop} (h : Sound cut line r s) : Sound cut line' r (finishStop s) := by
  unfold Machine.finishStop
  dsimp only
  have k : Sound cut line r { s with imn.pendingRelease := false } := h.plain rfl
  have t : Sound cut line' r (Machine.enterSeq .identified (Machine.forgetStop (Machine.stopTimers
      (Machine.endSession (s.psq.stopCause.getD .hostStop) { s with imn.pendingRelease := false })))) :=
    Sound.enterLater ((k.endSession _).stopTimers.forgetStop) _ (by simp) (by simp)
  exact t.onlyIf _ (t.enqueue _)

theorem Sound.isolationOpen (h : Sound cut line r s) (iso : s.psq.seq.isolated = true) :
    Sound cut line r (isolationOpen s) := by
  unfold Machine.isolationOpen
  split
  · exact h.finishStop
  · exact (h.setPhase _ iso).isolationReached

theorem Sound.contactorReadsOpen (h : Sound cut line r s) : Sound cut line r (contactorReadsOpen s) := by
  unfold Machine.contactorReadsOpen
  split
  · exact h
  · split
    · exact h.finishStop
    next iso => exact h.isolationOpen (by simp [iso, SeqState.isolated])
    · exact h

theorem Sound.rampDown (h : Sound cut line r s) (expired : Bool) : Sound cut line r (rampDown expired s) := by
  unfold Machine.rampDown
  split
  · split
    · refine Sound.contactorReadsOpen (Sound.openContactor (Sound.clearEnable ?_))
      exact h.plain rfl
    · exact h
  next iso =>
    dsimp only
    refine Sound.contactorReadsOpen (Sound.setPhase (Sound.openContactor (Sound.clearEnable ?_)) _ ?_)
    · exact h.plain rfl
    · simp [openContactor_psq, iso, SeqState.isolated]
  · exact h

theorem Sound.rejoinStopped (h : Sound cut line r s) : Sound cut line r (rejoinStopped s) := by
  unfold Machine.rejoinStopped
  split
  · exact h.finishStop
  · exact h

theorem Sound.isolatedStop (h : Sound cut line r s) : Sound cut line r (isolatedStop s) := by
  unfold Machine.isolatedStop
  split
  · exact h.finishStop
  · exact h.stopTimers.openRelays.rejoinStopped
  · exact h

theorem Sound.recordIsolatedStop (h : Sound cut line r s) (cause : EndCause) :
    Sound cut line r (recordIsolatedStop cause s) := by
  unfold Machine.recordIsolatedStop
  dsimp only
  have k : Sound cut line r { s with
      psq.stopCause := some cause, psq.forced := s.psq.forced && !s.psq.stopCause.isNone } := h.plain rfl
  exact (k.onlyIf _ k.leftSweep).isolatedStop

theorem Sound.startStop {line' : Prop} (h : Sound cut line r s) (cause : EndCause) :
    Sound cut line' r (startStop cause s) := by
  refine Sound.enterLater (line := line) ?_ _ (by simp) (by simp)
  exact (h.leaveTarget s.psq.seq).plain rfl

theorem Sound.stopRequest (h : Sound cut line r s) (cause : EndCause) :
    Sound cut line r (stopRequest cause s) := by
  unfold Machine.stopRequest
  split
  · exact h.startStop _
  · exact h.startStop _
  · split
    · exact h
    · exact h.recordIsolatedStop _
  · exact h

theorem Sound.suspendRequest (h : Sound cut line r s) : Sound cut line r (suspendRequest s) := by
  unfold Machine.suspendRequest
  split
  · exact h.enterLater _ (by simp) (by simp)
  · exact h.plain rfl
  · exact h

theorem Sound.takeRequest (h : Sound cut line r s) (q : Option MeterRequest) :
    Sound cut line r (takeRequest q s) := by
  unfold Machine.takeRequest
  split
  · exact h
  · exact h.suspendRequest
  · exact h.stopRequest _

/-! ## Energizing (R10, R11, R23) -/

theorem Sound.startPrecharge {line' : Prop} (h : Sound cut line r s) :
    Sound cut line' r (startPrecharge s) := by
  refine Sound.enterLater (line := line) ?_ _ (by simp) (by simp)
  exact h.plain rfl

theorem Sound.joinNetwork (h : Sound cut line r s) : Sound cut line r (joinNetwork s) :=
  Sound.contactorClosed (Sound.armEnable (h.joint true))

theorem Sound.becomeActive {line' : Prop} (h : Sound cut line r s) :
    Sound cut line' r (becomeActive s) := by
  unfold Machine.becomeActive
  dsimp only
  have k : Sound cut line r { s with psq.contactorTimer := false } := h.plain rfl
  refine Sound.joinNetwork (Sound.enterLater (line := line) (Sound.setSession ?_) _ (by simp) (by simp))
  exact (k.openPrecharge.openSession _ _).plain rfl

theorem Sound.rejoin {line' : Prop} (h : Sound cut line r s) : Sound cut line' r (rejoin s) := by
  unfold Machine.rejoin
  dsimp only
  have k : Sound cut line r { s with psq.contactorTimer := false, psq.isoReturn := none } := h.plain rfl
  refine Sound.joinNetwork (k.openPrecharge.enterLater _ ?_ ?_) <;> split <;> simp

theorem Sound.contactorReadsClosed (h : Sound cut line r s) :
    Sound cut line r (contactorReadsClosed s) := by
  unfold Machine.contactorReadsClosed
  split
  · split
    · exact h.becomeActive
    · exact h.rejoin
    · exact h
  · exact h

theorem Sound.prechargeResult (h : Sound cut line r s) : Sound cut line r (prechargeResult s) := by
  unfold Machine.prechargeResult
  split
  · exact Sound.contactorReadsClosed (h.plain rfl)
  · exact h

/-! ## Cancelling (R16, R21) -/

theorem Sound.withdraw (h : Sound cut line r s) : Sound cut line r (withdraw s) :=
  h.stopTimers.openRelays.dropPrefetched

theorem Sound.cancelComplete (h : Sound cut line r s) : Sound cut line r (cancelComplete s) :=
  h.onlyIf _ (h.forgetStop.enterLater _ (by simp) (by simp))

theorem Sound.ownFaultTold (h : Sound cut line r s) : Sound cut line r (ownFaultTold s) := by
  unfold Machine.ownFaultTold
  split
  · exact h.withdraw.forgetStop.enterLater _ (by simp) (by simp)
  · exact h.startStop _
  · exact h.startStop _
  · exact h.recordIsolatedStop _
  · exact h

/-! ## The plug (R2, R3, R17, R18) -/

theorem Sound.plugSettled (h : Sound cut line r s) : Sound cut line r (plugSettled s) := by
  unfold Machine.plugSettled
  split
  · exact (h.enterLater _ (by simp) (by simp)).raiseEvent _
  · exact h

theorem Sound.releaseButton (h : Sound cut line r s) : Sound cut line r (releaseButton s) := by
  unfold Machine.releaseButton
  split
  · exact h.stopRequest _
  · exact h.stopRequest _
  · exact h.stopRequest _
  · exact h
  · exact h
  · exact h.enqueue _

theorem Sound.deadLoss {line' : Prop} (h : Sound cut line r s) : Sound cut line' r (deadLoss s) :=
  ((h.endSession _).dropPrefetched.stopTimers.forgetStop).enterLater _ (by simp) (by simp)

/-- The identification is forgotten outside ACTIVE; the line is decided by the operation around it. -/
theorem Sound.forgetIdent (h : Sound cut line r s) (off : s.psq.seq ≠ .active) :
    Sound cut False r (forgetIdent s) :=
  { h with
    settled := nofun
    ident := fun _ _ => rfl
    share := fun k => by
      obtain ⟨a, -, b, c, d, e, f⟩ := h.share k
      exact ⟨a, (e off).le.trans (Nat.zero_le _), b, c, d, e, f⟩ }

theorem Sound.plugLost (h : Sound cut line r s) : Sound cut False r (plugLost s) := by
  have h := h.weaken (line' := False) id False.elim
  unfold Machine.plugLost
  split
  · exact h.raiseTrip _
  · split
    next fault => exact h.forgetIdent (by simp [fault])
    · exact h
    · exact h.deadLoss

theorem Sound.lossOfPlug (h : Sound cut line r s) : Sound cut False r (lossOfPlug s) := by
  refine Sound.weldAtOnce (Sound.plugLost (line := line) ?_)
  exact h.plain rfl

theorem Sound.detectPlug (h : Sound cut line r s) (old new : ProxLevel) :
    Sound cut line r (detectPlug old new s) := by
  unfold Machine.detectPlug
  split
  next seq =>
    split
    · exact h
    · refine Sound.enterSeq (line := line) ?_ _ fun _ k => h.ident k (.inl seq)
      exact h.plain rfl
  · exact h.plain rfl
  · exact h.plain rfl
  · exact h

/-- The plug's level alone; the line is decided by the operation around it. -/
theorem Sound.prox (h : Sound cut line r s) (p : ProxLevel) :
    Sound cut False r { s with psq.prox := p } :=
  { h with
    ranges := h.ranges
    duty := h.duty
    budget := h.budget
    regulation := h.regulation
    settled := nofun
    ident := h.ident
    share := h.share }

theorem Sound.takeProximity (h : Sound cut line r s) (v : Int) : Sound cut line r (takeProximity v s) := by
  have k := h.plugSettled
  unfold Machine.takeProximity
  dsimp only
  split
  next same =>
    rw [← same]
    exact Sound.detectPlug k _ _
  next =>
    refine Sound.refreshLine (line := False) ?_
    have t := (k.prox (classify v)).detectPlug (Machine.plugSettled s).psq.prox (classify v)
    split
    · exact t.releaseButton
    · exact t.lossOfPlug
    · exact t

/-! ## Results the sequencer takes (R13, R14, R102) -/

theorem Sound.batteryResult (h : Sound cut line r s) : Sound cut line r (batteryResult s) := h.plain rfl

theorem Sound.currentResult (h : Sound cut line r s) : Sound cut line r (currentResult s) :=
  h.onlyIf _ (h.rampDown _)

theorem Sound.linkResult (h : Sound cut line r s) : Sound cut line r (linkResult s) :=
  h.onlyIf _ (h.raiseTrip _)

end Sys2Proof.Machine
end

section
/-! PROOF. The Insulation Monitor's results and frames, the feeder line's rows and the share's period keep `Sound`
(R30 to R63, R136 to R168). -/

namespace Sys2Proof.Machine

variable {cut line : Prop} {r s : State}

/-! ## Results of the monitor (R142 to R150, R157, R162) -/

theorem Sound.setOwnFault (h : Sound cut line r s) : Sound cut line r (setOwnFault s) := by
  unfold Machine.setOwnFault
  split
  · exact h
  · dsimp only
    have k : Sound cut line r (Machine.ownFaultTold (Machine.raiseEvent .insulation
        { s with imn.ownFault := true })) := by
      refine Sound.ownFaultTold (Sound.raiseEvent ?_ _)
      exact h.plain rfl
    have k : Sound cut line r { Machine.ownFaultTold (Machine.raiseEvent .insulation
        { s with imn.ownFault := true }) with imn.selfCheck := .pending } := k.plain rfl
    split
    · exact k.startSelfCheck
    · exact k

theorem Sound.passSelfCheck (h : Sound cut line r s) : Sound cut line r (passSelfCheck s) := by
  refine Sound.raiseEvent ?_ _
  exact h.plain rfl

theorem Sound.selfCheckResult (h : Sound cut line r s) (rf passed : Nat) :
    Sound cut line r (selfCheckResult rf passed s) := by
  unfold Machine.selfCheckResult
  split
  · exact h.failSelfCheck
  · split
    · exact h.plain rfl
    · exact h.passSelfCheck

theorem Sound.passClearing (h : Sound cut line r s) : Sound cut line r (passClearing s) := by
  refine Sound.raiseEvent ?_ _
  exact h.plain rfl

theorem Sound.clearingResult (h : Sound cut line r s) (rf : Nat) :
    Sound cut line r (clearingResult rf s) := by
  unfold Machine.clearingResult
  split
  · exact h.failClearing
  · exact h.passClearing

theorem Sound.ownStepResult (h : Sound cut line r s) (l : LeaderRecord) :
    Sound cut line r (ownStepResult l s) := by
  unfold Machine.ownStepResult
  split
  · exact (h.endLeading _ _ _).setOwnFault
  · split
    · exact h.ownNotFound _
    · exact h.plain rfl

theorem Sound.ownConsequence (h : Sound cut line r s) (before : Evaluation) :
    Sound cut line r (ownConsequence before s) := by
  unfold Machine.ownConsequence
  split
  · exact h.ownStepResult _
  · exact h.onlyIf _ h.setOwnFault

theorem Sound.localResult (h : Sound cut line r s) (x : InsResult) :
    Sound cut line r (localResult x s) := by
  unfold Machine.localResult
  dsimp only
  have k : Sound cut line r { s with imn.localResult := some x, imn.localFlag := true } := h.plain rfl
  have t : Sound cut line r (Machine.noteVerdict x.rf (Machine.judgeOwn x.rf
      { s with imn.localResult := some x, imn.localFlag := true })) := (k.judgeOwn x.rf).plain rfl
  have u := t.ownConsequence s.imn.own
  split
  · exact (u.selfCheckResult x.rf _).onlyIf _ ((u.selfCheckResult x.rf _).clearingResult _)
  · exact u.onlyIf _ (u.clearingResult _)

theorem Sound.measureFault (h : Sound cut line r s) : Sound cut line r (measureFault s) := by
  refine Sound.raiseEvent ?_ _
  exact h.monitor _ fun ⟨a, b, _⟩ => ⟨a, b, Nat.min_le_left _ _⟩

theorem Sound.decideStep (h : Sound cut line r s) (rf : Nat) (l : LeaderRecord) :
    Sound cut line r (decideStep rf l s) := by
  unfold Machine.decideStep
  split
  · exact h.endLeading _ _ _
  · exact h.nextStep _

theorem Sound.alarmChange (h : Sound cut line r s) (before : Evaluation) :
    Sound cut line r (alarmChange before s) := h.onlyIf _ h.checkSweepStart

theorem Sound.jointResult (h : Sound cut line r s) (x : InsResult) :
    Sound cut line r (jointResult x s) := by
  unfold Machine.jointResult
  dsimp only
  have k : Sound cut line r { s with imn.jointResult := some x, imn.resultInRole := true } := h.plain rfl
  have u := (k.judgeNet x.rf).enqueue (.measureResult (BitVec.ofNat 16 x.rf) (if x.estimate then 1 else 0))
  split
  · exact u.decideStep _ _
  · exact u.alarmChange _

theorem Sound.cycleOutcome (h : Sound cut line r s) (uPlus uMinus : Int) (estimate : Bool) :
    Sound cut line r (cycleOutcome uPlus uMinus estimate s) := by
  unfold Machine.cycleOutcome
  dsimp only
  split
  · split
    · exact h.measureFault
    · exact h.localResult _
  · split
    · exact h.interference
    · exact h.jointResult _
  · exact h

/-! ## The halves of a cycle (R139, R140) -/

theorem Sound.announceHalf (h : Sound cut line r s) (x : CycleHalf) :
    Sound cut line r (announceHalf x s) := by
  unfold Machine.announceHalf
  split
  · exact (h.enqueue _).plain rfl
  · exact h

theorem Sound.endCycle (h : Sound cut line r s) (v : Int) (c : Cycle) :
    Sound cut line r (endCycle v c s) := by
  unfold Machine.endCycle
  dsimp only
  have k : Sound cut line r { s with imn.cycle := some .following, imn.driver := .plus } := h.plain rfl
  have u := k.cycleOutcome (c.uPlus.getD 0) v c.estimateAtEnd
  split
  · exact u.announceHalf _
  · exact u

theorem Sound.sampleHalf (h : Sound cut line r s) (v : Int) (c : Cycle) :
    Sound cut line r (sampleHalf v c s) := by
  unfold Machine.sampleHalf
  dsimp only
  split
  · split
    · exact h.endCycle _ _
    · refine Sound.announceHalf ?_ _
      exact h.plain rfl
  · exact h.plain rfl

theorem Sound.takeViso (h : Sound cut line r s) (v : Int) : Sound cut line r (takeViso v s) := by
  unfold Machine.takeViso
  split
  · exact h
  · split
    · refine Sound.announceHalf ?_ _
      exact h.plain rfl
    · exact h.sampleHalf _ _

/-! ## Frames delivered to the monitor (R144, R148, R155 to R163) -/

theorem Sound.hearMeasurer (h : Sound cut line r s) : Sound cut line r (hearMeasurer s) := h.plain rfl

theorem Sound.takeMeasureStart (h : Sound cut line r s) : Sound cut line r (takeMeasureStart s) := by
  unfold Machine.takeMeasureStart
  dsimp only
  split
  · exact h.hearMeasurer.interference
  · exact h.hearMeasurer

theorem Sound.takeMeasureResult (h : Sound cut line r s) (rf : Nat) (estimate : Bool) :
    Sound cut line r (takeMeasureResult rf estimate s) := by
  unfold Machine.takeMeasureResult
  dsimp only
  split
  · have k : Sound cut line r { Machine.hearMeasurer s with
        imn.jointResult := some ⟨rf, estimate, none, none⟩ } := h.hearMeasurer.plain rfl
    exact (k.judgeNet rf).endUnmonitored.plain rfl
  · exact h.hearMeasurer

theorem Sound.follow (h : Sound cut line r s) (leader : Nat) : Sound cut line r (follow leader s) := by
  refine Sound.raiseEvent ?_ _
  exact h.plain rfl

theorem Sound.takeAlert (h : Sound cut line r s) (sender : Nat) :
    Sound cut line r (takeAlert sender s) := by
  unfold Machine.takeAlert
  split
  · exact h.follow _
  · split
    · exact h.plain rfl
    · exact h
  · exact h

theorem Sound.answerSweep (h : Sound cut line r s) (code : Byte) :
    Sound cut line r (answerSweep code s) := h.enqueue _

theorem Sound.becomeTarget (h : Sound cut line r s) (index : Nat) :
    Sound cut line r (becomeTarget index s) := by
  unfold Machine.becomeTarget
  have k : Sound cut line r { s with imn.target := some ⟨index, none⟩ } := h.plain rfl
  split
  · exact h
  · split
    next ret taken => exact ((k.enterIsolation ret (x := ret) taken).reportTarget).raiseEvent _
    next =>
      split
      · exact h.answerSweep _
      · exact (k.raiseEvent _).answerSweep _

theorem Sound.serveStep (h : Sound cut line r s) (target index : Nat) :
    Sound cut line r (serveStep target index s) := by
  unfold Machine.serveStep
  split
  · exact h.becomeTarget _
  · exact h.releaseTarget

theorem Sound.takeSweepStep (h : Sound cut line r s) (sender target index : Nat) :
    Sound cut line r (takeSweepStep sender target index s) := by
  unfold Machine.takeSweepStep
  split
  · exact (h.follow _).serveStep _ _
  · split
    · refine Sound.serveStep ?_ _ _
      exact h.plain rfl
    · exact h
  · exact h

theorem Sound.takeSweepAnswer (h : Sound cut line r s) (sender code : Nat) :
    Sound cut line r (takeSweepAnswer sender code s) := by
  unfold Machine.takeSweepAnswer
  split
  · split
    · dsimp only
      split
      · exact h.nextStep _
      · exact Sound.startCycle (h.plain rfl)
    · exact h
  · exact h

theorem Sound.foundHere (h : Sound cut line r s) (o : SweepOutcome) :
    Sound cut line r (foundHere o s) := by
  unfold Machine.foundHere
  dsimp only
  have k := h.setOwnFault
  have d : Sound cut line r { Machine.setOwnFault s with imn.disagreement := true } := k.plain rfl
  refine Sound.endSweep (Sound.clearTarget (Sound.onlyIf _ k ?_)) _ _
  exact d.raiseEvent _

theorem Sound.takeResult (h : Sound cut line r s) (o : SweepOutcome) :
    Sound cut line r (takeResult o s) := by
  unfold Machine.takeResult
  dsimp only
  refine Sound.checkSweepStart ?_
  split
  · split
    · exact h.foundHere _
    · exact h.releaseTarget.endSweep _ _
  · exact h.releaseTarget.endSweep _ _
  · exact h.releaseTarget.endSweep _ _

theorem Sound.takeSweepResult (h : Sound cut line r s) (sender code found : Nat) :
    Sound cut line r (takeSweepResult sender code found s) := by
  unfold Machine.takeSweepResult
  split
  · split
    · exact h.takeResult _
    · exact h
  · exact h

/-! ## The monitor's timers and commands (R144, R150, R152, R156, R157, R165, R167) -/

theorem Sound.unmonitoredExpiry (h : Sound cut line r s) : Sound cut line r (unmonitoredExpiry s) := by
  unfold Machine.unmonitoredExpiry
  split
  · refine Sound.raiseEvent ?_ _
    exact h.plain rfl
  · exact h

theorem Sound.sweepAnswerTimeout (h : Sound cut line r s) : Sound cut line r (sweepAnswerTimeout s) := by
  unfold Machine.sweepAnswerTimeout
  split
  · split
    · exact h.nextStep _
    · exact h
  · exact h

theorem Sound.sweepCycleTimeout (h : Sound cut line r s) : Sound cut line r (sweepCycleTimeout s) := by
  unfold Machine.sweepCycleTimeout
  split
  · split
    · split
      · exact h.ownNotFound _
      · exact h.nextStep _
    · exact h
  · exact h

theorem Sound.leaderSilenceExpiry (h : Sound cut line r s) : Sound cut line r (leaderSilenceExpiry s) := by
  unfold Machine.leaderSilenceExpiry
  split
  · exact (h.endSweep _ _).releaseTarget.checkSweepStart
  · exact h

theorem Sound.sweepHoldExpiry (h : Sound cut line r s) : Sound cut line r (sweepHoldExpiry s) := by
  unfold Machine.sweepHoldExpiry
  split
  · exact Sound.checkSweepStart (h.plain rfl)
  · exact h

theorem Sound.startClearing (h : Sound cut line r s) : Sound cut line r (startClearing s) := by
  have k : Sound cut line r { s with imn.clearing := true } := h.plain rfl
  exact (k.onlyIf _ (k.setIsolate _)).startCycle

theorem Sound.clearInsulation (h : Sound cut line r s) : Sound cut line r (clearInsulation s) := by
  unfold Machine.clearInsulation
  repeat' split
  · exact h.answerEmpty _
  · exact h.answerEmpty _
  · exact h.answerEmpty _
  · exact h.startClearing.answerEmpty _

theorem Sound.readInsulation (h : Sound cut line r s) : Sound cut line r (readInsulation s) := h.plain rfl

/-! ## The peer table (R45 to R50) -/

/-- The peer table and the overflow count are new, and the conditions are judged by them (R61). -/
theorem Sound.peers (h : Sound cut line r s) (ps : List PeerEntry) (o : Nat)
    (shape : TablesHold s → PeersShape ps ∧ o ≤ 4)
    (others : ∀ e ∈ ps, e ∈ s.shu.peers ∨ e.station ≠ s.cfg.station ∨
      ∃ x ∈ s.shu.peers, e.station = x.station) :
    Sound cut line r (Machine.updateFallback { s with shu.peers := ps, shu.overflow := o }) := by
  have k : Sound cut False r { s with shu.peers := ps, shu.overflow := o } :=
    { h with
      tables := fun x => by
        obtain ⟨shape, small⟩ := shape (h.tables x)
        obtain ⟨a, b, -, d, e, f, -, g⟩ := h.tables x
        exact ⟨a, b, shape, d, e, f, small, g⟩
      settled := nofun
      share := fun x => by
        obtain ⟨a, b, c, d, e, f, g⟩ := h.share x
        refine ⟨a, b, c, d, e, f, fun y m => ?_⟩
        obtain m | ne | ⟨z, m, same⟩ := others y m
        · exact g y m
        · exact ne
        · rw [same]; exact g z m }
  exact k.updateFallback' fun l => (h.settled l).1

theorem Sound.extraAndEvaluate (h : Sound cut line r s) : Sound cut line r (extraAndEvaluate s) := by
  refine Sound.evaluate ?_
  rw [extraComputation_shu]
  refine h.shares _ rfl id fun x => ?_
  obtain ⟨-, b, -, d, e⟩ := h.share x
  obtain ⟨i, j, k⟩ := extraComputation_share e.2.2 d
  exact ⟨i, b, j, k, e⟩

theorem Sound.putEntry (h : Sound cut line r s) (e : PeerEntry) (extra : Bool)
    (shape : TablesHold s → PeersShape (putPeer e s.shu.peers)) (other : e.station ≠ s.cfg.station) :
    Sound cut line r (putEntry e extra s) := by
  have k := h.peers (putPeer e s.shu.peers) s.shu.overflow
    (fun x => ⟨shape x, by obtain ⟨-, -, -, -, -, -, o, -⟩ := x; exact o⟩)
    (fun x m => (mem_putPeer e x _ m).elim (fun e => .inr (.inl (e ▸ other))) .inl)
  unfold Machine.putEntry
  dsimp only
  split
  · exact k.extraAndEvaluate
  · exact k

theorem Sound.takeBeacon (h : Sound cut line r s) {station : Nat} (number : station < 64) (feeder : Nat)
    (demand draw : Word16) (flags : Byte) (resistance : Word16) (leader : Byte) :
    Sound cut line r (takeBeacon station feeder demand draw flags resistance leader s) := by
  unfold Machine.takeBeacon
  split
  · exact h
  next other =>
    have own : station ≠ s.cfg.station := fun e => other (.inl e)
    have low : 1 ≤ station := Nat.one_le_iff_ne_zero.2 fun e => other (.inr (.inl e))
    have high : station ≤ 62 := by
      have : station ≠ 63 := fun e => other (.inr (.inr e))
      omega
    split
    next old found =>
      refine h.putEntry _ _ (fun x => ?_) own
      obtain ⟨-, -, peers, -⟩ := x
      refine putPeer_shape peers ⟨low, high, Nat.zero_le _, ?_, Nat.min_le_left _ _⟩
        (.inl (show (findPeer station s.shu.peers).isSome = true by rw [found]; rfl))
      exact Nat.le_min.2 ⟨by decide, Nat.succ_le_succ (Nat.zero_le _)⟩
    next =>
      split
      next room =>
        refine Sound.raiseEvent (h.putEntry _ _ (fun x => ?_) own) _
        obtain ⟨-, -, peers, -⟩ := x
        exact putPeer_shape peers ⟨low, high, Nat.zero_le _, le_rfl, Nat.le_succ 1⟩ (.inr room)
      next =>
        exact h.peers s.shu.peers 4 (fun ⟨_, _, p, _⟩ => ⟨p, le_rfl⟩) fun _ m => .inl m

theorem Sound.removePeers (h : Sound cut line r s) (p : PeerEntry → Bool) :
    Sound cut line r (Machine.updateFallback { s with shu.peers := s.shu.peers.filter p }) :=
  h.peers _ s.shu.overflow
    (fun ⟨_, _, ps, _, _, _, o, _⟩ => ⟨ps.sublist List.filter_sublist, o⟩)
    fun _ m => .inl (List.mem_of_mem_filter m)

theorem Sound.takeLeave (h : Sound cut line r s) (station : Nat) :
    Sound cut line r (takeLeave station s) := by
  unfold Machine.takeLeave
  split
  · exact (h.removePeers _).raiseEvent _
  · exact h

theorem Sound.removeAged (h : Sound cut line r s) : Sound cut line r (removeAged s) :=
  (h.removePeers _).onlyIf _ ((h.removePeers _).raiseEvent _)

/-! ## Delivery (R33 to R35) -/

theorem Sound.electionAtBeacon (h : Sound cut line r s) (station : Nat) (measurer : Bool) :
    Sound cut line r (electionAtBeacon station measurer s) := by
  have t := h.onlyIf measurer h.hearMeasurer
  exact t.onlyIf _ t.yieldRole

theorem Sound.deliver (h : Sound cut line r s) (f : Frame) : Sound cut line r (deliver f s) := by
  unfold Machine.deliver
  dsimp only
  split
  · exact (h.takeBeacon f.station.isLt _ _ _ _ _ _).electionAtBeacon _ _
  · exact h.takeLeave _
  · exact h.takeAlert _
  · exact h.takeSweepStep _ _ _
  · exact h.takeSweepAnswer _ _
  · exact h.takeSweepResult _ _ _
  · exact h.takeMeasureStart
  · exact h.takeMeasureResult _ _

theorem Sound.route (h : Sound cut line r s) (f : Frame) : Sound cut line r (route f s) := by
  unfold Machine.route
  repeat' split
  · exact h
  · exact h.deliver _
  · exact h
  · refine Sound.raiseEvent ?_ _
    exact h.plain rfl

/-- A flag by which R36 decides the line is new, or the events and the attempt with it. -/
theorem Sound.lineFlags (h : Sound cut line r s) (f : Fli)
    (only : f = { s.fli with
      silentTimer := f.silentTimer, duplicate := f.duplicate, queue := f.queue, attempt := f.attempt
      errorCount := f.errorCount })
    (shape : QueueShape s.fli.queue → QueueShape f.queue)
    (count : s.fli.errorCount ≤ 15 → f.errorCount ≤ 15) : Sound cut False r { s with fli := f } := by
  rw [only]
  exact
    { h with
      tables := fun x => by
        obtain ⟨a, b, c, d, e, g⟩ := h.tables x
        exact ⟨a, shape b, c, d, count e, g⟩
      settled := nofun
      share := h.share }

theorem Sound.detectDuplicate (h : Sound cut line r s) (station : BitVec 6) :
    Sound cut line r (detectDuplicate station s) := by
  unfold Machine.detectDuplicate
  split
  · dsimp only
    have k : Sound cut False r { s with fli.duplicate := true } := h.lineFlags _ rfl id id
    have t : Sound cut line r _ := (k.raiseEvent .duplicate).refreshLine
    exact t.onlyIf _ t.emptyForDuplicate
  · exact h

theorem Sound.driveAck (h : Sound cut line r s) : Sound cut line r (driveAck s) := h.plain rfl

theorem Sound.takeGood (h : Sound cut line r s) (station : BitVec 6) (f : Option Frame) :
    Sound cut line r (takeGood station f s) := by
  have t := h.driveAck.detectDuplicate station
  unfold Machine.takeGood
  dsimp only
  split
  · exact t.route _
  · exact t

theorem Sound.receive (h : Sound cut line r s) (f : Frame) : Sound cut line r (receive f s) := by
  unfold Machine.receive
  split
  · exact h
  · exact h.takeGood _ _

theorem Sound.frameBits (h : Sound cut line r s) (bits : List Bool) :
    Sound cut line r (frameBits bits s) := by
  unfold Machine.frameBits
  split
  · exact h
  · split
    · exact h.plain rfl
    · exact h.driveAck
    · exact h.takeGood _ _

/-! ## Attempts (R30 to R32, R38, R40, R41) -/

theorem Sound.bitError (h : Sound cut line r s) : Sound cut line r (bitError s) := by
  unfold Machine.bitError
  split
  · exact h
  · dsimp only
    split
    next =>
      refine Sound.refreshLine (line := False) (Sound.raiseEvent ?_ _)
      exact h.lineFlags _ rfl (fun _ => .nil) fun _ => Nat.zero_le _
    next few =>
      have few : s.fli.errorCount + 1 ≤ 15 := Nat.le_of_lt_succ (not_le.1 few)
      have k : Sound cut line r { s with fli.errorCount := s.fli.errorCount + 1 } :=
        { h with
          tables := fun x => by
            obtain ⟨a, b, c, d, -, g⟩ := h.tables x
            exact ⟨a, b, c, d, few, g⟩
          settled := h.settled
          share := h.share }
      exact k.dropAttempt

theorem Sound.txComplete (h : Sound cut line r s) (heard : Bool) :
    Sound cut line r (txComplete heard s) := by
  unfold Machine.txComplete
  split
  · exact h
  next f _ =>
    have k : Sound cut line r { s with fli.errorCount := 0 } :=
      { h with
        tables := fun x => by
          obtain ⟨a, b, c, d, -, g⟩ := h.tables x
          exact ⟨a, b, c, d, Nat.zero_le _, g⟩
        settled := h.settled
        share := h.share }
    have k := k.leaveQueue
    unfold attemptOutcome
    split
    · exact k.plain rfl
    · unfold noteOutcome
      generalize Machine.leaveQueue { s with fli.errorCount := 0 } = t at k
      have u : Sound cut False r { t with fli.ackHistory := addOutcome heard t.fli.ackHistory } :=
        { k with
          tables := fun x => by
            obtain ⟨a, b, c, d, e, -, g⟩ := k.tables x
            refine ⟨a, b, c, d, e, ?_, g⟩
            exact (List.length_take_le 3 _)
          settled := nofun
          share := k.share }
      exact u.updateFallback' fun l => (k.settled l).1
    · exact k

theorem Sound.silentExpiry (h : Sound cut line r s) : Sound cut line r (silentExpiry s) := by
  unfold Machine.silentExpiry
  split
  · refine Sound.refreshLine (line := False) ?_
    exact h.lineFlags _ rfl id id
  · exact h

/-! ## The beacon period event (R50, R57, R146, R148) -/

/-- After a full computation S_eff is within d_own and the fallback current, whatever it was (R58, R59, R63). -/
theorem fullComputation_share (others : ∀ e ∈ s.shu.peers, e.station ≠ s.cfg.station)
    (idle : s.shu.session = false → s.shu.sEff = 0) :
    (fullComputation s).shu.sEff ≤ dOwnInUse s ∧
      (s.shu.conds.any = true → (fullComputation s).shu.sEff ≤ s.cfg.fallback) ∧
      (s.shu.session = false → (fullComputation s).shu.sEff = 0) := by
  have fair := newShare_le others
  unfold fullComputation fullRule
  split
  next off =>
    have off : s.shu.session = false := by simpa using off
    have zero : (computeShare s).shu.sEff = 0 := idle off
    rw [zero]
    exact ⟨Nat.zero_le _, fun _ => Nat.zero_le _, fun _ => rfl⟩
  next on =>
    have on : s.shu.session = true := by simpa using on
    split
    next any =>
      unfold keepFallback
      rw [if_pos ⟨on, any⟩]
      exact ⟨Nat.min_le_left _ _, fun _ => Nat.min_le_right _ _, fun off => by simp [on] at off⟩
    next none =>
      have none : s.shu.conds.any = false := by simpa using none
      refine ⟨?_, fun any => by simp [none] at any, fun off => by simp [on] at off⟩
      split
      · exact (Nat.min_le_left _ _).trans fair
      · unfold riseRule
        split
        · exact fair
        next more =>
          split
          · exact (not_le.1 more).le.trans fair
          · exact ((Nat.min_le_left _ _).trans (Nat.min_le_right _ _)).trans fair

/-- A full computation writes SHU's results alone (R57 to R59, R63). -/
theorem fullComputation_shu (s : State) :
    fullComputation s = { s with shu := { s.shu with
      sNew := newShare s, activeCount := (activeSet s).length, sEff := (fullComputation s).shu.sEff
      pendingRise := (fullComputation s).shu.pendingRise, joining := (fullComputation s).shu.joining } } := by
  unfold fullComputation fullRule keepFallback riseRule
  repeat' split
  all_goals rfl

theorem fullComputation_joining (h : s.shu.joining ≤ 2) : (fullComputation s).shu.joining ≤ 2 := by
  unfold fullComputation fullRule
  split
  · exact h
  · split
    · unfold keepFallback
      split <;> exact Nat.min_le_left _ _
    · split
      next few => exact few
      next =>
        unfold riseRule
        repeat' split
        all_goals exact h

/-- The table's aging and the overflow's count with the judgement that follows them (R48, R50, R57). -/
theorem Sound.ageTable (h : Sound cut line r s) :
    Sound cut line r (Machine.updateFallback (lowerOverflow (ageTable s))) := by
  have aged : ∀ e ∈ agePeers s.shu.peers, e ∈ s.shu.peers ∨ e.station ≠ s.cfg.station ∨
      ∃ x ∈ s.shu.peers, e.station = x.station := by
    intro e m
    obtain ⟨x, mx, rfl⟩ := List.mem_map.1 (List.mem_of_mem_filter m)
    exact .inr (.inr ⟨x, mx, rfl⟩)
  unfold lowerOverflow Machine.ageTable
  simp only [Machine.onlyIf]
  split
  · exact (h.raiseEvent .peers).peers (agePeers s.shu.peers) (s.shu.overflow - 1)
      (fun ⟨_, _, p, _, _, _, o, _⟩ => ⟨agePeers_shape p, (Nat.sub_le _ _).trans o⟩) aged
  · exact h.peers (agePeers s.shu.peers) (s.shu.overflow - 1)
      (fun ⟨_, _, p, _, _, _, o, _⟩ => ⟨agePeers_shape p, (Nat.sub_le _ _).trans o⟩) aged

theorem Sound.sharePeriod (h : Sound cut line r s) : Sound cut line r (sharePeriod s) := by
  unfold Machine.sharePeriod
  dsimp only
  refine Sound.enqueue ?_ _
  have k := h.ageTable
  generalize Machine.updateFallback (lowerOverflow (Machine.ageTable s)) = t at k ⊢
  have e := k.evaluate
  have own : (Machine.evaluate t).crg.dOwn = dOwnOf (Machine.evaluate t) := by
    rw [evaluate_dOwn, dOwnOf_onlyChain (evaluate_onlyChain t)]
  generalize Machine.evaluate t = u at e own ⊢
  obtain ⟨rating, handed, inactive⟩ := handDOwn_handed own
  have eq := handDOwn_eq u
  have share (x : ShareSafe r) : ShareSafe (fullComputation (handDOwn u)) := by
    obtain ⟨-, -, -, idle, -, -, others⟩ := e.share x
    have others : ∀ e ∈ (handDOwn u).shu.peers, e.station ≠ (handDOwn u).cfg.station := by
      rw [eq]; exact others
    have idle : (handDOwn u).shu.session = false → (handDOwn u).shu.sEff = 0 := by
      intro off
      have off : u.shu.session = false := by rw [eq] at off; exact off
      rw [handDOwn_sEff]
      simp [off, idle off]
    obtain ⟨a, b, c⟩ := fullComputation_share others idle
    rw [fullComputation_shu]
    refine ⟨a, ?_, b, c, handed, ?_, others⟩
    · rw [eq] at rating ⊢; exact rating
    · rw [eq] at inactive ⊢; exact inactive
  refine Unevaluated.evaluated ?_ share
  have held (x : ShareSafe r) : ShareHeld (fullComputation (handDOwn u)) := by
    obtain ⟨a, -, b, c, d, -, f⟩ := share x
    exact ⟨a, b, c, d, f⟩
  rw [fullComputation_shu, eq] at held ⊢
  refine e.unevaluated.shares _ _ rfl (fun j => ?_) held
  refine fullComputation_joining ?_
  exact j

/-- No clear count of 3 waits in JOINT-passive once the role has been taken or let go (R146). -/
theorem Sound.measuringRoleTake (h : Sound cut line r s) : Sound cut line r (measuringRoleTake s) := by
  unfold Machine.measuringRoleTake
  split
  · split
    · exact h.takeRole
    · exact h.monitor _ fun k => ⟨Nat.zero_le _, k.2⟩
  · exact h

theorem Sound.electionCounts (h : Sound cut line r s)
    (waits : s.imn.mode = .passive → s.imn.clearCount ≤ 2) : Sound cut line r (electionCounts s) := by
  refine h.monitor _ fun ⟨a, b, c⟩ => ⟨?_, (Nat.sub_le _ _).trans b, c⟩
  dsimp only
  split
  next passive =>
    split
    · exact Nat.succ_le_succ (waits passive)
    · exact Nat.zero_le _
  next => exact a

end Sys2Proof.Machine
end

section
/-! PROOF. The measurement's, the sequencer's, the port's and the trip's rows keep `Sound` (R1 to R25, R89 to R119,
R187, R193 to R197). -/

namespace Sys2Proof.Machine

variable {cut line : Prop} {r s : State}

/-! ## Scans (R108 to R113) -/

/-- The ranges of the measurement's record (R107, R117, R118). -/
abbrev ScanRanges (m : Msq) : Prop :=
  m.theta ≤ 255 ∧ m.troughs ≤ 65535 ∧
  ∀ i : Fin 16, slotMin i ≤ m.slots[i].latest ∧ m.slots[i].latest ≤ slotMax i

theorem Sound.scan (h : Sound cut line r s) (m : Msq) (ranges : ScanRanges s.msq → ScanRanges m) :
    Sound cut line r { s with msq := m } :=
  { h with
    ranges := fun x => by
      obtain ⟨a, b, c, d, e⟩ := h.ranges x
      exact ⟨a, b, c, d, ranges e⟩
    settled := h.settled
    share := h.share }

theorem publishSlots_ranges (ws : List Word16) (i : Nat) {v : Vector SlotRecord 16}
    (h : ∀ i : Fin 16, slotMin i ≤ v[i].latest ∧ v[i].latest ≤ slotMax i) (k : Fin 16) :
    slotMin k ≤ (publishSlots i ws v)[k].latest ∧ (publishSlots i ws v)[k].latest ≤ slotMax k := by
  induction ws generalizing i v with
  | nil => exact h k
  | cons w ws ih =>
    rw [publishSlots]
    split
    next lt =>
      refine ih _ fun j => ?_
      by_cases e : i = j
      · subst e
        simpa using SlotRecord.publish_bounds ⟨j, j.isLt⟩ w v[j]
      · simpa [Vector.getElem_set, e] using h j
    next => exact h k

theorem Sound.limitAction (h : Sound cut line r s) (i : Fin 16) : Sound cut line r (limitAction i s) := by
  unfold Machine.limitAction
  split
  · split
    · exact h
    · exact h.raiseEvent _
    · exact h.raiseTrip _
  · exact h

theorem Sound.limitActions (is : List (Fin 16)) (h : Sound cut line r s) :
    Sound cut line r (is.foldl (fun t i => Machine.limitAction i t) s) := by
  induction is generalizing s with
  | nil => exact h
  | cons i is ih => exact ih (h.limitAction i)

theorem Sound.publishScan (h : Sound cut line r s) (k : ScanKind) (pairs : List (Word16 × Word16)) :
    Sound cut line r (publishScan k pairs s) := by
  unfold Machine.publishScan
  dsimp only
  refine Sound.limitActions _ ?_
  exact h.scan _ fun ⟨a, b, c⟩ => ⟨a, b, publishSlots_ranges _ _ c⟩

/-! ## Spans and crossings (R115 to R119) -/

theorem Sound.handRms (h : Sound cut line r s) (k : Phase) (m : PhaseMeter) :
    Sound cut line r (handRms k m s) := by
  refine Sound.newRms ?_ _
  exact h.plain rfl

theorem Sound.spanLapse (h : Sound cut line r s) (k : Phase) : Sound cut line r (spanLapse k s) := by
  unfold Machine.spanLapse
  split
  · exact h.handRms _ _
  · exact h

theorem Sound.setOutOfRange (h : Sound cut line r s) (b : Bool) : Sound cut line r (setOutOfRange b s) :=
  (h.onlyIf _ (h.raiseEvent _)).takeOutOfRange _

theorem Sound.lineCrossing (h : Sound cut line r s) (seen : Bool) :
    Sound cut line r (lineCrossing seen s) := by
  have t : Sound cut line r { s with msq.troughs := 0, msq.theta := 0 } :=
    h.scan _ fun ⟨_, _, c⟩ => ⟨Nat.zero_le _, Nat.zero_le _, c⟩
  unfold Machine.lineCrossing
  dsimp only
  split
  · refine Sound.setOutOfRange ?_ _
    exact t.plain rfl
  · exact t

theorem Sound.phaseResult (h : Sound cut line r s) (k : Phase) : Sound cut line r (phaseResult k s) := by
  unfold Machine.phaseResult
  dsimp only
  split
  · have t : Sound cut line r { s with msq.phases := s.msq.phases.set k ((s.msq.phases.get k).cross
        (slotValue (voltageSlot k) s) (slotValue (currentSlot k) s)) } := h.plain rfl
    have u := t.onlyIf (s.msq.phases.get k).seen (t.newRms k)
    split
    · exact u.lineCrossing _
    · exact u
  · exact h.plain rfl

theorem Sound.linePeriodLapse (h : Sound cut line r s) : Sound cut line r (linePeriodLapse s) := by
  unfold Machine.linePeriodLapse
  split
  · exact h.setOutOfRange _
  · exact h

theorem Sound.accumulateHeat (h : Sound cut line r s) : Sound cut line r (accumulateHeat s) := h.plain rfl

theorem Sound.publishFast (h : Sound cut line r s) (pairs : List (Word16 × Word16)) :
    Sound cut line r (publishFast pairs s) := by
  unfold Machine.publishFast
  dsimp only
  have t := ((h.linePeriodLapse.spanLapse .u).spanLapse .v).spanLapse .w
  have u := (t.publishScan .fast pairs).prechargeResult.linkResult.batteryResult.currentResult.accumulateHeat
  refine Sound.phaseResult (Sound.phaseResult (Sound.phaseResult ?_ _) _) _
  exact u.onlyIf _ u.heaterOvercurrent

theorem Sound.judgeSensors (h : Sound cut line r s) : Sound cut line r (judgeSensors s) := h.plain rfl

theorem Sound.publishSlow (h : Sound cut line r s) (pairs : List (Word16 × Word16)) :
    Sound cut line r (publishSlow pairs s) := by
  have k := (h.publishScan .slow pairs).judgeSensors.takeTemperature
  unfold Machine.publishSlow
  dsimp only
  generalize Machine.takeTemperature (Machine.judgeSensors (Machine.publishScan .slow pairs s)) = t at k ⊢
  exact (k.takeViso _).takeProximity _

theorem handConverters_ranges {m : Msq} (h : ScanRanges m) : ScanRanges (handConverters m) := by
  unfold handConverters
  split <;> exact h

theorem Sound.startFastScan (h : Sound cut line r s) : Sound cut line r (startFastScan s) := by
  unfold Machine.startFastScan
  split
  · exact h
  · exact h.scan _ fun x => handConverters_ranges x

theorem Sound.slowScanExpiry (h : Sound cut line r s) : Sound cut line r (slowScanExpiry s) := by
  unfold Machine.slowScanExpiry
  split
  · exact h
  · exact h.scan _ fun x => handConverters_ranges x

theorem Sound.fastPair (h : Sound cut line r s) (p : Word16 × Word16) : Sound cut line r (fastPair p s) := by
  unfold Machine.fastPair
  dsimp only
  split
  · exact h.scan _ fun x => handConverters_ranges x
  · refine Sound.publishFast ?_ _
    exact h.scan _ fun x => handConverters_ranges x

theorem Sound.slowPair (h : Sound cut line r s) (p : Word16 × Word16) : Sound cut line r (slowPair p s) := by
  unfold Machine.slowPair
  dsimp only
  split
  · exact h.scan _ fun x => handConverters_ranges x
  · refine Sound.publishSlow ?_ _
    exact h.scan _ fun x => handConverters_ranges x

theorem Sound.pairDone (h : Sound cut line r s) (a b : Word16) : Sound cut line r (pairDone a b s) := by
  unfold Machine.pairDone
  split
  · exact h
  · exact h.fastPair _
  · exact h.slowPair _

theorem thetaAt_le (p n : Nat) : thetaAt p n ≤ 255 := by
  unfold thetaAt
  split
  · exact Nat.zero_le _
  · exact Nat.min_le_left _ _

theorem Sound.advanceLine (h : Sound cut line r s) : Sound cut line r (advanceLine s) :=
  h.scan _ fun ⟨_, _, c⟩ => ⟨thetaAt_le _ _, Nat.min_le_left _ _, c⟩

theorem Sound.interruptLine (h : Sound cut line r s) : Sound cut line r (interruptLine s) := by
  refine Sound.takeOutOfRange ?_ _
  exact h.scan _ fun ⟨_, _, c⟩ => ⟨Nat.zero_le _, Nat.zero_le _, c⟩

theorem Sound.troughCounters (h : Sound cut line r s) : Sound cut line r (troughCounters s) := by
  unfold Machine.troughCounters
  split
  · dsimp only
    split
    · exact Sound.advanceLine (h.plain rfl)
    · exact Sound.interruptLine (h.plain rfl)
  · exact Sound.advanceLine (h.plain rfl)

theorem Sound.transferCompare (h : Sound cut line r s) : Sound cut line r (transferCompare s) := by
  refine Sound.formCommands ?_
  exact
    { h with
      ranges := fun x => by
        obtain ⟨a, b, c, -, d⟩ := h.ranges x
        exact ⟨a, b, c, c, d⟩
      duty := h.duty
      budget := h.budget
      cutoff := h.cutoff
      regulation := h.regulation
      share := h.share }

theorem Sound.carrierTrough (h : Sound cut line r s) : Sound cut line r (carrierTrough s) :=
  h.loopEvent.linePeriodLapse.troughCounters.transferCompare.startFastScan

theorem Sound.readMeasure (h : Sound cut line r s) (slot clear : Byte) :
    Sound cut line r (readMeasure slot clear s) := by
  unfold Machine.readMeasure
  split
  next lt =>
    split
    · exact h.answerEmpty _
    · have k := h.answer .accepted (.measure (measureReport ⟨slot.toNat, lt⟩ s))
      refine k.onlyIf _ (k.scan _ fun ⟨a, b, c⟩ => ⟨a, b, fun i => ?_⟩)
      by_cases e : slot.toNat = i
      · simpa [Vector.getElem_set, e] using c i
      · simpa [Vector.getElem_set, e] using c i
  · exact h.answerEmpty _

/-! ## The Plug Sequencer's rows (R6 to R24) -/

theorem Sound.goIdentify (h : Sound cut line r s) : Sound cut line r (goIdentify s) := by
  unfold Machine.goIdentify
  split
  · exact h.answerEmpty _
  · split
    · exact h.answerEmpty _
    · split
      · exact h.answerEmpty _
      next plugged =>
        refine Sound.answerEmpty (Sound.enterSeq (line := line) ?_ _ fun _ k => ?_) _
        · exact h.plain rfl
        · exact h.ident k (.inr (.inr (.inl (not_not.1 plugged))))

theorem Sound.identify (h : Sound cut line r s) (i : Identification) : Sound cut line r (identify i s) :=
  (h.enterSeqWith .identified (some i) fun _ k => by simp at k).raiseEvent _

theorem Sound.pilotCodeComplete (h : Sound cut line r s) : Sound cut line r (pilotCodeComplete s) := by
  unfold Machine.pilotCodeComplete
  split
  · split
    · unfold takeCode
      split
      · exact h.identify _
      · exact h.plain rfl
    · exact h
  · exact h

theorem takePulse_eq (w : Nat) (p : Psq) :
    takePulse w p = { p with assembly := (takePulse w p).assembly, prevCode := (takePulse w p).prevCode } := by
  unfold takePulse breakCode
  repeat' split
  all_goals rfl

theorem takeRest_eq (w : Nat) (p : Psq) :
    takeRest w p = { p with assembly := (takeRest w p).assembly, prevCode := (takeRest w p).prevCode } := by
  unfold takeRest breakCode
  repeat' split
  all_goals rfl

theorem Sound.pilotEdge (h : Sound cut line r s) (span : PilotSpan) (w : Nat) :
    Sound cut line r (pilotEdge span w s) := by
  have k := h.pilotCodeComplete
  unfold Machine.pilotEdge
  dsimp only
  split
  · split
    · rw [takePulse_eq]; exact k.plain rfl
    · rw [takeRest_eq]; exact k.plain rfl
  · exact k

theorem Sound.identTimeout (h : Sound cut line r s) : Sound cut line r (identTimeout s) := by
  unfold Machine.identTimeout
  split
  · split
    · exact h.enterFault _
    · exact h.identify _
  · exact h

theorem Sound.resume (h : Sound cut line r s) : Sound cut line r (resume s) := by
  unfold Machine.resume
  dsimp only
  have k : Sound cut line r { s with psq.start := none } := h.plain rfl
  exact (k.enterLater _ (by simp) (by simp)).activatePrefetched.takeRequest _

theorem Sound.goEnergize (h : Sound cut line r s) (slot : Byte) (stamp : Word32) :
    Sound cut line r (goEnergize slot stamp s) := by
  unfold Machine.goEnergize
  split
  · exact h.answerEmpty _
  next c _ =>
    dsimp only
    have t : Sound cut line r { s with mtr.prefetched := some c } := h.meter _ rfl id
    have t : Sound cut line r
        { s with mtr.prefetched := some c, psq.start := some (c.slot, stamp) } := t.plain rfl
    split
    · exact t.resume.answerEmpty _
    · exact t.startPrecharge.answerEmpty _

theorem Sound.goStop (h : Sound cut line r s) : Sound cut line r (goStop s) := by
  unfold Machine.goStop
  repeat' split
  · exact h.answerEmpty _
  · exact (h.stopRequest _).answerEmpty _
  · exact h.answerEmpty _

theorem Sound.idle (h : Sound cut line r s) : Sound cut line r (idle s) := by
  unfold Machine.idle
  dsimp only
  have t := h.clearEnable.openRelays.stopTimers
  have t := t.onlyIf (((Machine.stopTimers (Machine.openRelays (Machine.clearEnable s))).psq.seq) == .precharge)
    t.dropPrefetched
  exact (((t.endSession .hostIdle).leaveTarget s.psq.seq).enqueue .leave).forgetStop.enterLater _
    (by simp) (by simp)

theorem Sound.idleFromFault (h : Sound cut line r s) : Sound cut line r (idleFromFault s) := by
  unfold Machine.idleFromFault
  split
  · exact h.answerEmpty _
  · split
    · exact h.answerEmpty _
    · refine Sound.answerEmpty (Sound.enterLater (line := line) ?_ _ ?_ ?_) _
      · exact (h.enqueue _).plain rfl
      all_goals split <;> simp

theorem Sound.goIdle (h : Sound cut line r s) : Sound cut line r (goIdle s) := by
  unfold Machine.goIdle
  split
  · exact h.answerEmpty _
  · split
    · exact h.answerEmpty _
    · exact h.answerEmpty _
    · exact h.answerEmpty _
    · exact h.idleFromFault
    · exact h.idle.answerEmpty _

theorem Sound.cancel (h : Sound cut line r s) : Sound cut line r (cancel s) := by
  unfold Machine.cancel
  split
  · exact (h.enterLater _ (by simp) (by simp)).answerEmpty _
  · split
    · exact h.answerEmpty _
    · refine Sound.answerEmpty (Sound.cancelComplete (Sound.withdraw ?_)) _
      exact h.plain rfl
  · exact h.answerEmpty _
  · exact h.answerEmpty _
  · exact h.answerEmpty _
  · exact h.answerEmpty _

theorem Sound.prechargeTimeout (h : Sound cut line r s) : Sound cut line r (prechargeTimeout s) := by
  unfold Machine.prechargeTimeout
  split
  · exact h.enterFault _
  · exact h

theorem Sound.contactorTimeout (h : Sound cut line r s) : Sound cut line r (contactorTimeout s) := by
  unfold Machine.contactorTimeout
  split
  · exact h.enterFault _
  · exact h

theorem Sound.batteryLowTimeout (h : Sound cut line r s) : Sound cut line r (batteryLowTimeout s) := by
  unfold Machine.batteryLowTimeout
  split
  · refine Sound.stopRequest ?_ _
    exact h.plain rfl
  · exact h

theorem Sound.stopTimerExpiry (h : Sound cut line r s) : Sound cut line r (stopTimerExpiry s) := by
  unfold Machine.stopTimerExpiry
  split
  · exact h.rampDown _
  · exact h

theorem Sound.contactorCloses (h : Sound cut line r s) : Sound cut line r (contactorCloses s) := by
  unfold Machine.contactorCloses
  split
  · exact h.contactorReadsClosed
  · exact h.weldAtOnce

theorem Sound.contactorOpens (h : Sound cut line r s) : Sound cut line r (contactorOpens s) := by
  refine Sound.cancelComplete (Sound.rejoinStopped (Sound.contactorReadsOpen ?_))
  exact h.plain rfl

theorem Sound.prechargeOpens (h : Sound cut line r s) : Sound cut line r (prechargeOpens s) := by
  refine Sound.cancelComplete (Sound.rejoinStopped ?_)
  exact h.plain rfl

theorem Sound.readContact (h : Sound cut line r s) (relay : PlugRelay) (closed : Bool) :
    Sound cut line r (readContact relay closed s) := by
  unfold Machine.readContact
  split <;> exact h.plain rfl

theorem Sound.relayFeedback (h : Sound cut line r s) (relay : PlugRelay) (closed : Bool) :
    Sound cut line r (relayFeedback relay closed s) := by
  unfold Machine.relayFeedback
  split
  · split
    · exact h
    · exact Sound.contactorCloses (h.plain rfl)
  · split
    · exact Sound.contactorOpens (h.plain rfl)
    · exact h
  · exact h.plain rfl
  · split
    · exact Sound.prechargeOpens (h.plain rfl)
    · exact h

theorem Sound.supervisionExpiry (h : Sound cut line r s) (relay : PlugRelay) :
    Sound cut line r (supervisionExpiry relay s) := by
  unfold Machine.supervisionExpiry
  split
  · split
    · have k : Sound cut line r { s with psq.contactorSup := false } := h.plain rfl
      exact k.onlyIf _ (k.enterFault _)
    · exact h
  · split
    · have k : Sound cut line r { s with psq.prechargeSup := false } := h.plain rfl
      exact k.onlyIf _ (k.enterFault _)
    · exact h

/-! ## The port's and the store's commands (R189 to R197) -/

theorem Sound.endTransaction (h : Sound cut line r s) (received : List Byte) :
    Sound cut line r (endTransaction received s) := by
  unfold Machine.endTransaction
  split
  · exact h.plain rfl
  · split
    · exact h.answerEmpty _
    · exact h.answerEmpty _
    · exact h.plain rfl

theorem Sound.readEvents (h : Sound cut line r s) : Sound cut line r (readEvents s) :=
  { h with
    ranges := h.ranges
    tables := fun x => ⟨(rfl : ([] : List EventKind) = EventKind.all.filter fun k => [].contains k), (h.tables x).2⟩
    settled := h.settled
    share := h.share }

theorem Sound.readReport (h : Sound cut line r s) : Sound cut line r (readReport s) := by
  unfold Machine.readReport
  split
  · exact h.answerEmpty _
  · exact h.answer _ _

theorem Sound.removeReport (h : Sound cut line r s) : Sound cut line r (removeReport s) := by
  unfold Machine.removeReport
  split
  · exact h.answerEmpty _
  · exact (h.removeOldest _ _).answerEmpty _

/-! ## Trips (R95, R96, R99 to R104) -/

theorem Sound.tripClear (h : Sound cut line r s) : Sound cut line r (tripClear s) := by
  unfold Machine.tripClear
  split
  · exact h.answerEmpty _
  · split
    · exact h.answer _ _
    · refine Sound.answerEmpty (Sound.watchConflicts ?_) _
      exact
        { h with
          ranges := h.ranges
          duty := h.duty
          budget := h.budget
          cutoff := fun c => (h.cutoff c).imp id fun ⟨e, _⟩ => ⟨e, nofun⟩
          regulation := h.regulation
          settled := h.settled
          share := h.share }

theorem Sound.legCommandChange (h : Sound cut line r s) (k : Leg) (position : Nat) :
    Sound cut line r (legCommandChange k position s) := by
  refine Sound.watchConflicts ?_
  exact h.plain rfl

theorem readFeedback_eq (k : Leg) (d : Device) (reads : Bool) (s : State) :
    readFeedback k d reads s = { s with ptu.feedback := (readFeedback k d reads s).ptu.feedback } := by
  unfold readFeedback
  dsimp only
  split <;> rfl

theorem Sound.readFeedback (h : Sound cut line r s) (k : Leg) (d : Device) (reads : Bool) :
    Sound cut line r (readFeedback k d reads s) := by
  rw [readFeedback_eq]
  exact h.plain rfl

theorem Sound.deadTimeEnd (h : Sound cut line r s) (k : Leg) : Sound cut line r (deadTimeEnd k s) := by
  unfold Machine.deadTimeEnd
  split
  · exact h
  · dsimp only
    refine Sound.watchConflicts ?_
    have t : Sound cut line r
        { s with ptu.legs := (s.ptu.legs.set k { s.ptu.legs.get k with deadTime := none }) } := h.plain rfl
    exact (t.onlyIf _ (t.raiseTrip _)).plain rfl

theorem Sound.conflictExpiry (h : Sound cut line r s) (k : Leg) :
    Sound cut line r (conflictExpiry k s) := by
  unfold Machine.conflictExpiry
  split
  · refine Sound.raiseTrip ?_ _
    exact h.plain rfl
  · exact h.plain rfl
  · exact h

theorem Sound.extLineChange (h : Sound cut line r s) (active : Bool) :
    Sound cut line r (extLineChange active s) := by
  unfold Machine.extLineChange
  split
  · exact h
  · exact h.plain rfl

theorem Sound.extFilterExpiry (h : Sound cut line r s) : Sound cut line r (extFilterExpiry s) := by
  unfold Machine.extFilterExpiry
  split
  · refine Sound.raiseTrip ?_ _
    exact h.plain rfl
  · exact h

theorem Sound.extInactiveExpiry (h : Sound cut line r s) : Sound cut line r (extInactiveExpiry s) := by
  unfold Machine.extInactiveExpiry
  split
  · exact h
  · exact h.plain rfl

theorem Sound.gridExpiry (h : Sound cut line r s) : Sound cut line r (gridExpiry s) := by
  unfold Machine.gridExpiry
  split
  · refine Sound.raiseTrip ?_ _
    exact h.plain rfl
  · exact h

/-! ## The meter's events and the beacon period (R57, R146, R169, R170) -/

theorem Sound.meteringInterval (h : Sound cut line r s) : Sound cut line r (meteringInterval s) := by
  unfold Machine.meteringInterval
  split
  · exact h.meterInterval.takeRequest _
  · exact h

theorem Sound.meterSample (h : Sound cut line r s) : Sound cut line r (meterSample s) :=
  h.meteringInterval.takeSample

theorem endLeading_mode (l : LeaderRecord) (o : SweepOutcome) (hold : Bool) (s : State) :
    (endLeading l o hold s).imn.mode = s.imn.mode := by
  simp [endLeading, clearTarget, endSweep, raiseEvent]

theorem startStep_mode (l : LeaderRecord) (s : State) : (startStep l s).imn.mode = s.imn.mode := by
  unfold startStep
  split
  · unfold startOwnStep ownNotFound
    dsimp only
    split <;> simp [endLeading_mode]
  · simp

@[simp] theorem checkSweepStart_mode (s : State) : (checkSweepStart s).imn.mode = s.imn.mode := by
  unfold checkSweepStart
  cases sweepReady s
  · rfl
  · simp [onlyIf, startSweep, startStep_mode]

theorem takeRole_mode (s : State) : (takeRole s).imn.mode = .measurer := by
  simp [takeRole, startCycle, endUnmonitored, onlyIf, apply_ite State.imn]

/-- A role that is due has been taken or let go (R146). -/
theorem measuringRoleTake_waits (s : State) (passive : (measuringRoleTake s).imn.mode = .passive) :
    (measuringRoleTake s).imn.clearCount ≤ 2 := by
  unfold measuringRoleTake at passive ⊢
  split
  next due =>
    rw [if_pos due] at passive
    split
    next eligible =>
      rw [if_pos eligible, takeRole_mode] at passive
      cases passive
    next => exact Nat.zero_le _
  next later =>
    rw [if_neg later] at passive
    by_contra more
    exact later (by simp [roleDue, passive]; omega)

theorem Sound.beaconPeriod (h : Sound cut line r s) : Sound cut line r (beaconPeriod s) := by
  unfold Machine.beaconPeriod
  split
  · exact h
  · have k : Sound cut line r { s with fli.beaconTimer := some 250 } := h.plain rfl
    refine k.measuringRoleTake.sharePeriod.electionCounts ?_
    rw [(sharePeriod_keeps _).2.2.2.2.1]
    exact measuringRoleTake_waits _

end Sys2Proof.Machine
end

section
/-! PROOF. Every row of the table keeps `Sound`, from the state the host's command leaves: what the host sets holds
(R70, R71, R121, R173, R199), and the invariants of ranges, tables, cutoffs and the line are kept. -/

namespace Sys2Proof.Machine

variable {cut line : Prop} {r s : State}

/-! ## Rows while the part runs and while it is held -/

theorem whenRunning_completes {f : State → State} {P : State → Prop} (held : P s) (run : P (f s)) :
    Completes (whenRunning f s) P := by
  unfold whenRunning
  split
  · exact ⟨_, rfl, run⟩
  · exact ⟨_, rfl, held⟩

theorem whenRunningOr_completes {g f : State → State} {P : State → Prop} (held : P (g s)) (run : P (f s)) :
    Completes (whenRunningOr g f s) P := by
  unfold whenRunningOr
  split
  · exact ⟨_, rfl, run⟩
  · exact ⟨_, rfl, held⟩

theorem Completes.mono {o : Host.Outcome State Fault Refusal} {P Q : State → Prop} (h : Completes o P)
    (k : ∀ t, P t → Q t) : Completes o Q := by
  obtain ⟨t, e, p⟩ := h
  exact ⟨t, e, k t p⟩

/-- A step keeps what every row keeps on the queue's rest (log 3). -/
theorem step_completes {P : State → Prop} (idle : P s)
    (row : ∀ c rest, Completes (exec c { s with pending := rest }) P) : Completes (step s) P := by
  unfold step
  split
  · exact ⟨s, rfl, idle⟩
  · exact row _ _

/-! ## What the host sets (R70, R71, R121, R173, R199) -/

/-- What an accepted command of the host sets, before anything follows from it. -/
def HostSets (c : Instr) (s r : State) : Prop :=
  match c with
  | .setCharge i v => r = { s with crg.iReq := i.toNat, crg.vMax := v.toNat }
  | .setBatteryLimit i => r = { s with crg.iBms := i.toNat, crg.stale := false, crg.freshTimer := true }
  | .setHeating a b m _ x _ => ∃ p, r = { s with
      htr.tOn := a.toInt, htr.tOff := b.toInt, htr.pHmax := m.toNat, htr.permission := p, htr.pBattMax := x.toNat }
  | .writeDescriptor _ _ _ _ _ _ _ => ∃ x, r = { s with mtr.table := x }
  | .configure p => r = takeSettings p s
  | _ => False

/-- The row leads from `s`, or from what its command sets, to `t`. The heater event alone raises the duty. -/
abbrev RowSound (c : Instr) (s t : State) : Prop :=
  ∃ r, (r = s ∨ HostSets c s r) ∧ Sound (c ≠ .heaterEvent) (LineSettled s) r t

theorem RowSound.same {c : Instr} {t : State} (h : Sound (c ≠ .heaterEvent) (LineSettled s) s t) :
    RowSound c s t := ⟨s, .inl rfl, h⟩

theorem setCharge_rowSound (i v : Word16) (s : State) : RowSound (.setCharge i v) s (setCharge i v s) := by
  unfold setCharge
  split
  · exact .same ((Sound.refl _ s fun k => ⟨k.1, k.2.1⟩).answerEmpty _)
  · refine ⟨_, .inr rfl, ?_⟩
    exact (Sound.refl _ _ fun k => ⟨k.1, k.2.1⟩).evaluateAndHand.answerEmpty _

theorem setBatteryLimit_rowSound (i : Word16) (s : State) :
    RowSound (.setBatteryLimit i) s (setBatteryLimit i s) := by
  unfold setBatteryLimit
  split
  · exact .same ((Sound.refl _ s fun k => ⟨k.1, k.2.1⟩).answerEmpty _)
  · refine ⟨_, .inr rfl, ?_⟩
    exact (Sound.refl _ _ fun k => ⟨k.1, k.2.1⟩).evaluateAndHand.answerEmpty _

theorem setHeating_rowSound (a b m : Word16) (p : Byte) (x : Word16) (clear : Byte) (s : State) :
    RowSound (.setHeating a b m p x clear) s (setHeating a b m p x clear s) := by
  have same := Sound.refl (line := LineSettled s) (Instr.setHeating a b m p x clear ≠ .heaterEvent) s
    fun k => ⟨k.1, k.2.1⟩
  unfold setHeating
  split
  · exact .same (same.answerEmpty _)
  · split
    · exact .same (same.answerEmpty _)
    next q _ =>
      split
      · split
        · refine ⟨_, .inr ⟨q, rfl⟩, ?_⟩
          refine Sound.answer (Sound.selectHeater ?_) _ _
          exact (Sound.refl _ _ fun k => ⟨k.1, k.2.1⟩).plain rfl
        · exact .same (same.answerEmpty _)
      · exact .same (same.answerEmpty _)

theorem writeDescriptor_rowSound (slot flags : Byte) (quota duration chg cond : Word16) (next : Byte)
    (s : State) : RowSound (.writeDescriptor slot flags quota duration chg cond next) s
      (writeDescriptor slot flags quota duration chg cond next s) := by
  have same := Sound.refl (line := LineSettled s)
    (Instr.writeDescriptor slot flags quota duration chg cond next ≠ .heaterEvent) s fun k => ⟨k.1, k.2.1⟩
  unfold writeDescriptor
  split
  · exact .same (same.answerEmpty _)
  next i _ =>
    split
    · exact .same (same.answerEmpty _)
    next n _ =>
      split
      · refine ⟨_, .inr ⟨s.mtr.table.set i (descriptorOf flags quota duration chg cond n), rfl⟩, ?_⟩
        exact (Sound.refl _ _ fun k => ⟨k.1, k.2.1⟩).answerEmpty _
      · exact .same (same.answerEmpty _)

theorem configure_rowSound (p : ConfigPayload) (s : State) :
    RowSound (.configure p) s (configure p s) := by
  have same := Sound.refl (line := LineSettled s) (Instr.configure p ≠ .heaterEvent) s fun k => ⟨k.1, k.2.1⟩
  unfold configure
  split
  · exact .same (same.answerEmpty _)
  · split
    · exact .same (same.answer _ _)
    · refine ⟨_, .inr rfl, ?_⟩
      have k := Sound.refl (line := False) (Instr.configure p ≠ .heaterEvent) (takeSettings p s) nofun
      have k := (k.raiseEvent .configDone).watchConflicts
      have k := k.onlyIf (watchConflicts (raiseEvent .configDone (takeSettings p s))).imn.cycle.isSome k.startCycle
      exact (k.refreshLine.selectHeater).answer _ _

/-! ## The heater event (R128 to R130) -/

theorem adjustedDuty_le (h : s.htr.duty ≤ 4095) : adjustedDuty s ≤ 4095 := by
  unfold adjustedDuty
  repeat' split
  all_goals omega

theorem Sound.regulateHeater (h : Sound cut line r s) : Sound False line r (regulateHeater s) :=
  { h with
    ranges := h.ranges
    duty := fun x => by
      obtain ⟨-, -, top⟩ := h.duty x
      refine ⟨fun k => ?_, rfl, adjustedDuty_le top⟩
      show adjustedDuty s = 0
      unfold adjustedDuty
      obtain k | k | k := k
      · rw [if_pos (.inr (.inl (Bool.eq_false_iff.1 k)))]
      · rw [if_pos (.inr (.inr k))]
      · rw [if_pos (show s.htr.budget = 0 from k)]
        split <;> rfl
    budget := h.budget
    cutoff := nofun
    regulation := h.regulation
    settled := h.settled
    share := h.share }

theorem heaterEvent_cut (s : State) (trip : tripped (heaterEvent s) = true) : (heaterEvent s).htr.duty = 0 :=
  if_pos (.inl trip)

/-! ## The table of rows -/

theorem Sound.row {c : Instr} {f : State → State} (held : Sound (c ≠ .heaterEvent) (LineSettled s) s s)
    (run : Sound (c ≠ .heaterEvent) (LineSettled s) s (f s)) : Completes (whenRunning f s) (RowSound c s) :=
  whenRunning_completes (.same held) (.same run)

theorem Sound.rowOr {c : Instr} {g f : State → State}
    (held : Sound (c ≠ .heaterEvent) (LineSettled s) s (g s))
    (run : Sound (c ≠ .heaterEvent) (LineSettled s) s (f s)) :
    Completes (whenRunningOr g f s) (RowSound c s) :=
  whenRunningOr_completes (.same held) (.same run)

/-- Every row but a start and a power loss is sound. -/
theorem exec_sound (c : Instr) (s : State) (live : isReset c = false) :
    Completes (exec c s) (RowSound c s) := by
  have h := Sound.refl (line := LineSettled s) (c ≠ .heaterEvent) s fun k => ⟨k.1, k.2.1⟩
  cases c with
  | powerOn => cases live
  | brownOut => cases live
  | resetLine => cases live
  | powerLoss => cases live
  | setCharge _ _ => exact whenRunning_completes (.same h) (setCharge_rowSound _ _ s)
  | setBatteryLimit _ => exact whenRunning_completes (.same h) (setBatteryLimit_rowSound _ s)
  | setHeating _ _ _ _ _ _ =>
    exact whenRunning_completes (.same h) (setHeating_rowSound _ _ _ _ _ _ s)
  | writeDescriptor _ _ _ _ _ _ _ =>
    exact whenRunning_completes (.same h) (writeDescriptor_rowSound _ _ _ _ _ _ _ s)
  | configure _ => exact whenRunning_completes (.same h) (configure_rowSound _ s)
  | heaterEvent =>
    exact h.row (h.heaterOpenDetect.regulateHeater.weaken (fun k => k rfl) id)
  | chipSelectAssert => exact h.row (f := chipSelect) (h.plain rfl)
  | readOnlyTransaction _ => exact h.row (h.endTransaction _)
  | requestRejected _ => exact h.row (h.endTransaction _)
  | getStatus => exact h.row (h.answer _ _)
  | readEvents => exact h.row h.readEvents
  | goIdentify => exact h.row h.goIdentify
  | goEnergize _ _ => exact h.row (h.goEnergize _ _)
  | goStop => exact h.row h.goStop
  | goIdle => exact h.row h.goIdle
  | cancel => exact h.row h.cancel
  | tripClear => exact h.row h.tripClear
  | extend _ => exact h.row (h.extend _)
  | sessionSplit _ _ => exact h.row (h.sessionSplit _ _)
  | readReport => exact h.row h.readReport
  | removeReport => exact h.row h.removeReport
  | readMeter => exact h.row (h.answer _ _)
  | readPeers => exact h.row (h.answer _ _)
  | readShare => exact h.row (h.answer _ _)
  | readMeasure _ _ => exact h.row (h.readMeasure _ _)
  | readInsulation => exact h.row h.readInsulation
  | clearInsulation => exact h.row h.clearInsulation
  | carrierTrough => exact h.row h.carrierTrough
  | loopComputationEvent => exact h.row h.loopEvent
  | linePeriodLapse => exact h.row h.linePeriodLapse
  | legCommandChange _ _ => exact h.row (h.legCommandChange _ _)
  | deadTimeEnd _ => exact h.row (h.deadTimeEnd _)
  | gateFeedbackChange _ _ _ => exact Sound.rowOr (h.readFeedback _ _ _) (h.readFeedback _ _ _).watchConflicts
  | legConflictTimerExpiry _ => exact h.row (h.conflictExpiry _)
  | heaterPeriodStart => exact h.row (f := heaterPeriodStart) (h.plain rfl)
  | heaterDutyEnd => exact h.row (f := heaterDutyEnd) (h.plain rfl)
  | extTripLineChange b => exact Sound.rowOr (g := fun s => { s with ptu.extActive := b }) (h.plain rfl) (h.extLineChange _)
  | extTripFilterExpiry => exact h.row h.extFilterExpiry
  | extInactiveTimerExpiry => exact h.row h.extInactiveExpiry
  | gridSupervisionExpiry => exact h.row h.gridExpiry
  | slowScanTimerExpiry => exact h.row h.slowScanExpiry
  | pairConversionDone _ _ => exact h.row (h.pairDone _ _)
  | spanLapse _ => exact h.row (h.spanLapse _)
  | plugSettleComplete => exact h.row h.plugSettled
  | pilotCodeComplete => exact h.row h.pilotCodeComplete
  | identTimeout => exact h.row h.identTimeout
  | prechargeTimeout => exact h.row h.prechargeTimeout
  | contactorTimeout => exact h.row h.contactorTimeout
  | relayFeedbackChange _ _ => exact Sound.rowOr (h.readContact _ _) (h.relayFeedback _ _)
  | openSupervisionExpiry _ => exact h.row (h.supervisionExpiry _)
  | batteryLowTimeout => exact h.row h.batteryLowTimeout
  | stopTimerExpiry => exact h.row h.stopTimerExpiry
  | txAttemptStart => exact h.row h.startAttempt
  | txArbitrationLost => exact h.row h.dropAttempt
  | txBitError => exact h.row h.bitError
  | txComplete _ => exact h.row (h.txComplete _)
  | silentTimerExpiry => exact h.row h.silentExpiry
  | frameDropped _ => exact h.row (h.frameBits _)
  | beaconReceived _ _ _ _ _ _ _ => exact h.row (h.receive _)
  | leaveReceived _ _ => exact h.row (h.receive _)
  | alertReceived _ _ _ => exact h.row (h.receive _)
  | sweepStepReceived _ _ _ _ => exact h.row (h.receive _)
  | sweepAnswerReceived _ _ _ _ => exact h.row (h.receive _)
  | sweepResultReceived _ _ _ _ _ => exact h.row (h.receive _)
  | measureStartReceived _ _ _ _ => exact h.row (h.receive _)
  | measureResultReceived _ _ _ _ => exact h.row (h.receive _)
  | beaconPeriodEvent => exact h.row h.beaconPeriod
  | peerAgedOut => exact h.row h.removeAged
  | overflowEnd => exact h.row h.updateFallback
  | measuringRoleTake => exact h.row h.measuringRoleTake
  | backoffEnd => exact h.row (f := id) h
  | rampEvent => exact h.row h.rampEvent
  | freshnessTimerExpiry => exact h.row h.freshnessExpiry
  | relaySettleExpiry => exact h.row h.relaySettleExpiry
  | heaterOpenDetect => exact h.row h.heaterOpenDetect
  | unmonitoredTimerExpiry => exact h.row h.unmonitoredExpiry
  | sweepAnswerTimeout => exact h.row h.sweepAnswerTimeout
  | sweepCycleTimeout => exact h.row h.sweepCycleTimeout
  | leaderSilenceExpiry => exact h.row h.leaderSilenceExpiry
  | sweepHoldExpiry => exact h.row h.sweepHoldExpiry
  | meterSample => exact h.row h.meterSample
  | meteringInterval => exact h.row h.meteringInterval
  | storeWriteComplete => exact h.row h.completeWrite
  | pilotSenseEdge _ _ => exact h.row (h.pilotEdge _ _)

end Sys2Proof.Machine
end

section
/-! PROOF. Starts and power losses lead to the reset state, in which every invariant holds; with that the settings, the
cutoffs, the ranges and tables, the store and the line are kept by every step. -/

namespace Sys2Proof.Machine

variable {cut line : Prop} {r s : State}

/-! ## The reset state (R25, R43, R68, R87, R106, R120, R135, R153, R168, R184, R200) -/

theorem blank_heater (cause : ResetCause) (g : Page) (s : State) :
    HeaterSafe (.blank cause g s.psq s.ptu s.fresh s.pending) :=
  ⟨fun _ => rfl, rfl, Nat.zero_le _, rfl, rfl⟩

theorem blank_regulation (cause : ResetCause) (g : Page) (s : State) :
    RegulationSafe (.blank cause g s.psq s.ptu s.fresh s.pending) :=
  ⟨Nat.zero_le _, fun _ => rfl, le_rfl, fun _ => rfl⟩

theorem blank_ranges (cause : ResetCause) (g : Page) (s : State) :
    RangesHold (.blank cause g s.psq s.ptu s.fresh s.pending) := by
  have reset : RangesHold State.reset := by decide
  exact reset

theorem blank_tables (cause : ResetCause) (g : Page) (s : State) :
    TablesHold (.blank cause g s.psq s.ptu s.fresh s.pending) :=
  ⟨rfl, .nil, .nil, itemsSound_none rfl, Nat.zero_le _, Nat.zero_le _, Nat.zero_le _, Nat.zero_le _, Nat.zero_le _,
    Nat.zero_le _, Nat.zero_le _⟩

theorem blank_line (cause : ResetCause) (g : Page) (s : State) :
    LineSettled (.blank cause g s.psq s.ptu s.fresh s.pending) :=
  ⟨rfl, rfl, fun _ => rfl⟩

theorem blank_share (cause : ResetCause) (g : Page) (s : State) :
    ShareSafe (.blank cause g s.psq s.ptu s.fresh s.pending) :=
  ⟨le_rfl, Nat.zero_le _, fun _ => Nat.zero_le _, fun _ => rfl, le_rfl, fun _ => rfl, nofun⟩

/-- The state of a start before the leftover snapshot is looked at (R192). -/
def startState (cause : ResetCause) (g : Page) (s : State) : State :=
  { State.blank cause g s.psq s.ptu s.fresh s.pending with mst := startupView g }

theorem Sound.startupSnapshot (h : Sound cut line r s) : Sound cut line r (startupSnapshot s) := by
  unfold Machine.startupSnapshot
  split
  · exact h
  · split
    · exact h
    · exact h.placeRecord _ _ _
  · split
    · exact h
    · exact h.placeRecord _ _ _

theorem restart_sound (cause : ResetCause) (g : Page) (s : State) :
    Sound True True (startState cause g s) (restart cause g s) := by
  have h : Sound True True (startState cause g s) (startState cause g s) :=
    .refl _ _ fun _ =>
      have ⟨a, b, _⟩ := blank_line cause g s
      ⟨a, b⟩
  have k := h.onlyIf (startState cause g s).mst.torn (h.raiseEvent .storeTorn)
  have k := k.startupSnapshot
  have t : Sound True True (startState cause g s) (startupRead
      (.blank cause g s.psq s.ptu s.fresh s.pending)) := k.onlyIf _ (k.raiseEvent _)
  unfold restart superviseAtStart
  exact t.plain rfl

/-- What a start or a power loss leaves (R187, R200). -/
def ResetTo (s t : State) : Prop :=
  (∃ cause g, (g = pageAfterPowerLoss s.mst ∨ s.power = .running ∧ g = pageAfterResetLine s.mst) ∧
    t = restart cause g s) ∨ t = powerLoss s ∨ (s.power = .heldInReset ∧ t = s)

theorem exec_reset (c : Instr) (s : State) (reset : isReset c = true) : Completes (exec c s) (ResetTo s) := by
  cases c with
  | powerOn => exact ⟨_, rfl, .inl ⟨_, _, .inl rfl, rfl⟩⟩
  | brownOut => exact ⟨_, rfl, .inl ⟨_, _, .inl rfl, rfl⟩⟩
  | powerLoss => exact ⟨_, rfl, .inr (.inl rfl)⟩
  | resetLine =>
    show Completes (whenRunning resetLine s) _
    unfold whenRunning
    split
    next run => exact ⟨_, rfl, .inl ⟨_, _, .inr ⟨run, rfl⟩, rfl⟩⟩
    next held => exact ⟨_, rfl, .inr (.inr ⟨held, rfl⟩)⟩
  | _ => cases reset

/-- A predicate of the reset state that every start keeps holds after a reset, or held before. -/
theorem ResetTo.keeps {P : State → Prop} {t : State} (h : ResetTo s t) (held : P s)
    (start : ∀ cause g, P (restart cause g s)) (loss : P (powerLoss s)) : P t := by
  obtain ⟨cause, g, -, rfl⟩ | rfl | ⟨-, rfl⟩ := h
  · exact start cause g
  · exact loss
  · exact held

/-! ## What the host sets (O3) -/

/-- Settles O3: within a row the host's settings are its own command's alone. -/
theorem hostSettingsHold : Obligations.HostSettingsHold := by
  unfold Obligations.HostSettingsHold
  intro c s live
  refine (exec_sound c s live).mono fun t ⟨r, sets, k⟩ => ?_
  obtain ⟨-, -, cause, cfg, charge, limit, heat, table⟩ := k.host
  obtain rfl | sets := sets
  · refine ⟨cause, ?_, ?_, ?_, ?_, ?_⟩ <;> split <;> trivial
  · cases c with
    | setCharge _ _ => cases sets; exact ⟨cause, cfg, trivial, limit, heat, table⟩
    | setBatteryLimit _ => cases sets; exact ⟨cause, cfg, charge, trivial, heat, table⟩
    | setHeating _ _ _ _ _ _ =>
      obtain ⟨_, rfl⟩ := sets
      exact ⟨cause, cfg, charge, limit, trivial, table⟩
    | writeDescriptor _ _ _ _ _ _ _ =>
      obtain ⟨_, rfl⟩ := sets
      exact ⟨cause, cfg, charge, limit, heat, trivial⟩
    | configure _ => cases sets; exact ⟨cause, trivial, charge, limit, heat, table⟩
    | _ => exact sets.elim

/-! ## The cutoffs (O54) -/

/-- After an accepted SET_HEATING the budget is formed from the new settings (R121, R127). -/
theorem selectHeater_budget (s : State) : BudgetHeld (selectHeater s) := by
  unfold selectHeater
  dsimp only
  split
  · exact formRequest_budget _
  · exact evaluateAndHand_budget _

theorem setHeating_budget (a b m : Word16) (p : Byte) (x : Word16) (clear : Byte) {s : State}
    (h : BudgetHeld s) : BudgetHeld (setHeating a b m p x clear s) := by
  unfold setHeating
  split
  · exact h
  · split
    · exact h
    · split
      · split
        · exact selectHeater_budget _
        · exact h
      · exact h

theorem exec_budget (c : Instr) (s : State) (live : isReset c = false) (h : BudgetHeld s) :
    Completes (exec c s) BudgetHeld := by
  by_cases heat : ∃ a b m p x clear, c = .setHeating a b m p x clear
  · obtain ⟨a, b, m, p, x, clear, rfl⟩ := heat
    exact whenRunning_completes h (setHeating_budget a b m p x clear h)
  · refine (exec_sound c s live).mono fun t ⟨r, sets, k⟩ => k.budget ?_
    obtain rfl | sets := sets
    · exact h
    · cases c with
      | setHeating a b m p x clear => exact (heat ⟨_, _, _, _, _, _, rfl⟩).elim
      | writeDescriptor _ _ _ _ _ _ _ => obtain ⟨_, rfl⟩ := sets; exact h
      | setCharge _ _ => cases sets; exact h
      | setBatteryLimit _ => cases sets; exact h
      | configure _ => cases sets; exact h
      | _ => exact sets.elim

/-- What the host sets touches no duty and no setpoint. -/
theorem HostSets.cutoffs {c : Instr} (h : HostSets c s r) :
    (DutyHeld s → DutyHeld r) ∧ (tripped r = tripped s ∧ r.htr.duty = s.htr.duty) ∧
      (RegulationSafe s → RegulationSafe r) := by
  cases c with
  | setCharge _ _ => cases h; exact ⟨id, ⟨rfl, rfl⟩, id⟩
  | setBatteryLimit _ =>
    cases h
    exact ⟨id, ⟨rfl, rfl⟩, fun ⟨a, b, d⟩ => ⟨a, fun k => b (.inl (k.resolve_right (by simp))), d⟩⟩
  | setHeating _ _ _ _ _ _ => obtain ⟨_, rfl⟩ := h; exact ⟨id, ⟨rfl, rfl⟩, id⟩
  | writeDescriptor _ _ _ _ _ _ _ => obtain ⟨_, rfl⟩ := h; exact ⟨id, ⟨rfl, rfl⟩, id⟩
  | configure _ => cases h; exact ⟨id, ⟨rfl, rfl⟩, id⟩
  | _ => exact h.elim

theorem RowSound.duty {c : Instr} {t : State} (h : RowSound c s t) (k : DutyHeld s) : DutyHeld t := by
  obtain ⟨r, rfl | sets, x⟩ := h
  · exact x.duty k
  · exact x.duty (sets.cutoffs.1 k)

theorem RowSound.tripCuts {c : Instr} {t : State} (h : RowSound c s t) (k : tripped s = true → s.htr.duty = 0)
    (quiet : c ≠ .heaterEvent) (trip : tripped t = true) : t.htr.duty = 0 := by
  obtain ⟨r, sets, x⟩ := h
  have same : tripped r = tripped s ∧ r.htr.duty = s.htr.duty := by
    obtain rfl | sets := sets
    · exact ⟨rfl, rfl⟩
    · exact sets.cutoffs.2.1
  obtain zero | ⟨e, was⟩ := x.cutoff quiet
  · exact zero
  · rw [e, same.2, k (same.1 ▸ was trip)]

theorem RowSound.regulation {c : Instr} {t : State} (h : RowSound c s t) (k : RegulationSafe s) :
    RegulationSafe t := by
  obtain ⟨r, rfl | sets, x⟩ := h
  · exact x.regulation k
  · exact x.regulation (sets.cutoffs.2.2 k)

theorem exec_heater (c : Instr) (s : State) (h : HeaterSafe s) : Completes (exec c s) HeaterSafe := by
  cases live : isReset c with
  | true =>
    refine (exec_reset c s live).mono fun t k => k.keeps h (fun cause g => ?_) (blank_heater s.cpt.resetCause (pageAfterPowerLoss s.mst) s)
    have k := restart_sound cause g s
    have h : HeaterSafe (startState cause g s) := blank_heater cause g s
    obtain ⟨zero, buffer, top, budget⟩ := h
    obtain ⟨a, b, d⟩ := k.duty ⟨fun x => zero (.inr x), buffer, top⟩
    refine ⟨fun x => ?_, b, d, k.budget budget⟩
    obtain trip | x := x
    · obtain z | ⟨-, was⟩ := k.cutoff trivial
      · exact z
      · cases was trip
    · exact a x
  | false =>
    obtain ⟨zero, buffer, top, budget⟩ := h
    obtain ⟨t, e, budget⟩ := exec_budget c s live budget
    obtain ⟨t', e', row⟩ := exec_sound c s live
    cases e.symm.trans e'
    obtain ⟨a, b, d⟩ := row.duty ⟨fun x => zero (.inr x), buffer, top⟩
    refine ⟨t, e, fun x => ?_, b, d, budget⟩
    obtain trip | x := x
    · by_cases heat : c = .heaterEvent
      · subst heat
        have e : whenRunning heaterEvent s = .next t := e
        unfold whenRunning at e
        split at e
        · cases e; exact heaterEvent_cut s trip
        · cases e; exact zero (.inl trip)
      · exact row.tripCuts (fun x => zero (.inl x)) heat trip
    · exact a x

theorem exec_regulation (c : Instr) (s : State) (h : RegulationSafe s) :
    Completes (exec c s) RegulationSafe := by
  cases live : isReset c with
  | true =>
    exact (exec_reset c s live).mono fun t k => k.keeps h
      (fun cause g => (restart_sound cause g s).regulation (blank_regulation cause g s))
      (blank_regulation s.cpt.resetCause (pageAfterPowerLoss s.mst) s)
  | false => exact (exec_sound c s live).mono fun t row => row.regulation h

/-- Settles O54: the duty falls with the trip, the relay and the budget, and the setpoint with the output enable, in
every row. -/
theorem stepKeepsTheCutoffs : Obligations.StepKeepsTheCutoffs := by
  unfold Obligations.StepKeepsTheCutoffs
  exact fun s =>
    ⟨fun h => step_completes h fun c rest => exec_heater c { s with pending := rest } h,
      fun h => step_completes h fun c rest => exec_regulation c { s with pending := rest } h⟩

/-! ## Ranges and tables (O55) -/

theorem HostSets.shapes {c : Instr} (h : HostSets c s r) :
    (RangesHold s → RangesHold r) ∧ (TablesHold s → TablesHold r) := by
  cases c with
  | setCharge _ _ => cases h; exact ⟨id, id⟩
  | setBatteryLimit _ => cases h; exact ⟨id, id⟩
  | setHeating _ _ _ _ _ _ => obtain ⟨_, rfl⟩ := h; exact ⟨id, id⟩
  | writeDescriptor _ _ _ _ _ _ _ => obtain ⟨_, rfl⟩ := h; exact ⟨id, id⟩
  | configure p =>
    cases h
    refine ⟨fun ⟨a, b, d, e, f, g, slots⟩ => ⟨a, b, d, e, f, g, fun i => ?_⟩, id⟩
    have same : slotValue i (takeSettings p s) = slotValue i s := by
      simp [slotValue, takeSettings, acceptSlots]
    rw [same]
    exact slots i
  | _ => exact h.elim

theorem exec_ranges (c : Instr) (s : State) (h : RangesHold s) : Completes (exec c s) RangesHold := by
  cases live : isReset c with
  | true =>
    exact (exec_reset c s live).mono fun t k => k.keeps h
      (fun cause g => (restart_sound cause g s).ranges (blank_ranges cause g s))
      (blank_ranges s.cpt.resetCause (pageAfterPowerLoss s.mst) s)
  | false =>
    refine (exec_sound c s live).mono fun t ⟨r, sets, k⟩ => k.ranges ?_
    obtain rfl | sets := sets
    · exact h
    · exact sets.shapes.1 h

theorem exec_tables (c : Instr) (s : State) (h : TablesHold s) : Completes (exec c s) TablesHold := by
  cases live : isReset c with
  | true =>
    exact (exec_reset c s live).mono fun t k => k.keeps h
      (fun cause g => (restart_sound cause g s).tables (blank_tables cause g s))
      (blank_tables s.cpt.resetCause (pageAfterPowerLoss s.mst) s)
  | false =>
    refine (exec_sound c s live).mono fun t ⟨r, sets, k⟩ => k.tables ?_
    obtain rfl | sets := sets
    · exact h
    · exact sets.shapes.2 h

/-- Settles O55: no row leaves a value outside its range or a table out of shape. -/
theorem stepKeepsRangesAndTables : Obligations.StepKeepsRangesAndTables := by
  unfold Obligations.StepKeepsRangesAndTables
  exact fun s =>
    ⟨fun h => step_completes h fun c rest => exec_ranges c { s with pending := rest } h,
      fun h => step_completes h fun c rest => exec_tables c { s with pending := rest } h⟩

/-! ## The line (O58) -/

theorem HostSets.ident {c : Instr} (h : HostSets c s r) (k : IdentHeld s) : IdentHeld r := by
  cases c with
  | setCharge _ _ => cases h; exact k
  | setBatteryLimit _ => cases h; exact k
  | setHeating _ _ _ _ _ _ => obtain ⟨_, rfl⟩ := h; exact k
  | writeDescriptor _ _ _ _ _ _ _ => obtain ⟨_, rfl⟩ := h; exact k
  | configure _ => cases h; exact k
  | _ => exact h.elim

theorem exec_line (c : Instr) (s : State) (h : LineSettled s) : Completes (exec c s) LineSettled := by
  cases live : isReset c with
  | true =>
    refine (exec_reset c s live).mono fun t k => k.keeps h (fun cause g => ?_) (blank_line s.cpt.resetCause (pageAfterPowerLoss s.mst) s)
    have k := restart_sound cause g s
    have ⟨a, b⟩ := k.settled trivial
    exact ⟨a, b, k.ident fun _ => rfl⟩
  | false =>
    refine (exec_sound c s live).mono fun t ⟨r, sets, k⟩ => ?_
    have ⟨a, b⟩ := k.settled h
    refine ⟨a, b, k.ident ?_⟩
    obtain rfl | sets := sets
    · exact h.2.2
    · exact sets.ident h.2.2

/-- Settles O58: where a row touches what R36 or R61 reads, it decides the line or the conditions anew. -/
theorem stepKeepsTheLineSettled : Obligations.StepKeepsTheLineSettled := by
  unfold Obligations.StepKeepsTheLineSettled
  exact fun s h => step_completes h fun c rest => exec_line c { s with pending := rest } h

/-! ## The store (O56) -/

/-- The page a power loss or the reset line leaves has its copies in force, and no stored counter has fallen (R187). -/
theorem pageAfterReset_sound (h : StoreSound s) {g : Page}
    (page : g = pageAfterPowerLoss s.mst ∨ s.power = .running ∧ g = pageAfterResetLine s.mst) :
    g.hasForce ∧ (storedCounters g).fits ∧ (storedCounters s.mst.page).le (storedCounters g) := by
  obtain ⟨force, fits, runs, held⟩ := h
  unfold pageAfterPowerLoss pageAfterResetLine at page
  cases inf : s.mst.inFlight with
  | none =>
    have same : g = s.mst.page := by rw [inf] at page; obtain e | ⟨-, e⟩ := page <;> exact e
    rw [same]
    exact ⟨force, fits, Counters.le_refl _⟩
  | some f =>
    have run : s.power = .running := by
      cases power : s.power with
      | running => rfl
      | heldInReset => rw [held power] at inf; cases inf
    have store : StoreRuns s.mst := ⟨force, fits, runs run⟩
    rw [inf] at page
    obtain e | ⟨-, e⟩ := page
    · obtain ⟨a, b⟩ := Page.tear_force force ((runs run).2.2.2.1 f inf)
      rw [e]
      dsimp only
      rw [b]
      exact ⟨a, fits, Counters.le_refl _⟩
    · obtain ⟨⟨a, b, -⟩, le⟩ := complete_runs store inf
      rw [e]
      exact ⟨a, b, le⟩

theorem restart_store (cause : ResetCause) {g : Page} (s : State) (force : g.hasForce)
    (fits : (storedCounters g).fits) :
    StoreSound (restart cause g s) ∧
      (storedCounters g).le (storedCounters (restart cause g s).mst.page) := by
  obtain ⟨⟨a, b, d⟩, le⟩ := (restart_sound cause g s).store (startupView_runs force fits)
  have power : (restart cause g s).power = .running := (restart_sound cause g s).host.1
  exact ⟨⟨a, b, fun _ => d, fun held => by rw [power] at held; cases held⟩, le⟩

/-- A part held in reset leaves its store alone (log 4). -/
theorem exec_held_mst (c : Instr) (s : State) (live : isReset c = false) (held : s.power = .heldInReset) :
    Completes (exec c s) fun t => t.mst = s.mst ∧ t.power = .heldInReset := by
  have row (f : State → State) :
      Completes (whenRunning f s) fun t => t.mst = s.mst ∧ t.power = .heldInReset :=
    ⟨s, by unfold whenRunning; rw [held], rfl, held⟩
  have rowOr (g f : State → State) (k : (g s).mst = s.mst ∧ (g s).power = s.power) :
      Completes (whenRunningOr g f s) fun t => t.mst = s.mst ∧ t.power = .heldInReset :=
    ⟨g s, by unfold whenRunningOr; rw [held], k.1, k.2.trans held⟩
  cases c with
  | powerOn => cases live
  | brownOut => cases live
  | resetLine => cases live
  | powerLoss => cases live
  | relayFeedbackChange relay closed => exact rowOr _ _ (by cases relay <;> exact ⟨rfl, rfl⟩)
  | gateFeedbackChange k d reads => exact rowOr _ _ (by simp)
  | extTripLineChange b => exact rowOr (fun s => { s with ptu.extActive := b }) _ ⟨rfl, rfl⟩
  | backoffEnd => exact row id
  | _ => exact row _

theorem exec_store (c : Instr) (s : State) (h : StoreSound s) :
    Completes (exec c s) fun t =>
      StoreSound t ∧ (storedCounters s.mst.page).le (storedCounters t.mst.page) := by
  cases live : isReset c with
  | true =>
    refine (exec_reset c s live).mono fun t k => ?_
    obtain ⟨cause, g, page, rfl⟩ | rfl | ⟨-, rfl⟩ := k
    · obtain ⟨force, fits, le⟩ := pageAfterReset_sound h page
      obtain ⟨a, b⟩ := restart_store cause s force fits
      exact ⟨a, Counters.le_trans le b⟩
    · obtain ⟨force, fits, le⟩ := pageAfterReset_sound h (.inl rfl)
      exact ⟨⟨force, fits, nofun, fun _ => rfl⟩, le⟩
    · exact ⟨h, Counters.le_refl _⟩
  | false =>
    cases power : s.power with
    | heldInReset =>
      refine (exec_held_mst c s live power).mono fun t ⟨mst, held⟩ => ?_
      obtain ⟨force, fits, -, idle⟩ := h
      unfold StoreSound
      rw [mst]
      exact ⟨⟨force, fits, (fun run => by rw [held] at run; cases run), fun _ => idle power⟩,
        Counters.le_refl _⟩
    | running =>
      refine (exec_sound c s live).mono fun t ⟨r, sets, k⟩ => ?_
      obtain ⟨force, fits, runs, -⟩ := h
      have same : r.mst = s.mst ∧ r.power = s.power := by
        obtain rfl | sets := sets
        · exact ⟨rfl, rfl⟩
        · cases c with
          | setHeating _ _ _ _ _ _ => obtain ⟨_, rfl⟩ := sets; exact ⟨rfl, rfl⟩
          | writeDescriptor _ _ _ _ _ _ _ => obtain ⟨_, rfl⟩ := sets; exact ⟨rfl, rfl⟩
          | setCharge _ _ => cases sets; exact ⟨rfl, rfl⟩
          | setBatteryLimit _ => cases sets; exact ⟨rfl, rfl⟩
          | configure _ => cases sets; exact ⟨rfl, rfl⟩
          | _ => exact sets.elim
      have store := k.store
      rw [same.1] at store
      obtain ⟨⟨a, b, d⟩, le⟩ := store ⟨force, fits, runs power⟩
      have run : t.power = .running := (k.host.1.trans same.2).trans power
      exact ⟨⟨a, b, fun _ => d, fun held => by rw [run] at held; cases held⟩, le⟩

/-- Settles O56: writes go to the copy not in force, and a reset completes or tears the one in flight. -/
theorem stepKeepsTheStore : Obligations.StepKeepsTheStore := by
  unfold Obligations.StepKeepsTheStore
  exact fun s h => step_completes ⟨h, Counters.le_refl _⟩
    fun c rest => exec_store c { s with pending := rest } h

end Sys2Proof.Machine
end

section
/-! PROOF. The share is kept by every step (R44, R45, R52, R53, R63, R64). -/

namespace Sys2Proof.Machine

variable {r s : State}

/-- Before CONFIGURE no peer is held and no session is open, so the new number and fallback current fit (R199). -/
theorem takeSettings_share (p : ConfigPayload) (drive : DriveSafe s) (first : s.cpt.configured = false)
    (h : ShareSafe s) : ShareSafe (takeSettings p s) := by
  obtain ⟨-, -, -, -, unconfigured, -⟩ := drive
  obtain ⟨-, -, peers, session⟩ := unconfigured first
  obtain ⟨a, b, -, idle, d, e, -⟩ := h
  refine ⟨a, b, fun _ => ?_, idle, d, e, fun x m => ?_⟩
  · show s.shu.sEff ≤ _
    rw [idle session]
    exact Nat.zero_le _
  · have m : x ∈ s.shu.peers := m
    rw [peers] at m
    cases m

theorem HostSets.share {c : Instr} (h : HostSets c s r) (live : ∀ p, c ≠ .configure p) (k : ShareSafe s) :
    ShareSafe r := by
  cases c with
  | setCharge _ _ => cases h; exact k
  | setBatteryLimit _ => cases h; exact k
  | setHeating _ _ _ _ _ _ => obtain ⟨_, rfl⟩ := h; exact k
  | writeDescriptor _ _ _ _ _ _ _ => obtain ⟨_, rfl⟩ := h; exact k
  | configure p => exact absurd rfl (live p)
  | _ => exact h.elim

theorem configure_share (p : ConfigPayload) (drive : DriveSafe s) (h : ShareSafe s) :
    ShareSafe (configure p s) := by
  by_cases configured : s.cpt.configured = true
  · unfold configure
    rw [if_pos configured]
    exact h
  · obtain ⟨r, sets, k⟩ := configure_rowSound p s
    refine k.share ?_
    obtain rfl | sets := sets
    · exact h
    · cases sets
      exact takeSettings_share p drive (Bool.eq_false_iff.2 configured) h

theorem exec_share (c : Instr) (s : State) (drive : DriveSafe s) (h : ShareSafe s) :
    Completes (exec c s) ShareSafe := by
  cases live : isReset c with
  | true =>
    exact (exec_reset c s live).mono fun t k => k.keeps h
      (fun cause g => (restart_sound cause g s).share (blank_share cause g s))
      (blank_share s.cpt.resetCause (pageAfterPowerLoss s.mst) s)
  | false =>
    by_cases conf : ∃ p, c = .configure p
    · obtain ⟨p, rfl⟩ := conf
      exact whenRunning_completes h (configure_share p drive h)
    · refine (exec_sound c s live).mono fun t ⟨r, sets, k⟩ => k.share ?_
      obtain rfl | sets := sets
      · exact h
      · exact sets.share (fun p e => conf ⟨p, e⟩) h

/-- Settles O53: every computation of the share ends within the demand handed with it. -/
theorem stepKeepsTheShareSafe : Obligations.StepKeepsTheShareSafe := by
  unfold Obligations.StepKeepsTheShareSafe
  exact fun s drive h => step_completes h fun c rest => exec_share c { s with pending := rest } drive h

end Sys2Proof.Machine
end

section
/-! PROOF. The machine and the command port: taking the queue's front, commands while the part is held in reset,
transactions, refused requests, and the reading commands. -/

namespace Sys2Proof.Machine

variable {s : State}

/-! ## The machine (O1, O2) -/

/-- Settles O1: both are equations of `step`. -/
theorem stepTakesTheFront : Obligations.StepTakesTheFront := by
  unfold Obligations.StepTakesTheFront
  exact ⟨fun c rest s front => by rw [step, front], fun s empty => by rw [step, empty]⟩

theorem restart_pending (cause : ResetCause) (g : Page) (s : State) :
    (restart cause g s).pending = s.pending :=
  (restart_sound cause g s).host.2.1

theorem RowSound.pending {c : Instr} {t : State} (h : RowSound c s t) : t.pending = s.pending := by
  obtain ⟨r, sets, k⟩ := h
  refine k.host.2.1.trans ?_
  obtain rfl | sets := sets
  · rfl
  · cases c with
    | setHeating _ _ _ _ _ _ => obtain ⟨_, rfl⟩ := sets; rfl
    | writeDescriptor _ _ _ _ _ _ _ => obtain ⟨_, rfl⟩ := sets; rfl
    | setCharge _ _ => cases sets; rfl
    | setBatteryLimit _ => cases sets; rfl
    | configure _ => cases sets; rfl
    | _ => exact sets.elim

theorem exec_pending (c : Instr) (s : State) : Completes (exec c s) fun t => t.pending = s.pending := by
  cases live : isReset c with
  | true =>
    exact (exec_reset c s live).mono fun t k => k.keeps (P := fun t => t.pending = s.pending) rfl
      (fun cause g => restart_pending cause g s) rfl
  | false => exact (exec_sound c s live).mono fun t row => row.pending

/-- Settles O2: the queue is `step`'s, and a part held in reset follows its pins alone. -/
theorem everyCommandCompletes : Obligations.EveryCommandCompletes := by
  unfold Obligations.EveryCommandCompletes
  refine fun c s => ⟨exec_pending c s, fun held => ?_⟩
  cases c with
  | powerOn => trivial
  | brownOut => trivial
  | powerLoss => trivial
  | relayFeedbackChange relay b =>
    cases relay with
    | contactor => exact whenRunningOr_held held
    | precharge => exact whenRunningOr_held held
  | gateFeedbackChange k d b =>
    cases k <;> cases d <;> exact whenRunningOr_held held
  | extTripLineChange b => exact whenRunningOr_held (g := fun s => { s with ptu.extActive := b }) held
  | backoffEnd => exact whenRunning_held (f := id) held
  | _ => exact whenRunning_held held

/-! ## Transactions and refusals (O7, O8) -/

/-- Settles O7: the reply held at the assertion is shifted out and kept over a read-only transaction. -/
theorem transactionsReturnTheHeldReply : Obligations.TransactionsReturnTheHeldReply := by
  unfold Obligations.TransactionsReturnTheHeldReply
  refine fun s bs n run => ⟨whenRunning_running run, fun r shifting => ?_, fun readOnly => ?_, rfl⟩
  · simp only [shiftedOut, shifting, Option.map_some, Option.some.injEq]
    split
    next => rfl
    next beyond => exact List.getD_eq_default _ _ (Nat.not_lt.1 beyond)
  · have only : readOnlyBytes bs = true := by
      cases bs with
      | nil => rfl
      | cons b bs => simpa [readOnlyBytes] using readOnly
    exact (whenRunning_running run).trans (by rw [endTransaction, if_pos only])

/-- A transaction with a request that fails a check ends with that check's answer (R194). -/
theorem exec_frameError {bs : List Byte} (run : s.power = .running) (request : readOnlyBytes bs = false)
    (fault : requestFault bs = some .frameError) :
    exec (.requestRejected bs) s = .next (answerEmpty .frameError s) := by
  have ends : endTransaction bs s = answerEmpty .frameError s := by simp [endTransaction, request, fault]
  rw [← ends]
  exact whenRunning_running run

theorem exec_unknown {bs : List Byte} (run : s.power = .running) (request : readOnlyBytes bs = false)
    (fault : requestFault bs = some .unknown) :
    exec (.requestRejected bs) s = .next (answerEmpty .unknown s) := by
  have ends : endTransaction bs s = answerEmpty .unknown s := by simp [endTransaction, request, fault]
  rw [← ends]
  exact whenRunning_running run

/-- The codes of 12.3 are 1 to 23. -/
theorem payloadLength_none (code : Byte) : payloadLength code = none ↔ code.toNat < 1 ∨ 23 < code.toNat := by
  unfold payloadLength
  split <;> simp_all
  omega

/-- The first three checks of R194 on a request with a whole head and more. -/
theorem requestFault_bad {code hi lo x : Byte} {rest : List Byte}
    (bad : 256 < (code :: hi :: lo :: x :: rest).length ∨
      (be16 hi lo).toNat ≠ (code :: hi :: lo :: x :: rest).length - 4 ∨
      crc8 (code :: hi :: lo :: x :: rest) ≠ 0) :
    requestFault (code :: hi :: lo :: x :: rest) = some .frameError := by
  rw [requestFault]
  obtain long | length | check := bad
  · exact if_pos (.inr long)
  · rw [if_pos length, ite_self]
  · rw [if_pos (show crc8 _ ≠ 0#8 from check), ite_self, ite_self]

/-- Its last two checks: the code, and the length of the code's payload. -/
theorem requestFault_code {code hi lo x : Byte} {rest : List Byte}
    (good : ¬ (256 < (code :: hi :: lo :: x :: rest).length ∨
      (be16 hi lo).toNat ≠ (code :: hi :: lo :: x :: rest).length - 4 ∨
      crc8 (code :: hi :: lo :: x :: rest) ≠ 0)) :
    (payloadLength code = none → requestFault (code :: hi :: lo :: x :: rest) = some .unknown) ∧
    ∀ n, payloadLength code = some n → (be16 hi lo).toNat ≠ n →
      requestFault (code :: hi :: lo :: x :: rest) = some .frameError := by
  simp only [not_or] at good
  obtain ⟨short, length, check⟩ := good
  rw [requestFault, if_neg (not_or.2 ⟨List.cons_ne_nil x rest, short⟩), if_neg length,
    if_neg (show ¬ crc8 _ ≠ 0#8 from check)]
  refine ⟨fun unknown => ?_, fun n known other => ?_⟩
  · rw [unknown]
  · rw [known]
    exact if_neg other

/-- A request without a whole head and a check byte fails (R194). -/
theorem requestFault_short {bs : List Byte} (short : bs.length ≤ 3) :
    requestFault bs = some .frameError := by
  unfold requestFault
  split
  next code hi lo rest =>
    have none : rest = [] := List.eq_nil_of_length_eq_zero (by simp at short; omega)
    rw [if_pos (.inl none)]
  next => rfl

/-- Settles O8: the checks of R194 in their order, and the worked frame. -/
theorem badRequestsAreRefused : Obligations.BadRequestsAreRefused := by
  unfold Obligations.BadRequestsAreRefused
  refine fun s bs => ⟨fun run first some => ?_, by decide, by decide, by decide, by decide +kernel, by decide +kernel⟩
  have request : readOnlyBytes bs = false := by
    cases bs with
    | nil => exact absurd rfl some
    | cons b bs => simpa [readOnlyBytes] using first
  split
  next code hi lo x rest =>
    split
    next bad => exact exec_frameError run request (requestFault_bad bad)
    next good =>
      obtain ⟨unknown, other⟩ := requestFault_code good
      split
      next far => exact exec_unknown run request (unknown ((payloadLength_none code).2 far))
      next known =>
        intro length
        cases payload : payloadLength code with
        | none => exact absurd ((payloadLength_none code).1 payload) known
        | some n =>
          exact exec_frameError run request (other n payload fun e => length (by rw [payload, e]))
  next short =>
    have few : bs.length ≤ 3 := by
      match bs, short with
      | [], _ => simp
      | [_], _ => simp
      | [_, _], _ => simp
      | [_, _, _], _ => simp
      | a :: b :: c :: d :: l, short => exact (short a b c d l rfl).elim
    exact exec_frameError run request (requestFault_short few)

/-! ## Commands that only answer (O10, O11) -/

/-- Settles O10: each of them is one answer. -/
theorem readingCommandsOnlyAnswer : Obligations.ReadingCommandsOnlyAnswer := by
  unfold Obligations.ReadingCommandsOnlyAnswer
  intro s run
  exact ⟨whenRunning_running run, whenRunning_running run, whenRunning_running run, whenRunning_running run⟩

/-- The reported fields of a slot by its number (R114). -/
theorem rmsOfSlot_eq (i : Fin 16) (s : State) : rmsOfSlot i s =
    if i = 0 then some s.msq.phases.u.rmsV else if i = 1 then some s.msq.phases.u.rmsI
    else if i = 2 then some s.msq.phases.v.rmsV else if i = 3 then some s.msq.phases.v.rmsI
    else if i = 4 then some s.msq.phases.w.rmsV else if i = 5 then some s.msq.phases.w.rmsI else none := by
  fin_cases i <;> rfl

theorem validityOfSlot_eq (i : Fin 16) (s : State) : validityOfSlot i s =
    if i = 10 then some s.msq.tbat1Valid else if i = 11 then some s.msq.tbat2Valid
    else if i = 12 then some s.msq.tcoolValid else none := by
  fin_cases i <;> rfl

/-- Settles O11: a reading answers from the state; the clear flag also ends the slot's statuses. -/
theorem measureAndInsulationAreRead : Obligations.MeasureAndInsulationAreRead := by
  unfold Obligations.MeasureAndInsulationAreRead
  refine fun s slot clear run => ⟨fun far => ?_, fun near big => ?_, fun i at_ small => ?_, ?_⟩
  · exact (whenRunning_running run).trans (by rw [readMeasure, dif_neg (by omega)])
  · exact (whenRunning_running run).trans (by rw [readMeasure, dif_pos (by omega), if_pos big])
  · refine (whenRunning_running run).trans ?_
    have slotIs : (⟨slot.toNat, by omega⟩ : Fin 16) = i := Fin.ext at_
    rw [readMeasure, dif_pos (by omega), if_neg (by omega), slotIs, measureReport, rmsOfSlot_eq,
      validityOfSlot_eq]
    by_cases one : clear = 1
    · subst one
      rfl
    · rw [if_neg one, beq_false_of_ne one]
      rfl
  · refine ⟨_, whenRunning_running run, rfl, rfl, ?_, fun idle => ?_, rfl⟩
    · show holdTimeLeft s ≤ 600000
      unfold holdTimeLeft
      split <;> omega
    · show holdTimeLeft s = 0
      rw [holdTimeLeft, idle]
      rfl

end Sys2Proof.Machine
end

section
/-! PROOF. The state a start leaves, and the page under a power loss. -/

namespace Sys2Proof.Machine

variable {s : State}

/-! ## The reset state (O51) -/

theorem reset_drive : DriveSafe State.reset :=
  ⟨nofun, by decide, by decide, nofun, fun _ => ⟨.inl rfl, rfl, rfl, rfl⟩, fun h => (h rfl).elim⟩

theorem reset_injection : InjectionSafe State.reset :=
  ⟨fun _ => rfl, fun _ => ⟨rfl, by decide⟩, nofun, nofun⟩

theorem reset_store : StoreSound State.reset := by
  have idle : State.reset.mst.inFlight = none := rfl
  have empty : State.reset.mst.writes = [] := rfl
  refine ⟨by decide, by decide, fun _ => ⟨by decide, by decide, .nil, fun f flying => ?_, fun w pending => ?_⟩, fun _ => rfl⟩
  · rw [idle] at flying; cases flying
  · rw [empty] at pending; cases pending

/-- Settles O51: the part starts in the monitor's LOCAL with everything else at rest. -/
theorem resetMeetsTheInvariants : Obligations.ResetMeetsTheInvariants := by
  unfold Obligations.ResetMeetsTheInvariants
  exact ⟨reset_drive, reset_injection, blank_share .powerOn .factory .reset, blank_heater .powerOn .factory .reset,
    blank_regulation .powerOn .factory .reset, blank_ranges .powerOn .factory .reset,
    blank_tables .powerOn .factory .reset, reset_store, blank_line .powerOn .factory .reset⟩

end Sys2Proof.Machine
end
section

namespace Sys2Proof.Machine

variable {s : State}

/-! ## The start-up read on an idle store (R192) -/

/-- The store's record is placed with nothing pending: the counters are in flight, the other write waits. -/
def recordPlaced (snapshot : SessionBase) (cause : EndCause) (stored : Bool) (m : Mst) : Mst :=
  let r := recordOf snapshot cause
  let m := { m with inFlight := some (flightOf m.page (.counters m.working)) }
  if m.queue.length < 4 then
    { m with
      queue := m.queue ++ [⟨freePlace m.queue, ⟨m.nextPlacement, r⟩⟩]
      nextPlacement := m.nextPlacement + 1
      writes := [.place (freePlace m.queue) (some ⟨m.nextPlacement, r⟩) true] }
  else if m.stacked = none then { m with stacked := some r, writes := [.place .p5 (some ⟨0, r⟩) true] }
  else { m with waiting := some r, writes := if stored then [] else [.checkpoint (.closed snapshot cause)] }

theorem queueWrite_first (w : PageWrite) (idle : s.mst.inFlight = none) (empty : s.mst.writes = []) :
    queueWrite w s = { s with mst.inFlight := some (flightOf s.mst.page w) } := by
  obtain ⟨⟩ := s
  simp_all [queueWrite, Mst.queueWrite, Mst.startNext, putWrite, onlyIf]

theorem queueWrite_second (v w : PageWrite) (idle : s.mst.inFlight = none) (empty : s.mst.writes = []) :
    queueWrite w (queueWrite v s) =
      { s with mst := { s.mst with inFlight := some (flightOf s.mst.page v), writes := [w] } } := by
  rw [queueWrite_first v idle empty]
  simp_all [queueWrite, Mst.queueWrite, Mst.startNext, putWrite, onlyIf]

theorem queueSnapshot_second (v : Counters) (c : Checkpoint) (idle : s.mst.inFlight = none)
    (empty : s.mst.writes = []) : queueSnapshot c (queueWrite (.counters v) s) =
      { s with mst := { s.mst with
          inFlight := some (flightOf s.mst.page (.counters v)), writes := [.checkpoint c] } } := by
  rw [queueSnapshot, queueWrite_first _ idle empty]
  simp_all [cancelClears, flightOf, PageWrite.keepSnapshot, queueWrite, Mst.queueWrite, Mst.startNext, putWrite,
    onlyIf]

theorem placeRecord_idle (b : SessionBase) (cause : EndCause) (stored : Bool) (idle : s.mst.inFlight = none)
    (empty : s.mst.writes = []) :
    placeRecord b cause stored s =
      onlyIf (decide (s.mst.queue.length < 4)) (raiseEvent .reportReady)
        { s with mst := recordPlaced b cause stored s.mst } := by
  unfold placeRecord recordPlaced queueCounters
  dsimp only
  split
  next room =>
    rw [queueWrite_second _ _ (by exact idle) (by exact empty)]
    simp only [room, decide_true]
    rfl
  next full =>
    simp only [full, decide_false]
    split
    · rw [queueWrite_second _ _ (by exact idle) (by exact empty)]
      rfl
    · cases stored with
      | true =>
        rw [Bool.not_true, onlyIf_false, queueWrite_first _ (by exact idle) (by exact empty)]
        simp [empty]
      | false =>
        rw [Bool.not_false, onlyIf_true, queueSnapshot_second _ _ (by exact idle) (by exact empty)]
        rfl

/-- The leftover checkpoint as a record (R192, step 4). -/
def snapshotTaken (m : Mst) : Mst :=
  match (m.page.checkpoint.inForce.map (·.2.content)).getD .empty with
  | .empty => m
  | .opened b =>
    if holdsSession m b then m
    else recordPlaced { b with flags := { b.flags with estimated := true } } .powerLost false m
  | .closed b cause => if holdsSession m b then m else recordPlaced b cause true m

/-- The store after the start-up read of a page. -/
def startStore (g : Page) : Mst := snapshotTaken (startupView g)

theorem recordPlaced_keeps (b : SessionBase) (cause : EndCause) (stored : Bool) (m : Mst) :
    (recordPlaced b cause stored m).page = m.page ∧ (recordPlaced b cause stored m).torn = m.torn ∧
    (recordPlaced b cause stored m).working = m.working ∧
    (recordPlaced b cause stored m).sessionEnergy = m.sessionEnergy ∧
    (recordPlaced b cause stored m).lifeEnergy = m.lifeEnergy := by
  unfold recordPlaced
  dsimp only
  split
  · exact ⟨rfl, rfl, rfl, rfl, rfl⟩
  · split <;> exact ⟨rfl, rfl, rfl, rfl, rfl⟩

theorem startStore_keeps (g : Page) :
    (startStore g).page = g ∧ (startStore g).torn = g.anyTorn ∧
    (startStore g).working = (g.counters.inForce.map (·.2.content)).getD ⟨0, 0, 0⟩ ∧
    (startStore g).sessionEnergy = 0 ∧ (startStore g).lifeEnergy = 0 := by
  unfold startStore snapshotTaken
  split
  · exact ⟨rfl, rfl, rfl, rfl, rfl⟩
  · split
    · exact ⟨rfl, rfl, rfl, rfl, rfl⟩
    · exact recordPlaced_keeps ..
  · split
    · exact ⟨rfl, rfl, rfl, rfl, rfl⟩
    · exact recordPlaced_keeps ..

theorem mem_onlyIf_raise {e k : EventKind} {b : Bool} :
    e ∈ (onlyIf b (raiseEvent k) s).cpt.events ↔ (e = k ∧ b = true) ∨ e ∈ s.cpt.events := by
  cases b <;> simp [raiseEvent]

theorem onlyIf_raise_eq (b : Bool) (k : EventKind) (s : State) :
    onlyIf b (raiseEvent k) s = { s with cpt.events := (onlyIf b (raiseEvent k) s).cpt.events } := by
  cases b <;> rfl

/-- A record that finds room raises REPORT_READY with its joining (R189). -/
theorem startupSnapshot_idle (idle : s.mst.inFlight = none) (empty : s.mst.writes = []) :
    ∃ joins : Bool, (joins = true → (snapshotTaken s.mst).queue ≠ []) ∧
      startupSnapshot s = onlyIf joins (raiseEvent .reportReady) { s with mst := snapshotTaken s.mst } := by
  have joined (b : SessionBase) (cause : EndCause) (stored : Bool)
      (room : decide (s.mst.queue.length < 4) = true) : (recordPlaced b cause stored s.mst).queue ≠ [] := by
    simp [recordPlaced, of_decide_eq_true room]
  unfold startupSnapshot snapshotTaken
  generalize (s.mst.page.checkpoint.inForce.map (·.2.content)).getD .empty = leftover
  cases leftover with
  | empty => exact ⟨false, nofun, rfl⟩
  | opened b =>
    by_cases held : holdsSession s.mst b = true
    · simp only [if_pos held]
      exact ⟨false, nofun, rfl⟩
    · simp only [if_neg held]
      exact ⟨_, joined _ _ _, placeRecord_idle _ _ _ idle empty⟩
  | closed b cause =>
    by_cases held : holdsSession s.mst b = true
    · simp only [if_pos held]
      exact ⟨false, nofun, rfl⟩
    · simp only [if_neg held]
      exact ⟨_, joined _ _ _, placeRecord_idle _ _ _ idle empty⟩

/-- A start raises STORE_TORN for a torn entry and REPORT_READY for a report, and nothing else (R192, R200). -/
abbrev StartEvents (g : Page) (es : List EventKind) : Prop :=
  ∀ k, k ∈ es ↔ (k = .storeTorn ∧ g.anyTorn = true) ∨ (k = .reportReady ∧ (startStore g).queue ≠ [])

/-- The state a start leaves (R192, R200). -/
theorem restart_eq (cause : ResetCause) (g : Page) (s : State) :
    ∃ es, StartEvents g es ∧ restart cause g s =
      { State.blank cause g s.psq s.ptu s.fresh s.pending with
        psq := { Psq.reset s.psq.contactorFb s.psq.prechargeFb with
          contactorSup := s.psq.contactorCmd || s.psq.contactorFb, prechargeSup := s.psq.prechargeCmd }
        mst := startStore g
        cpt := { Cpt.reset cause with events := es } } := by
  have view : (onlyIf g.anyTorn (raiseEvent .storeTorn) (startState cause g s)).mst = startupView g := by
    rw [onlyIf_raise_eq]; rfl
  obtain ⟨joins, nonempty, e⟩ := startupSnapshot_idle (by rw [view]; rfl) (by rw [view]; rfl)
  rw [view] at nonempty e
  change joins = true → (startStore g).queue ≠ [] at nonempty
  have read : startupRead (.blank cause g s.psq s.ptu s.fresh s.pending) =
      onlyIf (!(startStore g).queue.isEmpty) (raiseEvent .reportReady)
        (onlyIf joins (raiseEvent .reportReady)
          { onlyIf g.anyTorn (raiseEvent .storeTorn) (startState cause g s) with mst := startStore g }) := by
    have store : (startupSnapshot (onlyIf g.anyTorn (raiseEvent .storeTorn) (startState cause g s))).mst =
        startStore g := by rw [e, onlyIf_raise_eq]; rfl
    show onlyIf (!(startupSnapshot (onlyIf g.anyTorn (raiseEvent .storeTorn) (startState cause g s))).mst.queue.isEmpty)
      (raiseEvent .reportReady) (startupSnapshot (onlyIf g.anyTorn (raiseEvent .storeTorn) (startState cause g s))) = _
    rw [store, e]
    rfl
  refine ⟨(restart cause g s).cpt.events, fun k => ?_, ?_⟩
  · show k ∈ (startupRead (.blank cause g s.psq s.ptu s.fresh s.pending)).cpt.events ↔ _
    rw [read, mem_onlyIf_raise, mem_onlyIf_raise]
    have torn : k ∈ (onlyIf g.anyTorn (raiseEvent .storeTorn) (startState cause g s)).cpt.events ↔
        k = .storeTorn ∧ g.anyTorn = true := by
      rw [mem_onlyIf_raise]
      exact or_iff_left List.not_mem_nil
    have joins : joins = true → !(startStore g).queue.isEmpty := by simpa using nonempty
    have some : !(startStore g).queue.isEmpty ↔ (startStore g).queue ≠ [] := by simp
    rw [torn, ← some]
    tauto
  · unfold restart superviseAtStart
    rw [read, onlyIf_raise_eq, onlyIf_raise_eq, onlyIf_raise_eq]
    rfl

/-- The cause and the page of a start (R187, R200). -/
theorem exec_startsAnew {c : Instr} (start : StartsAnew c s) :
    ∃ cause g, exec c s = .next (restart cause g s) ∧
      ((c = .powerOn → cause = .powerOn) ∧ (c = .brownOut → cause = .brownOut) ∧
        (c = .resetLine → cause = .resetLine)) ∧
      g = if c = .resetLine then pageAfterResetLine s.mst else pageAfterPowerLoss s.mst := by
  obtain rfl | rfl | ⟨rfl, run⟩ := start
  · exact ⟨_, _, rfl, by decide, rfl⟩
  · exact ⟨_, _, rfl, by decide, rfl⟩
  · exact ⟨_, _, whenRunning_running run, by decide, rfl⟩

theorem legReset_eq (f : Feedback) : LegState.reset f = ⟨.off, false, false, none, ConflictAtStart f⟩ := by
  obtain ⟨_ | _, _ | _⟩ := f <;> rfl

/-- Settles O4: every block is at its reset state over the page (R25 to R200). -/
theorem startRestoresTheResetState : Obligations.StartRestoresTheResetState := by
  unfold Obligations.StartRestoresTheResetState
  intro c s start
  obtain ⟨cause, g, e, causes, -⟩ := exec_startsAnew start
  obtain ⟨es, events, eq⟩ := restart_eq cause g s
  refine ⟨_, e, ?_⟩
  rw [eq]
  refine ⟨rfl, rfl, rfl, rfl, rfl, ?ptu, rfl, ?gates, rfl, ?slots, rfl, rfl, rfl, ?table, rfl, rfl, rfl, fun k mem => ?_,
    causes.1, causes.2.1, causes.2.2, by and_intros <;> rfl⟩
  case ptu =>
    show Ptu.reset s.ptu.feedback s.ptu.extActive = _
    rw [Ptu.reset, legReset_eq, legReset_eq, legReset_eq]
    rfl
  case gates => intro k d; cases k <;> rfl
  case slots =>
    change ∀ i : Fin 16, Msq.reset.slots[i] = _
    decide
  case table =>
    change ∀ i : Fin 16, Mtr.reset.table[i] = _
    decide
  obtain ⟨torn, -⟩ | ⟨ready, -⟩ := (events k).1 mem
  · exact .inl torn
  · exact .inr ready

theorem queueWrite_page (w : PageWrite) (s : State) : (queueWrite w s).mst.page = s.mst.page := by
  rw [queueWrite_mst, Mst.queueWrite_eq]

theorem completeWrite_page (s : State) : (completeWrite s).mst.page = pageAfterResetLine s.mst := by
  unfold completeWrite pageAfterResetLine
  cases s.mst.inFlight with
  | none => rfl
  | some f =>
    dsimp only
    split
    · rw [queueWrite_page]
    · exact Mst.startNext_page _

theorem restart_page (cause : ResetCause) (g : Page) (s : State) : (restart cause g s).mst.page = g := by
  obtain ⟨es, -, eq⟩ := restart_eq cause g s
  rw [eq]
  exact (startStore_keeps g).1

/-- What a write in flight leaves of its target when power is lost (R187). -/
theorem Page.tear_eq (g : Page) (f : Flight) :
    match f.write with
    | .place p _ _ =>
      (g.tear f).counters = g.counters ∧ (g.tear f).checkpoint = g.checkpoint ∧ (g.tear f).place p = .torn ∧
        ∀ q, q ≠ p → (g.tear f).place q = g.place q
    | .counters _ =>
      (g.tear f).counters = g.counters.put f.copy .torn ∧ (g.tear f).checkpoint = g.checkpoint ∧
        ∀ q, (g.tear f).place q = g.place q
    | .checkpoint _ =>
      (g.tear f).checkpoint = g.checkpoint.put f.copy .torn ∧ (g.tear f).counters = g.counters ∧
        ∀ q, (g.tear f).place q = g.place q := by
  unfold Page.tear
  cases f.write with
  | place p _ _ =>
    exact ⟨(Page.putPlace_doubled ..).1, (Page.putPlace_doubled ..).2, Page.place_putPlace_self ..,
      fun q other => Page.place_putPlace_other g other _⟩
  | counters _ => exact ⟨rfl, rfl, fun q => by cases q <;> rfl⟩
  | checkpoint _ => exact ⟨rfl, rfl, fun q => by cases q <;> rfl⟩

/-- Settles O5: the page is torn at the write in flight alone, which the reset line lets complete. -/
theorem powerLossTearsTheWriteInFlight : Obligations.PowerLossTearsTheWriteInFlight := by
  unfold Obligations.PowerLossTearsTheWriteInFlight
  intro s
  refine ⟨_, rfl, rfl, rfl, rfl, rfl, rfl, rfl, fun idle => ?_, fun f flying => ?_, ?_⟩
  · show pageAfterPowerLoss s.mst = _
    rw [pageAfterPowerLoss, idle]
  · have page : (powerLoss s).mst.page = s.mst.page.tear f := by
      show pageAfterPowerLoss s.mst = _
      rw [pageAfterPowerLoss, flying]
    rw [page]
    exact s.mst.page.tear_eq f
  · refine ⟨resetLine { s with power := .running }, rfl, completeWrite { s with power := .running }, rfl, ?_⟩
    exact (restart_page ..).trans (completeWrite_page _).symm

end Sys2Proof.Machine
end

section
/-! PROOF. The reports that the places of a page give at a start (R189, R192). -/

namespace Sys2Proof.Machine

variable {s : State}

/-! ## The queue of a page (R192, step 3) -/

/-- The reports of a page before they are put in order. -/
def pageReports (g : Page) : List Report :=
  ([.p1, .p2, .p3, .p4] : List Place).flatMap fun p => ((g.place p).record.map fun x => (⟨p, x⟩ : Report)).toList

theorem insertReport_perm (r : Report) (q : List Report) : (insertReport r q).Perm (r :: q) := by
  induction q with
  | nil => exact .refl _
  | cons x xs ih =>
    unfold insertReport
    split
    · exact .refl _
    · exact (ih.cons x).trans (.swap r x xs)

theorem insertReport_sorted (r : Report) {q : List Report}
    (sorted : q.Pairwise fun a b => a.placed.placement ≤ b.placed.placement) :
    (insertReport r q).Pairwise fun a b => a.placed.placement ≤ b.placed.placement := by
  induction q with
  | nil => exact List.pairwise_singleton _ _
  | cons x xs ih =>
    obtain ⟨first, rest⟩ := List.pairwise_cons.1 sorted
    unfold insertReport
    split
    next below =>
      refine List.pairwise_cons.2 ⟨fun y mem => ?_, sorted⟩
      obtain rfl | mem := List.mem_cons.1 mem
      · exact BitVec.le_of_lt below
      · exact BitVec.le_trans (BitVec.le_of_lt below) (first y mem)
    next above =>
      refine List.pairwise_cons.2 ⟨fun y mem => ?_, ih rest⟩
      obtain rfl | mem := List.mem_cons.1 ((insertReport_perm r xs).mem_iff.1 mem)
      · exact BitVec.not_lt.1 above
      · exact first y mem

theorem startupQueue_perm (g : Page) : (startupQueue g).Perm (pageReports g) := by
  have fold : ∀ rs q : List Report, (rs.foldl (fun q r => insertReport r q) q).Perm (q ++ rs) := by
    intro rs
    induction rs with
    | nil => intro q; rw [List.append_nil]; exact .refl _
    | cons r rs ih =>
      intro q
      exact (ih _).trans (((insertReport_perm r q).append_right rs).trans List.perm_middle.symm)
  have e : pageReports g = _ ++ (_ ++ (_ ++ (_ ++ []))) := rfl
  rw [e, List.append_nil, ← List.append_assoc, ← List.append_assoc]
  exact fold _ []

theorem startupQueue_sorted (g : Page) :
    (startupQueue g).Pairwise fun a b => a.placed.placement ≤ b.placed.placement := by
  have fold : ∀ rs q : List Report, (q.Pairwise fun a b => a.placed.placement ≤ b.placed.placement) →
      (rs.foldl (fun q r => insertReport r q) q).Pairwise fun a b => a.placed.placement ≤ b.placed.placement := by
    intro rs
    induction rs with
    | nil => exact fun q h => h
    | cons r rs ih => exact fun q h => ih _ (insertReport_sorted r h)
  exact fold _ [] .nil

theorem record_eq_some {x : Stored (Option Placed)} {r : Placed} : x.record = some r ↔ x = .valid (some r) := by
  cases x <;> simp [Stored.record]

theorem mem_startupQueue {g : Page} {p : Place} {r : Placed} :
    ⟨p, r⟩ ∈ startupQueue g ↔ p ≠ .p5 ∧ g.place p = .valid (some r) := by
  rw [(startupQueue_perm g).mem_iff]
  simp only [pageReports, List.mem_flatMap, Option.mem_toList, Option.map_eq_some_iff, record_eq_some,
    Report.mk.injEq]
  constructor
  · rintro ⟨q, mem, x, valid, rfl, rfl⟩
    refine ⟨?_, valid⟩
    rintro rfl
    simp at mem
  · rintro ⟨other, valid⟩
    refine ⟨p, ?_, r, valid, rfl, rfl⟩
    cases p <;> simp at other ⊢

theorem startupQueue_places (g : Page) : ((startupQueue g).map (·.place)).Nodup := by
  refine ((startupQueue_perm g).map _).nodup_iff.2 ?_
  have sub : ∀ ps : List Place, ((ps.flatMap fun p =>
      ((g.place p).record.map fun x => (⟨p, x⟩ : Report)).toList).map (·.place)).Sublist ps := by
    intro ps
    induction ps with
    | nil => exact .refl _
    | cons p ps ih =>
      rw [List.flatMap_cons, List.map_append]
      cases (g.place p).record with
      | none => exact ih.cons p
      | some x => exact ih.cons_cons p
  exact (sub _).nodup (by decide)

/-! ## The stacked record and the next placement number (R192, step 3) -/

theorem sameSession_iff {n : Nat} {stamp : Word32} {r : SessionRecord} :
    sameSession n stamp r = true ↔ r.number = n ∧ r.stamp = stamp := by
  simp [sameSession]

theorem startupStacked_eq_some {g : Page} {q : List Report} {r : SessionRecord} :
    startupStacked g q = some r ↔ (∃ n, g.place .p5 = .valid (some ⟨n, r⟩)) ∧
      ∀ x ∈ q, ¬ (x.placed.record.number = r.number ∧ x.placed.record.stamp = r.stamp) := by
  unfold startupStacked
  show (match (g.place .p5).record with | some x => _ | none => none) = some r ↔ _
  cases place : (g.place .p5).record with
  | none =>
    refine ⟨nofun, fun ⟨⟨n, valid⟩, _⟩ => ?_⟩
    rw [record_eq_some.2 valid] at place
    cases place
  | some x =>
    have same : (q.any fun r => sameSession x.record.number x.record.stamp r.placed.record) = true ↔
        ∃ y ∈ q, y.placed.record.number = x.record.number ∧ y.placed.record.stamp = x.record.stamp := by
      simp [sameSession_iff]
    have valid := record_eq_some.1 place
    dsimp only
    split
    next known =>
      refine ⟨nofun, fun ⟨⟨n, e⟩, fresh⟩ => ?_⟩
      cases valid.symm.trans e
      obtain ⟨y, mem, k⟩ := same.1 known
      exact absurd k (fresh y mem)
    next unknown =>
      constructor
      · rintro ⟨⟩
        exact ⟨⟨x.placement, valid⟩, fun y mem k => unknown (same.2 ⟨y, mem, k⟩)⟩
      · rintro ⟨⟨n, e⟩, -⟩
        cases valid.symm.trans e
        rfl

/-- The placement number a place holds, and 0 without one. -/
def placementAt (g : Page) (p : Place) : Nat := ((g.place p).record.map fun x => x.placement.toNat).getD 0

theorem placementAt_valid {g : Page} {p : Place} {r : Placed} (valid : g.place p = .valid (some r)) :
    placementAt g p = r.placement.toNat := by
  rw [placementAt, record_eq_some.2 valid]
  rfl

/-- The highest placement number found. -/
def highestPlacement (g : Page) : Nat :=
  max (placementAt g .p1) (max (placementAt g .p2) (max (placementAt g .p3) (max (placementAt g .p4) (placementAt g .p5))))

theorem placementAt_le (g : Page) (p : Place) : placementAt g p ≤ highestPlacement g := by
  unfold highestPlacement
  cases p <;> simp

/-- The highest number is a record's, or none was found. -/
theorem highestPlacement_found (g : Page) :
    highestPlacement g = 0 ∨ ∃ p r, g.place p = .valid (some r) ∧ highestPlacement g = r.placement.toNat := by
  have place : ∃ p, highestPlacement g = placementAt g p := by
    by_contra none
    simp only [not_exists] at none
    have := none .p1
    have := none .p2
    have := none .p3
    have := none .p4
    have := none .p5
    unfold highestPlacement at *
    omega
  obtain ⟨p, e⟩ := place
  cases record : (g.place p).record with
  | none =>
    left
    rw [e, placementAt, record]
    rfl
  | some r =>
    have valid := record_eq_some.1 record
    exact .inr ⟨p, r, valid, e.trans (placementAt_valid valid)⟩

theorem highestPlacement_lt (g : Page) : highestPlacement g < 2 ^ 32 := by
  obtain e | ⟨p, r, -, e⟩ := highestPlacement_found g
  · rw [e]; decide
  · rw [e]; exact r.placement.isLt

theorem startupPlacement_eq (g : Page) : startupPlacement g = BitVec.ofNat 32 (highestPlacement g + 1) := rfl

/-- The reports of a page as R192 gives them. -/
theorem startupQueue_reports (g : Page) :
    ReportsOfPage g (startupQueue g) (startupStacked g (startupQueue g)) (startupPlacement g) := by
  refine ⟨fun p r => mem_startupQueue, startupQueue_places g, startupQueue_sorted g, fun r => ?_, fun p r valid => ?_,
    ?_⟩
  · exact startupStacked_eq_some
  · have le := placementAt_le g p
    have lt := highestPlacement_lt g
    rw [placementAt_valid valid] at le
    rw [startupPlacement_eq]
    have prev : BitVec.ofNat 32 (highestPlacement g + 1) - 1 = BitVec.ofNat 32 (highestPlacement g) := by
      apply BitVec.eq_of_toNat_eq
      simp
      omega
    rw [prev, BitVec.le_def, BitVec.toNat_ofNat, Nat.mod_eq_of_lt lt]
    exact le
  · rw [startupPlacement_eq]
    obtain e | ⟨p, r, valid, e⟩ := highestPlacement_found g
    · left
      rw [e]
      rfl
    · refine .inr ⟨p, r, valid, ?_⟩
      rw [e, BitVec.ofNat_add, BitVec.ofNat_toNat, BitVec.setWidth_eq]
      rfl

/-! ## The place of a joining record (R189) -/

/-- The place of a record that joins the queue is the lowest-numbered free one. -/
theorem freePlace_lowest {q : List Report} (room : q.length < 4) : LowestFree (freePlace q) q := by
  have used (p : Place) : (q.all fun r => r.place != p) = !(q.any fun r => r.place == p) := by
    rw [List.not_any_eq_all_not]
    rfl
  have free : ¬ ∀ p ∈ ([.p1, .p2, .p3, .p4] : List Place), (q.any fun r => r.place == p) = true := by
    intro all
    have sub : ([.p1, .p2, .p3, .p4] : List Place) ⊆ q.map (·.place) := by
      intro p mem
      obtain ⟨r, k, e⟩ := List.any_eq_true.1 (all p mem)
      exact List.mem_map.2 ⟨r, k, by simpa using e⟩
    have le := (List.subperm_of_subset (by decide) sub).length_le
    rw [List.length_map] at le
    exact absurd le (by simpa using room)
  cases one : q.any fun r => r.place == .p1 with
  | false => simp [LowestFree, freePlace, used, one]
  | true =>
    cases two : q.any fun r => r.place == .p2 with
    | false => simp [LowestFree, freePlace, used, one, two]
    | true =>
      cases three : q.any fun r => r.place == .p3 with
      | false => simp [LowestFree, freePlace, used, one, two, three]
      | true =>
        cases four : q.any fun r => r.place == .p4 with
        | false => simp [LowestFree, freePlace, used, one, two, three, four]
        | true =>
          exact (free (List.forall_mem_cons.2 ⟨one, List.forall_mem_cons.2 ⟨two, List.forall_mem_cons.2 ⟨three,
            List.forall_mem_cons.2 ⟨four, nofun⟩⟩⟩⟩)).elim

/-! ## The start (O6) -/

theorem anyTorn_iff (g : Page) : g.anyTorn = true ↔
    g.counters.a = .torn ∨ g.counters.b = .torn ∨ g.checkpoint.a = .torn ∨ g.checkpoint.b = .torn ∨
      ∃ p, g.place p = .torn := by
  have places : (∃ p, g.place p = .torn) ↔
      g.p1 = .torn ∨ g.p2 = .torn ∨ g.p3 = .torn ∨ g.p4 = .torn ∨ g.p5 = .torn := by
    constructor
    · rintro ⟨p, torn⟩
      cases p <;> simp_all [Page.place]
    · rintro (e | e | e | e | e)
      exacts [⟨.p1, e⟩, ⟨.p2, e⟩, ⟨.p3, e⟩, ⟨.p4, e⟩, ⟨.p5, e⟩]
  rw [places]
  simp [Page.anyTorn, or_assoc]

/-- The store holds a record of a session where the page does (R192): one in place 5 that the queue has already is
held there. -/
theorem holdsSession_iff (g : Page) (b : SessionBase) :
    holdsSession (startupView g) b = true ↔ HeldOnPage g b := by
  have queued : ((startupView g).queue.any fun r => sameSession b.number b.stamp r.placed.record) = true ↔
      ∃ p r, p ≠ .p5 ∧ g.place p = .valid (some r) ∧ r.record.number = b.number ∧ r.record.stamp = b.stamp := by
    simp only [List.any_eq_true, sameSession_iff]
    constructor
    · rintro ⟨⟨p, r⟩, mem, same⟩
      obtain ⟨other, valid⟩ := mem_startupQueue.1 mem
      exact ⟨p, r, other, valid, same⟩
    · rintro ⟨p, r, other, valid, same⟩
      exact ⟨⟨p, r⟩, mem_startupQueue.2 ⟨other, valid⟩, same⟩
  have stacked : ((startupView g).stacked.map (sameSession b.number b.stamp)).getD false = true ↔
      ∃ r, startupStacked g (startupQueue g) = some r ∧ r.number = b.number ∧ r.stamp = b.stamp := by
    show ((startupStacked g (startupQueue g)).map _).getD false = true ↔ _
    cases startupStacked g (startupQueue g) with
    | none => simp
    | some r => simp [sameSession_iff]
  rw [holdsSession, Bool.or_eq_true, queued, stacked]
  constructor
  · rintro (⟨p, r, -, valid, same⟩ | ⟨r, held, same⟩)
    · exact ⟨p, r, valid, same⟩
    · obtain ⟨⟨n, valid⟩, -⟩ := startupStacked_eq_some.1 held
      exact ⟨.p5, ⟨n, r⟩, valid, same⟩
  · rintro ⟨p, r, valid, same⟩
    by_cases five : p = .p5
    · subst five
      by_cases known : ∃ x ∈ startupQueue g,
          x.placed.record.number = r.record.number ∧ x.placed.record.stamp = r.record.stamp
      · obtain ⟨⟨q, x⟩, mem, number, stamp⟩ := known
        obtain ⟨other, valid⟩ := mem_startupQueue.1 mem
        exact .inl ⟨q, x, other, valid, number.trans same.1, stamp.trans same.2⟩
      · refine .inr ⟨r.record, startupStacked_eq_some.2 ⟨⟨r.placement, valid⟩, fun x mem k => ?_⟩, same⟩
        exact known ⟨x, mem, k⟩
    · exact .inl ⟨p, r, five, valid, same⟩

/-- A leftover snapshot of no held record is placed (R189, R192). -/
theorem recordPlaced_snapshot {t : State} (b : SessionBase) (cause : EndCause) (stored : Bool) (g : Page)
    (store : t.mst = recordPlaced b cause stored (startupView g)) :
    SnapshotPlaced (recordOf b cause) (if stored then [] else [.checkpoint (.closed b cause)]) t := by
  have page : t.mst.page = g := by rw [store]; exact (recordPlaced_keeps ..).1
  unfold SnapshotPlaced
  rw [page, store]
  unfold recordPlaced
  have room : (startupView g).queue = startupQueue g := rfl
  have slot : (startupView g).stacked = startupStacked g (startupQueue g) := rfl
  dsimp only
  rw [room, slot]
  by_cases free : (startupQueue g).length < 4
  · simp only [if_pos free]
    exact ⟨rfl, _, freePlace_lowest free, by and_intros <;> trivial⟩
  · simp only [if_neg free]
    cases stacked : startupStacked g (startupQueue g) with
    | none => exact ⟨rfl, rfl, rfl, rfl, rfl, rfl⟩
    | some x =>
      simp only [if_neg (Option.some_ne_none x)]
      exact ⟨rfl, by and_intros <;> trivial⟩

/-- Settles O6: the start reads the page and places a snapshot that the page holds no record of. -/
theorem startUpReadsThePage : Obligations.StartUpReadsThePage := by
  unfold Obligations.StartUpReadsThePage
  intro c s start
  obtain ⟨cause, g, e, -, page⟩ := exec_startsAnew start
  obtain ⟨es, events, eq⟩ := restart_eq cause g s
  refine ⟨_, e, ?_⟩
  rw [eq]
  obtain ⟨keeps, torn, working, session, life⟩ := startStore_keeps g
  dsimp only
  rw [keeps, torn]
  refine ⟨fun idle => ?_, fun f flying => ?_, session, life, anyTorn_iff g, ?_, ?_, fun x force => ?_,
    startupQueue_reports g, ?_⟩
  · rw [page, pageAfterResetLine, pageAfterPowerLoss, idle, ite_self]
  · rw [page, pageAfterResetLine, pageAfterPowerLoss, flying]
  · simp [events .storeTorn]
  · simp [events .reportReady]
  · rw [working, force]
    rfl
  · have store : startStore g = snapshotTaken (startupView g) := rfl
    unfold snapshotTaken at store
    rw [show (startupView g).page = g from rfl] at store
    have idle {t : State} (view : t.mst = startupView g) : NoSnapshot t := by
      unfold NoSnapshot
      rw [view]
      exact ⟨rfl, rfl, rfl, rfl, rfl, rfl⟩
    split
    next none => rw [none] at store; exact idle store
    next empty => rw [empty] at store; exact idle store
    next b opened =>
      rw [opened] at store
      dsimp only [Option.getD_some] at store
      refine ⟨fun held => ?_, fun unknown => ?_⟩
      · rw [if_pos ((holdsSession_iff g b).2 held)] at store
        exact idle store
      · rw [if_neg (unknown ∘ (holdsSession_iff g b).1)] at store
        exact recordPlaced_snapshot _ _ false g store
    next b cause closed =>
      rw [closed] at store
      dsimp only [Option.getD_some] at store
      refine ⟨fun held => ?_, fun unknown => ?_⟩
      · rw [if_pos ((holdsSession_iff g b).2 held)] at store
        exact idle store
      · rw [if_neg (unknown ∘ (holdsSession_iff g b).1)] at store
        exact recordPlaced_snapshot _ _ true g store

end Sys2Proof.Machine
end

section
/-! PROOF. An entry to a state from which the line does not move: the change of state, SEQ_STATE and the evaluation
of the chain (R1, R36, R73). -/

namespace Sys2Proof.Machine

variable {s : State} {q : SeqState}

/-! ## Entries that leave the line as it is -/

/-- A line that is settled stays as it is when it is decided anew (R36, R61). -/
theorem refreshLine_held (h : LineHeld s) : refreshLine s = s := by
  obtain ⟨line, conds⟩ := h
  have same : ({ s with shu.conds := fallbackConds s } : State) = s := by rw [← conds]
  unfold refreshLine
  rw [if_pos line.symm, updateFallback]
  dsimp only
  rw [same]
  split
  next off on => exact absurd (off.symm.trans ((congrArg _ conds).trans on)) (by decide)
  next on off => exact absurd (on.symm.trans ((congrArg _ conds).trans off)) (by decide)
  next => rfl

/-- An evaluation of the chain touches nothing that R36 or R61 reads. -/
theorem OnlyChain.lineHeld {t : State} (h : OnlyChain s t) (k : LineHeld s) : LineHeld t := by
  unfold OnlyChain at h
  rw [h]
  exact k

theorem setSeq_onlyChain (other : s.psq.seq ≠ q) :
    OnlyChain (raiseEvent .seqState { s with psq := leaveState q s.psq }) (setSeq q s) := by
  rw [setSeq, if_neg other]
  exact evaluateAndHand_onlyChain _

theorem LineHeld.leaveState (h : LineHeld s) (was : ¬ s.psq.seq.lineOff) (is : ¬ q.lineOff) :
    LineHeld (raiseEvent .seqState { s with psq := leaveState q s.psq }) := by
  rw [leaveState_eq]
  exact h.seq was is

/-- An entry that neither moves the line nor touches the identification is the change of state alone. -/
theorem enterSeq_calm (h : LineHeld s) (was : ¬ s.psq.seq.lineOff) (is : ¬ q.lineOff) (plugged : q ≠ .plugged)
    (identified : q ≠ .identified) : enterSeq q s = setSeq q s := by
  have ident : identOnEntry q s = s := by
    unfold identOnEntry
    split
    · exact absurd rfl plugged
    · exact absurd (.inl rfl) is
    · exact absurd rfl identified
    · rfl
  rw [enterSeq, ident]
  refine refreshLine_held ?_
  by_cases same : s.psq.seq = q
  · rw [setSeq, if_pos same]; exact h
  · exact (setSeq_onlyChain same).lineHeld (h.leaveState was is)

/-- Such an entry raises SEQ_STATE and evaluates the chain (R1, R73). -/
theorem enterSeq_onlyChain (h : LineHeld s) (was : ¬ s.psq.seq.lineOff) (is : ¬ q.lineOff) (plugged : q ≠ .plugged)
    (identified : q ≠ .identified) (other : s.psq.seq ≠ q) :
    OnlyChain (raiseEvent .seqState { s with psq := leaveState q s.psq }) (enterSeq q s) := by
  rw [enterSeq_calm h was is plugged identified]
  exact setSeq_onlyChain other

/-- What a state other than IDENTIFYING leaves behind is the battery-low timer (R13). -/
theorem leaveState_psq {p : Psq} (other : p.seq ≠ .identifying) :
    leaveState q p = { p with seq := q, batteryLow := p.batteryLow && q == .active } := by
  unfold leaveState
  cases seq : p.seq with
  | identifying => exact absurd seq other
  | _ => rfl

theorem OnlyChain.answerEmpty {t : State} (h : OnlyChain s t) (status : Status) :
    OnlyChain (answerEmpty status s) (answerEmpty status t) :=
  congrArg (Machine.answerEmpty status) h

/-! ## GO_IDENTIFY (O14) -/

/-- Settles O14: PLUGGED to IDENTIFYING moves no line, so the evaluation is all that follows the entry. -/
theorem goIdentifyStartsTheQuery : Obligations.GoIdentifyStartsTheQuery := by
  unfold Obligations.GoIdentifyStartsTheQuery
  intro s run settled
  have row : exec .goIdentify s = .next (goIdentify s) := whenRunning_running run
  rw [row]
  by_cases unconfigured : s.cpt.configured = false
  · rw [if_pos unconfigured, goIdentify, if_pos (by simp [unconfigured])]
  · have configured : s.cpt.configured = true := Bool.eq_true_of_not_eq_false unconfigured
    rw [if_neg unconfigured, goIdentify, if_neg (not_not.2 configured)]
    by_cases pending : s.psq.cancelPending = true
    · rw [if_pos pending, if_pos pending]
    · rw [if_neg pending, if_neg pending]
      by_cases plugged : s.psq.seq = .plugged
      · rw [if_neg (not_not.2 plugged), if_neg (not_not.2 plugged)]
        refine ⟨_, rfl, ?_⟩
        have held : LineHeld { s with
            psq.query := true, psq.identTimer := true, psq.assembly := .waiting, psq.prevCode := none } :=
          ⟨settled.1, settled.2.1⟩
        have entry := enterSeq_onlyChain (q := .identifying) held (by simp [plugged]) (by simp) (by simp) (by simp)
          (by simp [plugged])
        rw [leaveState_psq (by simp [plugged])] at entry
        convert entry.answerEmpty .accepted using 1
        simp [raiseEvent, Machine.answerEmpty, answer]
      · rw [if_pos plugged, if_pos plugged]


end Sys2Proof.Machine
end

section
/-! PROOF. The pilot's edges (R7). -/

namespace Sys2Proof.Machine

variable {s : State}

/-- With no complete code waiting there is none to take (R7, log 2). -/
theorem pilotCodeComplete_partial (h : ∀ bits, s.psq.assembly = .collecting bits → s.psq.query = true → bits.length < 20) :
    pilotCodeComplete s = s := by
  unfold pilotCodeComplete
  split
  next bits collecting =>
    refine if_neg fun ⟨full, query⟩ => ?_
    have := h bits collecting query
    omega
  next => rfl

theorem pilotEdge_query (span : PilotSpan) (w : Nat) (query : s.psq.query = true)
    (h : ∀ bits, s.psq.assembly = .collecting bits → bits.length < 20) :
    pilotEdge span w s = { s with psq := match span with
      | .pulse => takePulse w s.psq
      | .rest => takeRest w s.psq } := by
  unfold pilotEdge
  rw [pilotCodeComplete_partial fun bits e _ => h bits e]
  dsimp only
  rw [if_pos query]
  cases span <;> rfl

/-- Settles O15: the widths of R7 decide what a pulse and a rest do to the assembly. -/
theorem pilotEdgesAssembleTheCode : Obligations.PilotEdgesAssembleTheCode := by
  unfold Obligations.PilotEdgesAssembleTheCode
  intro s span w run
  have row : exec (.pilotSenseEdge span w) s = .next (pilotEdge span w s) := whenRunning_running run
  rw [row]
  refine ⟨fun off => ?_, fun query => ?_⟩
  · have none : pilotCodeComplete s = s := pilotCodeComplete_partial fun bits _ on => by rw [off] at on; cases on
    unfold pilotEdge
    rw [none]
    dsimp only
    rw [if_neg (by rw [off]; exact Bool.false_ne_true)]
  · have edge := pilotEdge_query (s := s) span w query
    cases span with
    | pulse =>
      cases assembly : s.psq.assembly with
      | waiting =>
        rw [edge (by simp [assembly])]
        simp [takePulse, assembly]
      | complete =>
        rw [edge (by simp [assembly])]
        simp [takePulse, assembly, breakCode]
      | collecting bits =>
        intro short
        rw [edge (by simpa [assembly] using short)]
        simp only [takePulse, assembly, pulseBit]
        by_cases zero : 70 ≤ w ∧ w ≤ 130
        · simp only [if_pos zero]
        · by_cases one : 170 ≤ w ∧ w ≤ 230
          · simp only [if_neg zero, if_pos one]
          · simp only [if_neg zero, if_neg one, breakCode]
    | rest =>
      cases assembly : s.psq.assembly with
      | waiting =>
        rw [edge (by simp [assembly])]
        simp only [takeRest, assembly]
        split <;> rfl
      | complete =>
        rw [edge (by simp [assembly])]
        simp only [takeRest, assembly]
        split <;> rfl
      | collecting bits =>
        intro short
        rw [edge (by simpa [assembly] using short)]
        simp only [takeRest, assembly, breakCode]

end Sys2Proof.Machine
end

section
/-! PROOF. Request frames and feeder-line frames read back (R26 to R29, R33, R194). -/

namespace Sys2Proof

/-! ## Request frames (O59) -/

/-- A frame of a code with the code's payload length passes the checks of R194. -/
theorem requestFault_frameBytes {code : Byte} {payload : List Byte}
    (length : payloadLength code = some payload.length) (short : payload.length ≤ 252) :
    requestFault (frameBytes code payload) = none := by
  have shape : frameBytes code payload =
      code :: (BitVec.ofNat 16 payload.length).extractLsb' 8 8 :: (BitVec.ofNat 16 payload.length).extractLsb' 0 8 ::
        (payload ++ [crc8 (frameHead code payload)]) := by
    simp [frameBytes, frameHead, bytes16]
  have total : (frameBytes code payload).length = payload.length + 4 := by
    simp [frameBytes, frameHead]
    omega
  have field : (BitVec.ofNat 16 payload.length).toNat = payload.length := by
    rw [BitVec.toNat_ofNat]
    omega
  have check : crc8 (frameBytes code payload) = 0#8 := crc8_append_self _
  rw [shape] at total check ⊢
  rw [requestFault, be16_bytes, total, field]
  rw [if_neg (by simp; omega), if_neg (by omega), if_neg (not_not.2 check), length]
  exact if_pos rfl

theorem requestOf_frameBytes {code : Byte} {payload : List Byte}
    (length : payloadLength code = some payload.length) (short : payload.length ≤ 252) :
    requestOf (frameBytes code payload) = commandOf code payload ∧ (frameBytes code payload).length ≤ 256 := by
  have fault := requestFault_frameBytes length short
  refine ⟨?_, by simp [frameBytes, frameHead]; omega⟩
  unfold requestOf
  rw [fault]
  simp [frameBytes, frameHead, bytes16]

/-- CONFIGURE's payload reads back, slot by slot (12.4). -/
theorem configOfBytes_configBytes (p : ConfigPayload) (slots : p.slots.length = 16) :
    configOfBytes (configBytes p) = some p := by
  have read : slotsOfBytes 16 (p.slots.flatMap slotBytes) = some p.slots := by
    rw [← slots]
    exact slotsOfBytes_flatMap p.slots
  delta configBytes
  simp only [bytes16, List.cons_append, List.nil_append]
  unfold configOfBytes
  simp only [read, be16_bytes, Option.map_some]

theorem configBytes_length (p : ConfigPayload) (slots : p.slots.length = 16) : (configBytes p).length = 224 := by
  delta configBytes
  simp only [List.length_append, bytes16_length, List.length_cons, List.length_nil, flatMap_slotBytes_length, slots]

theorem requestOf_configure (p : ConfigPayload) (slots : p.slots.length = 16) :
    requestOf (frameBytes 1 (configBytes p)) = some (.configure p) ∧ (frameBytes 1 (configBytes p)).length ≤ 256 := by
  have length := configBytes_length p slots
  have read := configOfBytes_configBytes p slots
  generalize configBytes p = payload at length read ⊢
  obtain ⟨command, le⟩ := requestOf_frameBytes (code := 1) (payload := payload) (by rw [length]; rfl) (by omega)
  refine ⟨command.trans ?_, le⟩
  show (configOfBytes payload).map Instr.configure = _
  rw [read]
  rfl

/-- The code and the payload of a command other than CONFIGURE are read as that command (12.3). -/
theorem commandOf_codeAndPayload {i : Instr} (other : ∀ p, i ≠ .configure p) {code : Byte} {payload : List Byte}
    (h : codeAndPayload i = some (code, payload)) :
    commandOf code payload = some i ∧ payloadLength code = some payload.length ∧ payload.length ≤ 252 := by
  cases i with
  | configure p => exact absurd rfl (other p)
  | _ =>
    cases h
    try
      refine ⟨?_, rfl, by simp⟩
      change some _ = some _
      simp only [be16_bytes, be32_bytes]

end Sys2Proof

namespace Sys2Proof.Machine

/-- Settles O59: the frame passes R194's checks, and its payload is the command's. -/
theorem requestFramesReadBack : Obligations.RequestFramesReadBack := by
  unfold Obligations.RequestFramesReadBack
  intro i wf bs frame
  by_cases conf : ∃ p, i = .configure p
  · obtain ⟨p, rfl⟩ := conf
    have slots : p.slots.length = 16 := by simpa [Instr.wellFormed] using wf
    have e : frameBytes 1 (configBytes p) = bs := Option.some.inj frame
    rw [← e]
    exact requestOf_configure p slots
  · obtain ⟨⟨code, payload⟩, body, rfl⟩ := Option.map_eq_some_iff.1 frame
    obtain ⟨command, length, short⟩ := commandOf_codeAndPayload (fun p e => conf ⟨p, e⟩) body
    obtain ⟨read, le⟩ := requestOf_frameBytes length short
    exact ⟨read.trans command, le⟩

/-! ## Feeder-line frames (O60) -/

theorem natOfBits_bitsOf_of_lt {n w : Nat} (h : w < 2 ^ n) : natOfBits (bitsOf n w) = w := by
  rw [natOfBits_bitsOf, Nat.mod_eq_of_lt h]

/-- The bits of bytes are read as those bytes (R27). -/
theorem bytesOfBits_flatMap (bs : List Byte) :
    bytesOfBits bs.length (bs.flatMap fun b => bitsOf 8 b.toNat) = bs := by
  induction bs with
  | nil => rfl
  | cons b bs ih =>
    rw [List.length_cons, List.flatMap_cons, bytesOfBits, List.take_left' (bitsOf_length 8 _),
      List.drop_left' (bitsOf_length 8 _), ih, natOfBits_bitsOf_of_lt b.isLt, BitVec.ofNat_toNat, BitVec.setWidth_eq]

theorem flatMap_bitsOf_length (bs : List Byte) :
    (bs.flatMap fun b => bitsOf 8 b.toNat).length = 8 * bs.length := by
  induction bs with
  | nil => rfl
  | cons b bs ih => simp [ih]; omega

theorem be_bytes (w : Word16) : hiByte w ++ loByte w = w := be16_bytes w

/-- A body's fields are read as that body (R28, R29). -/
theorem bodyOfFields_fields (b : FrameBody) : bodyOfFields b.code b.fields = some b := by
  cases b
  all_goals
    change some _ = some _
    simp only [be_bytes]

theorem payload_length_le (f : Frame) : f.payload.length ≤ 12 := by
  obtain ⟨_, _, b⟩ := f
  cases b <;> simp [Frame.payload, FrameBody.fields]

theorem cls_lt (b : FrameBody) : b.cls < 2 ^ 2 := by
  cases b <;> simp [FrameBody.cls, FrameBody.code, classOfCode]

theorem code_lt (b : FrameBody) : b.code < 2 ^ 4 := by
  cases b <;> simp [FrameBody.code]

/-- The frame as a receiver reads it (R33). -/
def Frame.raw (f : Frame) : RawFrame := ⟨f.body.cls, f.station, f.body.code, f.payload⟩

/-- The parts of the checked bits, one after another (R27). -/
theorem checkedBits_eq (f : Frame) : f.checkedBits =
    bitsOf 2 f.body.cls ++ (bitsOf 6 f.station.toNat ++ (bitsOf 4 f.body.code ++ (bitsOf 4 f.payload.length ++
      f.payload.flatMap fun b => bitsOf 8 b.toNat))) := by
  simp only [Frame.checkedBits, List.append_assoc]

theorem checkedBits_length (f : Frame) : f.checkedBits.length = 16 + 8 * f.payload.length := by
  rw [checkedBits_eq]
  simp only [List.length_append, bitsOf_length, flatMap_bitsOf_length]
  omega

theorem plainBits_length (f : Frame) : f.plainBits.length = 33 + 8 * f.payload.length := by
  simp only [Frame.plainBits, List.cons_append, List.length_cons, List.length_append, checkedBits_length, bitsOf_length]
  omega

theorem drop_bitsOf (n m w : Nat) (rest : List Bool) : (bitsOf n w ++ rest).drop (n + m) = rest.drop m := by
  rw [← List.drop_drop, List.drop_left' (bitsOf_length n w)]

theorem take_bitsOf (n w : Nat) (rest : List Bool) : (bitsOf n w ++ rest).take n = bitsOf n w :=
  List.take_left' (bitsOf_length n w)

/-- The length field is read before the rest of the frame (R33). -/
theorem lengthField_bits (f : Frame) : lengthField f.bits = some f.payload.length := by
  have whole := unstuff_stuff f.plainBits (true :: List.replicate 7 true)
  have head := unstuff_take 17 _ _ _ _ _ _ whole (by rw [plainBits_length]; omega)
  obtain ⟨x, read, first⟩ := Option.map_eq_some_iff.1 head
  have field : (f.plainBits.take 17).drop 13 = bitsOf 4 f.payload.length := by
    rw [List.drop_take, Frame.plainBits, checkedBits_eq]
    simp only [List.cons_append, List.append_assoc, List.drop_succ_cons]
    rw [drop_bitsOf 2 10, drop_bitsOf 6 4, drop_bitsOf 4 0, List.drop_zero]
    exact take_bitsOf ..
  have read : unstuff 17 true 0 f.bits = some x := read
  have le := payload_length_le f
  rw [lengthField, read, Option.bind_some]
  dsimp only
  rw [first, field, natOfBits_bitsOf_of_lt (by omega), if_pos le]

theorem receiveChecked_bits (f : Frame) : receiveChecked f.bits = some (f.raw, true) := by
  have whole : unstuff (33 + 8 * f.payload.length) true 0 f.bits = some (f.plainBits, true :: List.replicate 7 true) := by
    rw [← plainBits_length]
    exact unstuff_stuff f.plainBits _
  have body : (f.plainBits.drop 1).take (16 + 8 * f.payload.length) = f.checkedBits := by
    rw [← checkedBits_length]
    exact List.take_left' rfl
  have check : f.plainBits.drop (17 + 8 * f.payload.length) = bitsOf 16 (crc16 f.checkedBits).toNat := by
    have length := checkedBits_length f
    exact List.drop_left' (by rw [List.length_cons]; omega)
  rw [receiveChecked, lengthField_bits, Option.bind_some, whole, Option.bind_some]
  dsimp only
  rw [body, check, natOfBits_bitsOf_of_lt (crc16 f.checkedBits).isLt, if_pos rfl]
  have cls : natOfBits (f.checkedBits.take 2) = f.body.cls := by
    rw [checkedBits_eq, take_bitsOf, natOfBits_bitsOf_of_lt (cls_lt _)]
  have station : BitVec.ofNat 6 (natOfBits ((f.checkedBits.drop 2).take 6)) = f.station := by
    rw [checkedBits_eq, drop_bitsOf 2 0, List.drop_zero, take_bitsOf, natOfBits_bitsOf_of_lt f.station.isLt,
      BitVec.ofNat_toNat, BitVec.setWidth_eq]
  have code : natOfBits ((f.checkedBits.drop 8).take 4) = f.body.code := by
    rw [checkedBits_eq, drop_bitsOf 2 6, drop_bitsOf 6 0, List.drop_zero, take_bitsOf, natOfBits_bitsOf_of_lt (code_lt _)]
  have payload : bytesOfBits f.payload.length (f.checkedBits.drop 16) = f.payload := by
    rw [checkedBits_eq, drop_bitsOf 2 14, drop_bitsOf 6 8, drop_bitsOf 4 4, drop_bitsOf 4 0, List.drop_zero]
    exact bytesOfBits_flatMap _
  rw [cls, station, code, payload]
  rfl

theorem frame?_raw {f : Frame} (range : f.inRange = true) : f.raw.frame? = some f := by
  show (bodyOfFields f.body.code f.body.fields).bind _ = _
  rw [bodyOfFields_fields, Option.bind_some]
  exact if_pos ⟨rfl, range⟩

/-- Settles O60: unstuffing and the check undo what the sender's bits add. -/
theorem feederFramesReadBack : Obligations.FeederFramesReadBack := by
  unfold Obligations.FeederFramesReadBack
  intro f range
  rw [receiveBits, receiveChecked_bits, Option.bind_some, if_pos rfl, Option.bind_some, frame?_raw range]

end Sys2Proof.Machine
end

section
/-! PROOF. The legs: commands, dead time, feedback and the continuous check (R90, R92, R94 to R96). -/

namespace Sys2Proof.Machine

variable {s t : State} {k : Leg}

/-! ## The continuous check (R96) -/

/-- The output of a device stands at its active level where its device is on, with the enable set and no trip
(R94). -/
theorem gateOutput_active {l : Level} (k : Leg) (d : Device) (group : legLevel s k = some l) :
    gateOutput s k d = driven l true ↔
      tripped s = false ∧ s.ptu.enable = true ∧ (s.ptu.legs.get k).on d = true := by
  unfold gateOutput
  rw [group]
  dsimp only
  cases tripped s <;> cases s.ptu.enable <;> cases s.cfg.floatOnTrip <;> cases (s.ptu.legs.get k).on d <;>
    cases l <;> decide

theorem lowerOfDActive_iff : lowerOfDActive s = true ↔
    (s.cfg.dcLevel = some .high ∧ gateOutput s .d .lower = .high) ∨
      (s.cfg.dcLevel = some .low ∧ gateOutput s .d .lower = .low) := by
  have active (l : Level) (group : s.cfg.dcLevel = some l) :
      lowerOfDActive s = true ↔ gateOutput s .d .lower = driven l true := by
    rw [gateOutput_active .d .lower group]
    simp [lowerOfDActive, group, PerLeg.get, LegState.on, and_assoc]
  cases group : s.cfg.dcLevel with
  | none => simp [lowerOfDActive, group]
  | some l =>
    rw [active l group]
    cases l <;> simp [driven]

theorem inConflict_iff (k : Leg) : inConflict s k = true ↔ LegInConflict s k := by
  unfold LegInConflict
  rw [← lowerOfDActive_iff]
  cases k <;> simp [inConflict, PerLeg.get]

theorem watchConflicts_get (s : State) (k : Leg) :
    (watchConflicts s).ptu.legs.get k = { s.ptu.legs.get k with
      conflict := (s.ptu.legs.get k).conflict.follow (inConflict s k) } := by
  show (PerLeg.map _ s.ptu.legs).get k = _
  rw [PerLeg.get_map]

theorem watchConflicts_inConflict (s : State) (k : Leg) : inConflict (watchConflicts s) k = inConflict s k := by
  cases k <;> rfl

/-- A row that ends with the check times every conflict anew. -/
theorem watchConflicts_follow {x : State}
    (same : ∀ k, (x.ptu.legs.get k).conflict = (s.ptu.legs.get k).conflict) :
    ConflictsFollow s (watchConflicts x) := by
  intro k
  rw [watchConflicts_get]
  dsimp only
  rw [same k, ← watchConflicts_inConflict x k]
  have decides : inConflict (watchConflicts x) k = decide (LegInConflict (watchConflicts x) k) := by
    rw [Bool.eq_iff_iff, inConflict_iff, decide_eq_true_iff]
  rw [decides]
  cases (s.ptu.legs.get k).conflict <;> simp only [ConflictTiming.follow, decide_eq_true_eq]

/-! ## Leg commands (R90, R92) -/

theorem commandAt_eq (enable : Bool) (p v : Nat) :
    commandAt enable p v = if enable = false then .off else if 4096 < p + v then .upper else .lower := by
  cases enable <;> simp [commandAt]

theorem LegState.take_conflict (c : LegCommand) (l : LegState) : (l.take c).conflict = l.conflict := by
  unfold LegState.take
  repeat' split
  all_goals rfl

theorem LegState.take_command (c : LegCommand) (l : LegState) : (l.take c).command = c := by
  unfold LegState.take
  repeat' split
  all_goals first | assumption | rfl

/-- A leg takes its command (R92). -/
theorem LegState.take_eq (c : LegCommand) (l : LegState) :
    l.take c =
      if c = l.command then l
      else if l.upperOn = true ∧ c ≠ .upper then ⟨c, false, l.lowerOn, some ⟨some .upper⟩, l.conflict⟩
      else if l.lowerOn = true ∧ c ≠ .lower then ⟨c, l.upperOn, false, some ⟨some .lower⟩, l.conflict⟩
      else ⟨c, l.upperOn, l.lowerOn,
        if l.deadTime = none ∧ c ≠ .off ∧ l.upperOn = false ∧ l.lowerOn = false then some ⟨none⟩ else l.deadTime,
        l.conflict⟩ := by
  unfold LegState.take
  by_cases same : l.command = c
  · rw [if_pos same, if_pos same.symm]
  · rw [if_neg same, if_neg fun e : c = l.command => same e.symm]
    by_cases upper : l.upperOn = true ∧ c ≠ .upper
    · rw [if_pos upper, if_pos upper]
    · rw [if_neg upper, if_neg upper]
      by_cases lower : l.lowerOn = true ∧ c ≠ .lower
      · rw [if_pos lower, if_pos lower]
      · rw [if_neg lower, if_neg lower]
        by_cases runs : c = .off ∨ l.deadTime.isSome = true ∨ l.upperOn = true ∨ l.lowerOn = true
        · have held : ¬ (l.deadTime = none ∧ c ≠ .off ∧ l.upperOn = false ∧ l.lowerOn = false) := by
            rintro ⟨none, on, up, low⟩
            simp [none, on, up, low] at runs
          rw [if_pos runs, if_neg held]
        · have starts : l.deadTime = none ∧ c ≠ .off ∧ l.upperOn = false ∧ l.lowerOn = false := by
            simp only [not_or, Bool.not_eq_true, Option.isSome_eq_false_iff, Option.isNone_iff_eq_none] at runs
            obtain ⟨on, none, up, low⟩ := runs
            exact ⟨none, on, up, low⟩
          rw [if_neg runs, if_pos starts]

theorem LegState.take_with (c : LegCommand) (l : LegState) (x : ConflictTiming) :
    { l.take c with conflict := x } =
      if c = l.command then { l with conflict := x }
      else if l.upperOn = true ∧ c ≠ .upper then ⟨c, false, l.lowerOn, some ⟨some .upper⟩, x⟩
      else if l.lowerOn = true ∧ c ≠ .lower then ⟨c, l.upperOn, false, some ⟨some .lower⟩, x⟩
      else ⟨c, l.upperOn, l.lowerOn,
        if l.deadTime = none ∧ c ≠ .off ∧ l.upperOn = false ∧ l.lowerOn = false then some ⟨none⟩ else l.deadTime,
        x⟩ := by
  rw [LegState.take_eq]
  split_ifs <;> rfl

/-! ## The rows (O28) -/

/-- A row that changes one leg, and times the conflicts anew. -/
theorem watchConflicts_set {x : State} {l : LegState} (legs : x.ptu.legs = s.ptu.legs.set k l)
    (same : l.conflict = (s.ptu.legs.get k).conflict) :
    ConflictsFollow s (watchConflicts x) ∧
    (∀ j : Leg, j ≠ k → (watchConflicts x).ptu.legs.get j =
      { s.ptu.legs.get j with conflict := ((watchConflicts x).ptu.legs.get j).conflict }) ∧
    (watchConflicts x).ptu.legs.get k = { l with conflict := ((watchConflicts x).ptu.legs.get k).conflict } := by
  refine ⟨watchConflicts_follow fun j => ?_, fun j other => ?_, ?_⟩
  · rw [legs, PerLeg.get_set]
    split
    next e => rw [e, same]
    next => rfl
  · rw [watchConflicts_get, legs, PerLeg.get_set_other _ other]
  · rw [watchConflicts_get, legs, PerLeg.get_set_self]

/-- The dead time of a leg whose device reads off as the interval ends (R92, R95). -/
theorem deadTimeEnd_eq {i : DeadTime} (runs : (s.ptu.legs.get k).deadTime = some i)
    (off : latchedFeedback k i.turnedOff s = false) :
    deadTimeEnd k s = watchConflicts
      { s with ptu.legs := s.ptu.legs.set k (LegState.endDeadTime { s.ptu.legs.get k with deadTime := none }) } := by
  unfold deadTimeEnd
  rw [runs]
  dsimp only
  rw [off, onlyIf_false]
  dsimp only
  rw [PerLeg.get_set_self]
  cases k <;> rfl

/-- Settles O28: each row changes one leg, or one reading, and times the conflicts anew. -/
theorem legsSwitchByCommandAndDeadTime : Obligations.LegsSwitchByCommandAndDeadTime := by
  unfold Obligations.LegsSwitchByCommandAndDeadTime
  intro s k p d on run
  refine ⟨⟨legCommandChange k p s, whenRunning_running run, rfl, ?_⟩, fun idle => ?_, fun i runs upper lower => ?_, ?_⟩
  · have command := LegState.take_command
      (commandAt s.ptu.enable (min p 4096) (s.ptu.inUse.leg k)) (s.ptu.legs.get k)
    have conflict := LegState.take_conflict
      (commandAt s.ptu.enable (min p 4096) (s.ptu.inUse.leg k)) (s.ptu.legs.get k)
    obtain ⟨follow, others, own⟩ := watchConflicts_set (s := s) (k := k)
      (x := { s with
        ptu.position := min p 4096
        ptu.legs := s.ptu.legs.set k
          ((s.ptu.legs.get k).take (commandAt s.ptu.enable (min p 4096) (s.ptu.inUse.leg k))) }) rfl conflict
    have named : ((legCommandChange k p s).ptu.legs.get k).command =
        commandAt s.ptu.enable (min p 4096) (s.ptu.inUse.leg k) := by
      rw [legCommandChange]
      dsimp only
      rw [own, command]
    refine ⟨follow, others, by rw [named, commandAt_eq], ?_⟩
    rw [named]
    exact own.trans (LegState.take_with ..)
  · refine (whenRunning_running run).trans ?_
    rw [deadTimeEnd, idle]
  · have off : latchedFeedback k i.turnedOff s = false := by
      cases off : i.turnedOff with
      | none => rfl
      | some d =>
        cases d with
        | upper => exact upper off
        | lower =>
          cases k with
          | d => rfl
          | _ => exact lower off nofun
    refine ⟨_, (whenRunning_running run).trans (congrArg _ (deadTimeEnd_eq runs off)), rfl, ?_⟩
    exact watchConflicts_set (s := s) (k := k)
      (l := LegState.endDeadTime { s.ptu.legs.get k with deadTime := none }) rfl rfl
  · have legs : (readFeedback k d on s).ptu.legs = s.ptu.legs := by rw [readFeedback_eq]
    have eq := readFeedback_eq k d on s
    refine ⟨gateFeedbackChange k d on s, whenRunningOr_running run, ?_, fun j => ?_, ?_, fun j other => ?_, ?_⟩
    · unfold gateFeedbackChange
      rw [eq]
      rfl
    · exact legs ▸ watchConflicts_legs (readFeedback k d on s) j
    · exact watchConflicts_follow fun j => by rw [legs]
    · show (readFeedback k d on s).ptu.feedback.get j = _
      cases d with
      | upper => exact PerLeg.get_set_other _ other _
      | lower =>
        cases k with
        | d => rfl
        | _ => exact PerLeg.get_set_other _ other _
    · show (readFeedback k d on s).ptu.feedback.get k = _
      cases d <;> cases k <;> rfl

end Sys2Proof.Machine
end

section
/-! PROOF. The control loops and the carrier trough (R82 to R85, R89 to R91, R105, R117 to R119). -/

namespace Sys2Proof.Machine

variable {s t : State}

/-! ## The loops (R83 to R85) -/

theorem toNat_clampInt (x : Int) {b : Int} (h : 0 ≤ b) : ((clampInt x 0 b).toNat : Int) = max 0 (min x b) := by
  rw [clampInt_eq x h, Int.toNat_of_nonneg (le_max_left _ _)]

/-- A loop's output and integrator are those of R83. -/
theorem pi_loopRule (kp ki : Nat) (e i : Int) :
    LoopRule kp ki e i (piOutput kp e i) (piIntegrator kp ki e i) := by
  refine ⟨toNat_clampInt _ (by decide), ?_⟩
  unfold piIntegrator
  dsimp only
  rw [clampInt_eq _ (by decide)]
  rfl

theorem compareValue_eq (a theta k : Nat) : (compareValue a theta k : Int) =
    max 0 (min (2048 + a * sine ((theta + 85 * k) % 256) / 2048) 4095) :=
  toNat_clampInt _ (by decide)

/-! ## The trough (R89 to R91, R105) -/

/-- With no loop event and no lapse due the trough is what it does to the counters, the legs and the scan (log 2). -/
theorem carrierTrough_eq (loop : s.ptu.troughCount < s.ptu.divider)
    (lapse : s.msq.troughs < s.ptu.fc / 45 + 1 ∨ s.msq.outOfRange = true) :
    carrierTrough s = startFastScan (transferCompare (troughCounters s)) := by
  have noLoop : loopEvent s = s := if_neg (by simpa [loopDue] using loop)
  have noLapse : linePeriodLapse s = s := by
    refine if_neg ?_
    obtain short | out := lapse
    · have below : ¬ s.ptu.fc / 45 + 1 ≤ s.msq.troughs := by omega
      simp [lineLapseDue, lapseCount, below]
    · simp [lineLapseDue, out]
  rw [carrierTrough, noLoop, noLapse]

theorem startFastScan_eq (s : State) : startFastScan s = { s with msq := { s.msq with
    fastScan := if s.msq.fastScan = none then some [] else s.msq.fastScan
    converting := if s.msq.fastScan = none ∧ s.msq.converting = none then some .fast else s.msq.converting } } := by
  unfold startFastScan
  by_cases idle : s.msq.fastScan = none
  · rw [if_neg (by simp [idle]), if_pos idle]
    cases conv : s.msq.converting <;> simp [handConverters, idle, conv]
  · rw [if_pos (Option.isSome_iff_ne_none.2 idle), if_neg idle, if_neg fun h => idle h.1]

/-- The legs follow the trough's position: a value in range is below it, so each leg's command is LOWER (R90). -/
theorem transferCompare_command (range : s.ptu.buffer.inRange) (k : Leg) :
    ((transferCompare s).ptu.legs.get k).command = if s.ptu.enable = true then .lower else .off := by
  have value : s.ptu.buffer.leg k ≤ 4095 := by
    obtain ⟨u, v, w, d⟩ := range
    cases k
    exacts [u, v, w, d]
  have below : ¬ 4096 < 0 + s.ptu.buffer.leg k := by omega
  unfold transferCompare formCommands
  rw [watchConflicts_get]
  dsimp only
  rw [PerLeg.get_map, LegState.take_command, commandAt_eq, if_neg below]
  cases s.ptu.enable <;> rfl

theorem takeOutOfRange_onlyChain (b : Bool) (s : State) :
    OnlyChain { s with msq.outOfRange := b, crg.gridRange := gridRangeOf s.crg.vPh b } (takeOutOfRange b s) := by
  unfold takeOutOfRange
  dsimp only
  split
  next => rfl
  next => exact evaluateAndHand_onlyChain _

/-- The phases at an interruption of the line timing (R119). -/
def interruptedPhases (p : PerPhase PhaseMeter) : PerPhase PhaseMeter :=
  ⟨{ p.u.emptied with seen := false }, { p.v.emptied with seen := false }, { p.w.emptied with seen := false }⟩

/-- A new frequency interrupts the line timing (R119), and the condition with it evaluates the chain (R72). -/
theorem interruptLine_onlyChain (s : State) :
    OnlyChain { s with
      msq := { s.msq with
        period := 0, theta := 0, troughs := 0, outOfRange := true, phases := interruptedPhases s.msq.phases }
      crg.gridRange := true } (interruptLine s) := by
  have out : gridRangeOf s.crg.vPh true = true := by simp [gridRangeOf]
  have h := takeOutOfRange_onlyChain true { s with
    msq := { s.msq with period := 0, theta := 0, troughs := 0, phases := interruptedPhases s.msq.phases } }
  dsimp only at h
  rw [out] at h
  exact h

/-- The carrier's timing after a trough (R89, R105). -/
def troughTiming (p : Ptu) : Ptu :=
  { p with
    fc := (p.nextTiming.map (·.1)).getD p.fc
    divider := (p.nextTiming.map (·.2)).getD p.divider
    nextTiming := none
    troughCount := if p.nextTiming = none then p.troughCount + 1 else 0 }

theorem troughCounters_same (same : (s.ptu.nextTiming.map (·.1)).getD s.ptu.fc = s.ptu.fc) :
    troughCounters s = advanceLine { s with ptu := troughTiming s.ptu } := by
  unfold troughCounters troughTiming
  cases next : s.ptu.nextTiming with
  | none =>
    have none : s.ptu = { s.ptu with nextTiming := none } := by rw [← next]
    show advanceLine { s with ptu.troughCount := s.ptu.troughCount + 1 } = _
    rw [none]
    rfl
  | some x =>
    rw [next] at same
    exact if_pos same

theorem troughCounters_other (other : (s.ptu.nextTiming.map (·.1)).getD s.ptu.fc ≠ s.ptu.fc) :
    troughCounters s = interruptLine { s with ptu := troughTiming s.ptu } := by
  unfold troughCounters troughTiming
  cases next : s.ptu.nextTiming with
  | none => rw [next] at other; exact absurd rfl other
  | some x =>
    rw [next] at other
    exact if_neg other

/-- What the transfer and the scan's start leave of a state that an evaluation of the chain has reached. -/
theorem OnlyChain.carry (h : OnlyChain s t) (p : Ptu) (m : Msq) :
    OnlyChain { s with ptu := p, msq := m } { t with ptu := p, msq := m } := by
  unfold OnlyChain at h ⊢
  rw [h]

/-- Settles O29: the loops' arithmetic, and the trough's counters, transfer and scan one after another. -/
theorem troughsAndLoopEventsRun : Obligations.TroughsAndLoopEventsRun := by
  unfold Obligations.TroughsAndLoopEventsRun
  intro s run
  have row : exec .loopComputationEvent s = .next (loopEvent s) := whenRunning_running run
  refine ⟨?_, fun loop range lapse => ?_⟩
  · rw [row]
    by_cases early : s.ptu.troughCount < s.ptu.divider
    · have due : loopDue s = false := by simpa [loopDue] using early
      rw [if_pos early, loopEvent, if_neg (by rw [due]; decide)]
    · have due : loopDue s = true := by simpa [loopDue] using early
      have event : loopEvent s = onlyIf s.ptu.enable runLoops { s with ptu.troughCount := 0 } := if_pos due
      rw [if_neg early, event]
      cases enable : s.ptu.enable with
      | false => rw [if_pos rfl, onlyIf_false]
      | true =>
        rw [if_neg (by decide), onlyIf_true]
        exact ⟨_, rfl, rfl, pi_loopRule .., pi_loopRule .., rfl, compareValue_eq .., compareValue_eq .., compareValue_eq ..⟩
  · have row : exec .carrierTrough s = .next (carrierTrough s) := whenRunning_running run
    rw [row, carrierTrough_eq loop lapse]
    refine ⟨_, rfl, ?_⟩
    rw [startFastScan_eq]
    by_cases same : (s.ptu.nextTiming.map (·.1)).getD s.ptu.fc = s.ptu.fc
    · simp only [if_pos same]
      rw [troughCounters_same same]
      exact ⟨rfl, transferCompare_command (s := advanceLine { s with ptu := troughTiming s.ptu }) range, rfl, rfl, rfl,
        rfl, rfl, rfl, rfl, rfl, rfl⟩
    · simp only [if_neg same]
      rw [troughCounters_other same]
      have h := interruptLine_onlyChain { s with ptu := troughTiming s.ptu }
      generalize interruptLine { s with ptu := troughTiming s.ptu } = c at h ⊢
      have ptu : c.ptu = { troughTiming s.ptu with heaterBuffer := c.ptu.heaterBuffer } := congrArg State.ptu h
      have msq : c.msq = { s.msq with
          period := 0, theta := 0, troughs := 0, outOfRange := true, phases := interruptedPhases s.msq.phases } :=
        congrArg State.msq h
      have grid : c.crg.gridRange = true := congrArg (·.crg.gridRange) h
      have enable : c.ptu.enable = s.ptu.enable := by rw [ptu]; rfl
      have buffer : c.ptu.buffer = s.ptu.buffer := by rw [ptu]; rfl
      have command := transferCompare_command (s := c) (by rw [buffer]; exact range)
      rw [enable] at command
      obtain ⟨l, moved⟩ : ∃ l, transferCompare c =
          { c with ptu := { c.ptu with inUse := c.ptu.buffer, position := 0, legs := l } } := ⟨_, rfl⟩
      rw [moved] at command ⊢
      dsimp only at command ⊢
      rw [msq]
      refine ⟨?_, command, rfl, rfl, rfl, rfl, rfl, fun k => ?_, grid, ?_⟩
      · rw [ptu]
        rfl
      · cases k <;> rfl
      · rw [← msq]
        exact h.carry _ _

end Sys2Proof.Machine
end

section
/-! PROOF. What the evaluations that hand d_own make of the setpoint and the duty (R73, R77, R81, R127), and the
requests and timers that cause one (R70, R71, R81). -/

namespace Sys2Proof.Machine

variable {s t : State}

/-! ## The chain falls with S_eff (R74, R79, R80) -/

theorem OnlyChain.psq (same : OnlyChain s t) : t.psq = s.psq := by
  unfold OnlyChain at same
  rw [same]

theorem pAllowOf_le (same : OnlyChain s t) (fall : t.shu.sEff ≤ s.shu.sEff) : pAllowOf t ≤ pAllowOf s := by
  have inputs : pAllowOf t = pAllowOf { s with shu.sEff := t.shu.sEff } := by
    unfold OnlyChain at same
    rw [same]
    rfl
  rw [inputs]
  unfold pAllowOf
  split
  · exact le_rfl
  · exact Nat.div_le_div_right (Nat.mul_le_mul_right _ (Nat.mul_le_mul_left _ fall))

theorem pChgReqOf_onlyChain (same : OnlyChain s t) : pChgReqOf t = pChgReqOf s := by
  unfold OnlyChain at same
  rw [same]
  rfl

theorem splitOf_mono (same : OnlyChain s t) (fall : t.shu.sEff ≤ s.shu.sEff) :
    (splitOf t).1 ≤ (splitOf s).1 ∧ (splitOf t).2 ≤ (splitOf s).2 := by
  have allow := pAllowOf_le same fall
  have charge := pChgReqOf_onlyChain same
  have seq := same.psq
  have priority : priorityOf t = priorityOf s := by
    unfold OnlyChain at same
    rw [same]
    rfl
  have heat : t.crg.pHeatReq = s.crg.pHeatReq := congrArg (·.crg.pHeatReq) same
  unfold splitOf
  rw [seq, priority, heat, charge]
  split
  · exact ⟨le_rfl, le_rfl⟩
  · split <;> dsimp only <;> omega

theorem iTargetOf_le (same : OnlyChain s t) (fall : t.shu.sEff ≤ s.shu.sEff) : iTargetOf t ≤ iTargetOf s := by
  obtain ⟨charge, -⟩ := splitOf_mono same fall
  have bat : vBat t = vBat s := by
    unfold OnlyChain at same
    rw [same]
    rfl
  have share : iShareOf t ≤ iShareOf s := by
    unfold iShareOf
    rw [bat]
    split
    · exact le_rfl
    · exact Nat.div_le_div_right (Nat.mul_le_mul_right _ charge)
  have others : iTargetOf t = min (min s.crg.iReq (iBmsCounted s)) (min (iShareOf t) (min (iThermOf s) (iCvOf s))) := by
    unfold iTargetOf
    generalize iShareOf t = share
    unfold OnlyChain at same
    rw [same]
    rfl
  rw [others]
  exact min_le_min_left _ (min_le_min_right _ share)

/-- A lower S_eff gives no heater budget where there was none. -/
theorem evaluated_budget_mono (same : OnlyChain s t) (fall : t.shu.sEff ≤ s.shu.sEff)
    (none : (evaluated s).htr.budget = 0) : (evaluated t).htr.budget = 0 := by
  obtain ⟨-, heat⟩ := splitOf_mono same fall
  have seq := same.psq
  have permission : t.htr.permission = s.htr.permission := congrArg (·.htr.permission) same
  have request : t.htr.pHeatReq = s.htr.pHeatReq := congrArg (·.htr.pHeatReq) same
  have most : t.htr.pBattMax = s.htr.pBattMax := congrArg (·.htr.pBattMax) same
  revert none
  show (budgetOf { s with crg := chain s }).1 = 0 → (budgetOf { t with crg := chain t }).1 = 0
  have own : (chain t).pH ≤ (chain s).pH := heat
  unfold budgetOf
  dsimp only
  rw [seq, permission, request, most]
  cases s.htr.permission with
  | off => exact id
  | gridOnly =>
    split
    · contradiction
    · exact fun none => Nat.le_zero.1 (none ▸ own)
    · contradiction
    · exact id
  | gridOrBattery =>
    split
    · contradiction
    · exact fun none => Nat.le_zero.1 (none ▸ own)
    · exact id
    · contradiction

/-! ## The setpoint and the duty (R81, R127) -/

/-- An evaluation that hands is one evaluation, or one more after SHU has taken the value. -/
theorem evaluateAndHand_cases (s : State) :
    evaluateAndHand s = evaluate s ∨
      ∃ y, OnlyChain s y ∧ y.crg.setpoint = (evaluate s).crg.setpoint ∧ y.htr = (evaluate s).htr ∧
        y.ptu = (evaluate s).ptu ∧ evaluateAndHand s = evaluate y := by
  have handed := (evaluate_onlyChain s).trans (handDOwn_onlyChain _)
  unfold evaluateAndHand handLower extraAndEvaluate
  dsimp only
  split
  · split
    · refine .inr ⟨extraComputation (handDOwn (evaluate s)), handed.trans (extraComputation_onlyChain _), ?_, ?_, ?_, rfl⟩ <;>
        rw [extraComputation_shu, handDOwn_eq]
    · refine .inr ⟨handDOwn (evaluate s), handed, ?_, ?_, ?_, rfl⟩ <;> rw [handDOwn_eq]
  · exact .inl rfl

theorem evaluate_iTarget (s : State) : (evaluate s).crg.iTarget = iTargetOf s := by
  rw [evaluate_crg]
  rfl

theorem evaluate_setpoint (s : State) : (evaluate s).crg.setpoint = min s.crg.setpoint (iTargetOf s) := by
  rw [evaluate_crg]
  rfl

theorem evaluate_setpointFalls (s : State) : SetpointFalls s (evaluate s) := by
  unfold SetpointFalls
  rw [evaluate_setpoint, evaluate_iTarget]
  exact ⟨le_rfl, fun _ => rfl⟩

theorem evaluateAndHand_setpoint (s : State) : SetpointFalls s (evaluateAndHand s) := by
  obtain once | ⟨y, only, setpoint, -, -, twice⟩ := evaluateAndHand_cases s
  · rw [once]
    exact evaluate_setpointFalls s
  · unfold SetpointFalls
    rw [twice, evaluate_setpoint, evaluate_iTarget, setpoint, evaluate_setpoint, evaluate_shu]
    refine ⟨by omega, fun fall => ?_⟩
    have lower := iTargetOf_le only fall
    omega

theorem HeaterSafe.dutyHeld (h : HeaterSafe s) : DutyHeld s := by
  obtain ⟨off, buffer, most, -⟩ := h
  exact ⟨fun k => off (.inr k), buffer, most⟩

/-- The duty of an evaluation is that found, or 0 where it leaves no budget. -/
theorem evaluate_duty_cases (s : State) :
    (evaluate s).htr.budget = (evaluated s).htr.budget ∧
      ((evaluated s).htr.budget ≠ 0 → (evaluate s).htr.duty = s.htr.duty) := by
  rw [evaluate_eq]
  cases cut : s.htr.budget != 0 && (evaluated s).htr.budget == 0 with
  | false => exact ⟨rfl, fun _ => rfl⟩
  | true => exact ⟨rfl, fun some => absurd (by simpa using (Bool.and_eq_true_iff.1 cut).2) some⟩

theorem evaluateAndHand_duty (h : DutyHeld s) : DutyHeld (evaluateAndHand s) := by
  obtain once | ⟨y, -, -, htr, ptu, twice⟩ := evaluateAndHand_cases s
  · rw [once]
    exact evaluate_duty h
  · rw [twice]
    refine evaluate_duty ?_
    have k := evaluate_duty h
    unfold DutyHeld at k ⊢
    rw [htr, ptu]
    exact k

/-- The duty of an evaluation that hands is that found, or 0. -/
theorem evaluateAndHand_dutyEither (s : State) :
    (evaluateAndHand s).htr.duty = s.htr.duty ∨ (evaluateAndHand s).htr.duty = 0 := by
  have one (x : State) : (evaluate x).htr.duty = x.htr.duty ∨ (evaluate x).htr.duty = 0 := by
    obtain ⟨same, -⟩ | cut := evaluate_cases x
    · rw [same]
      exact .inl rfl
    · rw [cut]
      exact .inr rfl
  obtain once | ⟨y, -, -, htr, -, twice⟩ := evaluateAndHand_cases s
  · rw [once]
    exact one s
  · rw [twice]
    have second := one y
    rw [htr] at second
    exact second.elim (fun same => same ▸ one s) .inr

theorem evaluateAndHand_dutyFollows (h : DutyHeld s) : DutyFollows s (evaluateAndHand s) := by
  obtain ⟨off', buffer', -⟩ := evaluateAndHand_duty h
  have relay : (evaluateAndHand s).htr.relay = s.htr.relay := congrArg (·.htr.relay) (evaluateAndHand_onlyChain s)
  refine ⟨fun none => off' (.inr (.inr (none.resolve_right fun k => k relay))), fun some _ fall => ?_, buffer'⟩
  obtain once | ⟨y, only, -, htr, -, twice⟩ := evaluateAndHand_cases s
  · rw [once] at some ⊢
    obtain ⟨budget, kept⟩ := evaluate_duty_cases s
    exact kept (budget ▸ some)
  · rw [twice] at some fall ⊢
    obtain ⟨budget, kept⟩ := evaluate_duty_cases y
    obtain ⟨-, keptFirst⟩ := evaluate_duty_cases s
    rw [evaluate_shu] at fall
    have some := budget ▸ some
    rw [kept some, htr]
    exact keptFirst fun none => some (evaluated_budget_mono only fall none)

theorem evaluate_dutyFollows (h : DutyHeld s) : DutyFollows s (evaluate s) := by
  obtain ⟨off', buffer', -⟩ := evaluate_duty h
  have relay : (evaluate s).htr.relay = s.htr.relay := congrArg (·.htr.relay) (evaluate_onlyChain s)
  obtain ⟨budget, kept⟩ := evaluate_duty_cases s
  exact ⟨fun none => off' (.inr (.inr (none.resolve_right fun k => k relay))), fun some _ _ => kept (budget ▸ some), buffer'⟩

/-- An evaluation that hands d_own, from a state that differs from `s` in what the chain alone reads. -/
theorem evaluateAndHand_follows (s : State) : ChainFollows true s (evaluateAndHand s) :=
  ⟨evaluateAndHand_chain s, evaluateAndHand_budget s, fun h => evaluateAndHand_dutyFollows h.dutyHeld, evaluateAndHand_lowerHanded s⟩

theorem evaluate_follows (s : State) : ChainFollows false s (evaluate s) :=
  ⟨evaluate_chain s, evaluate_budget s, fun h => evaluate_dutyFollows h.dutyHeld, evaluate_dOwnLast s, evaluate_shu s⟩

/-! ## The host's limits, the freshness timer and the ramp (R70, R71, R81) -/

/-- The setpoint after a ramp event (R81). -/
def rampedSetpoint (s : State) : Nat :=
  if s.ptu.enable = true ∧ s.crg.setpoint < iTargetOf s then min (s.crg.setpoint + s.cfg.rUp) (iTargetOf s)
  else min s.crg.setpoint (iTargetOf s)

/-- The ramp raises the setpoint alone, after the evaluation. -/
theorem rampEvent_eq (s : State) : rampEvent s = { evaluate s with crg.setpoint := rampedSetpoint s } := by
  have enable : (evaluate s).ptu.enable = s.ptu.enable := congrArg (·.ptu.enable) (evaluate_onlyChain s)
  have setpoint := evaluate_setpoint s
  have target := evaluate_iTarget s
  have rate := congrArg (·.rUp) (evaluate_cfg s)
  unfold rampedSetpoint
  by_cases rises : s.ptu.enable = true ∧ s.crg.setpoint < iTargetOf s
  · have rises' : (evaluate s).ptu.enable = true ∧ (evaluate s).crg.setpoint < (evaluate s).crg.iTarget := by
      rw [enable, setpoint, target]
      exact ⟨rises.1, by omega⟩
    rw [if_pos rises, ← min_eq_left rises.2.le, ← setpoint, ← target, ← rate]
    exact if_pos rises'
  · have rests : ¬ ((evaluate s).ptu.enable = true ∧ (evaluate s).crg.setpoint < (evaluate s).crg.iTarget) := by
      rw [enable, setpoint, target]
      exact fun ⟨on, below⟩ => rises ⟨on, by omega⟩
    rw [if_neg rises, ← setpoint]
    exact if_neg rests

/-- Settles O32: each request evaluates the chain with what it stores, and hands d_own; the ramp hands nothing. -/
theorem hostLimitsRunTheChain : Obligations.HostLimitsRunTheChain := by
  unfold Obligations.HostLimitsRunTheChain
  intro s i v b run
  have charge : exec (.setCharge i v) s = .next (setCharge i v s) := whenRunning_running run
  have limit : exec (.setBatteryLimit b) s = .next (setBatteryLimit b s) := whenRunning_running run
  have expiry : exec .freshnessTimerExpiry s = .next (freshnessExpiry s) := whenRunning_running run
  have ramp : exec .rampEvent s = .next (rampEvent s) := whenRunning_running run
  rw [charge, limit, expiry, ramp]
  refine ⟨?_, ?_, ?_, _, rfl, ?_⟩
  · split
    next bad => exact congrArg _ (if_pos bad)
    next good =>
      rw [setCharge, if_neg good]
      exact ⟨_, rfl, evaluateAndHand_follows _, evaluateAndHand_setpoint _, (evaluateAndHand_onlyChain _).answerEmpty _⟩
  · split
    next bad => exact congrArg _ (if_pos bad)
    next good =>
      rw [setBatteryLimit, if_neg good]
      exact ⟨_, rfl, evaluateAndHand_follows _, evaluateAndHand_setpoint _, (evaluateAndHand_onlyChain _).answerEmpty _⟩
  · cases timer : s.crg.freshTimer with
    | false =>
      rw [if_pos rfl]
      exact congrArg _ (if_neg (by rw [timer]; decide))
    | true =>
      have due : freshnessExpiry s = evaluateAndHand (raiseEvent .limitStale { s with
          crg := { s.crg with freshTimer := false, stale := true } }) := if_pos timer
      rw [if_neg (by decide), due]
      exact ⟨_, rfl, evaluateAndHand_follows _, evaluateAndHand_setpoint _, evaluateAndHand_onlyChain _⟩
  · rw [rampEvent_eq]
    refine ⟨evaluate_follows s, ?_, ?_⟩
    · have only := evaluate_onlyChain s
      generalize evaluate s = e at only ⊢
      unfold OnlyChain at only ⊢
      rw [only]
    · dsimp only
      rw [evaluate_iTarget]
      rfl

end Sys2Proof.Machine
end

section
/-! PROOF. What a selection of the heater's state writes, hands and leaves (R123 to R127). -/

namespace Sys2Proof.Machine

variable {s t : State}

/-! ## The state, the relay, the request and the budget (R123 to R127) -/

/-- The state HTR selects as it stands (R123). -/
abbrev chosenHeater (s : State) : HeaterState := heaterChoice s.htr.isolateReq s

/-- HTR with the state it selects, its relay and its request (R125, R126), before the budget follows. -/
def chosenHtr (s : State) : Htr :=
  { s.htr with
    state := chosenHeater s
    relay := (chosenHeater s).relayClosed
    settleTimer :=
      if s.htr.relay = (chosenHeater s).relayClosed then s.htr.settleTimer else (chosenHeater s).relayClosed
    pHeatReq := heatRequest { s.htr with state := chosenHeater s } }

/-- The budget and the source of the request just formed (R127). -/
def chosenBudget (s : State) : Nat × HeatSource := budgetOf { s with htr := chosenHtr s }

/-- A change of the relay, and a budget that becomes 0, end the duty (R125, R127). -/
def cutsDuty (s : State) : Bool :=
  s.htr.relay != (chosenHeater s).relayClosed || (s.htr.budget != 0 && (chosenBudget s).1 == 0)

/-- The state after a selection, before its request is handed on. -/
def selected (s : State) : State :=
  onlyIf (cutsDuty s) (writeHeaterDuty 0)
    { s with htr := { chosenHtr s with budget := (chosenBudget s).1, source := (chosenBudget s).2 } }

theorem followRelay_eq (s : State) :
    followRelay s = onlyIf (s.htr.relay != s.htr.state.relayClosed) (writeHeaterDuty 0) { s with htr := { s.htr with
      relay := s.htr.state.relayClosed
      settleTimer := if s.htr.relay = s.htr.state.relayClosed then s.htr.settleTimer else s.htr.state.relayClosed } } := by
  have kept : { s with htr.relay := s.htr.relay } = s := rfl
  unfold followRelay
  cases relay : s.htr.relay <;> cases s.htr.state.relayClosed <;> rw [relay] at kept
  · exact kept.symm
  · rfl
  · rfl
  · exact kept.symm

theorem selected_eq (s : State) :
    formRequest (followRelay { s with htr.state := chosenHeater s }) = selected s := by
  rw [followRelay_eq]
  unfold selected cutsDuty
  dsimp only
  cases s.htr.relay != (chosenHeater s).relayClosed with
  | true =>
    show onlyIf (s.htr.budget != 0 && (chosenBudget s).1 == 0) (writeHeaterDuty 0) (writeHeaterDuty 0
      { s with htr := { chosenHtr s with budget := (chosenBudget s).1, source := (chosenBudget s).2 } }) = _
    cases s.htr.budget != 0 && (chosenBudget s).1 == 0 <;> rfl
  | false => rfl

/-- A change of the state is handed to the regulator, and nothing else is (R126). -/
theorem selectHeater_eq (s : State) :
    selectHeater s =
      if chosenHeater s = s.htr.state then selected s
      else evaluateAndHand { selected s with crg.pHeatReq := (selected s).htr.pHeatReq } := by
  unfold selectHeater handHeatRequest
  dsimp only
  rw [selected_eq]

/-! ## What a selection leaves -/

theorem selected_htr (s : State) :
    (selected s).htr = { chosenHtr s with
      budget := (chosenBudget s).1, source := (chosenBudget s).2
      duty := if cutsDuty s = true then 0 else s.htr.duty } := by
  unfold selected
  cases cutsDuty s <;> rfl

theorem selected_frame (s : State) :
    selected s = { s with htr := (selected s).htr, ptu.heaterBuffer := (selected s).ptu.heaterBuffer } := by
  unfold selected
  cases cutsDuty s <;> rfl

theorem selected_onlyHeater (s : State) : OnlyHeater s (selected s) := by
  have frame := selected_frame s
  have htr := selected_htr s
  generalize selected s = t at frame htr ⊢
  unfold OnlyHeater OnlyChain
  rw [frame, htr]
  rfl

theorem selected_duty (h : DutyHeld s) : DutyHeld (selected s) := by
  rw [← selected_eq]
  exact formRequest_duty (followRelay_duty h)

theorem selected_budget (s : State) : BudgetHeld (selected s) := by
  rw [← selected_eq]
  exact formRequest_budget _

/-- What the evaluation that follows a selection starts from. -/
theorem selectHeater_onlyHeater (s : State) : OnlyHeater s (selectHeater s) := by
  have first := selected_onlyHeater s
  rw [selectHeater_eq]
  split
  · exact first
  · have chain := evaluateAndHand_onlyChain { selected s with crg.pHeatReq := (selected s).htr.pHeatReq }
    generalize selected s = x at first chain ⊢
    generalize evaluateAndHand _ = t at chain ⊢
    unfold OnlyHeater OnlyChain at first ⊢
    unfold OnlyChain at chain
    rw [chain, first]

/-- HTR's own values, which the evaluation leaves. -/
theorem selectHeater_htr (s : State) :
    (selectHeater s).htr = { chosenHtr s with
      budget := (selectHeater s).htr.budget, source := (selectHeater s).htr.source
      duty := (selectHeater s).htr.duty } := by
  have first := selected_htr s
  rw [selectHeater_eq]
  split
  · rw [first]
  · have chain := evaluateAndHand_onlyChain { selected s with crg.pHeatReq := (selected s).htr.pHeatReq }
    generalize selected s = x at first chain ⊢
    generalize evaluateAndHand _ = t at chain ⊢
    unfold OnlyChain at chain
    rw [chain]
    dsimp only
    rw [first]

theorem selectHeater_selected (s : State) : HeaterSelected s.htr.state (selectHeater s) := by
  have cpt : (selectHeater s).cpt.configured = s.cpt.configured := congrArg (·.cpt.configured) (selectHeater_onlyHeater s)
  unfold HeaterSelected
  rw [selectHeater_htr, cpt]
  show heaterChoice s.htr.isolateReq s = _
  unfold heaterChoice
  have conf : (s.htr.permission = .off ∨ ¬ s.cpt.configured = true) ↔
      (s.htr.permission = .off ∨ s.cpt.configured = false) := by simp
  show _ = if s.htr.isolateReq = true then _ else if s.htr.overcurrent = true ∨ s.htr.openLatch = true then _
    else if s.htr.permission = .off ∨ s.cpt.configured = false then _ else _
  simp only [conf]
  congr 3
  have temperature : (chosenHtr s).tBat = s.htr.tBat := rfl
  rw [temperature]
  cases s.htr.tBat with
  | none => rfl
  | some x => cases s.htr.state <;> rfl

/-- The duty of a selection is that found, or 0; it is 0 where the relay changes. -/
theorem selectHeater_dutyEither (s : State) :
    (selectHeater s).htr.duty = (selected s).htr.duty ∨ (selectHeater s).htr.duty = 0 := by
  rw [selectHeater_eq]
  split
  · exact .inl rfl
  · exact evaluateAndHand_dutyEither { selected s with crg.pHeatReq := (selected s).htr.pHeatReq }

theorem selectHeater_follows (s : State) : HeaterFollows s (selectHeater s) := by
  have either := selectHeater_dutyEither s
  have htr := selectHeater_htr s
  rw [selected_htr] at either
  generalize selectHeater s = t at either htr ⊢
  have relay : t.htr.relay = (chosenHeater s).relayClosed := by rw [htr]; rfl
  have state : t.htr.state = chosenHeater s := by rw [htr]; rfl
  have timer : t.htr.settleTimer = if s.htr.relay = (chosenHeater s).relayClosed then s.htr.settleTimer
      else (chosenHeater s).relayClosed := by rw [htr]; rfl
  have request : t.htr.pHeatReq = heatRequest t.htr := by rw [htr]; rfl
  refine ⟨?_, fun moved => ⟨?_, ?_⟩, fun kept => ?_, ?_, ?_⟩
  · rw [relay, state]
    cases chosenHeater s <;> rfl
  · have cut : cutsDuty s = true := by
      unfold cutsDuty
      rw [← relay]
      simp [Ne.symm moved]
    simpa [cut] using either
  · rw [timer, relay, if_neg fun same => moved (relay.trans same.symm)]
  · rw [timer, if_pos (kept.symm.trans relay)]
  · cases cut : cutsDuty s <;> simp [cut] at either <;> simp [either]
  · rw [request]
    unfold heatRequest
    cases t.htr.state <;> cases t.htr.tBat <;> rfl

theorem selectHeater_duty (h : DutyHeld s) : DutyHeld (selectHeater s) := by
  rw [selectHeater_eq]
  split
  · exact selected_duty h
  · exact evaluateAndHand_duty (s := { selected s with crg.pHeatReq := (selected s).htr.pHeatReq }) (selected_duty h)

/-- A change of the state hands its request, and the evaluation hands d_own and lowers the setpoint (R73, R77, R81,
R126); without one the regulator and SHU are as they were. -/
theorem selectHeater_handed (s : State) :
    if (selectHeater s).htr.state = s.htr.state then
      (selectHeater s).crg = s.crg ∧ (selectHeater s).shu = s.shu
    else
      (selectHeater s).crg.pHeatReq = (selectHeater s).htr.pHeatReq ∧ ChainHolds (selectHeater s) ∧
        LowerHanded s (selectHeater s) ∧ SetpointFalls s (selectHeater s) := by
  have state : (selectHeater s).htr.state = chosenHeater s := by rw [selectHeater_htr]; rfl
  have frame := selected_frame s
  rw [state, selectHeater_eq]
  split
  · rw [frame]
    exact ⟨rfl, rfl⟩
  · have only := evaluateAndHand_onlyChain { selected s with crg.pHeatReq := (selected s).htr.pHeatReq }
    have lower := evaluateAndHand_lowerHanded { selected s with crg.pHeatReq := (selected s).htr.pHeatReq }
    have falls := evaluateAndHand_setpoint { selected s with crg.pHeatReq := (selected s).htr.pHeatReq }
    refine ⟨?_, evaluateAndHand_chain _, ?_, ?_⟩
    · generalize evaluateAndHand _ = t at only ⊢
      unfold OnlyChain at only
      rw [only]
    · generalize evaluateAndHand _ = t at lower ⊢
      rw [frame] at lower
      exact lower
    · generalize evaluateAndHand _ = t at falls ⊢
      rw [frame] at falls
      exact falls

theorem budgetOf_fst (s : State) : (budgetOf s).1 =
    if s.htr.permission = .off then 0 else if s.psq.seq = .active then s.crg.pH
    else if s.htr.permission = .gridOrBattery then min s.htr.pHeatReq s.htr.pBattMax else 0 := by
  unfold budgetOf
  cases s.htr.permission with
  | off => rfl
  | gridOnly => by_cases active : s.psq.seq = .active <;> simp [active]
  | gridOrBattery => by_cases active : s.psq.seq = .active <;> simp [active]

/-- A budget that a selection leaves stood already in its first part, or no grid power did. -/
theorem selectHeater_budget_ne (some : (selectHeater s).htr.budget ≠ 0) :
    (chosenBudget s).1 ≠ 0 ∨ (s.psq.seq = .active ∧ s.crg.pH = 0) := by
  have htr := selectHeater_htr s
  have psq : (selectHeater s).psq = s.psq := (selectHeater_keeps s).2.2.1
  obtain ⟨budget, -⟩ := selectHeater_budget s
  rw [budget, psq] at some
  generalize selectHeater s = t at htr some
  have permission : t.htr.permission = s.htr.permission := by rw [htr]; rfl
  have request : t.htr.pHeatReq = (chosenHtr s).pHeatReq := by rw [htr]
  have most : t.htr.pBattMax = s.htr.pBattMax := by rw [htr]; rfl
  rw [permission, request, most] at some
  have chosen : (chosenBudget s).1 = if s.htr.permission = .off then 0 else if s.psq.seq = .active then s.crg.pH
      else if s.htr.permission = .gridOrBattery then min (chosenHtr s).pHeatReq s.htr.pBattMax else 0 := by
    have own : (chosenHtr s).permission = s.htr.permission := rfl
    unfold chosenBudget
    rw [budgetOf_fst]
    dsimp only
    rw [own]
    rfl
  rw [chosen]
  by_cases off : s.htr.permission = .off
  · exact absurd (if_pos off) some
  · rw [if_neg off] at some ⊢
    by_cases active : s.psq.seq = .active
    · rw [if_pos active] at some ⊢
      exact (em (s.crg.pH = 0)).elim (fun none => .inr ⟨active, none⟩) .inl
    · rw [if_neg active] at some ⊢
      exact .inl some

theorem selectHeater_dutyFollows (h : DutyHeld s) (grid : s.psq.seq = .active → s.crg.pH = 0 → s.htr.duty = 0) :
    DutyFollows s (selectHeater s) := by
  obtain ⟨off, buffer, -⟩ := selectHeater_duty h
  obtain ⟨-, moved, -⟩ := selectHeater_follows s
  refine ⟨fun none => none.elim (fun k => off (.inr (.inr k))) fun k => (moved k).1, fun some kept fall => ?_, buffer⟩
  have budget := selectHeater_budget_ne some
  have relay : (selectHeater s).htr.relay = (chosenHeater s).relayClosed := by rw [selectHeater_htr]; rfl
  have first : (selected s).htr.duty = s.htr.duty := by
    rw [selected_htr]
    dsimp only
    split
    next cut =>
      have none : (chosenBudget s).1 = 0 := by
        unfold cutsDuty at cut
        rw [← relay, kept] at cut
        exact (by simpa using cut : _ ∧ _).2
      obtain ⟨active, dark⟩ := budget.resolve_left fun k => k none
      exact (grid active dark).symm
    next => rfl
  refine Eq.trans ?_ first
  have frame := selected_frame s
  rw [selectHeater_eq] at some fall ⊢
  split
  next => rfl
  next change =>
    rw [if_neg change] at some fall
    obtain ⟨-, same, -⟩ := evaluateAndHand_dutyFollows
      (s := { selected s with crg.pHeatReq := (selected s).htr.pHeatReq }) (selected_duty h)
    refine same some ?_ ?_
    · exact congrArg (·.htr.relay) (evaluateAndHand_onlyChain { selected s with crg.pHeatReq := (selected s).htr.pHeatReq })
    · rw [frame] at fall ⊢
      exact fall

end Sys2Proof.Machine
end

section
/-! PROOF. SET_HEATING and the heater event (R121, R123 to R130, R132). -/

namespace Sys2Proof.Machine

variable {s t : State}

/-- Grid power stands behind every duty in ACTIVE. -/
theorem HeaterSafe.grid (h : HeaterSafe s) (active : s.psq.seq = .active) (dark : s.crg.pH = 0) : s.htr.duty = 0 := by
  obtain ⟨off, -, -, budget, -⟩ := h
  refine off (.inr (.inr (.inr ?_)))
  rw [budget, if_pos active, dark, ite_self]

theorem selectHeater_heaterHanded (h : HeaterSafe s → DutyFollows s (selectHeater t))
    (same : if (selectHeater t).htr.state = s.htr.state then
        (selectHeater t).crg = s.crg ∧ (selectHeater t).shu = s.shu
      else (selectHeater t).crg.pHeatReq = (selectHeater t).htr.pHeatReq ∧ ChainHolds (selectHeater t) ∧
        LowerHanded s (selectHeater t) ∧ SetpointFalls s (selectHeater t)) : HeaterHanded s (selectHeater t) :=
  ⟨selectHeater_budget t, h, same⟩

/-! ## SET_HEATING (R121) -/

theorem windowBound_iff (w : Word16) : windowBound w = true ↔ ¬ (w.toInt < -400 ∨ 1200 < w.toInt) := by
  unfold windowBound
  simp

theorem permissionOf_eq (p : Byte) : permissionOf p =
    if 2 < p.toNat then none
    else some (if p = 0 then .off else if p = 1 then .gridOnly else .gridOrBattery) := by
  have zero : p = 0 ↔ p.toNat = 0 := BitVec.toNat_inj.symm
  have one : p = 1 ↔ p.toNat = 1 := BitVec.toNat_inj.symm
  unfold permissionOf
  simp only [zero, one]
  split
  · simp_all
  · simp_all
  · simp_all
  next high zero one two =>
    have above : 2 < p.toNat := by
      have zero : p.toNat ≠ 0 := zero
      have one : p.toNat ≠ 1 := one
      have two : p.toNat ≠ 2 := two
      omega
    rw [if_pos above]

/-- The settings of an accepted SET_HEATING, before the state is selected anew (R121). -/
def heatingSet (a b m q : Word16) (p c : Byte) (s : State) : State :=
  { s with htr := { s.htr with
    tOn := a.toInt
    tOff := b.toInt
    pHmax := m.toNat
    permission := if p = 0 then .off else if p = 1 then .gridOnly else .gridOrBattery
    pBattMax := q.toNat
    overcurrent := s.htr.overcurrent && c == 0
    openLatch := s.htr.openLatch && c == 0
    openMs := if c = 0 then s.htr.openMs else 0 } }

theorem heatingSet_cleared (a b m q : Word16) (p c : Byte) (s : State) (code : c.toNat ≤ 1) :
    heatingSet a b m q p c s = { s with htr := { s.htr with
      tOn := a.toInt
      tOff := b.toInt
      pHmax := m.toNat
      permission := if p = 0 then .off else if p = 1 then .gridOnly else .gridOrBattery
      pBattMax := q.toNat
      overcurrent := s.htr.overcurrent && !(c == 1)
      openLatch := s.htr.openLatch && !(c == 1)
      openMs := if (c == 1) = true then 0 else s.htr.openMs } } := by
  have cases : c = 0 ∨ c = 1 := by
    have : c.toNat = 0 ∨ c.toNat = 1 := by omega
    exact this.imp (fun h => BitVec.eq_of_toNat_eq h) fun h => BitVec.eq_of_toNat_eq h
  obtain rfl | rfl := cases <;> rfl

/-- SET_HEATING's checks in R121's order, and what it does when they pass. -/
theorem setHeating_eq (a b m q : Word16) (p c : Byte) (s : State) :
    setHeating a b m p q c s =
      if s.cpt.configured = false then answerEmpty .notConfigured s
      else if a.toInt < -400 ∨ 1200 < a.toInt ∨ b.toInt < -400 ∨ 1200 < b.toInt ∨ 12000 < m.toNat ∨
          2 < p.toNat ∨ 12000 < q.toNat ∨ 1 < c.toNat then answerEmpty .badValue s
      else if b.toInt ≤ a.toInt then answerEmpty .badWindow s
      else answerHeating (selectHeater (heatingSet a b m q p c s)) := by
  unfold setHeating
  rw [permissionOf_eq]
  cases s.cpt.configured with
  | false => rfl
  | true =>
    rw [if_neg (not_not.2 rfl : ¬ ¬ true = true), if_neg (Bool.noConfusion : ¬ true = false)]
    by_cases range : a.toInt < -400 ∨ 1200 < a.toInt ∨ b.toInt < -400 ∨ 1200 < b.toInt ∨ 12000 < m.toNat ∨
        2 < p.toNat ∨ 12000 < q.toNat ∨ 1 < c.toNat
    · rw [if_pos range]
      by_cases permission : 2 < p.toNat
      · rw [if_pos permission]
      · rw [if_neg permission]
        refine if_neg ?_
        rw [windowBound_iff, windowBound_iff]
        omega
    · have permission : ¬ 2 < p.toNat := by omega
      have good : windowBound a = true ∧ windowBound b = true ∧ m.toNat ≤ 12000 ∧ q.toNat ≤ 12000 ∧ c.toNat ≤ 1 := by
        rw [windowBound_iff, windowBound_iff]
        omega
      rw [if_neg range, if_neg permission]
      dsimp only
      rw [if_pos good]
      by_cases window : b.toInt ≤ a.toInt
      · rw [if_pos window, if_neg (not_lt.2 window)]
      · rw [if_neg window, if_pos (not_le.1 window), heatingSet_cleared (code := by omega)]
        rfl

/-- Settles O33: the settings are stored, and the selection hands what it changes. -/
theorem setHeatingSelectsTheState : Obligations.SetHeatingSelectsTheState := by
  unfold Obligations.SetHeatingSelectsTheState
  intro s a b m q p c run
  have row : exec (.setHeating a b m p q c) s = .next (setHeating a b m p q c s) := whenRunning_running run
  rw [row, setHeating_eq]
  split
  next => rfl
  next conf =>
    split
    next => rfl
    next range =>
      split
      next => rfl
      next window =>
        refine ⟨_, rfl, ?_⟩
        have htr := selectHeater_htr (heatingSet a b m q p c s)
        have only := selectHeater_onlyHeater (heatingSet a b m q p c s)
        have chosen := selectHeater_selected (heatingSet a b m q p c s)
        have follows := selectHeater_follows (heatingSet a b m q p c s)
        have handed := selectHeater_handed (heatingSet a b m q p c s)
        have budget := selectHeater_budget (heatingSet a b m q p c s)
        have duty (h : HeaterSafe s) : DutyFollows s (selectHeater (heatingSet a b m q p c s)) :=
          selectHeater_dutyFollows (s := heatingSet a b m q p c s) h.dutyHeld h.grid
        generalize selectHeater (heatingSet a b m q p c s) = t at *
        have cpt : t.cpt = s.cpt := by
          unfold OnlyHeater OnlyChain at only
          rw [only]
          rfl
        refine ⟨congrArg Htr.tOn htr, congrArg Htr.tOff htr, congrArg Htr.pHmax htr, congrArg Htr.pBattMax htr,
          congrArg Htr.permission htr, congrArg Htr.overcurrent htr, congrArg Htr.openLatch htr, chosen, follows,
          ⟨budget, duty, handed⟩, ?_, ?_⟩
        · rw [← cpt]
          rfl
        · unfold OnlyHeater OnlyChain at only ⊢
          rw [only]
          rfl

/-! ## The heater event and the OPEN latch (R128 to R132) -/

theorem heaterOpenDue_iff (s : State) : heaterOpenDue s = true ↔ 1000 ≤ s.htr.openMs ∧ s.htr.openLatch = false := by
  simp [heaterOpenDue]

theorem heaterOpenDetect_idle (idle : s.htr.openMs < 1000 ∨ s.htr.openLatch = true) : heaterOpenDetect s = s := by
  refine if_neg fun due => ?_
  obtain ⟨ms, latch⟩ := (heaterOpenDue_iff s).1 due
  obtain short | held := idle
  · omega
  · rw [latch] at held
    exact Bool.noConfusion held

theorem meanHeat_eq (h : Htr) : meanHeat h = h.accSum / h.accCount := by
  unfold meanHeat
  split
  next none => rw [none, Nat.div_zero]
  next => rfl

theorem pMeas_eq (s : State) : pMeas s = measuredHeat s := by
  unfold pMeas measuredHeat
  rw [meanHeat_eq]
  rfl

theorem tripped_iff (s : State) : tripped s = true ↔ s.ptu.trip ≠ none := by
  unfold tripped
  cases s.ptu.trip <;> simp

theorem adjustedDuty_eq (s : State) : adjustedDuty s =
    if s.ptu.trip ≠ none ∨ s.htr.relay = false ∨ s.htr.settleTimer = true ∨ s.htr.budget = 0 then 0
    else if measuredHeat s < s.htr.budget - s.htr.budget / 50 then min 4095 (s.htr.duty + 16)
    else if s.htr.budget < measuredHeat s then s.htr.duty - 64
    else min 4095 s.htr.duty := by
  have held : (tripped s = true ∨ ¬ s.htr.relay = true ∨ s.htr.settleTimer = true) ↔
      (s.ptu.trip ≠ none ∨ s.htr.relay = false ∨ s.htr.settleTimer = true) := by rw [tripped_iff, Bool.not_eq_true]
  unfold adjustedDuty
  simp only [held, pMeas_eq, ← or_assoc, ite_or]

theorem openAdvance_eq (s : State) : openAdvance s =
    if s.ptu.trip = none ∧ 2048 ≤ s.htr.duty ∧ s.htr.budget ≠ 0 ∧ measuredHeat s * 20 < s.htr.budget then
      s.htr.openMs + 10
    else 0 := by
  unfold openAdvance
  simp only [tripped_iff, not_not, Nat.pos_iff_ne_zero, pMeas_eq, Nat.mul_comm]

/-- Settles O34: the event moves the duty, and the OPEN latch selects the state and hands what it changes. -/
theorem heaterEventAdjustsTheDuty : Obligations.HeaterEventAdjustsTheDuty := by
  unfold Obligations.HeaterEventAdjustsTheDuty
  intro s run
  have event : exec .heaterEvent s = .next (heaterEvent s) := whenRunning_running run
  have detect : exec .heaterOpenDetect s = .next (heaterOpenDetect s) := whenRunning_running run
  refine ⟨whenRunning_running run, ?_, whenRunning_running run, fun clear => ?_, fun idle => ?_, fun ms latch => ?_⟩
  · exact whenRunning_running run
  · have untripped : tripped s = false := by unfold tripped; rw [clear]; rfl
    unfold heaterOutput
    rw [untripped]
    cases s.cfg.heaterLevel with
    | none => rfl
    | some level => cases level <;> cases s.ptu.heaterOnTime <;> rfl
  · rw [event, detect, heaterEvent, heaterOpenDetect_idle idle]
    exact ⟨rfl, _, rfl, rfl, adjustedDuty_eq s, openAdvance_eq s⟩
  · have due : heaterOpenDetect s = raiseEvent .heater (selectHeater { s with htr.openLatch := true }) :=
      if_pos ((heaterOpenDue_iff s).2 ⟨ms, latch⟩)
    rw [detect, due]
    have latched := congrArg (·.htr.openLatch) (selectHeater_onlyHeater { s with htr.openLatch := true })
    have only := selectHeater_onlyHeater { s with htr.openLatch := true }
    have chosen := selectHeater_selected { s with htr.openLatch := true }
    have follows := selectHeater_follows { s with htr.openLatch := true }
    have handed := selectHeater_handed { s with htr.openLatch := true }
    have budget := selectHeater_budget { s with htr.openLatch := true }
    have duty (h : HeaterSafe s) : DutyFollows s (selectHeater { s with htr.openLatch := true }) :=
      selectHeater_dutyFollows (s := { s with htr.openLatch := true }) h.dutyHeld h.grid
    generalize selectHeater { s with htr.openLatch := true } = t at *
    exact ⟨_, rfl, latched, raised_mem .., chosen, follows, ⟨budget, duty, handed⟩, by
        unfold OnlyHeater OnlyChain at only ⊢
        rw [only]
        rfl⟩

end Sys2Proof.Machine
end

section
/-! PROOF. A phase's crossings and lapses, and what the regulator makes of them (R72, R115 to R118). -/

namespace Sys2Proof.Machine

variable {s t : State}

/-! ## The grid range (R72, R117) -/

theorem gridRangeOf_iff (v : Nat) (b : Bool) : gridRangeOf v b = true ↔ v < 1800 ∨ 2650 < v ∨ b = true := by
  simp [gridRangeOf, or_assoc]

theorem vPhOf_eq (s : State) : vPhOf s =
    if s.crg.rmsSeen = ⟨true, true, true⟩ then
      (s.msq.phases.u.rmsV + s.msq.phases.v.rmsV + s.msq.phases.w.rmsV) / 3
    else 0 := by
  unfold vPhOf
  obtain ⟨u, v, w⟩ := s.crg.rmsSeen
  cases u <;> cases v <;> cases w <;> rfl

/-- V_ph of a phase's new RMS voltage (R72). -/
def judgedVoltage (k : Phase) (s : State) : Nat := vPhOf { s with crg.rmsSeen := s.crg.rmsSeen.set k true }

/-- The grid range condition of a phase's new RMS voltage (R72). -/
def judgedRange (k : Phase) (s : State) : Bool := gridRangeOf (judgedVoltage k s) s.msq.outOfRange

/-- The regulator with a phase's new RMS voltage judged, before the chain is evaluated (R72). -/
def judged (k : Phase) (s : State) : State :=
  { s with
    crg := { s.crg with
      rmsSeen := s.crg.rmsSeen.set k true, vPh := judgedVoltage k s, gridRange := judgedRange k s }
    cpt := if s.crg.gridRange = false ∧ judgedRange k s = true then (raiseEvent .gridRange s).cpt else s.cpt }

theorem newRms_eq (k : Phase) (s : State) :
    newRms k s =
      if judgedRange k s = s.crg.gridRange then evaluate (judged k s) else evaluateAndHand (judged k s) := by
  have step : onlyIf (judgedRange k s && !s.crg.gridRange) (raiseEvent .gridRange) { s with
      crg := { s.crg with
        rmsSeen := s.crg.rmsSeen.set k true, vPh := judgedVoltage k s, gridRange := judgedRange k s } } = judged k s := by
    unfold judged
    cases judgedRange k s <;> cases s.crg.gridRange <;> rfl
  rw [← step]
  rfl

theorem newRms_onlyChain (k : Phase) (s : State) : OnlyChain (judged k s) (newRms k s) := by
  rw [newRms_eq]
  split
  · exact evaluate_onlyChain _
  · exact evaluateAndHand_onlyChain _

theorem newRms_follows (k : Phase) (s : State) :
    ChainFollows (judgedRange k s != s.crg.gridRange) s (newRms k s) ∧ SetpointFalls s (newRms k s) := by
  rw [newRms_eq]
  split
  next same =>
    rw [same, bne_self_eq_false]
    exact ⟨evaluate_follows (judged k s), evaluate_setpointFalls (judged k s)⟩
  next change =>
    rw [bne_iff_ne.2 change]
    exact ⟨evaluateAndHand_follows (judged k s), evaluateAndHand_setpoint (judged k s)⟩

theorem newRms_taken (k : Phase) (s : State) : RmsTaken k s (newRms k s) := by
  obtain ⟨chain, setpoint⟩ := newRms_follows k s
  have only := newRms_onlyChain k s
  generalize newRms k s = t at only chain setpoint ⊢
  have range : t.crg.gridRange = judgedRange k s := congrArg (·.crg.gridRange) only
  have seen : t.crg.rmsSeen = s.crg.rmsSeen.set k true := congrArg (·.crg.rmsSeen) only
  have vPh : t.crg.vPh = judgedVoltage k s := congrArg (·.crg.vPh) only
  have msq : t.msq = s.msq := congrArg (·.msq) only
  have cpt : t.cpt = (judged k s).cpt := congrArg (·.cpt) only
  refine ⟨seen, ⟨?_, ?_, ?_⟩, range ▸ chain, setpoint, ?_⟩
  · rw [vPh, seen, msq]
    exact vPhOf_eq _
  · rw [range, vPh, msq]
    exact gridRangeOf_iff _ _
  · rw [cpt, range]
    rfl
  · unfold OnlyChain at only ⊢
    rw [only]
    rfl

/-! ## The line period's condition (R117) -/

theorem setOutOfRange_eq (b : Bool) (s : State) :
    setOutOfRange b s = takeOutOfRange b { s with
      cpt := if s.msq.outOfRange = false ∧ b = true then (raiseEvent .gridFreq s).cpt else s.cpt } := by
  unfold setOutOfRange
  cases b <;> cases s.msq.outOfRange <;> rfl

theorem takeOutOfRange_msq (b : Bool) (s : State) : (takeOutOfRange b s).msq = { s.msq with outOfRange := b } :=
  congrArg State.msq (takeOutOfRange_onlyChain b s)

theorem setOutOfRange_msq (b : Bool) (s : State) : (setOutOfRange b s).msq = { s.msq with outOfRange := b } := by
  rw [setOutOfRange_eq]
  exact takeOutOfRange_msq b _

theorem setOutOfRange_ptu (b : Bool) (s : State) : (setOutOfRange b s).ptu.gridTimer = s.ptu.gridTimer := by
  rw [setOutOfRange_eq]
  exact congrArg (·.ptu.gridTimer) (takeOutOfRange_onlyChain b _)

theorem setOutOfRange_taken (b : Bool) (s : State) : PeriodTaken s (setOutOfRange b s) := by
  have only := takeOutOfRange_onlyChain b { s with
    cpt := if s.msq.outOfRange = false ∧ b = true then (raiseEvent .gridFreq s).cpt else s.cpt }
  have cpt : (setOutOfRange b s).cpt =
      if s.msq.outOfRange = false ∧ b = true then (raiseEvent .gridFreq s).cpt else s.cpt := by
    rw [setOutOfRange_eq]
    exact congrArg State.cpt only
  have msq := setOutOfRange_msq b s
  have range : (setOutOfRange b s).crg.gridRange = gridRangeOf s.crg.vPh b := by
    rw [setOutOfRange_eq]
    exact congrArg (·.crg.gridRange) only
  have vPh : (setOutOfRange b s).crg.vPh = s.crg.vPh := by
    rw [setOutOfRange_eq]
    exact congrArg (·.crg.vPh) only
  refine ⟨?_, ?_, ?_⟩
  · rw [range, vPh, msq]
    exact gridRangeOf_iff _ _
  · rw [cpt, msq]
  · rw [range, cpt, msq, setOutOfRange_eq]
    unfold takeOutOfRange
    dsimp only
    split
    next same => rw [same]
    next change => exact ⟨evaluateAndHand_follows _, evaluateAndHand_setpoint _, evaluateAndHand_onlyChain _⟩

theorem newRms_msq (k : Phase) (s : State) : (newRms k s).msq = s.msq := (newRms_keeps k s).2.2.2.2.1

/-! ## Crossings (R115 to R118) -/

/-- A phase's meter with its crossing taken. -/
abbrev crossed (k : Phase) (s : State) : PhaseMeter :=
  (s.msq.phases.get k).cross (slotValue (voltageSlot k) s) (slotValue (currentSlot k) s)

theorem cross_spanClosed (m : PhaseMeter) (v i : Int) : SpanClosed m (m.cross v i) v i := by
  unfold PhaseMeter.cross
  refine ⟨rfl, rfl, rfl, Nat.zero_add _, Nat.zero_add _, ?_⟩
  cases m.seen with
  | false => exact ⟨rfl, rfl⟩
  | true => exact ⟨(isqrt_spec _).1, (isqrt_spec _).2, (isqrt_spec _).1, (isqrt_spec _).2⟩

/-- The phases with one crossing taken. -/
abbrev withCrossing (k : Phase) (s : State) : State := { s with msq.phases := s.msq.phases.set k (crossed k s) }

theorem crosses_iff (k : Phase) (s : State) :
    (s.msq.phases.get k).crosses (slotValue (voltageSlot k) s) = true ↔
      (s.msq.phases.get k).armed = true ∧ 0 ≤ slotValue (voltageSlot k) s := by
  unfold PhaseMeter.crosses
  rw [Bool.and_eq_true, decide_eq_true_iff]

/-- A crossing's row: the new RMS voltage where there was a span to close, and for VU the line period. -/
theorem phaseResult_crossing {k : Phase}
    (crosses : (s.msq.phases.get k).armed = true ∧ 0 ≤ slotValue (voltageSlot k) s) :
    phaseResult k s =
      if k = .u then
        lineCrossing (s.msq.phases.get k).seen
          (onlyIf (s.msq.phases.get k).seen (newRms k) (withCrossing k s))
      else onlyIf (s.msq.phases.get k).seen (newRms k) (withCrossing k s) := by
  unfold phaseResult
  dsimp only
  rw [if_pos ((crosses_iff k s).2 crosses)]
  cases k <;> rfl

theorem phaseResult_pass {k : Phase}
    (no : ¬ ((s.msq.phases.get k).armed = true ∧ 0 ≤ slotValue (voltageSlot k) s)) :
    phaseResult k s = { s with msq.phases := s.msq.phases.set k ((s.msq.phases.get k).pass (slotValue (voltageSlot k) s) (slotValue (currentSlot k) s)) } :=
  if_neg fun h => no ((crosses_iff k s).1 h)

theorem periodInRange_not_iff (fc p : Nat) : (!periodInRange fc p) = true ↔ 65 * p < fc ∨ fc < 45 * p := by
  unfold periodInRange
  simp

/-- The line period as a recorded crossing of VU measures it (R117, R118). -/
abbrev periodMeasured (s : State) : State :=
  { s with msq := { s.msq with troughs := 0, theta := 0, period := s.msq.troughs } }

theorem periodMeasured_msq (same : t.msq = s.msq) : (periodMeasured t).msq = (periodMeasured s).msq := by
  unfold periodMeasured
  dsimp only
  rw [same]

theorem lineCrossing_seen (s : State) :
    lineCrossing true s = setOutOfRange (!periodInRange s.ptu.fc s.msq.troughs) (periodMeasured s) := rfl

theorem newRms_ptu (k : Phase) (s : State) :
    (newRms k s).ptu.fc = s.ptu.fc ∧ (newRms k s).ptu.gridTimer = s.ptu.gridTimer :=
  ⟨congrArg (·.ptu.fc) (newRms_onlyChain k s), congrArg (·.ptu.gridTimer) (newRms_onlyChain k s)⟩

/-- A recorded crossing of VU: its RMS voltage is handed on, and then the line period is judged (log 16). -/
theorem phaseResult_line
    (crosses : (s.msq.phases.get .u).armed = true ∧ 0 ≤ slotValue (voltageSlot .u) s) (seen : s.msq.phases.u.seen = true) :
    phaseResult .u s =
      setOutOfRange (!periodInRange s.ptu.fc s.msq.troughs) (periodMeasured (newRms .u (withCrossing .u s))) := by
  have span : (s.msq.phases.get .u).seen = true := seen
  rw [phaseResult_crossing crosses, if_pos rfl, span, onlyIf_true, lineCrossing_seen, (newRms_ptu _ _).1, newRms_msq]

/-- What a crossing leaves of the measurements. -/
theorem phaseResult_msq {k : Phase}
    (crosses : (s.msq.phases.get k).armed = true ∧ 0 ≤ slotValue (voltageSlot k) s) :
    (k ≠ .u → (phaseResult k s).msq = (withCrossing k s).msq) ∧
    (k = .u → (phaseResult k s).msq =
      if s.msq.phases.u.seen = true then
        { (periodMeasured (withCrossing k s)).msq with outOfRange := !periodInRange s.ptu.fc s.msq.troughs }
      else { (withCrossing k s).msq with troughs := 0, theta := 0 }) := by
  refine ⟨fun other => ?_, ?_⟩
  · rw [phaseResult_crossing crosses, if_neg other]
    cases (s.msq.phases.get k).seen with
    | false => rfl
    | true => exact newRms_msq k _
  · rintro rfl
    cases seen : s.msq.phases.u.seen with
    | true => rw [phaseResult_line crosses seen, setOutOfRange_msq, periodMeasured_msq (newRms_msq ..), if_pos rfl]
    | false =>
      have span : (s.msq.phases.get .u).seen = false := seen
      rw [phaseResult_crossing crosses, if_pos rfl, span, if_neg (by decide)]
      rfl

/-- What a crossing of VU leaves of the line period and the grid supervision timer (R101, R117, R118). -/
theorem phaseResult_lineRow
    (crosses : (s.msq.phases.get .u).armed = true ∧ 0 ≤ slotValue (voltageSlot .u) s)
    (msq : (phaseResult .u s).msq =
      if s.msq.phases.u.seen = true then
        { (periodMeasured (withCrossing .u s)).msq with outOfRange := !periodInRange s.ptu.fc s.msq.troughs }
      else { (withCrossing .u s).msq with troughs := 0, theta := 0 }) :
    (phaseResult .u s).msq.troughs = 0 ∧ (phaseResult .u s).msq.theta = 0 ∧
      (phaseResult .u s).ptu.gridTimer = s.ptu.gridTimer ∧
      (s.msq.phases.u.seen = false →
        (phaseResult .u s).msq.period = s.msq.period ∧ (phaseResult .u s).msq.outOfRange = s.msq.outOfRange) ∧
      (s.msq.phases.u.seen = true →
        (phaseResult .u s).msq.period = s.msq.troughs ∧
        ((phaseResult .u s).msq.outOfRange = true ↔
          65 * s.msq.troughs < s.ptu.fc ∨ s.ptu.fc < 45 * s.msq.troughs) ∧
        ((phaseResult .u s).msq.outOfRange = true → s.msq.outOfRange = false →
          .gridFreq ∈ (phaseResult .u s).cpt.events)) := by
  cases seen : s.msq.phases.u.seen with
  | false =>
    have span : (s.msq.phases.get .u).seen = false := seen
    rw [phaseResult_crossing crosses, if_pos rfl, span]
    exact ⟨rfl, rfl, rfl, fun _ => ⟨rfl, rfl⟩, nofun⟩
  | true =>
    rw [seen, if_pos rfl] at msq
    rw [msq]
    refine ⟨rfl, rfl, ?_, nofun, fun _ => ⟨rfl, periodInRange_not_iff .., fun out held => ?_⟩⟩
    · rw [phaseResult_line crosses seen, setOutOfRange_ptu]
      exact (newRms_ptu ..).2
    · have raised := (setOutOfRange_taken (!periodInRange s.ptu.fc s.msq.troughs)
        (periodMeasured (newRms .u (withCrossing .u s)))).2.1
      have before : (newRms .u (withCrossing .u s)).msq.outOfRange = false := by
        rw [newRms_msq]
        exact held
      rw [← phaseResult_line crosses seen, msq, if_pos ⟨before, out⟩] at raised
      rw [raised]
      exact raised_mem ..

/-! ## Lapses (R116, R117) -/

theorem linePeriodLapse_onlyChain (held : s.msq.outOfRange = false) :
    OnlyChain (raiseEvent .gridFreq { s with msq.outOfRange := true, crg.gridRange := true }) (setOutOfRange true s) := by
  have out : gridRangeOf s.crg.vPh true = true := (gridRangeOf_iff ..).2 (.inr (.inr rfl))
  have only := takeOutOfRange_onlyChain true (raiseEvent .gridFreq s)
  rw [setOutOfRange_eq, if_pos ⟨held, rfl⟩]
  rw [show (raiseEvent .gridFreq s).crg.vPh = s.crg.vPh from rfl, out] at only
  exact only

theorem spanLapse_due {k : Phase} (due : ¬ (s.msq.phases.get k).count < s.ptu.fc / 45 + 1) :
    spanLapse k s = newRms k { s with msq.phases := s.msq.phases.set k ⟨(s.msq.phases.get k).armed, false, 0, 0, 0, 0, 0⟩ } :=
  if_pos (decide_eq_true (not_lt.1 due))

theorem lineLapseDue_iff (s : State) :
    lineLapseDue s = true ↔ ¬ (s.msq.troughs < s.ptu.fc / 45 + 1 ∨ s.msq.outOfRange = true) := by
  unfold lineLapseDue lapseCount
  simp

/-- Settles O31: each row is what the regulator makes of a new RMS voltage and of the line period's condition. -/
theorem crossingsAndLapsesCloseSpans : Obligations.CrossingsAndLapsesCloseSpans := by
  unfold Obligations.CrossingsAndLapsesCloseSpans
  intro s k
  refine ⟨?_, fun run => ⟨?_, ?_⟩⟩
  · split
    next crosses =>
      obtain ⟨other, line⟩ := phaseResult_msq crosses
      have phases : (phaseResult k s).msq.phases = s.msq.phases.set k (crossed k s) := by
        by_cases u : k = .u
        · rw [line u]
          split <;> rfl
        · rw [other u]
      have own : (phaseResult k s).msq.phases.get k = crossed k s := by rw [phases, PerPhase.get_set_self]
      refine ⟨own ▸ cross_spanClosed .., by rw [phases, PerPhase.get_set_self], fun first => ?_, fun seen => ?_, ?_, ?_, ?_⟩
      · rw [phaseResult_crossing crosses, first]
        split <;> rfl
      · split
        next line =>
          subst line
          refine ⟨newRms .u (withCrossing .u s), by rw [newRms_msq, phases], newRms_taken .u (withCrossing .u s), ?_⟩
          rw [phaseResult_line crosses seen]
          exact setOutOfRange_taken _ (periodMeasured (newRms .u (withCrossing .u s)))
        next other =>
          rw [phaseResult_crossing crosses, if_neg other, seen]
          exact newRms_taken k (withCrossing k s)
      · rintro rfl
        exact phaseResult_lineRow crosses (line rfl)
      · by_cases u : k = .u
        · rw [line u]
          split <;> rfl
        · rw [other u]
      · exact fun u => by rw [other u]
    next no => exact phaseResult_pass no
  · have row : exec (.spanLapse k) s = .next (spanLapse k s) := whenRunning_running run
    rw [row]
    split
    next early => exact congrArg _ (if_neg (by simpa [spanDue, lapseCount] using early))
    next due =>
      rw [spanLapse_due due]
      exact ⟨_, rfl, newRms_msq .., newRms_taken ..⟩
  · have row : exec .linePeriodLapse s = .next (linePeriodLapse s) := whenRunning_running run
    rw [row]
    split
    next early => exact congrArg _ (if_neg fun due => (lineLapseDue_iff s).1 due early)
    next due =>
      have lapse : linePeriodLapse s = setOutOfRange true s := if_pos ((lineLapseDue_iff s).2 due)
      rw [lapse]
      refine ⟨_, rfl, setOutOfRange_msq .., ?_, setOutOfRange_taken .., ?_⟩
      · rw [(setOutOfRange_taken true s).1, setOutOfRange_msq]
        exact .inr (.inr rfl)
      · exact linePeriodLapse_onlyChain (by simpa using fun held => due (.inr held))

end Sys2Proof.Machine
end

section
/-! PROOF. What a new judgement of SHU's conditions and a change of the line leave (R36, R37, R61 to R63). -/

namespace Sys2Proof.Machine

variable {s t : State}

/-! ## The conditions (R61 to R63) -/

/-- SHU with its conditions judged anew: an entry to fallback leaves no pending rise and moves S_eff (R63). -/
def judgedShu (s : State) : Shu :=
  { s.shu with
    conds := fallbackConds s
    pendingRise := if s.shu.conds.any = false ∧ (fallbackConds s).any = true then none else s.shu.pendingRise
    sEff :=
      if s.shu.conds.any = false ∧ (fallbackConds s).any = true ∧ s.shu.session = true then
        min (dOwnInUse s) s.cfg.fallback
      else s.shu.sEff }

/-- The session's mark of an entry to fallback (R63, R174). -/
def judgedMtr (s : State) : Mtr :=
  if s.shu.conds.any = false ∧ (fallbackConds s).any = true then
    (markSession (fun f => { f with fallbackUsed := true }) s).mtr
  else s.mtr

/-- An entry to fallback and an exit raise SHARE_FALLBACK (R63). -/
def judgedCpt (s : State) : Cpt :=
  if s.shu.conds.any = (fallbackConds s).any then s.cpt else (raiseEvent .shareFallback s).cpt

/-- What a judgement of the conditions writes, before the chain is evaluated. -/
abbrev fallbackJudged (s : State) : State := { s with shu := judgedShu s, mtr := judgedMtr s, cpt := judgedCpt s }

/-- The chain is evaluated where the conditions come to hold or cease to. -/
theorem updateFallback_eq (s : State) :
    updateFallback s =
      if s.shu.conds.any = (fallbackConds s).any then fallbackJudged s else evaluate (fallbackJudged s) := by
  unfold updateFallback fallbackJudged judgedShu judgedMtr judgedCpt
  dsimp only
  split
  next out enters =>
    rw [out, enters, if_neg (by decide : ¬ false = true), enterFallback_eq]
    congr 1
    unfold keepFallback
    cases session : s.shu.session with
    | false => simp; rfl
    | true => simp [enters]; rfl
  next any none =>
    rw [any, none, if_neg (by decide : ¬ true = false)]
    simp
    rfl
  next ne₁ ne₂ =>
    have same : s.shu.conds.any = (fallbackConds s).any := by
      cases a : s.shu.conds.any <;> cases b : (fallbackConds s).any
      · rfl
      · exact absurd b (ne₁ a)
      · exact absurd b (ne₂ a)
      · rfl
    rw [if_pos same, same]
    cases (fallbackConds s).any <;> simp

/-- What a judgement of the conditions leaves beside the chain. -/
theorem updateFallback_onlyChain (s : State) : OnlyChain (fallbackJudged s) (updateFallback s) := by
  rw [updateFallback_eq]
  split
  · rfl
  · exact evaluate_onlyChain _

theorem updateFallback_shu (s : State) : (updateFallback s).shu = judgedShu s := by
  rw [updateFallback_eq]
  split
  · rfl
  · exact evaluate_shu _

theorem updateFallback_cpt (s : State) : (updateFallback s).cpt = judgedCpt s :=
  congrArg State.cpt (updateFallback_onlyChain s)

theorem updateFallback_mtr' (s : State) : (updateFallback s).mtr = judgedMtr s :=
  congrArg State.mtr (updateFallback_onlyChain s)

theorem mem_updateFallback {e : EventKind} (mem : e ∈ s.cpt.events) : e ∈ (updateFallback s).cpt.events :=
  updateFallback_events s mem

/-- A judgement that finds no new condition writes the conditions alone. -/
theorem updateFallback_same (same : s.shu.conds.any = (fallbackConds s).any) :
    updateFallback s = { s with shu.conds := fallbackConds s } := by
  rw [updateFallback_eq, if_pos same]
  unfold fallbackJudged judgedShu judgedMtr judgedCpt
  rw [same]
  cases (fallbackConds s).any <;> simp

/-! ## Frames, the end of a sweep and of the role (R39, R147, R162, R164) -/

theorem enqueue_frame (b : FrameBody) (s : State) : enqueue b s = { s with fli.queue := (enqueue b s).fli.queue } := by
  unfold enqueue
  split <;> rfl

theorem enqueue_offLine (b : FrameBody) (off : s.fli.line ≠ .online) : enqueue b s = s := if_neg fun h => off h.1

/-- The frame with which a leader ends its sweep (R156, R157). -/
abbrev endingFrame (r : LeaderRecord) (o : SweepOutcome) : FrameBody :=
  .sweepResult (outcomeCode o) (outcomeStation o) (BitVec.ofNat 8 r.unresponsive)

/-- The monitor after a sweep that was led here has ended (R160, R162, R163). -/
abbrev leadingEnded (o : SweepOutcome) (hold : Bool) (m : Imn) : Imn :=
  { m with sweep := .none, outcome := o, hold := m.hold || hold, target := none, pendingRelease := false }

theorem endLeading_eq (r : LeaderRecord) (o : SweepOutcome) (hold : Bool) (s : State) :
    endLeading r o hold s = raiseEvent .sweep { s with
      fli.queue := (enqueue (endingFrame r o) s).fli.queue
      imn := leadingEnded o hold s.imn
      shu.sweepTarget := false } := by
  unfold endLeading clearTarget endSweep endTargetReport
  rw [enqueue_frame]
  rfl

/-- The monitor after the role has been dropped, before a sweep it led is abandoned (R147). -/
abbrev roleDropped (m : Imn) : Imn :=
  { m with mode := .passive, clearCount := 0, unmonTimer := true, cycle := none, coupling := false, driver := .zero }

/-- The state after the role has been dropped, before a sweep it led is abandoned (R39, R147). -/
abbrev droppedRole (s : State) : State :=
  { s with imn := roleDropped s.imn, fli.queue := s.fli.queue.filter fun q => !q.frame.body.isMeasure }

theorem yieldRole_eq (s : State) :
    yieldRole s = if s.imn.mode = .measurer then abandonSweep (droppedRole s) else s := rfl

theorem abandonSweep_leading {r : LeaderRecord} (leads : s.imn.sweep = .leading r) :
    abandonSweep s = endLeading r .abandoned false s := by
  unfold abandonSweep
  rw [leads]

theorem abandonSweep_other (other : ∀ r, s.imn.sweep ≠ .leading r) : abandonSweep s = s := by
  unfold abandonSweep
  split
  next r leads => exact absurd leads (other r)
  next => rfl

/-- What the loss of the role writes. -/
theorem yieldRole_frame (s : State) :
    yieldRole s = { s with
      fli.queue := (yieldRole s).fli.queue
      imn := (yieldRole s).imn
      shu.sweepTarget := (yieldRole s).shu.sweepTarget
      cpt.events := (yieldRole s).cpt.events } := by
  rw [yieldRole_eq]
  split
  · unfold abandonSweep
    split
    · rw [endLeading_eq]
      rfl
    · rfl
  · rfl

/-- Off the line the loss of the role queues nothing. -/
theorem yieldRole_queue_offLine (off : s.fli.line ≠ .online) : (yieldRole s).fli.queue =
    if s.imn.mode = .measurer then s.fli.queue.filter fun q => !q.frame.body.isMeasure else s.fli.queue := by
  rw [yieldRole_eq]
  split
  · unfold abandonSweep
    split
    · rw [endLeading_eq, enqueue_offLine _ (s := droppedRole s) off]
      rfl
    · rfl
  · rfl

theorem mem_yieldRole {e : EventKind} (mem : e ∈ s.cpt.events) : e ∈ (yieldRole s).cpt.events :=
  yieldRole_events s mem

/-! ## Changes of the line (R36, R37) -/

/-- The line's own part of a decision: nothing, or what `changeLine` does. -/
abbrev lineMoved (s : State) : State := if lineTarget s = s.fli.line then s else changeLine (lineTarget s) s

theorem refreshLine_eq (s : State) : refreshLine s = updateFallback (lineMoved s) := rfl

/-- A line that neither was ONLINE nor goes OFFLINE hands nothing but LINE_RESUMED (R37, R38). -/
theorem changeLine_quiet {target : LineState} (online : s.fli.line ≠ .online) (offline : target ≠ .offline) :
    changeLine target s =
      onlyIf (target == .online && s.fli.line == .silent) (raiseEvent .lineResumed)
        { s with fli := enterLine target s.cfg.station s.fli } := by
  unfold changeLine
  dsimp only
  rw [beq_false_of_ne online, beq_false_of_ne offline]
  rfl

end Sys2Proof.Machine
end

section
/-! PROOF. Attempts, bit errors and the SILENT state (R30 to R32, R37, R38, R40, R41). -/

namespace Sys2Proof.Machine

variable {s t : State}

/-! ## The head of the queue (R30, R40, R41) -/

theorem mayBeSent_eq (s : State) (q : Queued) : mayBeSent s q = Sendable s q := by
  unfold mayBeSent Sendable
  cases s.fli.line with
  | online => show _ = (_ || false); rw [Bool.or_false]; rfl
  | listen => rfl
  | offline => rfl
  | silent => rfl

theorem startAttempt_none (idle : s.fli.attempt ≠ none ∨ s.fli.queue.find? (mayBeSent s) = none) :
    startAttempt s = s := by
  unfold startAttempt
  split
  next q free found => exact (idle.elim (fun h => h free) fun h => by rw [h] at found; cases found).elim
  next => rfl

theorem startAttempt_some {q : Queued} (idle : s.fli.attempt = none) (found : s.fli.queue.find? (mayBeSent s) = some q) :
    startAttempt s = { s with
      fli.attempt := some q.frame, fli.queue := markFirst (mayBeSent s) s.fli.queue } := by
  unfold startAttempt
  rw [idle, found]

/-! ## SILENT (R37, R38, R61) -/

theorem lineOff_of_settled (settled : LineSettled s) (on : s.fli.line ≠ .offline) : lineOff s = false := by
  obtain ⟨line, -⟩ := settled
  cases off : lineOff s with
  | false => rfl
  | true => exact absurd (line.trans (by simp [lineTarget, off])) on

/-- A line with its timer running is SILENT (R36, R38). -/
theorem lineTarget_silent (on : lineOff s = false) (timer : s.fli.silentTimer = true) : lineTarget s = .silent := by
  simp [lineTarget, on, timer]

theorem silent_timer (settled : LineSettled s) (silent : s.fli.line = .silent) : s.fli.silentTimer = true := by
  have on := lineOff_of_settled settled (by rw [silent]; decide)
  obtain ⟨line, -⟩ := settled
  cases timer : s.fli.silentTimer with
  | true => rfl
  | false =>
    have target : lineTarget s = if lineListens s then .listen else .online := by
      rw [lineTarget, on, timer]
      rfl
    rw [silent, target] at line
    cases listens : lineListens s <;> rw [listens] at line <;> cases line

/-- The line's entry to SILENT writes its state, and drops the role of a line that was ONLINE (R37, R147). -/
theorem lineMoved_silent (on : lineOff s = false) (timer : s.fli.silentTimer = true) :
    lineMoved s = onlyIf (s.fli.line == .online) yieldRole { s with fli.line := .silent } := by
  have target := lineTarget_silent on timer
  unfold lineMoved
  rw [target]
  split
  next same =>
    have kept : { s with fli.line := s.fli.line } = s := rfl
    rw [← same] at kept ⊢
    exact kept.symm
  next => rfl

/-- What a queue keeps of nothing is nothing. -/
theorem lineMoved_silent_leaves (on : lineOff s = false) (timer : s.fli.silentTimer = true) (empty : s.fli.queue = []) :
    (lineMoved s).fli = { s.fli with line := .silent } ∧ (lineMoved s).psq = s.psq ∧ (lineMoved s).mst = s.mst ∧
      (lineMoved s).cfg = s.cfg ∧ (lineMoved s).shu.peers = s.shu.peers ∧
      ∀ e ∈ s.cpt.events, e ∈ (lineMoved s).cpt.events := by
  rw [lineMoved_silent on timer]
  cases s.fli.line == .online with
  | false => exact ⟨rfl, rfl, rfl, rfl, rfl, fun _ => id⟩
  | true =>
    rw [onlyIf_true]
    have frame := yieldRole_frame { s with fli.line := .silent }
    have queue := yieldRole_queue_offLine (s := { s with fli.line := .silent }) nofun
    have events e (mem : e ∈ s.cpt.events) := mem_yieldRole (s := { s with fli.line := .silent }) mem
    generalize yieldRole { s with fli.line := .silent } = t at frame queue events ⊢
    have nothing : t.fli.queue = [] := by
      rw [queue]
      dsimp only
      rw [empty]
      split <;> rfl
    have fli : t.fli = { s.fli with line := .silent, queue := t.fli.queue } := by rw [frame]
    rw [nothing, ← empty] at fli
    exact ⟨fli, by rw [frame], by rw [frame], by rw [frame], by rw [frame], events⟩

/-- The sixteenth bit error takes the line to SILENT, which is fallback (R38, R61). -/
theorem enterSilent_leaves (on : lineOff s = false) :
    (enterSilent s).fli = { s.fli with
      attempt := none, queue := [], errorCount := 0, silentTimer := true, line := .silent } ∧
      (enterSilent s).psq = s.psq ∧ (enterSilent s).mst = s.mst ∧ (enterSilent s).cfg = s.cfg ∧
      (enterSilent s).shu.peers = s.shu.peers ∧ (enterSilent s).shu.conds.line = true ∧
      .lineFault ∈ (enterSilent s).cpt.events := by
  unfold enterSilent
  rw [refreshLine_eq]
  obtain ⟨fli, psq, mst, cfg, peers, events⟩ := lineMoved_silent_leaves (s := raiseEvent .lineFault
    { s with fli := { s.fli with attempt := none, queue := [], errorCount := 0, silentTimer := true } }) on rfl rfl
  have fault := events _ (raised_mem ..)
  generalize lineMoved _ = z at fli psq mst cfg peers fault
  have shu := updateFallback_shu z
  have chain := updateFallback_onlyChain z
  have mem := mem_updateFallback fault
  generalize updateFallback z = t at shu chain mem ⊢
  have conds : t.shu.conds.line = (z.fli.line != .online) := by rw [shu]; rfl
  refine ⟨(congrArg State.fli chain).trans fli, (congrArg State.psq chain).trans psq, (congrArg State.mst chain).trans mst,
    (congrArg State.cfg chain).trans cfg, ?_, ?_, mem⟩
  · rw [shu]
    exact peers
  · rw [conds, fli]
    rfl

theorem fallbackConds_settled (settled : LineSettled s) : fallbackConds s = s.shu.conds := settled.2.1.symm

/-- The line once its SILENT timer has expired, where it listens. -/
abbrev listenWoken (s : State) : State := { s with fli := { s.fli with line := .listen, silentTimer := false } }

/-- The line once its SILENT timer has expired, where it comes back (R37). -/
abbrev onlineWoken (f : Fli) (station : Nat) : Fli :=
  { f with
    line := .online, silentTimer := false, ackHistory := [], departed := false, beaconTimer := some (250 + 3 * station) }

theorem enterLine_listen_silent {f : Fli} {station : Nat} (silent : f.line = .silent) :
    enterLine .listen station f = { f with line := .listen } := by
  unfold enterLine
  dsimp only
  rw [silent]

theorem lineMoved_woken (on : lineOff s = false) (silent : s.fli.line = .silent) :
    lineMoved { s with fli.silentTimer := false } =
      if lineListens s then listenWoken s
      else raiseEvent .lineResumed { s with fli := onlineWoken s.fli s.cfg.station } := by
  have on : lineOff { s with fli.silentTimer := false } = false := on
  have target : lineTarget { s with fli.silentTimer := false } = if lineListens s then .listen else .online := by
    rw [lineTarget, on]
    rfl
  have other : (if lineListens s then .listen else .online) ≠ s.fli.line := by
    rw [silent]
    split <;> decide
  have off : s.fli.line ≠ .online := by rw [silent]; decide
  unfold lineMoved
  rw [target, if_neg other, changeLine_quiet (s := { s with fli.silentTimer := false }) off (by split <;> decide)]
  cases lineListens s with
  | true =>
    rw [if_pos rfl, enterLine_listen_silent (by exact silent)]
    rfl
  | false =>
    dsimp only
    rw [silent]
    rfl

/-- A SILENT line that goes on to LISTEN changes no condition (R37, R61). -/
theorem updateFallback_listenWoken (settled : LineSettled s) (silent : s.fli.line = .silent) :
    updateFallback (listenWoken s) = listenWoken s := by
  have conds : fallbackConds (listenWoken s) = s.shu.conds := by
    rw [settled.2.1]
    unfold fallbackConds unheard
    rw [silent]
    rfl
  rw [updateFallback_same (by rw [conds]), conds]

/-! ## A completed attempt (R31, R32, R40, R41) -/

/-- FLI after an attempt with a frame of this body has completed. -/
abbrev completedFli (body : FrameBody) (heard : Bool) (f : Fli) : Fli :=
  { f with
    attempt := none, errorCount := 0, queue := f.queue.filter fun q => !q.inAttempt
    ackHistory := if body.isBeacon = true then (heard :: f.ackHistory).take 3 else f.ackHistory
    departed := if body = .leave then true else f.departed }

/-- What a completed attempt leaves (R31, R32, R40, R41). -/
abbrev Completed (body : FrameBody) (heard : Bool) (s t : State) : Prop :=
  t.fli = completedFli body heard s.fli ∧
  (body.isBeacon = false → t = { s with fli := t.fli }) ∧
  (body.isBeacon = true →
    t.shu.conds.unheard =
      (decide (t.fli.ackHistory = [false, false, false]) && s.shu.peers.any fun e => sameFeeder s e && e.age ≤ 1)) ∧
  t.psq = s.psq ∧ t.imn = s.imn ∧ t.msq = s.msq ∧ t.cfg = s.cfg ∧ t.mst = s.mst ∧ t.shu.peers = s.shu.peers

theorem otherCompleted {body : FrameBody} (heard : Bool) (other : body.isBeacon = false) :
    Completed body heard s (attemptOutcome body heard (leaveQueue { s with fli.errorCount := 0 })) := by
  have plain : attemptOutcome body heard (leaveQueue { s with fli.errorCount := 0 }) =
      { s with fli := completedFli body heard s.fli } := by
    unfold attemptOutcome completedFli
    split
    · rfl
    · cases other
    next leave _ =>
      rw [if_neg leave, other]
      rfl
  rw [plain]
  exact ⟨rfl, fun _ => rfl, fun beacon => absurd (other.symm.trans beacon) (by decide), rfl, rfl, rfl, rfl, rfl, rfl⟩

theorem beaconCompleted {body : FrameBody} (heard : Bool) (beacon : body.isBeacon = true) :
    Completed body heard s (attemptOutcome body heard (leaveQueue { s with fli.errorCount := 0 })) := by
  have judged : attemptOutcome body heard (leaveQueue { s with fli.errorCount := 0 }) =
      updateFallback { s with fli := completedFli body heard s.fli } := by
    cases body with
    | beacon => rfl
    | _ => cases beacon
  rw [judged]
  have shu := updateFallback_shu { s with fli := completedFli body heard s.fli }
  have chain := updateFallback_onlyChain { s with fli := completedFli body heard s.fli }
  generalize updateFallback _ = t at shu chain ⊢
  have fli : t.fli = completedFli body heard s.fli := congrArg State.fli chain
  refine ⟨fli, fun other => absurd (other.symm.trans beacon) (by decide), fun _ => ?_, congrArg (·.psq) chain,
    congrArg (·.imn) chain, congrArg (·.msq) chain, congrArg (·.cfg) chain, congrArg (·.mst) chain, ?_⟩
  · rw [shu, fli]
    exact congrArg (· && _) (Bool.beq_eq_decide_eq (α := List Bool) _ _)
  · rw [shu]
    rfl

/-- Settles O35: each row of the line's transmitter, from what it writes. -/
theorem attemptsSendOrSilence : Obligations.AttemptsSendOrSilence := by
  unfold Obligations.AttemptsSendOrSilence
  intro s b run settled
  have bitError_row : exec .txBitError s = .next (bitError s) := whenRunning_running run
  have expiry : exec .silentTimerExpiry s = .next (silentExpiry s) := whenRunning_running run
  have start : exec .txAttemptStart s = .next (startAttempt s) := whenRunning_running run
  have complete : exec (.txComplete b) s = .next (txComplete b s) := whenRunning_running run
  rw [bitError_row, expiry, start, complete]
  refine ⟨fun idle => congrArg _ (if_pos idle), fun sends few => ?_, fun sends last on => ?_, ?_, ?_,
    whenRunning_running run, ?_⟩
  · rw [bitError, if_neg sends]
    have short : ¬ 16 ≤ s.fli.errorCount + 1 := by omega
    exact congrArg _ (if_neg short)
  · have sixteenth : bitError s = enterSilent (dropAttempt { s with fli.errorCount := s.fli.errorCount + 1 }) := by
      have long : 16 ≤ s.fli.errorCount + 1 := by omega
      rw [bitError, if_neg sends]
      exact if_pos long
    rw [sixteenth]
    obtain ⟨fli, psq, mst, cfg, peers, conds, fault⟩ := enterSilent_leaves
      (s := dropAttempt { s with fli.errorCount := s.fli.errorCount + 1 }) (lineOff_of_settled settled on)
    exact ⟨_, rfl, by rw [fli], by rw [fli], by rw [fli], by rw [fli], by rw [fli], fault, conds, by rw [fli]; rfl, psq, mst,
      cfg, peers⟩
  · split
    next idle => exact congrArg _ (if_neg (by rw [idle]; decide))
    next running =>
      intro silent
      have woken : silentExpiry s = refreshLine { s with fli.silentTimer := false } :=
        if_pos (Bool.eq_true_of_not_eq_false running)
      have listens : lineListens s = true ↔ s.cpt.configured = false ∨
          (s.psq.ident.map (·.feederId)).getD 0 = 0 ∨ s.fli.duplicate = true := by
        simp [lineListens, heldFeeder, or_assoc]
      have on := lineOff_of_settled settled (by rw [silent]; decide)
      rw [woken, refreshLine_eq, lineMoved_woken on silent]
      by_cases held : lineListens s = true
      · rw [if_pos held, updateFallback_listenWoken settled silent]
        refine ⟨_, rfl, rfl, rfl, rfl, rfl, rfl, ?_⟩
        rw [if_pos (listens.1 held)]
        exact ⟨rfl, rfl⟩
      · rw [if_neg held]
        have chain := updateFallback_onlyChain (raiseEvent .lineResumed { s with fli := onlineWoken s.fli s.cfg.station })
        have shu := updateFallback_shu (raiseEvent .lineResumed { s with fli := onlineWoken s.fli s.cfg.station })
        have resumed := mem_updateFallback (raised_mem .lineResumed { s with fli := onlineWoken s.fli s.cfg.station })
        generalize updateFallback _ = t at chain shu resumed
        have fli : t.fli = onlineWoken s.fli s.cfg.station := congrArg State.fli chain
        refine ⟨t, rfl, by rw [fli], congrArg (·.psq) chain, congrArg (·.mst) chain, congrArg (·.cfg) chain,
          congrArg (·.imn) chain, ?_⟩
        rw [if_neg fun k => held (listens.2 k)]
        refine ⟨fli, resumed, ?_⟩
        rw [shu]
        rfl
  · have head : (fun x => !Sendable s x) = fun x => !mayBeSent s x := by
      funext x
      rw [mayBeSent_eq]
    rw [head]
    split
    next q qs idle first =>
      obtain ⟨found, marked⟩ := markFirst_eq (mayBeSent s) first
      rw [startAttempt_some idle found, marked]
      rfl
    next none =>
      refine congrArg _ (startAttempt_none ?_)
      cases sends : s.fli.attempt with
      | some f => exact .inl nofun
      | none =>
        cases first : s.fli.queue.dropWhile fun x => !mayBeSent s x with
        | nil => exact .inr (find_eq_none_of_dropWhile _ first)
        | cons q qs => exact absurd first (none q qs sends)
  · cases sent : s.fli.attempt with
    | none =>
      unfold txComplete
      rw [sent]
    | some f =>
      unfold txComplete
      rw [sent]
      dsimp only
      refine ⟨_, rfl, ?_⟩
      by_cases beacon : f.body.isBeacon = true
      · exact beaconCompleted b beacon
      · exact otherCompleted b (Bool.eq_false_of_not_eq_true beacon)

end Sys2Proof.Machine
end

section
/-! PROOF. Beacons and departures at the peer table (R45 to R50, R60, R146, R147). -/

namespace Sys2Proof.Machine

variable {s t : State}

/-! ## The table (R45, R46) -/

theorem putPeer_others (e : PeerEntry) (ps : List PeerEntry) :
    (putPeer e ps).filter (fun x => x.station != e.station) = ps.filter fun x => x.station != e.station := by
  induction ps with
  | nil => simp [putPeer]
  | cons y ys ih =>
    rw [putPeer]
    split
    · simp
    · split
      next same => simp [same]
      next => rw [List.filter_cons, List.filter_cons, ih]

theorem findPeer_putPeer (e : PeerEntry) (ps : List PeerEntry) : findPeer e.station (putPeer e ps) = some e := by
  unfold findPeer
  induction ps with
  | nil => simp [putPeer]
  | cons y ys ih =>
    rw [putPeer]
    split
    · simp
    · split
      · simp
      next other =>
        have passed : (y.station == e.station) = false := beq_false_of_ne fun same => other same.symm
        rw [List.find?_cons, passed]
        exact ih

/-! ## A beacon's share (R46, R54 to R56, R60, R63) -/

/-- What an entry's update leaves: the table, the conditions judged with it, and the share's extra computation. -/
theorem putEntry_onlyChain (e : PeerEntry) (extra : Bool) (s : State) :
    OnlyChain (fallbackJudged { s with shu.peers := putPeer e s.shu.peers }) (putEntry e extra s) := by
  have judged := updateFallback_onlyChain { s with shu.peers := putPeer e s.shu.peers }
  unfold putEntry
  dsimp only
  split
  · exact judged.trans (extraAndEvaluate_onlyChain _)
  · exact judged

theorem extraAndEvaluate_shares (s : State) :
    (extraAndEvaluate s).shu.sNew = newShare s ∧
    (extraAndEvaluate s).shu.activeCount = (activeSet s).length ∧
    (extraAndEvaluate s).shu.sEff =
      (if s.shu.session = false then s.shu.sEff
       else if s.shu.conds.any = true then min (dOwnInUse s) s.cfg.fallback
       else min s.shu.sEff (newShare s)) := by
  unfold extraAndEvaluate
  rw [evaluate_shu]
  exact extraComputation_shares s

/-- A judgement of the conditions reaches no share computation. -/
theorem newShare_judged (s : State) : newShare (updateFallback s) = newShare s ∧
    activeSet (updateFallback s) = activeSet s ∧ dOwnInUse (updateFallback s) = dOwnInUse s := by
  have shu := updateFallback_shu s
  have cfg : (updateFallback s).cfg = s.cfg := congrArg (·.cfg) (updateFallback_onlyChain s)
  have own : dOwnInUse (updateFallback s) = dOwnInUse s := by
    unfold dOwnInUse
    rw [shu]
    rfl
  have active : activeSet (updateFallback s) = activeSet s := by
    unfold activeSet sameFeeder
    rw [own, shu, cfg]
    rfl
  refine ⟨?_, active, own⟩
  unfold newShare available feederCapacity
  rw [active, shu, cfg]
  rfl

/-- What a judgement makes of S_eff (R63). -/
theorem plainShare (s : State) : (judgedShu s).sEff =
    if s.shu.session = false then s.shu.sEff
    else if (fallbackConds s).any = true then
      (if false = true ∨ s.shu.conds.any = false then min (dOwnInUse s) s.cfg.fallback else s.shu.sEff)
    else if false = true then min s.shu.sEff (judgedShu s).sNew
    else s.shu.sEff := by
  unfold judgedShu
  dsimp only
  cases s.shu.session <;> cases s.shu.conds.any <;> cases (fallbackConds s).any <;> rfl

/-- What an extra computation makes of S_eff after a judgement (R60, R63). -/
theorem extraShare (s : State) {sNew : Nat} :
    (if s.shu.session = false then (judgedShu s).sEff
     else if (fallbackConds s).any = true then min (dOwnInUse s) s.cfg.fallback
     else min (judgedShu s).sEff sNew) =
    if s.shu.session = false then s.shu.sEff
    else if (fallbackConds s).any = true then
      (if true = true ∨ s.shu.conds.any = false then min (dOwnInUse s) s.cfg.fallback else s.shu.sEff)
    else if true = true then min s.shu.sEff sNew
    else s.shu.sEff := by
  rw [plainShare]
  cases s.shu.session <;> cases s.shu.conds.any <;> cases (fallbackConds s).any <;> rfl

theorem putEntry_share (e : PeerEntry) (extra : Bool) (s : State) : ShareAtBeacon extra s (putEntry e extra s) := by
  have shu := updateFallback_shu { s with shu.peers := putPeer e s.shu.peers }
  obtain ⟨share, active, own⟩ := newShare_judged { s with shu.peers := putPeer e s.shu.peers }
  have cfg : (updateFallback { s with shu.peers := putPeer e s.shu.peers }).cfg = s.cfg :=
    congrArg (·.cfg) (updateFallback_onlyChain { s with shu.peers := putPeer e s.shu.peers })
  have conds : (putEntry e extra s).shu.conds = fallbackConds { s with shu.peers := putPeer e s.shu.peers } :=
    congrArg (·.shu.conds) (putEntry_onlyChain e extra s)
  have peers : (putEntry e extra s).shu.peers = putPeer e s.shu.peers :=
    congrArg (·.shu.peers) (putEntry_onlyChain e extra s)
  unfold ShareAtBeacon
  rw [conds, peers]
  unfold putEntry
  dsimp only
  cases extra with
  | true =>
    rw [if_pos rfl, if_pos rfl, if_pos rfl]
    obtain ⟨sNew, count, sEff⟩ := extraAndEvaluate_shares (updateFallback { s with shu.peers := putPeer e s.shu.peers })
    rw [sNew, count, sEff, share, active, own, shu, cfg]
    refine ⟨⟨?_, rfl⟩, ?_⟩
    · rfl
    · exact extraShare { s with shu.peers := putPeer e s.shu.peers }
  | false =>
    rw [if_neg (by decide), if_neg (by decide), shu]
    refine ⟨⟨rfl, rfl⟩, ?_⟩
    exact plainShare { s with shu.peers := putPeer e s.shu.peers }

/-! ## The election (R146, R147) -/

/-- The monitor after the loss of the role: it holds none, and what it has heard stays. -/
theorem yieldRole_leaves (s : State) : (yieldRole s).imn.mode ≠ .measurer ∧
    (yieldRole s).imn.measurerHeard = s.imn.measurerHeard := by
  rw [yieldRole_eq]
  split
  · unfold abandonSweep
    split
    · rw [endLeading_eq]
      exact ⟨nofun, rfl⟩
    · exact ⟨nofun, rfl⟩
  next other => exact ⟨other, rfl⟩

/-- What SHU holds but the sweep-target report, and the rest of the part but the monitor, the queue and the events. -/
theorem electionAtBeacon_frame (n : Nat) (m : Bool) (s : State) :
    electionAtBeacon n m s = { s with
      fli.queue := (electionAtBeacon n m s).fli.queue
      imn := (electionAtBeacon n m s).imn
      shu.sweepTarget := (electionAtBeacon n m s).shu.sweepTarget
      cpt.events := (electionAtBeacon n m s).cpt.events } := by
  have dropped := yieldRole_frame
  unfold electionAtBeacon
  dsimp only
  cases lowerEligible (onlyIf m hearMeasurer s) || m && n < (onlyIf m hearMeasurer s).cfg.station with
  | true =>
    rw [onlyIf_true, dropped]
    cases m <;> rfl
  | false => cases m <;> rfl

theorem mem_electionAtBeacon {n : Nat} {m : Bool} {e : EventKind} (mem : e ∈ s.cpt.events) :
    e ∈ (electionAtBeacon n m s).cpt.events := by
  unfold electionAtBeacon
  dsimp only
  have heard : e ∈ (onlyIf m hearMeasurer s).cpt.events := by cases m <;> exact mem
  exact onlyIf_ind (P := fun t : State => e ∈ t.cpt.events) _ heard (mem_yieldRole heard)

theorem electionAtBeacon_role (n : Nat) (m : Bool) (s : State) :
    (m = true → (electionAtBeacon n m s).imn.measurerHeard = true) ∧
    (lowerEligible s = true ∨ (m = true ∧ n < s.cfg.station) → (electionAtBeacon n m s).imn.mode ≠ .measurer) := by
  have heard : lowerEligible (onlyIf m hearMeasurer s) = lowerEligible s ∧ (onlyIf m hearMeasurer s).cfg = s.cfg := by
    cases m <;> exact ⟨rfl, rfl⟩
  unfold electionAtBeacon
  dsimp only
  rw [heard.1, heard.2]
  constructor
  · rintro rfl
    cases lowerEligible s || true && n < s.cfg.station with
    | true => exact (yieldRole_leaves _).2
    | false => rfl
  · intro lower
    have yields : (lowerEligible s || m && decide (n < s.cfg.station)) = true := by simpa using lower
    rw [yields]
    exact (yieldRole_leaves _).1

theorem lowerEligible_electionAtBeacon (n : Nat) (m : Bool) (s : State) :
    lowerEligible (electionAtBeacon n m s) = lowerEligible s := by
  rw [electionAtBeacon_frame]
  rfl

/-! ## Delivery (R33, R34) -/

/-- A frame that is delivered goes to its block (R34). -/
theorem receive_delivered {f : Frame} (ready : Delivered f s) : receive f s = deliver f (Acked s) := by
  obtain ⟨-, on, range, held, same, fresh⟩ := ready
  have unseen : detectDuplicate f.station (driveAck s) = driveAck s := if_neg fun ⟨conf, own, first⟩ =>
    fresh ⟨conf, own, Bool.eq_false_of_not_eq_true first⟩
  unfold receive takeGood
  rw [if_neg on, if_pos range, unseen]
  dsimp only
  exact (if_neg (show heldFeeder (driveAck s) ≠ 0 from held)).trans (if_pos same)

/-- The share and the conditions stand with the table where a beacon finds nothing to update. -/
theorem shareAtBeacon_same (s : State) : ShareAtBeacon false s s := by
  refine ⟨⟨rfl, rfl⟩, ?_⟩
  cases s.shu.session <;> cases s.shu.conds.any <;> simp

/-- The election reads no share. -/
theorem ShareAtBeacon.election {extra : Bool} (h : ShareAtBeacon extra s t) (n : Nat) (m : Bool) :
    ShareAtBeacon extra s (electionAtBeacon n m t) := by
  rw [electionAtBeacon_frame]
  exact h

theorem TableFrame.election (h : TableFrame s t) (n : Nat) (m : Bool) : TableFrame s (electionAtBeacon n m t) := by
  rw [electionAtBeacon_frame]
  exact h

theorem judgedMtr_table (s : State) : (judgedMtr s).table = s.mtr.table := by
  unfold judgedMtr
  split <;> rfl

/-- A judgement of the conditions leaves the rest as it is (R46, R61). -/
theorem TableFrame.judged (h : OnlyChain (fallbackJudged s) t) : TableFrame s t := by
  have mtr : t.mtr = judgedMtr s := congrArg (·.mtr) h
  refine ⟨congrArg (·.psq) h, congrArg (·.msq) h, congrArg (·.cfg) h, congrArg (·.mst) h, ?_,
    congrArg (·.shu.session) h, congrArg (·.shu.identCopy) h, ?_⟩
  · rw [mtr]
    exact judgedMtr_table s
  · unfold OnlyChain at h
    rw [h]
    rfl

/-- Another station's number, which SHU takes (R46, R47). -/
abbrev Foreign (n : Nat) (s : State) : Prop := ¬ (n = s.cfg.station ∨ n = 0 ∨ n = 63)

theorem takeBeacon_found {n : Nat} {id : Nat} {d w : Word16} {g : Byte} {r : Word16} {l : Byte} {old : PeerEntry}
    (other : Foreign n s) (found : findPeer n s.shu.peers = some old) :
    takeBeacon n id d w g r l s = putEntry (entryOf n id d w g r l (min 2 (old.heard + 1)))
      ((!old.session && g.getLsbD 0) || decide (old.demand < d.toNat)) s := by
  unfold takeBeacon
  rw [if_neg other, found]
  rfl

theorem takeBeacon_new {n : Nat} {id : Nat} {d w : Word16} {g : Byte} {r : Word16} {l : Byte}
    (other : Foreign n s) (new : findPeer n s.shu.peers = none) (room : s.shu.peers.length < 32) :
    takeBeacon n id d w g r l s = raiseEvent .peers (putEntry (entryOf n id d w g r l 1) true s) := by
  unfold takeBeacon
  rw [if_neg other, new]
  exact if_pos room

theorem takeBeacon_full {n : Nat} {id : Nat} {d w : Word16} {g : Byte} {r : Word16} {l : Byte}
    (other : Foreign n s) (new : findPeer n s.shu.peers = none) (full : ¬ s.shu.peers.length < 32) :
    takeBeacon n id d w g r l s = updateFallback { s with shu.overflow := 4 } := by
  unfold takeBeacon
  rw [if_neg other, new]
  exact if_neg full

/-- The fields of an entry as the beacon gives them (R29, R45, R46). -/
theorem entryOf_eq (n id : Nat) (d w r : Word16) (g l : Byte) (heard : Nat) :
    entryOf n id d w g r l heard =
      { station := n, feeder := id, demand := d.toNat, draw := w.toNat
        session := g.getLsbD 0, joint := g.getLsbD 1, measurer := g.getLsbD 2
        imState :=
          if g.getLsbD 4 = true then (if g.getLsbD 3 = true then .sweep else .alarm)
          else if g.getLsbD 3 = true then .warn else .ok
        resistance := if g.getLsbD 2 = true ∧ r ≠ 65535 then some r.toNat else none
        leader := if l = 0 then none else some l.toNat
        age := 0
        heard := heard } := by
  have state : imStateOf ((g.getLsbD 3).toNat + 2 * (g.getLsbD 4).toNat) =
      if g.getLsbD 4 = true then (if g.getLsbD 3 = true then .sweep else .alarm)
      else if g.getLsbD 3 = true then .warn else .ok := by
    cases g.getLsbD 3 <;> cases g.getLsbD 4 <;> rfl
  have resistance : r.toNat ≠ 65535 ↔ r ≠ 65535 := not_congr (BitVec.toNat_inj (y := 65535))
  have leader : l.toNat = 0 ↔ l = 0 := BitVec.toNat_inj (y := 0)
  unfold entryOf
  simp only [state, resistance, leader]

/-- An entry's update fills the entry and leaves the others (R45, R46). -/
theorem putEntry_leaves (e : PeerEntry) (extra : Bool) (s : State) :
    TableFrame s (putEntry e extra s) ∧
    (putEntry e extra s).shu.peers.filter (fun x => x.station != e.station) =
      s.shu.peers.filter (fun x => x.station != e.station) ∧
    (putEntry e extra s).shu.overflow = s.shu.overflow ∧
    findPeer e.station (putEntry e extra s).shu.peers = some e := by
  have chain := putEntry_onlyChain e extra s
  have peers : (putEntry e extra s).shu.peers = putPeer e s.shu.peers := congrArg (·.shu.peers) chain
  refine ⟨TableFrame.judged (s := { s with shu.peers := putPeer e s.shu.peers }) chain, ?_,
    congrArg (·.shu.overflow) chain, ?_⟩
  · rw [peers, putPeer_others]
  · rw [peers, findPeer_putPeer]

/-- What SHU makes of a delivered beacon (R45 to R48). -/
abbrev BeaconTaken (n : Nat) (id : Byte) (d w r : Word16) (g l : Byte) (s t : State) : Prop :=
  TableFrame s t ∧
  t.shu.peers.filter (fun e => e.station != n) = s.shu.peers.filter (fun e => e.station != n) ∧
  if n = s.cfg.station ∨ n = 0 ∨ n = 63 then t.shu.peers = s.shu.peers ∧ ShareAtBeacon false s t
  else if findPeer n s.shu.peers = none ∧ 32 ≤ s.shu.peers.length then
    t.shu.peers = s.shu.peers ∧ t.shu.overflow = 4 ∧ ShareAtBeacon false s t
  else
    t.shu.overflow = s.shu.overflow ∧
    (∃ extra, ShareAtBeacon extra s t ∧ (findPeer n s.shu.peers = none → extra = true) ∧
      ∀ old, findPeer n s.shu.peers = some old → extra = ((!old.session && g.getLsbD 0) || decide (old.demand < d.toNat))) ∧
    (findPeer n s.shu.peers = none → .peers ∈ t.cpt.events) ∧
    findPeer n t.shu.peers = some
      (entryOf n id.toNat d w g r l (min 2 (((findPeer n s.shu.peers).map (·.heard)).getD 0 + 1)))

theorem takeBeacon_taken (n : Nat) (id : Byte) (d w r : Word16) (g l : Byte) (conds : s.shu.conds = fallbackConds s) :
    BeaconTaken n id d w r g l s (takeBeacon n id.toNat d w g r l s) := by
  unfold BeaconTaken
  by_cases own : n = s.cfg.station ∨ n = 0 ∨ n = 63
  · have same : takeBeacon n id.toNat d w g r l s = s := if_pos own
    rw [same, if_pos own]
    exact ⟨⟨rfl, rfl, rfl, rfl, rfl, rfl, rfl, conds⟩, rfl, rfl, shareAtBeacon_same s⟩
  · rw [if_neg own]
    cases found : findPeer n s.shu.peers with
    | some old =>
      rw [takeBeacon_found own found, if_neg nofun]
      obtain ⟨frame, others, overflow, entry⟩ := putEntry_leaves (entryOf n id.toNat d w g r l (min 2 (old.heard + 1)))
        ((!old.session && g.getLsbD 0) || decide (old.demand < d.toNat)) s
      exact ⟨frame, others, overflow, ⟨_, putEntry_share .., nofun, fun x same => by rw [Option.some.inj same]⟩, nofun, entry⟩
    | none =>
      by_cases room : s.shu.peers.length < 32
      · rw [takeBeacon_new own found room, if_neg fun full => by omega]
        obtain ⟨frame, others, overflow, entry⟩ := putEntry_leaves (entryOf n id.toNat d w g r l 1) true s
        exact ⟨frame, others, overflow, ⟨true, putEntry_share .., fun _ => rfl, nofun⟩, fun _ => raised_mem .., entry⟩
      · rw [takeBeacon_full own found room, if_pos ⟨rfl, not_lt.1 room⟩]
        have chain := updateFallback_onlyChain { s with shu.overflow := 4 }
        have shu := updateFallback_shu { s with shu.overflow := 4 }
        have frame := TableFrame.judged chain
        generalize updateFallback { s with shu.overflow := 4 } = t at chain shu frame ⊢
        have share := plainShare { s with shu.overflow := 4 }
        refine ⟨frame, by rw [shu]; rfl, by rw [shu]; rfl, by rw [shu]; rfl, ⟨by rw [shu]; exact ⟨rfl, rfl⟩, ?_⟩⟩
        rw [shu]
        exact share

/-- The election leaves what SHU has made of the beacon. -/
theorem BeaconTaken.election {n : Nat} {id : Byte} {d w r : Word16} {g l : Byte} (h : BeaconTaken n id d w r g l s t)
    (station : Nat) (m : Bool) : BeaconTaken n id d w r g l s (electionAtBeacon station m t) := by
  have events (mem : .peers ∈ t.cpt.events) := mem_electionAtBeacon (n := station) (m := m) mem
  rw [electionAtBeacon_frame]
  obtain ⟨frame, others, taken⟩ := h
  refine ⟨frame, others, ?_⟩
  split
  next own => rwa [if_pos own] at taken
  next foreign =>
    rw [if_neg foreign] at taken
    split
    next full => rwa [if_pos full] at taken
    next room =>
      rw [if_neg room] at taken
      obtain ⟨overflow, share, peers, entry⟩ := taken
      exact ⟨overflow, share, fun new => events (peers new), entry⟩

/-- What remains of a table from which entries have gone (R49, R50). -/
theorem removed_leaves (kept : List PeerEntry) :
    TableFrame s (updateFallback { s with shu.peers := kept }) ∧
      (updateFallback { s with shu.peers := kept }).shu.peers = kept ∧
      (updateFallback { s with shu.peers := kept }).imn = s.imn := by
  have chain := updateFallback_onlyChain { s with shu.peers := kept }
  exact ⟨TableFrame.judged (s := { s with shu.peers := kept }) chain, congrArg (·.shu.peers) chain, congrArg (·.imn) chain⟩

theorem findPeer_none {n : Nat} {ps : List PeerEntry} (none : findPeer n ps = .none) :
    ps.filter (fun e => e.station != n) = ps := by
  rw [List.filter_eq_self]
  intro e mem
  have other := List.find?_eq_none.1 none e mem
  simpa using other

theorem takeLeave_leaves (n : Nat) (conds : s.shu.conds = fallbackConds s) :
    TableFrame s (takeLeave n s) ∧ (takeLeave n s).shu.peers = s.shu.peers.filter (fun e => e.station != n) ∧
      ((takeLeave n s).shu.peers ≠ s.shu.peers → .peers ∈ (takeLeave n s).cpt.events) ∧ (takeLeave n s).imn = s.imn := by
  unfold takeLeave
  split
  next present =>
    obtain ⟨frame, peers, imn⟩ := removed_leaves (s := s) (s.shu.peers.filter fun e => e.station != n)
    exact ⟨frame, peers, fun _ => raised_mem .., imn⟩
  next absent =>
    have none : findPeer n s.shu.peers = .none := by simpa using absent
    exact ⟨⟨rfl, rfl, rfl, rfl, rfl, rfl, rfl, conds⟩, (findPeer_none none).symm, fun moved => absurd rfl moved, rfl⟩

theorem removeAged_leaves (s : State) :
    TableFrame s (removeAged s) ∧ (removeAged s).shu.peers = s.shu.peers.filter (fun e => decide (e.age < 4)) ∧
      ((removeAged s).shu.peers ≠ s.shu.peers → .peers ∈ (removeAged s).cpt.events) ∧ (removeAged s).imn = s.imn := by
  obtain ⟨frame, peers, imn⟩ := removed_leaves (s := s) (s.shu.peers.filter fun e => e.age < 4)
  unfold removeAged
  dsimp only
  cases gone : decide ((s.shu.peers.filter fun e => e.age < 4).length < s.shu.peers.length) with
  | true => exact ⟨frame, peers, fun _ => raised_mem .., imn⟩
  | false =>
    refine ⟨frame, peers, fun moved => absurd (peers.trans ?_) moved, imn⟩
    have whole := not_lt.1 (of_decide_eq_false gone)
    exact List.Sublist.eq_of_length_le List.filter_sublist whole

/-- Settles O39: what SHU makes of the frame, and then the election. -/
theorem beaconsFillThePeerTable : Obligations.BeaconsFillThePeerTable := by
  unfold Obligations.BeaconsFillThePeerTable
  intro s n id d w r g l settled
  have conds := settled.2.1
  refine ⟨fun ready => ?_, fun ready => ?_, fun run => ?_, fun run => ⟨?_, ?_⟩⟩
  · have row : exec (.beaconReceived n id d w g r l) s = .next (receive ⟨n, id, .beacon d w g r l⟩ s) :=
      whenRunning_running ready.1
    rw [row, receive_delivered ready]
    have taken := takeBeacon_taken (s := Acked s) n.toNat id d w r g l conds
    show Completes (.next (electionAtBeacon n.toNat (g.getLsbD 2) (takeBeacon n.toNat id.toNat d w g r l (Acked s)))) _
    have elected := taken.election n.toNat (g.getLsbD 2)
    have cfg : (takeBeacon n.toNat id.toNat d w g r l (Acked s)).cfg = s.cfg := taken.1.2.2.1
    generalize takeBeacon n.toNat id.toNat d w g r l (Acked s) = u at elected cfg
    have eligible := lowerEligible_electionAtBeacon n.toNat (g.getLsbD 2) u
    obtain ⟨heard, role⟩ := electionAtBeacon_role n.toNat (g.getLsbD 2) u
    rw [← eligible, cfg] at role
    generalize electionAtBeacon n.toNat (g.getLsbD 2) u = t at elected heard role
    obtain ⟨frame, others, cases⟩ := elected
    have zero : n = 0 ↔ n.toNat = 0 := (BitVec.toNat_inj (y := 0)).symm
    have last : n = 63 ↔ n.toNat = 63 := (BitVec.toNat_inj (y := 63)).symm
    refine ⟨t, rfl, frame, others, ?_, heard, role⟩
    simp only [zero, last, ← entryOf_eq]
    split
    next own => rwa [if_pos own] at cases
    next foreign =>
      rw [if_neg foreign] at cases
      split
      next full => rwa [if_pos full] at cases
      next room =>
        rw [if_neg room] at cases
        obtain ⟨overflow, ⟨extra, share, new, old⟩, peers, entry⟩ := cases
        refine ⟨overflow, ?_, peers, entry⟩
        cases found : findPeer n.toNat s.shu.peers with
        | none =>
          rw [new found] at share
          exact share
        | some e =>
          rw [old e found] at share
          exact share
  · have row : exec (.leaveReceived n id) s = .next (receive ⟨n, id, .leave⟩ s) := whenRunning_running ready.1
    rw [row, receive_delivered ready]
    exact ⟨_, rfl, takeLeave_leaves (s := Acked s) n.toNat conds⟩
  · have row : exec .peerAgedOut s = .next (removeAged s) := whenRunning_running run
    rw [row]
    exact ⟨_, rfl, removeAged_leaves s⟩
  · have row : exec .overflowEnd s = .next (updateFallback s) := whenRunning_running run
    rw [row, updateFallback_same (by rw [← conds]), ← conds]
  · exact whenRunning_running (f := fun s => s) run

end Sys2Proof.Machine
end

section
/-! PROOF. The beacon period event (R48, R50, R53, R57 to R59, R63, R65, R146, R148). -/

namespace Sys2Proof.Machine

variable {s t : State}

/-! ## The full computation (R57 to R59, R63) -/

/-- The rise rule on a new share (R59). -/
theorem riseRule_moved (s : State) :
    (riseRule (Computed s)).shu.joining = s.shu.joining ∧
    if newShare s ≤ s.shu.sEff then
      (riseRule (Computed s)).shu.sEff = newShare s ∧ (riseRule (Computed s)).shu.pendingRise = none
    else match s.shu.pendingRise with
      | none =>
        (riseRule (Computed s)).shu.sEff = s.shu.sEff ∧ (riseRule (Computed s)).shu.pendingRise = some (newShare s)
      | some p =>
        (riseRule (Computed s)).shu.sEff = min (min p (newShare s)) (s.shu.sEff + s.cfg.riseStep) ∧
        (riseRule (Computed s)).shu.pendingRise = none := by
  by_cases low : newShare s ≤ s.shu.sEff
  · have falls : riseRule (Computed s) = { Computed s with shu := { (Computed s).shu with sEff := newShare s, pendingRise := none } } :=
      if_pos low
    rw [falls, if_pos low]
    exact ⟨rfl, rfl, rfl⟩
  · rw [if_neg low]
    cases pending : s.shu.pendingRise with
    | none =>
      have waits : riseRule (Computed s) = { Computed s with shu.pendingRise := some (newShare s) } := by
        refine (if_neg low).trans ?_
        dsimp only
        rw [pending]
        rfl
      rw [waits]
      exact ⟨rfl, rfl, rfl⟩
    | some p =>
      have rises : riseRule (Computed s) = { Computed s with shu := { (Computed s).shu with
          sEff := min (min p (newShare s)) (s.shu.sEff + s.cfg.riseStep), pendingRise := none } } := by
        refine (if_neg low).trans ?_
        dsimp only
        rw [pending]
        rfl
      rw [rises]
      exact ⟨rfl, rfl, rfl⟩

/-- What a full computation makes of the share, against the state it starts from. -/
theorem fullComputation_moved (s : State) : ShareMoved s (fullComputation s) := by
  have rises := fullComputation_eq s
  have result := fullComputation_shu s
  have session : (fullComputation s).shu.session = s.shu.session := by rw [result]
  have conds : (fullComputation s).shu.conds = s.shu.conds := by rw [result]
  have own : dOwnInUse (fullComputation s) = dOwnInUse s := by rw [result]; rfl
  have computed : (Computed (fullComputation s)).shu.sNew = newShare s ∧
      (Computed (fullComputation s)).shu.activeCount = (activeSet s).length := by
    rw [result]
    exact ⟨rfl, rfl⟩
  have sNew : (fullComputation s).shu.sNew = newShare s := by rw [result]
  have count : (fullComputation s).shu.activeCount = (activeSet s).length := by rw [result]
  refine ⟨sNew.trans computed.1.symm, count.trans computed.2.symm, ?_⟩
  rw [session, conds, own, sNew]
  by_cases off : s.shu.session = false
  · rw [if_pos off] at rises ⊢
    rw [rises]
    exact ⟨rfl, rfl⟩
  · rw [if_neg off] at rises ⊢
    by_cases fallback : s.shu.conds.any = true
    · rw [if_pos fallback] at rises ⊢
      rw [rises]
      exact ⟨rfl, rfl, rfl⟩
    · rw [if_neg fallback] at rises ⊢
      by_cases few : s.shu.joining < 2
      · rw [if_pos few] at rises ⊢
        rw [rises]
        exact ⟨rfl, rfl, rfl⟩
      · rw [if_neg few] at rises ⊢
        rw [rises]
        exact riseRule_moved s

/-! ## The period's chain and share (R53, R57, R77) -/

/-- The hand-over of the chain's d_own, the full computation and the evaluation with its result (R57). -/
def periodShared (s : State) : State := evaluate (fullComputation (handDOwn (evaluate s)))

theorem periodShared_onlyChain (s : State) :
    OnlyChain { s with shu := { s.shu with
      pendingRise := (periodShared s).shu.pendingRise, joining := (periodShared s).shu.joining } } (periodShared s) := by
  have handed := (evaluate_onlyChain s).trans (handDOwn_onlyChain _)
  have shares := fullComputation_shu (handDOwn (evaluate s))
  have chain := evaluate_onlyChain (fullComputation (handDOwn (evaluate s)))
  unfold periodShared
  rw [evaluate_shu]
  generalize handDOwn (evaluate s) = h at handed shares chain ⊢
  generalize fullComputation h = f at shares chain ⊢
  generalize evaluate f = t at chain ⊢
  unfold OnlyChain at handed chain ⊢
  rw [chain, shares, handed]

theorem periodShared_handed (s : State) :
    (periodShared s).crg.dOwnLast = (periodShared s).crg.dOwn ∧
      (periodShared s).shu.dOwnHanded = min (periodShared s).crg.dOwnLast (outletRating s) := by
  have handed := (evaluate_onlyChain s).trans (handDOwn_onlyChain _)
  have shares := fullComputation_shu (handDOwn (evaluate s))
  have own : dOwnOf (fullComputation (handDOwn (evaluate s))) = dOwnOf s := by
    rw [← dOwnOf_onlyChain handed, shares]
    rfl
  have last : (periodShared s).crg.dOwnLast = dOwnOf s := by
    unfold periodShared
    rw [evaluate_dOwnLast, shares, handDOwn_crg]
    exact evaluate_dOwn s
  refine ⟨last.trans ?_, ?_⟩
  · unfold periodShared
    rw [evaluate_dOwn, own]
  · rw [last]
    unfold periodShared
    rw [evaluate_shu, shares, handDOwn_eq]
    show min (evaluate s).crg.dOwn (outletRating (evaluate s)) = _
    rw [evaluate_dOwn, outletRating_evaluate]

theorem periodShared_setpoint (s : State) : (periodShared s).crg.setpoint ≤ min s.crg.setpoint (periodShared s).crg.iTarget := by
  have shares := fullComputation_shu (handDOwn (evaluate s))
  have before : (fullComputation (handDOwn (evaluate s))).crg.setpoint = min s.crg.setpoint (iTargetOf s) := by
    rw [shares, handDOwn_crg]
    exact evaluate_setpoint s
  unfold periodShared
  rw [evaluate_setpoint, evaluate_iTarget, before]
  omega

/-- The share moves as a full computation has it; the hand-over before it reaches it through the demand alone. -/
theorem periodShared_moved (s : State) : ShareMoved s (periodShared s) := by
  have moved := fullComputation_moved (handDOwn (evaluate s))
  have result := fullComputation_shu (handDOwn (evaluate s))
  have handed := handDOwn_shares (evaluate s)
  have cfg : (handDOwn (evaluate s)).cfg = s.cfg := by rw [handDOwn_cfg, evaluate_cfg]
  have share : newShare (periodShared s) = newShare (fullComputation (handDOwn (evaluate s))) := newShare_evaluate _
  have active : activeSet (periodShared s) = activeSet (fullComputation (handDOwn (evaluate s))) := activeSet_evaluate _
  have own : dOwnInUse (periodShared s) = dOwnInUse (fullComputation (handDOwn (evaluate s))) := dOwnInUse_evaluate _
  have shu : (periodShared s).shu = (fullComputation (handDOwn (evaluate s))).shu := evaluate_shu _
  obtain ⟨sNew, count, rest⟩ := moved
  refine ⟨?_, ?_, ?_⟩
  · rw [shu, sNew]
    exact share.symm
  · rw [shu, count]
    exact congrArg List.length active.symm
  · rw [shu, own]
    rw [evaluate_shu] at handed
    have session : (fullComputation (handDOwn (evaluate s))).shu.session = s.shu.session := by rw [result, handed]
    have conds : (fullComputation (handDOwn (evaluate s))).shu.conds = s.shu.conds := by rw [result, handed]
    have joining : (handDOwn (evaluate s)).shu.joining = s.shu.joining := by rw [handed]
    have pending : (handDOwn (evaluate s)).shu.pendingRise = s.shu.pendingRise := by rw [handed]
    have sEff (plain : ¬ (s.shu.session = true ∧ s.shu.conds.any = true)) : (handDOwn (evaluate s)).shu.sEff = s.shu.sEff := by
      rw [handed]
      exact if_neg plain
    rw [session, conds, joining, pending, cfg] at rest
    rw [session, conds]
    by_cases off : s.shu.session = false
    · rw [if_pos off] at rest ⊢
      rwa [sEff (by rw [off]; exact fun h => absurd h.1 (by decide))] at rest
    · rw [if_neg off] at rest ⊢
      by_cases fallback : s.shu.conds.any = true
      · rwa [if_pos fallback] at rest ⊢
      · rw [if_neg fallback] at rest ⊢
        rwa [sEff fun h => fallback h.2] at rest

/-! ## The own beacon (R29, R65, R86, R151, R155) -/

theorem beaconState_bits (s : State) :
    ((beaconState s).code.testBit 0, (beaconState s).code.testBit 1) =
      (if s.imn.sweep ≠ .none then (true, true)
       else match (if s.imn.mode = .localMode then s.imn.own else s.imn.net).state with
         | some .warn => (true, false)
         | some .alarm => (false, true)
         | _ => (false, false)) := by
  unfold beaconState
  by_cases idle : s.imn.sweep = .none
  · rw [if_neg (not_not.2 idle), if_neg (not_not.2 idle)]
    dsimp only
    generalize (if s.imn.mode = .localMode then s.imn.own else s.imn.net).state = x
    cases x with
    | none => rfl
    | some k => cases k <;> rfl
  · rw [if_pos idle, if_pos idle]
    rfl

theorem beaconFlags_bit (s : State) {i : Nat} (h : i < 8) : (beaconFlags s).getLsbD i =
    [s.shu.session, s.shu.joint, roleHeld s, (beaconState s).code.testBit 0, (beaconState s).code.testBit 1,
      s.imn.target.isSome].getD i false := byteOfBits_getLsbD _ h

theorem ownBeacon_fields (s : State) :
    BeaconOf s (BitVec.ofNat 16 (beaconDemand s)) (BitVec.ofNat 16 (min 630 (draw s)))
      (BitVec.ofNat 16 (beaconResistance s)) (beaconFlags s) (BitVec.ofNat 8 (beaconLeader s)) := by
  have demand : beaconDemand s = if s.shu.session = false ∨ s.shu.sweepTarget = true then 0 else s.shu.dOwnHanded := by
    unfold beaconDemand dOwnInUse
    cases s.shu.session <;> cases s.shu.sweepTarget <;> rfl
  have power : min 630 (draw s) = if s.crg.gridRange = true ∨ s.crg.vPh = 0 then 0
      else min 630 (s.crg.pMeter * 100 / (3 * s.crg.vPh)) := by
    unfold draw
    split <;> simp
  have resistance : beaconResistance s = if s.imn.mode = .measurer ∧ s.imn.resultInRole = true then
      (s.imn.jointResult.map (·.rf)).getD 65535 else 65535 := by
    unfold beaconResistance roleHeld jointRf
    simp only [beq_iff_eq]
  refine ⟨congrArg _ demand, congrArg _ power, ?_, ?_, ?_, ?_, ?_, ?_, ?_, congrArg _ resistance, ?_⟩
  · exact beaconFlags_bit s (by decide)
  · exact beaconFlags_bit s (by decide)
  · exact beaconFlags_bit s (by decide)
  · refine Eq.trans ?_ (beaconState_bits s)
    rw [beaconFlags_bit s (by decide), beaconFlags_bit s (by decide)]
    rfl
  · exact beaconFlags_bit s (by decide)
  · exact beaconFlags_bit s (by decide)
  · exact beaconFlags_bit s (by decide)
  · unfold beaconLeader
    cases s.imn.sweep <;> rfl

/-! ## The event (R42, R48, R50, R57, R146, R148) -/

/-- The table with its entries aged and the overflow count run down (R48, R50). -/
def periodAged (s : State) : State :=
  { s with
    shu := { s.shu with peers := agePeers s.shu.peers, overflow := s.shu.overflow - 1 }
    cpt := if (agePeers s.shu.peers).length < s.shu.peers.length then (raiseEvent .peers s).cpt else s.cpt }

theorem periodAged_eq (s : State) : lowerOverflow (ageTable s) = periodAged s := by
  unfold lowerOverflow ageTable periodAged
  dsimp only
  by_cases fewer : (agePeers s.shu.peers).length < s.shu.peers.length
  · rw [decide_eq_true fewer, if_pos fewer]
    rfl
  · rw [decide_eq_false fewer, if_neg fewer]
    rfl

/-- The state of which the period's beacon is formed. -/
def periodDone (s : State) : State := periodShared (updateFallback (periodAged s))

theorem beaconPeriod_eq (timer : s.fli.beaconTimer ≠ none) (idle : s.imn.mode ≠ .passive ∨ s.imn.clearCount < 3) :
    beaconPeriod s = electionCounts (enqueue (ownBeacon (periodDone { s with fli.beaconTimer := some 250 }))
      (periodDone { s with fli.beaconTimer := some 250 })) := by
  have untaken : measuringRoleTake { s with fli.beaconTimer := some 250 } = { s with fli.beaconTimer := some 250 } := by
    refine if_neg fun due => ?_
    have due : s.imn.mode = .passive ∧ 3 ≤ s.imn.clearCount := by simpa [roleDue] using due
    exact idle.elim (fun h => h due.1) fun h => absurd due.2 (not_le.2 h)
  unfold beaconPeriod
  split
  next none => exact absurd none timer
  next =>
    rw [untaken]
    unfold sharePeriod periodDone
    rw [periodAged_eq]
    rfl

theorem periodAged_peers (s : State) :
    (periodAged s).shu.peers = (s.shu.peers.map fun e => { e with age := e.age + 1 }).filter (fun e => decide (e.age < 4)) :=
  rfl

/-- What the period leaves beside the chain, from the table aged and the conditions judged with it. -/
theorem periodDone_onlyChain (s : State) :
    OnlyChain { fallbackJudged (periodAged s) with shu := { judgedShu (periodAged s) with
      pendingRise := (periodDone s).shu.pendingRise, joining := (periodDone s).shu.joining } } (periodDone s) := by
  have judged := updateFallback_onlyChain (periodAged s)
  have shared := periodShared_onlyChain (updateFallback (periodAged s))
  unfold periodDone
  generalize updateFallback (periodAged s) = a at judged shared ⊢
  generalize periodShared a = t at shared ⊢
  unfold OnlyChain at judged shared ⊢
  rw [shared, judged]

theorem periodDone_tableFrame (s : State) : TableFrame s (periodDone s) := by
  have h := periodDone_onlyChain s
  have mtr : (periodDone s).mtr = judgedMtr (periodAged s) := congrArg (·.mtr) h
  refine ⟨congrArg (·.psq) h, congrArg (·.msq) h, congrArg (·.cfg) h, congrArg (·.mst) h, ?_,
    congrArg (·.shu.session) h, congrArg (·.shu.identCopy) h, ?_⟩
  · rw [mtr]
    exact judgedMtr_table _
  · generalize periodDone s = t at h
    unfold OnlyChain at h
    rw [h]
    rfl

/-- The share moves from what it was before the conditions were judged. -/
theorem periodDone_moved (s : State) : ShareMoved s (periodDone s) := by
  have moved := periodShared_moved (updateFallback (periodAged s))
  have shu := updateFallback_shu (periodAged s)
  have cfg : (updateFallback (periodAged s)).cfg = s.cfg := congrArg (·.cfg) (updateFallback_onlyChain (periodAged s))
  have conds : (periodShared (updateFallback (periodAged s))).shu.conds = fallbackConds (periodAged s) :=
    congrArg (·.shu.conds) (periodDone_onlyChain s)
  have session : (periodShared (updateFallback (periodAged s))).shu.session = s.shu.session :=
    congrArg (·.shu.session) (periodDone_onlyChain s)
  obtain ⟨sNew, count, rest⟩ := moved
  refine ⟨sNew, count, ?_⟩
  unfold periodDone
  rw [shu, cfg, session, conds] at rest
  rw [session, conds]
  have sEff (plain : s.shu.session = false ∨ (fallbackConds (periodAged s)).any = false) :
      (judgedShu (periodAged s)).sEff = s.shu.sEff := by
    refine if_neg fun ⟨_, any, on⟩ => ?_
    exact plain.elim (fun off => absurd (off.symm.trans on) (by decide)) fun none => absurd (none.symm.trans any) (by decide)
  by_cases off : s.shu.session = false
  · rw [if_pos off] at rest ⊢
    rwa [sEff (.inl off)] at rest
  · rw [if_neg off] at rest ⊢
    by_cases fallback : (fallbackConds (periodAged s)).any = true
    · rwa [if_pos fallback] at rest ⊢
    · have none := Bool.eq_false_of_not_eq_true fallback
      have pending : (judgedShu (periodAged s)).pendingRise = s.shu.pendingRise :=
        if_neg fun k => fallback k.2
      rw [if_neg fallback] at rest ⊢
      rwa [sEff (.inr none), pending] at rest

theorem periodDone_setpoint (s : State) : (periodDone s).crg.setpoint ≤ min s.crg.setpoint (periodDone s).crg.iTarget := by
  have falls := periodShared_setpoint (updateFallback (periodAged s))
  have judged : (updateFallback (periodAged s)).crg.setpoint ≤ s.crg.setpoint := by
    rw [updateFallback_eq]
    split
    · exact le_rfl
    · exact ((evaluate_setpoint _).le.trans (Nat.min_le_left _ _))
  exact falls.trans (min_le_min_right _ judged)

theorem periodDone_handed (s : State) :
    (periodDone s).crg.dOwnLast = (periodDone s).crg.dOwn ∧
      (periodDone s).shu.dOwnHanded = min (periodDone s).crg.dOwnLast (outletRating s) := by
  obtain ⟨last, handed⟩ := periodShared_handed (updateFallback (periodAged s))
  have rating : outletRating (updateFallback (periodAged s)) = outletRating s := by
    unfold outletRating
    rw [updateFallback_shu]
    rfl
  rw [rating] at handed
  exact ⟨last, handed⟩

theorem judgedCpt_raised (other : (fallbackConds s).any ≠ s.shu.conds.any) : .shareFallback ∈ (judgedCpt s).events := by
  unfold judgedCpt
  rw [if_neg fun same => other same.symm]
  exact raised_mem ..

theorem mem_judgedCpt {e : EventKind} (mem : e ∈ s.cpt.events) : e ∈ (judgedCpt s).events := by
  rw [← updateFallback_cpt]
  exact mem_updateFallback mem

theorem judgedCpt_frame (s : State) : judgedCpt s = { s.cpt with events := (judgedCpt s).events } := by
  unfold judgedCpt
  split <;> rfl

theorem periodAged_cpt (s : State) : (periodAged s).cpt = { s.cpt with events := (periodAged s).cpt.events } := by
  unfold periodAged
  dsimp only
  split <;> rfl

/-- The monitor's counts at the event (R146, R148). -/
theorem electionCounts_imn (s : State) : (electionCounts s).imn = { s.imn with
    backoff := s.imn.backoff - 1, measurerHeard := false
    clearCount :=
      if s.imn.mode ≠ .passive then s.imn.clearCount
      else if s.fli.line = .online ∧ s.imn.backoff = 0 ∧ lowerEligible s = false ∧ s.imn.measurerHeard = false then
        s.imn.clearCount + 1
      else 0 } := by
  have clear (passive : s.imn.mode = .passive) : clearPeriod s = true ↔
      s.fli.line = .online ∧ s.imn.backoff = 0 ∧ lowerEligible s = false ∧ s.imn.measurerHeard = false := by
    simp [clearPeriod, ownEligible, passive, and_assoc]
  unfold electionCounts
  by_cases passive : s.imn.mode = .passive
  · rw [if_neg (not_not.2 passive)]
    simp only [passive, if_true, clear passive]
  · rw [if_pos passive]
    simp only [passive, if_false]

/-- A beacon is queued where the line takes it and there is room (R39, R41). -/
theorem enqueue_room (b : FrameBody) (online : s.fli.line = .online) (sends : b.isBeacon = true → s.fli.departed = false)
    (room : s.fli.queue.length < 4) : ∃ q ∈ (enqueue b s).fli.queue, q.frame = frameOf b s := by
  have taken : enqueue b s = { s with fli.queue := enqueueFrame (frameOf b s) s.fli.queue } :=
    if_pos ⟨online, fun h => absurd (sends h.1) (by rw [h.2]; decide)⟩
  rw [taken]
  exact mem_enqueueFrame _ _ room

/-- Settles O40: the event's parts one after another, each from what it leaves. -/
theorem beaconPeriodRunsTheShare : Obligations.BeaconPeriodRunsTheShare := by
  unfold Obligations.BeaconPeriodRunsTheShare
  intro s run settled
  have row : exec .beaconPeriodEvent s = .next (beaconPeriod s) := whenRunning_running run
  rw [row]
  refine ⟨fun none => ?_, fun timer idle => ?_⟩
  · unfold beaconPeriod
    rw [none]
  · rw [beaconPeriod_eq timer idle]
    have chain := periodDone_onlyChain { s with fli.beaconTimer := some 250 }
    have frame := periodDone_tableFrame { s with fli.beaconTimer := some 250 }
    have moved := periodDone_moved { s with fli.beaconTimer := some 250 }
    have setpoint := periodDone_setpoint { s with fli.beaconTimer := some 250 }
    have holds : ChainHolds (periodDone { s with fli.beaconTimer := some 250 }) := evaluate_chain _
    have budget : BudgetHeld (periodDone { s with fli.beaconTimer := some 250 }) := evaluate_budget _
    obtain ⟨last, handed⟩ := periodDone_handed { s with fli.beaconTimer := some 250 }
    have sent := enqueue_frame (ownBeacon (periodDone { s with fli.beaconTimer := some 250 })) (periodDone { s with fli.beaconTimer := some 250 })
    generalize periodDone { s with fli.beaconTimer := some 250 } = u at *
    have cpt : u.cpt = judgedCpt (periodAged { s with fli.beaconTimer := some 250 }) := congrArg (·.cpt) chain
    have peers : u.shu.peers = agePeers s.shu.peers := congrArg (·.shu.peers) chain
    have conds : u.shu.conds = fallbackConds (periodAged { s with fli.beaconTimer := some 250 }) :=
      congrArg (·.shu.conds) chain
    have fli : u.fli = { s.fli with beaconTimer := some 250 } := congrArg (·.fli) chain
    have imn : u.imn = s.imn := congrArg (·.imn) chain
    have mtr : u.mtr = judgedMtr (periodAged { s with fli.beaconTimer := some 250 }) := congrArg (·.mtr) chain
    have same : electionCounts (enqueue (ownBeacon u) u) = { u with
        fli.queue := (enqueue (ownBeacon u) u).fli.queue, imn := (electionCounts (enqueue (ownBeacon u) u)).imn } := by
      rw [sent]
      rfl
    refine ⟨_, rfl, ?_, ?_, ?_, ?_, ?_, ?_, ?_, ?_, ?_, ?_, ?_, ?_, ?_, ?_, ?_, ?_, ?_⟩
    · rw [same]
      exact frame
    · rw [same, fli]
    · rw [same, fli]
    · rw [same, peers]
      rfl
    · rw [same, peers, cpt]
      intro fewer
      refine mem_judgedCpt ?_
      have raised : (periodAged { s with fli.beaconTimer := some 250 }).cpt = (raiseEvent .peers s).cpt := if_pos fewer
      rw [raised]
      exact raised_mem ..
    · rw [same]
      exact congrArg (·.shu.overflow) chain
    · rw [same]
      exact holds
    · rw [same]
      exact last
    · rw [same]
      exact handed
    · rw [same]
      exact moved
    · rw [same]
      exact budget
    · rw [same]
      exact setpoint
    · rw [same, cpt, conds]
      exact fun other => judgedCpt_raised other
    · rw [same, mtr, conds]
      rfl
    · have events : u.cpt = { s.cpt with events := u.cpt.events } := by
        rw [cpt, judgedCpt_frame, periodAged_cpt]
      have only : OnlyChain { s with fli := u.fli, shu := u.shu, imn := u.imn, mtr := u.mtr, cpt := u.cpt } u := by
        unfold OnlyChain at chain ⊢
        rw [chain]
        rfl
      rw [same]
      generalize (electionCounts (enqueue (ownBeacon u) u)).imn = m
      generalize (enqueue (ownBeacon u) u).fli.queue = q
      rw [events] at only
      unfold OnlyChain at only ⊢
      rw [only]
    · intro online departed room
      have b := ownBeacon_fields u
      obtain ⟨q, mem, frame'⟩ := enqueue_room (s := u) (ownBeacon u) (by rw [fli]; exact online)
        (fun _ => by rw [fli]; exact departed) (by rw [fli]; exact room)
      have psq : u.psq = s.psq := congrArg (·.psq) chain
      have cfg : u.cfg = s.cfg := congrArg (·.cfg) chain
      unfold frameOf heldFeeder at frame'
      rw [psq, cfg] at frame'
      refine ⟨q, by rw [same]; exact mem, _, _, _, _, _, ?_, frame'⟩
      rw [sent]
      exact b
    · refine Eq.trans (electionCounts_imn _) ?_
      rw [sent]
      dsimp only
      rw [imn, fli]
      rfl

end Sys2Proof.Machine
end

section
/-! PROOF. Frames queued one after another, the isolation of a target, and the leader's steps (R22, R39, R154, R156,
R158, R162). -/

namespace Sys2Proof.Machine

variable {s t : State}

/-! ## The queue (R39) -/

theorem enqueueFrame_length_succ (f : Frame) (qs : List Queued) : (enqueueFrame f qs).length ≤ qs.length + 1 := by
  unfold enqueueFrame
  dsimp only
  split
  · simp
  · split
    · simp
    · split
      · rw [joinClass_length, List.length_dropLast]
        omega
      · omega

/-- A queued frame of another kind stays where there is room, or where its class is no lower. -/
theorem mem_enqueueFrame_other {f : Frame} {qs : List Queued} {q : Queued} (mem : q ∈ qs)
    (kind : q.frame.body.code ≠ f.body.code) (stays : qs.length < 4 ∨ q.frame.body.cls ≤ f.body.cls) :
    q ∈ enqueueFrame f qs := by
  have other : ¬ q.frame.body.sameKind f.body = true := fun same => kind (beq_iff_eq.1 same)
  unfold enqueueFrame
  dsimp only
  split
  · exact List.mem_map.2 ⟨q, mem, if_neg other⟩
  · split
    · exact (mem_joinClass ..).2 (.inr mem)
    next full =>
      split
      next outranks =>
        refine (mem_joinClass ..).2 (.inr ?_)
        have low := stays.resolve_left full
        obtain ⟨front, last, rfl⟩ : ∃ front last, qs = front ++ [last] :=
          ⟨qs.dropLast, qs.getLast (List.ne_nil_of_mem mem), (List.dropLast_append_getLast _).symm⟩
        have lowest : lastClass (front ++ [last]) = last.frame.body.cls := by simp [lastClass]
        rw [lowest] at outranks
        rw [List.dropLast_concat]
        obtain inFront | isLast := List.mem_append.1 mem
        · exact inFront
        · rw [List.mem_singleton.1 isLast] at low
          omega
      next => exact mem

/-- The queue with a frame of the own kind asked for (R39, R41). -/
def queueWith (b : FrameBody) (s : State) : List Queued :=
  if s.fli.line = .online ∧ ¬ (b.isBeacon ∧ s.fli.departed) then enqueueFrame (frameOf b s) s.fli.queue else s.fli.queue

theorem enqueue_eq (b : FrameBody) (s : State) : enqueue b s = { s with fli.queue := queueWith b s } := by
  unfold enqueue queueWith
  split <;> rfl

theorem enqueue_queue {b : FrameBody} (online : s.fli.line = .online) (plain : b.isBeacon = false) :
    (enqueue b s).fli.queue = enqueueFrame (frameOf b s) s.fli.queue := by
  have taken : enqueue b s = { s with fli.queue := enqueueFrame (frameOf b s) s.fli.queue } :=
    if_pos ⟨online, fun h => absurd (plain.symm.trans h.1) (by decide)⟩
  rw [taken]

theorem enqueue_length (b : FrameBody) (s : State) : (enqueue b s).fli.queue.length ≤ s.fli.queue.length + 1 := by
  unfold enqueue
  split
  · exact enqueueFrame_length_succ _ _
  · exact Nat.le_succ _

theorem mem_enqueue_other {b : FrameBody} {q : Queued} (mem : q ∈ s.fli.queue) (kind : q.frame.body.code ≠ b.code)
    (stays : s.fli.queue.length < 4 ∨ q.frame.body.cls ≤ b.cls) : q ∈ (enqueue b s).fli.queue := by
  unfold enqueue
  split
  · exact mem_enqueueFrame_other mem kind stays
  · exact mem

/-- A frame just queued is in the queue, of the station and the feeder held (R27, R28, R39). -/
theorem enqueue_queued {b : FrameBody} (plain : b.isBeacon = false) : QueuedOwn b s (enqueue b s) := by
  intro online room
  exact enqueue_room b online (fun h => absurd (plain.symm.trans h) (by decide)) (by omega)

/-- What was queued stays as a frame of another kind joins, with one place more asked for or its class no lower. -/
theorem QueuedRoom.enqueue {n m : Nat} {b c : FrameBody} (h : QueuedRoom n b s t) (kind : b.code ≠ c.code) (more : n ≤ m)
    (stays : t.fli.queue.length < s.fli.queue.length + m ∨ b.cls ≤ c.cls) :
    QueuedRoom m b s (Machine.enqueue c t) := by
  intro online room
  obtain ⟨q, mem, frame⟩ := h online (by omega)
  refine ⟨q, mem_enqueue_other mem (by rw [frame]; exact kind) ?_, frame⟩
  rw [frame]
  exact stays.imp (fun short => by omega) id

/-- What the monitor and the sequencer do beside the queue leaves what is queued. -/
theorem QueuedRoom.congr {n : Nat} {b : FrameBody} {s' t' : State} (h : QueuedRoom n b s t) (line : s'.fli = s.fli)
    (station : s'.cfg = s.cfg) (feeder : s'.psq.ident = s.psq.ident) (queue : t'.fli.queue = t.fli.queue) :
    QueuedRoom n b s' t' := by
  unfold QueuedRoom heldFeeder at h ⊢
  rw [line, station, feeder, queue]
  exact h

/-! ## The isolation of a target (R22, R53, R158) -/

theorem returnStateOf_eq (q : SeqState) : returnStateOf q =
    if q = .active ∨ q = .suspended then some (if q = .active then .active else .suspended) else none := by
  cases q <;> rfl

/-- The sequencer's state as it takes the report (R22). -/
abbrev isolating (p : Psq) : Psq :=
  { p with
    seq := .sweepIsolated .isoRamp, stopTimer := true, stopCause := none, forced := false
    batteryLow := false
    isoReturn := some (if p.seq = .active then .active else .suspended) }

/-- The report is taken from ACTIVE or SUSPENDED, and the demand reported becomes 0 (R22, R53). -/
theorem isolation_onlyChain {ret : ReturnState} (away : s.psq.seq = .active ∨ s.psq.seq = .suspended)
    (home : ret = if s.psq.seq = .active then .active else .suspended) :
    OnlyChain (raiseEvent .seqState { s with psq := isolating s.psq, shu.sweepTarget := true })
      (reportTarget (enterIsolation ret s)) := by
  have left : leaveState (.sweepIsolated .isoRamp) { s.psq with
      isoReturn := some ret, stopTimer := true, stopCause := none, forced := false } = isolating s.psq := by
    rw [leaveState_psq (by obtain h | h := away <;> simp [h]), home]
    simp
  have other : s.psq.seq ≠ .sweepIsolated .isoRamp := by obtain h | h := away <;> simp [h]
  have entered := setSeq_onlyChain (q := .sweepIsolated .isoRamp) (s := { s with psq := { s.psq with
      isoReturn := some ret, stopTimer := true, stopCause := none, forced := false } }) other
  dsimp only at entered
  rw [left] at entered
  have reported := extraAndEvaluate_onlyChain { enterIsolation ret s with shu.sweepTarget := true }
  unfold reportTarget
  unfold enterIsolation at reported ⊢
  generalize setSeq _ _ = x at entered reported ⊢
  generalize extraAndEvaluate _ = y at reported ⊢
  unfold OnlyChain at entered reported ⊢
  rw [reported, entered]
  rfl

/-- A station that takes the report as the target of an index (R22, R53, R158). -/
theorem isolation_isolating (index : Nat)
    (h : OnlyChain (raiseEvent .seqState { s with psq := isolating s.psq, shu.sweepTarget := true }) t)
    (target : s.imn.target = some ⟨index, none⟩) (event : .sweep ∈ s.cpt.events) : Isolating index s t := by
  have cpt : t.cpt = (raiseEvent .seqState s).cpt := congrArg (·.cpt) h
  refine ⟨?_, congrArg (·.shu.sweepTarget) h, congrArg (·.psq) h, ?_, ?_⟩
  · exact (congrArg (·.imn.target) h).trans target
  · rw [cpt]
    exact raised_mem ..
  · rw [cpt]
    exact mem_raiseEvent _ event

/-! ## The leader's steps (R154, R156, R162) -/

/-- The release in ISO_WAIT starts the precharge, and elsewhere nothing (R23). -/
theorem takeRelease_frame (s : State) :
    takeRelease s = { s with psq := (takeRelease s).psq, cpt.events := (takeRelease s).cpt.events } := by
  unfold takeRelease
  split <;> rfl

theorem mem_takeRelease {e : EventKind} (mem : e ∈ s.cpt.events) : e ∈ (takeRelease s).cpt.events :=
  takeRelease_events s mem

/-- A leader's sweep that ends, with the release of its own sequencer, leaves no target (R160, R162, R163). -/
theorem ownNotFound_ends (r : LeaderRecord) (s : State) :
    SweepEnded .notFound true s (ownNotFound r s) ∧ NoTarget (ownNotFound r s) ∧
      (ownNotFound r s).fli = (enqueue (endingFrame r .notFound) s).fli ∧
      (ownNotFound r s).psq =
        (if s.psq.seq = .sweepIsolated .isoWait then
          { s.psq with seq := .sweepIsolated .isoRejoin, prechargeCmd := true, prechargeTimer := true }
        else s.psq) := by
  have frame := takeRelease_frame (endLeading r .notFound true s)
  have psq := takeRelease_psq (endLeading r .notFound true s)
  have event := mem_takeRelease (s := endLeading r .notFound true s) (e := .sweep) (by
    rw [endLeading_eq]
    exact raised_mem ..)
  have sent := enqueue_fli (endingFrame r .notFound) s
  unfold ownNotFound
  rw [endLeading_eq] at frame psq event ⊢
  generalize takeRelease _ = t at frame psq event ⊢
  have imn : t.imn = leadingEnded .notFound true s.imn := by rw [frame]; rfl
  have shu : t.shu = { s.shu with sweepTarget := false } := by rw [frame]; rfl
  have fli : t.fli = (enqueue (endingFrame r .notFound) s).fli := by rw [frame, sent]; rfl
  rw [SweepEnded, NoTarget, imn, shu]
  exact ⟨⟨rfl, rfl, rfl, event⟩, ⟨rfl, rfl, rfl⟩, fli, psq⟩

/-- The leader's record in a step of another station (R156). -/
abbrev peerStep (r : LeaderRecord) : LeaderRecord := { r with phase := .awaitingAnswer, answerTimer := true, cycleTimer := false }

/-- The leader's record in its own step (R162). -/
abbrev ownStep (r : LeaderRecord) : LeaderRecord :=
  { r with phase := .ownStep, answerTimer := false, cycleTimer := false, ownResults := 0 }

/-- A step as it is announced: the record, SWEEP and the frame (R156). -/
abbrev stepAnnounced (station : Nat) (r : LeaderRecord) (s : State) : State :=
  raiseEvent .sweep (enqueue (.sweepStep (BitVec.ofNat 8 station) (BitVec.ofNat 8 r.index)) { s with imn.sweep := .leading r })

theorem stepAnnounced_frame (station : Nat) (r : LeaderRecord) (s : State) :
    stepAnnounced station r s = raiseEvent .sweep { s with
      imn.sweep := .leading r
      fli.queue := (enqueue (.sweepStep (BitVec.ofNat 8 station) (BitVec.ofNat 8 r.index)) s).fli.queue } := by
  unfold stepAnnounced
  rw [enqueue_eq, enqueue_eq]
  rfl

theorem stepAnnounced_queued (station : Nat) (r : LeaderRecord) (s : State) :
    QueuedOwn (.sweepStep (BitVec.ofNat 8 station) (BitVec.ofNat 8 r.index)) s (stepAnnounced station r s) := by
  rw [stepAnnounced_frame]
  exact (enqueue_queued rfl).congr rfl rfl rfl rfl

theorem startStep_peer {r : LeaderRecord} (peer : r.index + 1 ≠ r.list.length) (s : State) :
    startStep r s = stepAnnounced (r.list.getD r.index 0) (peerStep r) s := if_neg peer

theorem startStep_own {r : LeaderRecord} (own : r.index + 1 = r.list.length) (s : State) :
    startStep r s =
      if s.psq.seq = .active ∨ s.psq.seq = .suspended then
        reportTarget (enterIsolation (if s.psq.seq = .active then .active else .suspended)
          { stepAnnounced s.cfg.station (ownStep r) s with imn.target := some ⟨r.index, none⟩ })
      else ownNotFound { ownStep r with unresponsive := r.unresponsive + 1 } (stepAnnounced s.cfg.station (ownStep r) s) := by
  have psq : (stepAnnounced s.cfg.station (ownStep r) s).psq = s.psq := by rw [stepAnnounced_frame]; rfl
  unfold startStep
  rw [if_pos own]
  unfold startOwnStep
  rw [returnStateOf_eq]
  split
  next h =>
    split at h
    next away => rw [if_pos away, ← Option.some.inj h]
    next => cases h
  next h =>
    split at h
    next => cases h
    next home => rw [if_neg home]

/-- The step at the record's index is started (R156, R162). -/
theorem startStep_started (r : LeaderRecord) (s : State) : StepStarted r s (startStep r s) := by
  unfold StepStarted
  by_cases own : r.index + 1 = r.list.length
  · rw [startStep_own own, if_pos own, if_neg (not_not.2 own)]
    have queued := stepAnnounced_queued s.cfg.station (ownStep r) s
    have frame := stepAnnounced_frame s.cfg.station (ownStep r) s
    have event : .sweep ∈ (stepAnnounced s.cfg.station (ownStep r) s).cpt.events := raised_mem ..
    by_cases away : s.psq.seq = .active ∨ s.psq.seq = .suspended
    · rw [if_pos away, if_pos away]
      generalize stepAnnounced s.cfg.station (ownStep r) s = x at queued frame event ⊢
      have psq : x.psq = s.psq := by rw [frame]; rfl
      have only := isolation_onlyChain (s := { x with imn.target := some ⟨r.index, none⟩ })
        (ret := if s.psq.seq = .active then .active else .suspended) (by rw [psq]; exact away) (by rw [psq])
      generalize reportTarget _ = t at only ⊢
      obtain ⟨target, report, moved, entered, swept⟩ := isolation_isolating (s := { x with imn.target := some ⟨r.index, none⟩ })
        r.index only rfl event
      have led : x.imn.sweep = .leading (ownStep r) := by rw [frame]; rfl
      refine ⟨swept, queued.congr rfl rfl rfl (congrArg (·.fli.queue) only), ?_, target, report, ?_, entered, swept⟩
      · exact (congrArg (·.imn.sweep) only).trans led
      · rw [psq] at moved
        exact moved
    · rw [if_neg away, if_neg away]
      generalize stepAnnounced s.cfg.station (ownStep r) s = x at queued frame event ⊢
      obtain ⟨⟨none, outcome, hold, swept⟩, noTarget, fli, -⟩ :=
        ownNotFound_ends { ownStep r with unresponsive := r.unresponsive + 1 } x
      generalize ownNotFound _ x = t at none outcome hold swept noTarget fli ⊢
      have line : x.fli.line = s.fli.line := by rw [frame]; rfl
      have psq : x.psq = s.psq := by rw [frame]; rfl
      have cfg : x.cfg = s.cfg := by rw [frame]; rfl
      have was : x.imn.hold = s.imn.hold := by rw [frame]; rfl
      have length : x.fli.queue.length ≤ s.fli.queue.length + 1 := by
        rw [frame]
        exact enqueue_length _ _
      refine ⟨swept, ?_, ⟨none, outcome, hold.trans (by rw [was]), swept⟩, noTarget, ?_⟩
      · have kept := queued.enqueue (c := endingFrame { ownStep r with unresponsive := r.unresponsive + 1 } .notFound)
          (m := 1) (show (2 : Nat) ≠ 4 by decide) le_rfl (.inr le_rfl)
        exact kept.congr rfl rfl rfl (by rw [fli])
      · intro online room
        obtain ⟨q, mem, own'⟩ := enqueue_queued (s := x)
          (b := endingFrame { ownStep r with unresponsive := r.unresponsive + 1 } .notFound) rfl (line.trans online) (by omega)
        refine ⟨q, by rw [fli]; exact mem, ?_⟩
        unfold heldFeeder at own' ⊢
        rw [own', psq, cfg]
        rfl
  · rw [startStep_peer own, if_neg own, if_pos own]
    have queued := stepAnnounced_queued (r.list.getD r.index 0) (peerStep r) s
    refine ⟨raised_mem .., queued, ?_⟩
    rw [stepAnnounced_frame]
    exact ⟨rfl, rfl⟩

/-- The list of a sweep that starts (R154). -/
theorem sweepList_eq (s : State) : sweepList s =
    ((s.shu.peers.filter fun e => sameFeeder s e && e.joint && decide (e.age ≤ 1)).map (·.station)) ++ [s.cfg.station] :=
  rfl

/-- The record of a sweep that starts (R154). -/
abbrev sweepRecord (s : State) : LeaderRecord := ⟨sweepList s, 0, .awaitingAnswer, 0, false, false, 0⟩

/-- The state in which the first step starts: ALERT is queued, and the last outcome is cleared (R154). -/
abbrev sweepAlerted (s : State) : State :=
  raiseEvent .sweep { enqueue (.alert (BitVec.ofNat 16 (jointRf s))) s with imn := { s.imn with
    outcome := .none, disagreement := false } }

theorem startSweep_eq (s : State) : startSweep s = startStep (sweepRecord s) (sweepAlerted s) := by
  unfold startSweep sweepAlerted
  rw [enqueue_eq, enqueue_eq]
  rfl

/-- What the start of a step makes of the monitor (R156, R162). -/
theorem startStep_imn (r : LeaderRecord) (s : State) : (startStep r s).imn =
    if r.index + 1 ≠ r.list.length then { s.imn with sweep := .leading (peerStep r) }
    else if s.psq.seq = .active ∨ s.psq.seq = .suspended then
      { s.imn with sweep := .leading (ownStep r), target := some ⟨r.index, none⟩ }
    else leadingEnded .notFound true s.imn := by
  by_cases own : r.index + 1 = r.list.length
  · rw [startStep_own own, if_neg (not_not.2 own)]
    have frame := stepAnnounced_frame s.cfg.station (ownStep r) s
    generalize stepAnnounced s.cfg.station (ownStep r) s = x at frame ⊢
    have imn : x.imn = { s.imn with sweep := .leading (ownStep r) } := by rw [frame]; rfl
    have psq : x.psq = s.psq := by rw [frame]; rfl
    by_cases away : s.psq.seq = .active ∨ s.psq.seq = .suspended
    · rw [if_pos away, if_pos away]
      have only := isolation_onlyChain (s := { x with imn.target := some ⟨r.index, none⟩ })
        (ret := if s.psq.seq = .active then .active else .suspended) (by rw [psq]; exact away) (by rw [psq])
      have targeted : (reportTarget (enterIsolation (if s.psq.seq = .active then .active else .suspended)
          { x with imn.target := some ⟨r.index, none⟩ })).imn = { x.imn with target := some ⟨r.index, none⟩ } :=
        congrArg (·.imn) only
      rw [targeted, imn]
    · rw [if_neg away, if_neg away]
      unfold ownNotFound
      rw [takeRelease_frame, endLeading_eq]
      show leadingEnded .notFound true x.imn = _
      rw [imn]
  · rw [startStep_peer own, if_pos own, stepAnnounced_frame]
    rfl

/-- The frames of a step outrank no other frame of the sweep (R28, R39). -/
theorem startStep_keepsFrame {r : LeaderRecord} {q : Queued} (mem : q ∈ s.fli.queue)
    (kind : q.frame.body.cls = 0 ∧ q.frame.body.code ≠ 2 ∧ q.frame.body.code ≠ 4) : q ∈ (startStep r s).fli.queue := by
  obtain ⟨top, step, result⟩ := kind
  have announced (n : Nat) (l : LeaderRecord) : q ∈ (stepAnnounced n l s).fli.queue := by
    rw [stepAnnounced_frame]
    exact mem_enqueue_other mem step (.inr (top ▸ Nat.zero_le _))
  by_cases own : r.index + 1 = r.list.length
  · rw [startStep_own own]
    have frame := stepAnnounced_frame s.cfg.station (ownStep r) s
    have mem := announced s.cfg.station (ownStep r)
    generalize stepAnnounced s.cfg.station (ownStep r) s = x at frame mem ⊢
    have psq : x.psq = s.psq := by rw [frame]; rfl
    split
    next away =>
      have only := isolation_onlyChain (s := { x with imn.target := some ⟨r.index, none⟩ })
        (ret := if s.psq.seq = .active then .active else .suspended) (by rw [psq]; exact away) (by rw [psq])
      have fli : (reportTarget (enterIsolation (if s.psq.seq = .active then .active else .suspended)
          { x with imn.target := some ⟨r.index, none⟩ })).fli = x.fli := congrArg (·.fli) only
      rw [fli]
      exact mem
    next =>
      obtain ⟨-, -, fli, -⟩ := ownNotFound_ends { ownStep r with unresponsive := r.unresponsive + 1 } x
      rw [fli]
      exact mem_enqueue_other mem result (.inr (top ▸ Nat.zero_le _))
  · rw [startStep_peer own]
    exact announced _ _

/-- A sweep whose first step is under way has its outcome and the disagreement cleared (R154). -/
theorem startSweep_started (s : State) : SweepStarted s (startSweep s) := by
  have started := startStep_started (sweepRecord s) (sweepAlerted s)
  have imn := startStep_imn (sweepRecord s) (sweepAlerted s)
  have queued : QueuedOwn (.alert (BitVec.ofNat 16 (jointRf s))) s (sweepAlerted s) :=
    (enqueue_queued rfl).congr rfl rfl rfl rfl
  rw [startSweep_eq]
  have kept q := startStep_keepsFrame (q := q) (r := sweepRecord s) (s := sweepAlerted s)
  generalize startStep (sweepRecord s) (sweepAlerted s) = t at started imn kept
  refine ⟨?_, ?_, ?_, ?_⟩
  · rw [imn]
    split
    · rfl
    · split <;> rfl
  · rw [imn]
    split
    · exact fun _ => rfl
    · split
      · exact fun _ => rfl
      · exact fun leads => absurd rfl leads
  · intro online room
    obtain ⟨q, mem, frame⟩ := queued online room
    exact ⟨q, kept q mem (by rw [frame]; exact ⟨rfl, show (1 : Nat) ≠ 2 by decide, show (1 : Nat) ≠ 4 by decide⟩), frame⟩
  · unfold sweepAlerted at started
    rw [enqueue_eq] at started ⊢
    exact started

end Sys2Proof.Machine
end

section
/-! PROOF. Results judged into an evaluation, interference, and the measurer's frames (R142 to R144, R148). -/

namespace Sys2Proof.Machine

variable {s t : State}

/-! ## Evaluations (R143) -/

/-- One result into an evaluation (R143). -/
theorem judge_judged (cfg : Settings) (r : Nat) (e : Evaluation) : Judged cfg r e (judge cfg r e) := by
  refine ⟨rfl, rfl, ?_⟩
  have fresh : e.state.getD .ok = .ok ↔ e.state = none ∨ e.state = some .ok := by
    cases e.state <;> simp
  unfold judge
  simp only [fresh]

/-- A change of the state marks the open session where it is one to WARN or ALARM (R143). -/
def changeMarked (old new : Evaluation) (s : State) : State :=
  if old.state.getD .ok = new.state.getD .ok then s
  else onlyIf (new.state.getD .ok != .ok) (markSession fun f => { f with insulation := true }) s

/-- A change of the state raises INSULATION and may mark the open session (R143). -/
theorem noteChange_frame (old new : Evaluation) (s : State) :
    noteChange old new s = { s with
      mtr := (changeMarked old new s).mtr, cpt.events := (noteChange old new s).cpt.events } := by
  unfold noteChange changeMarked
  dsimp only
  split
  · rfl
  · cases new.state.getD .ok != .ok <;> rfl

theorem changeMarked_mtr (old new : Evaluation) (s : State) :
    (changeMarked old new s).mtr.table = s.mtr.table ∧
      (changeMarked old new s).mtr.session.map (·.running) = s.mtr.session.map (·.running) := by
  unfold changeMarked
  split
  · exact ⟨rfl, rfl⟩
  · cases new.state.getD .ok != .ok with
    | false => exact ⟨rfl, rfl⟩
    | true =>
      refine ⟨rfl, ?_⟩
      show (s.mtr.session.map _).map _ = _
      rw [Option.map_map]
      rfl

theorem noteChange_raised {old new : Evaluation} (change : old.state.getD .ok ≠ new.state.getD .ok) :
    .insulation ∈ (noteChange old new s).cpt.events := by
  unfold noteChange
  dsimp only
  rw [if_neg change]
  exact raised_mem ..

/-- The hold after a network state has been judged (R167). -/
abbrev judgedHold (m : Imn) (e : Evaluation) : Bool :=
  m.hold && !(e.state == some .ok && m.net.state != some .ok)

theorem judgeNet_frame (r : Nat) (s : State) :
    judgeNet r s = { s with
      imn := { s.imn with net := judge s.cfg r s.imn.net, hold := judgedHold s.imn (judge s.cfg r s.imn.net) }
      mtr := (changeMarked s.imn.net (judge s.cfg r s.imn.net) s).mtr
      cpt.events := (judgeNet r s).cpt.events } := by
  unfold judgeNet
  dsimp only
  rw [noteChange_frame]
  unfold changeMarked
  split
  · rfl
  · cases (judge s.cfg r s.imn.net).state.getD .ok != .ok <;> rfl

theorem judgeNet_raised (r : Nat) (s : State) : ChangeRaised s.imn.net (judge s.cfg r s.imn.net) (judgeNet r s) :=
  fun change => noteChange_raised change

theorem endUnmonitored_frame (s : State) :
    endUnmonitored s = { s with
      imn := { s.imn with unmonitored := false, unmonTimer := false }
      cpt.events := (endUnmonitored s).cpt.events } := by
  unfold endUnmonitored
  cases s.imn.unmonitored <;> rfl

theorem endUnmonitored_raised (holds : s.imn.unmonitored = true) : .insulation ∈ (endUnmonitored s).cpt.events := by
  unfold endUnmonitored
  rw [holds]
  exact raised_mem ..

/-! ## Interference (R148, R164) -/

theorem mem_of_mem_enqueueFrame {f : Frame} {x : Queued} {qs : List Queued} (mem : x ∈ enqueueFrame f qs) :
    x = ⟨f, false⟩ ∨ x ∈ qs := by
  unfold enqueueFrame at mem
  dsimp only at mem
  split at mem
  · obtain ⟨y, my, rfl⟩ := List.mem_map.1 mem
    split
    · exact .inl rfl
    · exact .inr my
  · split at mem
    · exact (mem_joinClass ..).1 mem
    · split at mem
      · exact ((mem_joinClass ..).1 mem).imp id List.mem_of_mem_dropLast
      · exact .inr mem

theorem mem_of_mem_enqueue {b : FrameBody} {x : Queued} (mem : x ∈ (enqueue b s).fli.queue) :
    x.frame.body = b ∨ x ∈ s.fli.queue := by
  unfold enqueue at mem
  split at mem
  · obtain rfl | old := mem_of_mem_enqueueFrame mem
    · exact .inl rfl
    · exact .inr old
  · exact .inr mem

/-- The measurer's frames are gone with the role (R147). -/
theorem droppedRole_queue (s : State) : ∀ q ∈ (droppedRole s).fli.queue, q.frame.body.isMeasure = false := by
  intro q mem
  simpa using (List.mem_filter.1 mem).2

/-- A measurer that drops its role queues none of its frames any more, and abandons a sweep it leads (R147, R164). -/
theorem interference_interfered (measurer : s.imn.mode = .measurer) : Interfered s (interference s) := by
  have dropped : yieldRole s = abandonSweep (droppedRole s) := by rw [yieldRole_eq, if_pos measurer]
  unfold interference
  rw [dropped]
  cases sweep : s.imn.sweep with
  | leading r =>
    rw [abandonSweep_leading (s := droppedRole s) (r := r) sweep, endLeading_eq]
    refine ⟨rfl, rfl, rfl, rfl, rfl, rfl, rfl, raised_mem .., ?_, rfl, rfl, rfl, rfl, rfl, ?_⟩
    · intro q mem
      obtain own | old := mem_of_mem_enqueue (b := endingFrame r .abandoned) (s := droppedRole s) mem
      · rw [own]
        rfl
      · exact droppedRole_queue s q old
    · rw [sweep]
      refine ⟨⟨rfl, rfl, rfl, mem_raiseEvent _ (raised_mem ..)⟩, rfl, rfl, rfl⟩
  | none =>
    rw [abandonSweep_other (s := droppedRole s) fun r leads => by cases sweep.symm.trans leads]
    refine ⟨rfl, rfl, rfl, rfl, rfl, rfl, rfl, raised_mem .., droppedRole_queue s, rfl, rfl, rfl, rfl, rfl, ?_⟩
    rw [sweep]
    exact ⟨sweep, rfl⟩
  | following l x =>
    rw [abandonSweep_other (s := droppedRole s) fun r leads => by cases sweep.symm.trans leads]
    refine ⟨rfl, rfl, rfl, rfl, rfl, rfl, rfl, raised_mem .., droppedRole_queue s, rfl, rfl, rfl, rfl, rfl, ?_⟩
    rw [sweep]
    exact ⟨sweep, rfl⟩

end Sys2Proof.Machine
end

section
/-! PROOF. The measurer's frames, the measuring role and the clearing (R142, R144, R146, R148, R150, R154). -/

namespace Sys2Proof.Machine

variable {s t : State}

/-! ## What a sweep's start reads (R154) -/

/-- The start of a sweep reads the table, the station, the queue, the sequencer and the latest JOINT result. -/
theorem SweepStarted.congr {s' : State} (h : SweepStarted s t) (joint : s'.imn.jointResult = s.imn.jointResult)
    (hold : s'.imn.hold = s.imn.hold) (peers : s'.shu.peers = s.shu.peers)
    (copy : s'.shu.identCopy = s.shu.identCopy) (cfg : s'.cfg = s.cfg) (psq : s'.psq = s.psq)
    (fli : s'.fli = s.fli) : SweepStarted s' t := by
  have same e : sameFeeder s' e = sameFeeder s e := by
    unfold sameFeeder
    rw [copy]
  unfold SweepStarted at h ⊢
  rw [enqueue_eq] at h ⊢
  unfold queueWith frameOf StepStarted SweepEnded QueuedOwn QueuedRoom Isolating heldFeeder at h ⊢
  simp only [same, joint, peers, cfg, psq, fli, hold]
  exact h

theorem startSweep_imn (s : State) : (startSweep s).imn = { s.imn with
    sweep := (startSweep s).imn.sweep, target := (startSweep s).imn.target, hold := (startSweep s).imn.hold
    pendingRelease := (startSweep s).imn.pendingRelease, outcome := (startSweep s).imn.outcome, disagreement := false } := by
  rw [startSweep_eq]
  have imn := startStep_imn (sweepRecord s) (sweepAlerted s)
  generalize startStep (sweepRecord s) (sweepAlerted s) = t at imn ⊢
  have alerted : (sweepAlerted s).imn = { s.imn with outcome := .none, disagreement := false } := rfl
  rw [imn, alerted]
  split
  · rfl
  · split <;> rfl

/-- R154's conditions. -/
theorem sweepReady_iff : sweepReady s = true ↔
    s.imn.sweep = .none ∧ s.imn.mode = .measurer ∧ s.imn.hold = false ∧ s.imn.net.state = some .alarm := by
  unfold sweepReady
  simp [and_assoc]

theorem checkSweepStart_ready (ready : sweepReady s = true) : checkSweepStart s = startSweep s := by
  unfold checkSweepStart
  rw [ready]
  rfl

theorem checkSweepStart_unready (unready : sweepReady s ≠ true) : checkSweepStart s = s := by
  unfold checkSweepStart
  rw [eq_false_of_ne_true unready]
  rfl

/-! ## The measurer's frames (O43) -/

theorem mem_endUnmonitored {e : EventKind} (mem : e ∈ s.cpt.events) : e ∈ (endUnmonitored s).cpt.events :=
  endUnmonitored_events s mem

/-- A MEASURE_RESULT in JOINT-passive is the JOINT result, judged, and restarts the timer (R142, R144, R167). -/
theorem takeMeasureResult_passive (rf : Nat) (estimate : Bool) (passive : s.imn.mode = .passive) :
    ∀ t, t = takeMeasureResult rf estimate s →
      t.imn = { s.imn with
        measurerHeard := true, jointResult := some ⟨rf, estimate, none, none⟩
        net := judge s.cfg rf s.imn.net, unmonitored := false, unmonTimer := true
        hold := judgedHold s.imn (judge s.cfg rf s.imn.net) } ∧
      ChangeRaised s.imn.net (judge s.cfg rf s.imn.net) t ∧
      (s.imn.unmonitored = true → .insulation ∈ t.cpt.events) ∧
      t = { s with imn := t.imn, mtr := t.mtr, cpt := t.cpt } ∧
      t.mtr.table = s.mtr.table ∧ t.mtr.session.map (·.running) = s.mtr.session.map (·.running) := by
  intro t is
  have frame := judgeNet_frame rf { hearMeasurer s with imn.jointResult := some ⟨rf, estimate, none, none⟩ }
  have raised := judgeNet_raised rf { hearMeasurer s with imn.jointResult := some ⟨rf, estimate, none, none⟩ }
  have table := changeMarked_mtr s.imn.net (judge s.cfg rf s.imn.net)
    { hearMeasurer s with imn.jointResult := some ⟨rf, estimate, none, none⟩ }
  have taken : t = { endUnmonitored (judgeNet rf { hearMeasurer s with imn.jointResult := some ⟨rf, estimate, none, none⟩ }) with
      imn.unmonTimer := true } := is.trans (if_pos passive)
  generalize judgeNet rf _ = u at frame raised taken
  have ended := endUnmonitored_frame u
  have told := endUnmonitored_raised (s := u)
  have kept := mem_endUnmonitored (s := u) (e := .insulation)
  generalize endUnmonitored u = v at taken ended told kept
  have imn : u.imn = { s.imn with
      measurerHeard := true, jointResult := some ⟨rf, estimate, none, none⟩, net := judge s.cfg rf s.imn.net
      hold := judgedHold s.imn (judge s.cfg rf s.imn.net) } := by rw [frame]; rfl
  have mtr : t.mtr = (changeMarked s.imn.net (judge s.cfg rf s.imn.net)
      { hearMeasurer s with imn.jointResult := some ⟨rf, estimate, none, none⟩ }).mtr := by rw [taken, ended, frame]; rfl
  have cpt : t.cpt = v.cpt := by rw [taken]
  refine ⟨?_, fun change => ?_, fun held => ?_, ?_, ?_⟩
  · rw [taken, ended, imn]
  · rw [cpt]
    exact kept (raised change)
  · rw [cpt]
    exact told (by rw [imn]; exact held)
  · rw [taken, ended, frame]
    rfl
  · rw [mtr]
    exact table

/-- Settles O43: a measurer's frame is interference, a result, or only heard. -/
theorem measurerFramesAreTaken : Obligations.MeasurerFramesAreTaken := by
  unfold Obligations.MeasurerFramesAreTaken
  intro s n id p h g r
  refine ⟨fun ready => ?_, fun ready => ?_, fun run => whenRunning_running run⟩
  · have row : exec (.measureStartReceived n id p h) s = .next (takeMeasureStart (Acked s)) :=
      (whenRunning_running ready.1).trans (congrArg _ (receive_delivered ready))
    rw [row]
    have injects : (s.imn.mode = .measurer ∧ s.imn.cycle.isSome = true) ↔ s.imn.mode = .measurer ∧ s.imn.cycle ≠ none := by
      rw [Option.isSome_iff_ne_none]
    split
    next both =>
      refine ⟨_, rfl, ?_⟩
      have taken : takeMeasureStart (Acked s) = interference (hearMeasurer (Acked s)) := if_pos (injects.2 both)
      rw [taken]
      have dropped := interference_interfered (s := hearMeasurer (Acked s)) both.1
      have heard : (interference (hearMeasurer (Acked s))).imn.measurerHeard = true := (yieldRole_leaves _).2
      generalize interference _ = t at dropped heard
      exact ⟨dropped, heard⟩
    next not =>
      have heard : takeMeasureStart (Acked s) = hearMeasurer (Acked s) := if_neg fun both => not (injects.1 both)
      rw [heard]
      rfl
  · have row : exec (.measureResultReceived n id r g) s = .next (takeMeasureResult r.toNat (g.getLsbD 0) (Acked s)) :=
      (whenRunning_running ready.1).trans (congrArg _ (receive_delivered ready))
    rw [row]
    split
    next passive =>
      obtain ⟨imn, raised, told, frame, table, running⟩ :=
        takeMeasureResult_passive (s := Acked s) r.toNat (g.getLsbD 0) passive _ rfl
      generalize takeMeasureResult r.toNat (g.getLsbD 0) (Acked s) = t at *
      have net : t.imn.net = judge s.cfg r.toNat s.imn.net := by rw [imn]
      refine ⟨t, rfl, ?_, ?_, ?_, told, ?_, ?_, table, running⟩
      · rw [imn]
      · rw [net]
        exact judge_judged _ _ _
      · rw [net]
        exact raised
      · rw [frame]
      · rw [frame]
    next other =>
      have heard : takeMeasureResult r.toNat (g.getLsbD 0) (Acked s) = hearMeasurer (Acked s) := if_neg other
      rw [heard]
      rfl

/-! ## The role and the clearing (O44) -/

/-- The role is held with a fresh cycle, before R154's check (R146). -/
abbrev roleTaken (m : Imn) : Imn :=
  { m with
    mode := .measurer, clearCount := 0, resultInRole := false, unmonitored := false, unmonTimer := false
    cycle := some .fresh, coupling := true }

theorem startCycle_frame (s : State) : startCycle s = { s with imn.cycle := some .fresh, imn.coupling := true } := rfl

/-- The role's taking, before R154's check. -/
theorem takeRole_eq (s : State) : takeRole s =
    checkSweepStart { s with imn := roleTaken s.imn, cpt := (endUnmonitored s).cpt } := by
  unfold takeRole
  rw [startCycle_frame, endUnmonitored_frame]
  unfold endUnmonitored
  cases s.imn.unmonitored <;> rfl


theorem mem_startSweep {e : EventKind} (mem : e ∈ s.cpt.events) : e ∈ (startSweep s).cpt.events :=
  startSweep_events s mem

theorem ownEligible_passive (passive : s.imn.mode = .passive) :
    (ownEligible s = true ∧ ¬ lowerEligible s = true) ↔ s.fli.line = .online ∧ lowerEligible s = false := by
  unfold ownEligible
  simp [passive]

/-- A role that is taken stands with a fresh cycle, and a network in ALARM starts a sweep (R146, R154). -/
theorem takeRole_taken (s : State) : ∀ t, t = takeRole s →
    t.imn.mode = .measurer ∧ t.imn.cycle = some ⟨.awaiting, 0, 0, none, none, false⟩ ∧
    t.imn.coupling = true ∧ t.imn.resultInRole = false ∧ t.imn.clearCount = 0 ∧
    t.imn.unmonitored = false ∧ t.imn.unmonTimer = false ∧
    (s.imn.unmonitored = true → .insulation ∈ t.cpt.events) ∧
    (if s.imn.net.state = some .alarm ∧ s.imn.hold = false ∧ s.imn.sweep = .none then SweepStarted s t
     else t.imn.sweep = s.imn.sweep ∧ t.fli = s.fli ∧ t.psq = s.psq) ∧ t.mst = s.mst ∧ t.cfg = s.cfg := by
  intro t is
  rw [takeRole_eq] at is
  have told : s.imn.unmonitored = true → .insulation ∈ (endUnmonitored s).cpt.events := endUnmonitored_raised
  generalize (endUnmonitored s).cpt = c at is told
  have ready : sweepReady { s with imn := roleTaken s.imn, cpt := c } = true ↔
      s.imn.net.state = some .alarm ∧ s.imn.hold = false ∧ s.imn.sweep = .none := by
    rw [sweepReady_iff]
    exact ⟨fun ⟨free, _, open', alarm⟩ => ⟨alarm, open', free⟩, fun ⟨alarm, open', free⟩ => ⟨free, rfl, open', alarm⟩⟩
  by_cases starts : s.imn.net.state = some .alarm ∧ s.imn.hold = false ∧ s.imn.sweep = .none
  · rw [checkSweepStart_ready (ready.2 starts)] at is
    have started := startSweep_started { s with imn := roleTaken s.imn, cpt := c }
    have imn := startSweep_imn { s with imn := roleTaken s.imn, cpt := c }
    have kept := mem_startSweep (s := { s with imn := roleTaken s.imn, cpt := c }) (e := .insulation)
    obtain ⟨-, cfg, -, -, mst, -⟩ := startSweep_keeps { s with imn := roleTaken s.imn, cpt := c }
    rw [← is] at started imn kept cfg mst
    rw [if_pos starts, imn]
    exact ⟨rfl, rfl, rfl, rfl, rfl, rfl, rfl, fun held => kept (told held),
      started.congr rfl rfl rfl rfl rfl rfl rfl, mst, cfg⟩
  · rw [checkSweepStart_unready fun r => starts (ready.1 r)] at is
    rw [if_neg starts, is]
    exact ⟨rfl, rfl, rfl, rfl, rfl, rfl, rfl, told, ⟨rfl, rfl, rfl⟩, rfl, rfl⟩

theorem setIsolate_htr (b : Bool) (s : State) : (setIsolate b s).htr.isolateReq = b := by
  unfold setIsolate
  split
  next same => exact same.symm
  next =>
    rw [selectHeater_htr]
    rfl

theorem startClearing_eq (s : State) : startClearing s =
    startCycle (onlyIf s.imn.heaterIsolated (setIsolate false) { s with imn.clearing := true }) := rfl

/-- Settles O44: the role is taken or counted anew, and a clearing starts a cycle. -/
theorem roleAndClearingStartACycle : Obligations.RoleAndClearingStartACycle := by
  unfold Obligations.RoleAndClearingStartACycle
  intro s run
  have take : exec .measuringRoleTake s = .next (measuringRoleTake s) := whenRunning_running run
  have clear : exec .clearInsulation s = .next (clearInsulation s) := whenRunning_running run
  rw [take, clear]
  have due : roleDue s = true ↔ s.imn.mode = .passive ∧ 3 ≤ s.imn.clearCount := by
    unfold roleDue
    simp
  refine ⟨?_, ?_⟩
  · unfold measuringRoleTake
    split
    next ready =>
      rw [if_pos (due.2 ready)]
      split
      next eligible =>
        rw [if_pos ((ownEligible_passive ready.1).2 eligible)]
        exact ⟨_, rfl, takeRole_taken s _ rfl⟩
      next not =>
        rw [if_neg fun both => not ((ownEligible_passive ready.1).1 both)]
    next not => rw [if_neg fun both => not (due.1 both)]
  · unfold clearInsulation
    split
    next => rfl
    next =>
      split
      next => rfl
      next =>
        have idle : (¬ s.imn.ownFault = true ∧ ¬ s.imn.heaterIsolated = true) ↔
            s.imn.ownFault = false ∧ s.imn.heaterIsolated = false := by simp
        split
        next clean => rw [if_pos (idle.2 clean)]
        next latched =>
          rw [if_neg fun both => latched (idle.1 both)]
          refine ⟨_, rfl, ?_⟩
          cases isolated : s.imn.heaterIsolated with
          | false =>
            have started : startClearing s = startCycle { s with imn.clearing := true } := by
              rw [startClearing_eq, isolated, onlyIf_false]
            rw [started]
            exact ⟨rfl, rfl, nofun, fun _ => rfl, rfl, rfl, rfl, rfl, rfl⟩
          | true =>
            have started : startClearing s = startCycle (setIsolate false { s with imn.clearing := true }) := by
              rw [startClearing_eq, isolated, onlyIf_true]
            have request := setIsolate_htr false { s with imn.clearing := true }
            obtain ⟨-, cfg, psq, fli, -, imn, mtr, mst, -⟩ := setIsolate_keeps false { s with imn.clearing := true }
            rw [started]
            generalize setIsolate false { s with imn.clearing := true } = u at *
            have isImn : u.imn = { s.imn with clearing := true } := imn
            refine ⟨?_, rfl, fun _ => request, nofun, psq, mtr, mst, fli, cfg⟩
            show { u.imn with cycle := some .fresh, coupling := true } = _
            rw [isImn]
            rfl

end Sys2Proof.Machine
end

section
/-! PROOF. The leader steps through its list (R156, R157, R162). -/

namespace Sys2Proof.Machine

variable {s t : State}

theorem nextStep_eq (r : LeaderRecord) (s : State) : nextStep r s = startStep { r with index := r.index + 1 } s := rfl

/-- What the leader does next leaves the counts, the store, the settings and the measurements (R156). -/
theorem startStep_others (r : LeaderRecord) (s : State) :
    (startStep r s).mtr = s.mtr ∧ (startStep r s).mst = s.mst ∧ (startStep r s).cfg = s.cfg ∧
      (startStep r s).msq = s.msq := by
  obtain ⟨-, cfg, msq, mtr, mst, -⟩ := startStep_keeps r s
  exact ⟨mtr, mst, cfg, msq⟩

/-- A leader takes the answer of its step's target alone (R156). -/
theorem takeSweepAnswer_leading {r : LeaderRecord} (leads : s.imn.sweep = .leading r) (n c : Nat) :
    takeSweepAnswer n c s =
      if r.phase = .awaitingAnswer ∧ r.list.getD r.index 0 = n then
        if c = 2 then startStep { r with index := r.index + 1, answerTimer := false, unresponsive := r.unresponsive + 1 } s
        else startCycle { s with imn.sweep := .leading { r with phase := .measuring, answerTimer := false, cycleTimer := true } }
      else s := by
  unfold takeSweepAnswer
  rw [leads]
  rfl

theorem takeSweepAnswer_other (other : ∀ r, s.imn.sweep ≠ .leading r) (n c : Nat) : takeSweepAnswer n c s = s := by
  unfold takeSweepAnswer
  split
  next r leads => exact absurd leads (other r)
  next => rfl

theorem sweepAnswerTimeout_leading {r : LeaderRecord} (leads : s.imn.sweep = .leading r) :
    sweepAnswerTimeout s =
      if r.answerTimer = true then
        startStep { r with index := r.index + 1, answerTimer := false, unresponsive := r.unresponsive + 1 } s
      else s := by
  unfold sweepAnswerTimeout
  rw [leads]
  rfl

theorem sweepCycleTimeout_leading {r : LeaderRecord} (leads : s.imn.sweep = .leading r) :
    sweepCycleTimeout s =
      if r.cycleTimer = true then
        if r.phase = .ownStep then ownNotFound r s else startStep { r with index := r.index + 1, cycleTimer := false } s
      else s := by
  unfold sweepCycleTimeout
  rw [leads]
  rfl

theorem leaderTimeouts_other (other : ∀ r, s.imn.sweep ≠ .leading r) :
    sweepAnswerTimeout s = s ∧ sweepCycleTimeout s = s := by
  unfold sweepAnswerTimeout sweepCycleTimeout
  cases sweep : s.imn.sweep with
  | leading r => exact absurd sweep (other r)
  | _ => exact ⟨rfl, rfl⟩

/-- The own step that ends NOT_FOUND with its release, as its frame reports (R157, R162). -/
theorem ownNotFound_leaves (r : LeaderRecord) (s : State) :
    (SweepEnded .notFound true s (ownNotFound r s) ∧ NoTarget (ownNotFound r s) ∧
      QueuedOwn (.sweepResult 2 0 (BitVec.ofNat 8 r.unresponsive)) s (ownNotFound r s) ∧
      (s.psq.seq = .sweepIsolated .isoWait →
        (ownNotFound r s).psq.seq = .sweepIsolated .isoRejoin ∧ (ownNotFound r s).psq.prechargeCmd = true ∧
          (ownNotFound r s).psq.prechargeTimer = true)) ∧
    (ownNotFound r s).mtr = s.mtr ∧ (ownNotFound r s).mst = s.mst ∧ (ownNotFound r s).cfg = s.cfg ∧
      (ownNotFound r s).msq = s.msq := by
  obtain ⟨ended, none, fli, psq⟩ := ownNotFound_ends r s
  obtain ⟨-, cfg, -, -, msq, -, mtr, mst, -⟩ := ownNotFound_keeps r s
  refine ⟨⟨ended, none, ?_, fun waits => ?_⟩, mtr, mst, cfg, msq⟩
  · exact (enqueue_queued (b := endingFrame r .notFound) rfl).congr rfl rfl rfl (by rw [fli])
  · rw [psq, if_pos waits]
    exact ⟨rfl, rfl, rfl⟩

/-- Settles O47: an answer and the two timers move the leader through its list. -/
theorem leaderStepsThroughItsList : Obligations.LeaderStepsThroughItsList := by
  unfold Obligations.LeaderStepsThroughItsList
  intro s n id x c settled regulated
  have answer (ready : Delivered ⟨n, id, .sweepAnswer x c⟩ s) :
      exec (.sweepAnswerReceived n id x c) s = .next (takeSweepAnswer n.toNat c.toNat (Acked s)) :=
    (whenRunning_running ready.1).trans (congrArg _ (receive_delivered ready))
  have answerRow (run : s.power = .running) : exec .sweepAnswerTimeout s = .next (sweepAnswerTimeout s) :=
    whenRunning_running run
  have cycleRow (run : s.power = .running) : exec .sweepCycleTimeout s = .next (sweepCycleTimeout s) :=
    whenRunning_running run
  have refused : c.toNat = 2 ↔ c = 2 := BitVec.toNat_inj (y := 2)
  have others : (∀ r, s.imn.sweep ≠ .leading r) →
      (Delivered ⟨n, id, .sweepAnswer x c⟩ s → exec (.sweepAnswerReceived n id x c) s = .next (Acked s)) ∧
      (s.power = .running → exec .sweepAnswerTimeout s = .next s ∧ exec .sweepCycleTimeout s = .next s) := by
    intro other
    refine ⟨fun ready => ?_, fun run => ?_⟩
    · rw [answer ready, takeSweepAnswer_other (s := Acked s) other]
    · rw [answerRow run, cycleRow run, (leaderTimeouts_other other).1, (leaderTimeouts_other other).2]
      exact ⟨rfl, rfl⟩
  cases sweep : s.imn.sweep with
  | none => exact others fun r leads => nomatch sweep.symm.trans leads
  | following l b => exact others fun r leads => nomatch sweep.symm.trans leads
  | leading r =>
    refine ⟨fun ready => ?_, fun run => ⟨?_, ?_⟩⟩
    · rw [answer ready, takeSweepAnswer_leading (s := Acked s) sweep]
      split
      next own =>
        by_cases refuses : c = 2
        · rw [if_pos refuses, if_pos (refused.2 refuses)]
          exact ⟨_, rfl, startStep_started _ (Acked s), startStep_others _ (Acked s)⟩
        · rw [if_neg refuses, if_neg fun h => refuses (refused.1 h)]
          rfl
      next => rfl
    · rw [answerRow run, sweepAnswerTimeout_leading sweep]
      cases timer : r.answerTimer with
      | false => rfl
      | true => exact ⟨_, rfl, startStep_started _ s, startStep_others _ s⟩
    · rw [cycleRow run, sweepCycleTimeout_leading sweep]
      cases timer : r.cycleTimer with
      | false => rfl
      | true =>
        rw [if_neg (by simp), if_pos rfl]
        by_cases own : r.phase = .ownStep
        · rw [if_pos own]
          refine ⟨_, rfl, ?_⟩
          dsimp only
          rw [if_pos own]
          exact ownNotFound_leaves r s
        · rw [if_neg own]
          refine ⟨_, rfl, ?_⟩
          dsimp only
          rw [if_neg own]
          exact ⟨startStep_started _ s, startStep_others _ s⟩

end Sys2Proof.Machine
end

section
/-! PROOF. A leader's ALERT and SWEEP_STEP at a follower (R155, R158). -/

namespace Sys2Proof.Machine

variable {s t : State}

/-! ## The release of a target (R158) -/

theorem releaseTarget_none (none : s.imn.target = none) : releaseTarget s = s := by
  unfold releaseTarget
  rw [none]

/-- A target released: its record and its report are gone (R158). -/
abbrev targetForgotten (s : State) : State := { s with imn.target := none, shu.sweepTarget := false }

theorem releaseTarget_some (target : s.imn.target ≠ none) : releaseTarget s =
    if s.psq.seq = .sweepIsolated .isoWait then takeRelease (targetForgotten s)
    else if s.psq.seq = .sweepIsolated .isoRamp ∨ s.psq.seq = .sweepIsolated .isoOpen then
      { targetForgotten s with imn.pendingRelease := true }
    else targetForgotten s := by
  obtain ⟨g, held⟩ := Option.ne_none_iff_exists'.1 target
  unfold releaseTarget
  rw [held]
  dsimp only
  cases s.psq.seq with
  | sweepIsolated p => cases p <;> rfl
  | _ => rfl

/-- What the release of a target writes. -/
theorem releaseTarget_frame (s : State) : releaseTarget s = { s with
    psq := (releaseTarget s).psq
    imn := { s.imn with target := none, pendingRelease := (releaseTarget s).imn.pendingRelease }
    shu.sweepTarget := (releaseTarget s).shu.sweepTarget
    cpt.events := (releaseTarget s).cpt.events } := by
  by_cases none : s.imn.target = none
  · rw [releaseTarget_none none, ← none]
  · rw [releaseTarget_some none]
    split
    · rw [takeRelease_frame]
    · split <;> rfl

theorem mem_releaseTarget {e : EventKind} (mem : e ∈ s.cpt.events) : e ∈ (releaseTarget s).cpt.events :=
  releaseTarget_events s mem

/-- A released target is none any more, and a sequencer that waits is released with it (R23, R158). -/
theorem releaseTarget_released (s : State) : Released s (releaseTarget s) := by
  by_cases none : s.imn.target = none
  · rw [releaseTarget_none none]
    refine ⟨none, ?_⟩
    rw [if_pos none]
    exact ⟨rfl, rfl⟩
  · have frame := releaseTarget_frame s
    have release := releaseTarget_some none
    refine ⟨by rw [frame], ?_⟩
    rw [if_neg none]
    cases seq : s.psq.seq with
    | sweepIsolated p =>
      cases p with
      | isoWait =>
        have waits : (targetForgotten s).psq.seq = .sweepIsolated .isoWait := seq
        rw [if_pos seq] at release
        rw [release]
        refine ⟨?_, ?_, ?_⟩
        · rw [takeRelease_frame]
        · rw [takeRelease_psq, if_pos waits]
        · unfold takeRelease
          rw [if_pos waits]
          exact raised_mem ..
      | isoRejoin =>
        rw [seq] at release
        rw [release]
        exact ⟨rfl, rfl, rfl⟩
      | _ =>
        rw [seq] at release
        rw [release]
        exact ⟨rfl, rfl, rfl⟩
    | _ =>
      rw [seq] at release
      rw [release]
      exact ⟨rfl, rfl, rfl⟩

/-! ## A step served (R158) -/

/-- What a SWEEP_STEP of the leader followed does, to the index `i` of the station `x` (R158). -/
abbrev StepServed (x i : Nat) (s t : State) : Prop :=
  if x ≠ s.cfg.station then Released s t
  else if s.imn.target.map (·.index) = some i then t.psq = s.psq ∧ t.imn.target = s.imn.target
  else if s.psq.seq = .active ∨ s.psq.seq = .suspended then Isolating i s t
  else
    t.psq = s.psq ∧ t.fli.line = s.fli.line ∧
    if s.imn.contactorClosed = true ∨ s.psq.seq = .precharge ∨ s.psq.seq = .sweepIsolated .isoRejoin then
      t.imn.target = s.imn.target ∧ QueuedOwn (.sweepAnswer (BitVec.ofNat 8 s.cfg.station) 2) s t
    else
      t.imn.target = some ⟨i, none⟩ ∧ .sweep ∈ t.cpt.events ∧
        QueuedOwn (.sweepAnswer (BitVec.ofNat 8 s.cfg.station) 3) s t

theorem energizes_iff {q : SeqState} : q.energizes = true ↔ q = .precharge ∨ q = .sweepIsolated .isoRejoin := by
  unfold SeqState.energizes
  split <;> simp_all

/-- A step named to this station makes it the target, but for the index it serves already (R158). -/
theorem becomeTarget_eq (i : Nat) (s : State) : becomeTarget i s =
    if s.imn.target.map (·.index) = some i then s
    else if s.psq.seq = .active ∨ s.psq.seq = .suspended then
      raiseEvent .sweep (reportTarget (enterIsolation (if s.psq.seq = .active then .active else .suspended)
        { s with imn.target := some ⟨i, none⟩ }))
    else if s.imn.contactorClosed = true ∨ s.psq.seq = .precharge ∨ s.psq.seq = .sweepIsolated .isoRejoin then
      answerSweep 2 s
    else answerSweep 3 (raiseEvent .sweep { s with imn.target := some ⟨i, none⟩ }) := by
  unfold becomeTarget
  rw [returnStateOf_eq]
  simp only [energizes_iff]
  split
  · rfl
  · split
    next h =>
      split at h
      next away => rw [if_pos away, ← Option.some.inj h]
      next => cases h
    next h =>
      split at h
      next => cases h
      next home => rw [if_neg home]

/-- The station served a step, and what it leaves of the rest of the part (R158). -/
abbrev StepKept (s t : State) : Prop :=
  t.cfg = s.cfg ∧ t.msq = s.msq ∧ t.mtr = s.mtr ∧ t.mst = s.mst ∧
  t.imn = { s.imn with target := t.imn.target, pendingRelease := t.imn.pendingRelease } ∧
  ∀ e ∈ s.cpt.events, e ∈ t.cpt.events

theorem serveStep_served (x i : Nat) (s : State) : StepServed x i s (serveStep x i s) ∧ StepKept s (serveStep x i s) := by
  unfold serveStep
  by_cases own : x = s.cfg.station
  · rw [if_pos own, becomeTarget_eq]
    unfold StepServed
    rw [if_neg (not_not.2 own)]
    split
    · exact ⟨⟨rfl, rfl⟩, rfl, rfl, rfl, rfl, rfl, fun _ mem => mem⟩
    · split
      next away =>
        have only := isolation_onlyChain (s := { s with imn.target := some ⟨i, none⟩ })
          (ret := if s.psq.seq = .active then .active else .suspended) away rfl
        generalize reportTarget _ = u at only ⊢
        have cpt : u.cpt = (raiseEvent .seqState s).cpt := congrArg (·.cpt) only
        refine ⟨⟨congrArg (·.imn.target) only, congrArg (·.shu.sweepTarget) only, congrArg (·.psq) only, ?_, raised_mem ..⟩,
          congrArg (·.cfg) only, congrArg (·.msq) only, congrArg (·.mtr) only, congrArg (·.mst) only, ?_, fun e mem => ?_⟩
        · refine mem_raiseEvent _ ?_
          rw [cpt]
          exact raised_mem ..
        · have imn : u.imn = { s.imn with target := some ⟨i, none⟩ } := congrArg (·.imn) only
          show u.imn = { s.imn with target := u.imn.target, pendingRelease := u.imn.pendingRelease }
          rw [imn]
        · refine mem_raiseEvent _ ?_
          rw [cpt]
          exact mem_raiseEvent _ mem
      next home =>
        split
        · unfold answerSweep
          refine ⟨⟨?_, ?_, ?_, enqueue_queued rfl⟩, ?_⟩
          all_goals rw [enqueue_eq]
          exact ⟨rfl, rfl, rfl, rfl, rfl, fun _ mem => mem⟩
        · unfold answerSweep
          have queued : QueuedOwn (.sweepAnswer (BitVec.ofNat 8 s.cfg.station) 3) s
              (enqueue (.sweepAnswer (BitVec.ofNat 8 s.cfg.station) 3) (raiseEvent .sweep { s with imn.target := some ⟨i, none⟩ })) :=
            (enqueue_queued (s := raiseEvent .sweep { s with imn.target := some ⟨i, none⟩ }) rfl).congr rfl rfl rfl rfl
          show (_ ∧ _ ∧ _ ∧ _ ∧ QueuedOwn _ s (enqueue _ _)) ∧ _
          refine ⟨⟨?_, ?_, ?_, ?_, queued⟩, ?_⟩
          · rw [enqueue_eq]
            rfl
          · rw [enqueue_eq]
            rfl
          · rw [enqueue_eq]
            rfl
          · rw [enqueue_eq]
            exact raised_mem ..
          · rw [enqueue_eq]
            exact ⟨rfl, rfl, rfl, rfl, rfl, fun _ mem => mem_raiseEvent _ mem⟩
  · rw [if_neg own]
    unfold StepServed
    rw [if_pos own]
    have frame := releaseTarget_frame s
    have kept e := mem_releaseTarget (s := s) (e := e)
    refine ⟨releaseTarget_released s, ?_⟩
    generalize releaseTarget s = t at frame kept
    exact ⟨by rw [frame], by rw [frame], by rw [frame], by rw [frame], by rw [frame], kept⟩

/-- Settles O45: a leader's frames make a follower, and a SWEEP_STEP a target. -/
theorem leaderFramesMakeATarget : Obligations.LeaderFramesMakeATarget := by
  unfold Obligations.LeaderFramesMakeATarget
  intro s n id x i r settled regulated
  have alert (ready : Delivered ⟨n, id, .alert r⟩ s) :
      exec (.alertReceived n id r) s = .next (takeAlert n.toNat (Acked s)) :=
    (whenRunning_running ready.1).trans (congrArg _ (receive_delivered ready))
  have step (ready : Delivered ⟨n, id, .sweepStep x i⟩ s) :
      exec (.sweepStepReceived n id x i) s = .next (takeSweepStep n.toNat x.toNat i.toNat (Acked s)) :=
    (whenRunning_running ready.1).trans (congrArg _ (receive_delivered ready))
  have from_sweep (q : SweepRole) (sweep : s.imn.sweep = q) : (Acked s).imn.sweep = q := sweep
  refine ⟨fun ready => ?_, fun ready => ?_, fun ready role => ?_⟩
  · rw [alert ready]
    unfold takeAlert
    cases sweep : s.imn.sweep with
    | none => exact ⟨_, rfl, ⟨rfl, fun _ => ⟨raised_mem .., rfl, rfl⟩⟩, rfl⟩
    | following l b => rfl
    | leading l => rfl
  · rw [step ready]
    unfold takeSweepStep
    cases sweep : s.imn.sweep with
    | none => trivial
    | following l b => exact fun other => congrArg _ (if_neg other)
    | leading l => rfl
  · rw [step ready]
    obtain sweep | following : s.imn.sweep = .none ∨ ∃ b, s.imn.sweep = .following n.toNat b := by
      obtain none | on | off := role
      exacts [.inl none, .inr ⟨_, on⟩, .inr ⟨_, off⟩]
    · have taken : takeSweepStep n.toNat x.toNat i.toNat (Acked s) = serveStep x.toNat i.toNat (follow n.toNat (Acked s)) := by
        unfold takeSweepStep
        rw [from_sweep _ sweep]
      rw [taken]
      obtain ⟨served, cfg, msq, mtr, mst, imn, events⟩ := serveStep_served x.toNat i.toNat (follow n.toNat (Acked s))
      generalize serveStep _ _ _ = t at *
      refine ⟨t, rfl, ⟨?_, fun _ => ⟨events _ (raised_mem ..), ?_, ?_⟩⟩, cfg, msq, mtr, mst, ?_, ?_, served⟩
      all_goals rw [imn]; rfl
    · obtain ⟨b, sweep⟩ := following
      have taken : takeSweepStep n.toNat x.toNat i.toNat (Acked s) =
          serveStep x.toNat i.toNat { Acked s with imn.sweep := .following n.toNat true } := by
        unfold takeSweepStep
        rw [from_sweep _ sweep]
        exact if_pos rfl
      rw [taken]
      obtain ⟨served, cfg, msq, mtr, mst, imn, events⟩ :=
        serveStep_served x.toNat i.toNat { Acked s with imn.sweep := .following n.toNat true }
      generalize serveStep _ _ _ = t at *
      refine ⟨t, rfl, ⟨?_, fun none => nomatch none.symm.trans sweep⟩, cfg, msq, mtr, mst, ?_, ?_, served⟩
      all_goals rw [imn]

end Sys2Proof.Machine
end

section
/-! PROOF. What the sequencer's operations leave of the power stages, and what the monitor's entry to LOCAL writes (R4,
R5, R138, R144, R147, R149, R164). -/

namespace Sys2Proof.Machine

variable {s t u : State}

/-! ## The rest of the part under the sequencer's operations -/

/-- The settings, the power stage, the loops, the measurements and the heater's own latches stay, but for the chain and
the heater's selection. -/
abbrev StagesKept (s t : State) : Prop :=
  t = { s with
    psq := t.psq, fli := t.fli, shu := t.shu, imn := t.imn, mtr := t.mtr, mst := t.mst, cpt.events := t.cpt.events
    crg := { s.crg with
      pAllow := t.crg.pAllow, pChgReq := t.crg.pChgReq, priority := t.crg.priority, pC := t.crg.pC, pH := t.crg.pH
      iTherm := t.crg.iTherm, iCv := t.crg.iCv, iShare := t.crg.iShare, iTarget := t.crg.iTarget
      dOwn := t.crg.dOwn, dOwnLast := t.crg.dOwnLast, setpoint := t.crg.setpoint, pHeatReq := t.crg.pHeatReq }
    htr := { s.htr with
      state := t.htr.state, relay := t.htr.relay, settleTimer := t.htr.settleTimer, pHeatReq := t.htr.pHeatReq
      isolateReq := t.htr.isolateReq, budget := t.htr.budget, source := t.htr.source, duty := t.htr.duty }
    ptu.heaterBuffer := t.ptu.heaterBuffer }

theorem StagesKept.refl (s : State) : StagesKept s s := rfl

theorem StagesKept.trans (h : StagesKept s t) (k : StagesKept t u) : StagesKept s u := by
  unfold StagesKept at *
  rw [k, h]

theorem OnlyChain.stages (h : OnlyChain s t) : StagesKept s t := by
  unfold StagesKept
  rw [h]

theorem StagesKept.onlyIf (c : Bool) {f : State → State} (h : StagesKept s (f s)) : StagesKept s (onlyIf c f s) :=
  onlyIf_ind (P := StagesKept s) c (.refl s) h

theorem StagesKept.raise (h : StagesKept s t) (k : EventKind) : StagesKept s (raiseEvent k t) := h.trans rfl

theorem setIsolate_stages (b : Bool) (s : State) : StagesKept s (setIsolate b s) := by
  unfold setIsolate
  split
  · exact .refl s
  · have only := selectHeater_onlyHeater { s with htr.isolateReq := b }
    unfold OnlyHeater OnlyChain at only
    unfold StagesKept
    rw [only]

theorem enqueue_stages (b : FrameBody) (s : State) : StagesKept s (enqueue b s) := by
  rw [enqueue_frame]

theorem endLeading_stages (r : LeaderRecord) (o : SweepOutcome) (hold : Bool) (s : State) :
    StagesKept s (endLeading r o hold s) := by
  rw [endLeading_eq]
  rfl

theorem yieldRole_stages (s : State) : StagesKept s (yieldRole s) := by
  rw [yieldRole_frame]

theorem startSelfCheck_stages (s : State) : StagesKept s (startSelfCheck s) := by
  unfold startSelfCheck
  split
  · split
    · rfl
    · exact (StagesKept.trans (t := { s with imn.selfCheck := .running 0 }) rfl (setIsolate_stages _ _)).trans rfl
  · exact .refl s

/-! ## A station at home: what it keeps while it is in LOCAL -/

/-- In LOCAL the monitor's cycle, its conditions, its latches and its self-check stay as the sweep and the target end,
and no measurer's frame is queued. -/
abbrev HomeKept (s t : State) : Prop :=
  t.imn = { s.imn with
    sweep := t.imn.sweep, target := t.imn.target, pendingRelease := t.imn.pendingRelease
    outcome := t.imn.outcome, hold := t.imn.hold } ∧
  t.htr.isolateReq = s.htr.isolateReq ∧ (∀ e ∈ s.cpt.events, e ∈ t.cpt.events) ∧
  ∀ q ∈ t.fli.queue, q.frame.body.isMeasure = true → q ∈ s.fli.queue

theorem HomeKept.refl (s : State) : HomeKept s s := ⟨rfl, rfl, fun _ mem => mem, fun _ mem _ => mem⟩

theorem HomeKept.trans (h : HomeKept s t) (k : HomeKept t u) : HomeKept s u := by
  obtain ⟨imn, req, events, frames⟩ := h
  obtain ⟨imn', req', events', frames'⟩ := k
  exact ⟨imn'.trans (by rw [imn]), req'.trans req, fun e mem => events' e (events e mem),
    fun q mem kind => frames q (frames' q mem kind) kind⟩

theorem HomeKept.mode (h : HomeKept s t) : t.imn.mode = s.imn.mode := by rw [h.1]

theorem OnlyChain.homeKept (h : OnlyChain s t) : HomeKept s t := by
  have imn : t.imn = s.imn := congrArg (·.imn) h
  have htr : t.htr.isolateReq = s.htr.isolateReq := congrArg (·.htr.isolateReq) h
  have cpt : t.cpt = s.cpt := congrArg (·.cpt) h
  have fli : t.fli = s.fli := congrArg (·.fli) h
  unfold HomeKept
  rw [imn, htr, cpt, fli]
  exact HomeKept.refl s

theorem endLeading_homeKept (r : LeaderRecord) (o : SweepOutcome) (hold : Bool) (s : State) :
    HomeKept s (endLeading r o hold s) := by
  have sent {q : Queued} (mem : q ∈ (endLeading r o hold s).fli.queue) :
      q.frame.body = endingFrame r o ∨ q ∈ s.fli.queue := by
    rw [endLeading_eq] at mem
    exact mem_of_mem_enqueue mem
  refine ⟨?_, ?_, fun e mem => endLeading_events r o hold s mem, fun q mem kind => ?_⟩
  · rw [endLeading_eq]
    rfl
  · rw [endLeading_eq]
    rfl
  · obtain own | old := sent mem
    · rw [own] at kind
      cases kind
    · exact old

/-! ## The self-check and the entry to LOCAL (R138, R144, R149) -/

theorem startSelfCheck_other (other : s.imn.selfCheck ≠ .pending) : startSelfCheck s = s := if_neg other

/-- A pending self-check is looked at (R149, log 21). -/
theorem startSelfCheck_started (pending : s.imn.selfCheck = .pending) : SelfCheckStarted s (startSelfCheck s) := by
  have started : startSelfCheck s =
      if s.imn.heaterIsolated = true ∨ ¬ heaterAvailable s = true then { s with imn.selfCheck := .idle }
      else startCycle (setIsolate true { s with imn.selfCheck := .running 0 }) := if_pos pending
  unfold SelfCheckStarted
  rw [started]
  have same : (s.imn.heaterIsolated = true ∨ ¬ heaterAvailable s = true) ↔
      (s.imn.heaterIsolated = true ∨ heaterAvailable s = false) := by simp
  by_cases ends : s.imn.heaterIsolated = true ∨ heaterAvailable s = false
  · rw [if_pos ends, if_pos (same.2 ends)]
  · rw [if_neg ends, if_neg fun h => ends (same.1 h)]
    have request := setIsolate_htr true { s with imn.selfCheck := .running 0 }
    have imn := (setIsolate_keeps true { s with imn.selfCheck := .running 0 }).2.2.2.2.2.1
    generalize setIsolate true _ = u at request imn
    refine ⟨?_, request, rfl, rfl⟩
    show u.imn.selfCheck = _
    rw [imn]

/-- Beside the self-check, its start may begin a cycle. -/
theorem startSelfCheck_imn (s : State) : (startSelfCheck s).imn = { s.imn with
    selfCheck := (startSelfCheck s).imn.selfCheck, cycle := (startSelfCheck s).imn.cycle
    coupling := (startSelfCheck s).imn.coupling } := by
  unfold startSelfCheck
  split
  · split
    · rfl
    · have imn := (setIsolate_keeps true { s with imn.selfCheck := .running 0 }).2.2.2.2.2.1
      generalize setIsolate true _ = u at imn
      show { u.imn with cycle := some .fresh, coupling := true } =
        { s.imn with selfCheck := u.imn.selfCheck, cycle := some .fresh, coupling := true }
      rw [imn]
  · rfl

/-- A cycle that is fresh stays so as the self-check starts. -/
theorem startSelfCheck_cycle (fresh : s.imn.cycle = some .fresh) (coupled : s.imn.coupling = true) :
    (startSelfCheck s).imn.cycle = some .fresh ∧ (startSelfCheck s).imn.coupling = true := by
  unfold startSelfCheck
  split
  · split
    · exact ⟨fresh, coupled⟩
    · exact ⟨rfl, rfl⟩
  · exact ⟨fresh, coupled⟩

/-- The monitor's record in LOCAL, before a pending self-check is looked at (R138, R144). -/
abbrev atHome (m : Imn) : Imn :=
  { m with
    mode := .localMode, clearCount := 0, unmonitored := false, unmonTimer := false, net := .none
    cycle := some .fresh, coupling := true }

/-- The conditions that end with the entry (R144). -/
abbrev netForgotten (s : State) : State := forgetNet (endUnmonitored { s with imn.mode := .localMode, imn.clearCount := 0 })

theorem netForgotten_frame (s : State) : startCycle (netForgotten s) =
    { s with imn := atHome s.imn, cpt.events := (netForgotten s).cpt.events } := by
  unfold netForgotten forgetNet
  rw [endUnmonitored_frame]
  unfold endUnmonitored
  dsimp only
  cases s.imn.unmonitored <;> cases s.imn.net.state == some .warn || s.imn.net.state == some .alarm <;> rfl

theorem netForgotten_raised (ends : s.imn.unmonitored = true ∨ s.imn.net.state = some .warn ∨ s.imn.net.state = some .alarm) :
    .insulation ∈ (netForgotten s).cpt.events := by
  unfold netForgotten forgetNet
  obtain held | found := ends
  · have told := endUnmonitored_raised (s := { s with imn.mode := .localMode, imn.clearCount := 0 }) held
    generalize endUnmonitored _ = u at told
    exact onlyIf_ind (P := fun x : State => .insulation ∈ x.cpt.events) (s := { u with imn.net := .none }) _ told
      (mem_raiseEvent _ told)
  · have seen : (s.imn.net.state == some .warn || s.imn.net.state == some .alarm) = true := by simpa using found
    rw [endUnmonitored_frame]
    show EventKind.insulation ∈
      (onlyIf (s.imn.net.state == some .warn || s.imn.net.state == some .alarm) (raiseEvent .insulation) _ : State).cpt.events
    rw [seen]
    exact raised_mem ..

theorem mem_netForgotten {e : EventKind} (mem : e ∈ s.cpt.events) : e ∈ (netForgotten s).cpt.events :=
  forgetNet_events _ (endUnmonitored_events _ mem)

theorem enterLocal_eq (s : State) : enterLocal s =
    startSelfCheck { s with imn := atHome s.imn, cpt.events := (netForgotten s).cpt.events } := by
  rw [← netForgotten_frame]
  rfl

theorem enterLocal_stages (s : State) : StagesKept s (enterLocal s) := by
  rw [enterLocal_eq]
  exact StagesKept.trans rfl (startSelfCheck_stages _)

theorem enterLocal_fli (s : State) : (enterLocal s).fli = s.fli := by
  rw [enterLocal_eq]
  exact (startSelfCheck_keeps _).2.2.2.1

/-- What the entry to LOCAL leaves of the monitor. -/
theorem enterLocal_imn (s : State) : (enterLocal s).imn = { atHome s.imn with selfCheck := (enterLocal s).imn.selfCheck } := by
  rw [enterLocal_eq]
  have imn := startSelfCheck_imn { s with imn := atHome s.imn, cpt.events := (netForgotten s).cpt.events }
  obtain ⟨cycle, coupling⟩ := startSelfCheck_cycle (s := { s with imn := atHome s.imn, cpt.events := (netForgotten s).cpt.events }) rfl rfl
  rw [cycle, coupling] at imn
  exact imn

theorem mem_enterLocal {e : EventKind} (mem : e ∈ s.cpt.events) : e ∈ (enterLocal s).cpt.events := enterLocal_events s mem

/-- The monitor has entered LOCAL (R138, R144, R149). -/
theorem enterLocal_entered (frames : s.imn.mode = .measurer → ∀ q ∈ s.fli.queue, q.frame.body.isMeasure = false) :
    EnteredLocal s (enterLocal s) := by
  have imn := enterLocal_imn s
  have cpt : (enterLocal s).cpt.events = (netForgotten s).cpt.events := by
    rw [enterLocal_eq, (startSelfCheck_keeps _).2.2.2.2.2.2.2.1]
  have fli := enterLocal_fli s
  have check : if s.imn.selfCheck = .pending then SelfCheckStarted s (enterLocal s)
      else (enterLocal s).imn.selfCheck = s.imn.selfCheck := by
    rw [enterLocal_eq]
    split
    next pending => exact startSelfCheck_started (s := { s with imn := atHome s.imn, cpt.events := (netForgotten s).cpt.events }) pending
    next other => rw [startSelfCheck_other (s := { s with imn := atHome s.imn, cpt.events := (netForgotten s).cpt.events }) other]
  generalize enterLocal s = t at *
  have parts : t.imn.mode = .localMode ∧ t.imn.cycle = some ⟨.awaiting, 0, 0, none, none, false⟩ ∧ t.imn.coupling = true ∧
      t.imn.net = ⟨none, 0, 0⟩ ∧ t.imn.clearCount = 0 ∧ t.imn.unmonitored = false ∧ t.imn.unmonTimer = false := by
    rw [imn]
    exact ⟨rfl, rfl, rfl, rfl, rfl, rfl, rfl⟩
  obtain ⟨mode, cycle, coupling, net, clear, unmonitored, timer⟩ := parts
  refine ⟨mode, cycle, coupling, net, clear, unmonitored, timer, fun ends => ?_, ?_, check⟩
  · rw [cpt]
    exact netForgotten_raised ends
  · rw [fli]
    exact frames

/-- The entry to LOCAL stands while the station is at home. -/
theorem EnteredLocal.home (h : EnteredLocal s t) (k : HomeKept t u) : EnteredLocal s u := by
  obtain ⟨mode, cycle, coupling, net, clear, unmonitored, timer, told, frames, check⟩ := h
  obtain ⟨imn, request, events, queue⟩ := k
  unfold SelfCheckStarted at check
  unfold EnteredLocal SelfCheckStarted
  rw [imn, request]
  refine ⟨mode, cycle, coupling, net, clear, unmonitored, timer, fun ends => events _ (told ends), fun was q mem => ?_, check⟩
  cases kind : q.frame.body.isMeasure with
  | false => rfl
  | true => exact kind.symm.trans (frames was q (queue q mem kind))

/-- The entry reads the monitor, the queue's frames and whether the heater is available. -/
theorem EnteredLocal.congr {s' : State} (h : EnteredLocal s t) (imn : s'.imn = s.imn)
    (available : heaterAvailable s' = heaterAvailable s) : EnteredLocal s' t := by
  unfold EnteredLocal SelfCheckStarted at h ⊢
  rw [imn, available]
  exact h

end Sys2Proof.Machine
end

section
/-! PROOF. The contactor's opening at the monitor, both relays commanded open, and an entry to a state while the monitor
is in LOCAL (R4, R5, R36, R51, R138, R147, R164, R166). -/

namespace Sys2Proof.Machine

variable {s t u : State}

/-! ## The contactor opens at the monitor (R138, R147, R164) -/

/-- The monitor in LOCAL with the contactor open, before a sweep ends for the loss of the role (R138, R147). -/
def roleLeft (s : State) : State :=
  if s.imn.mode = .localMode then { s with imn.contactorClosed := false }
  else enterLocal { s with
    imn.contactorClosed := false
    fli.queue := if s.imn.mode = .measurer then s.fli.queue.filter fun q => !q.frame.body.isMeasure else s.fli.queue }

/-- A measurer that leads a sweep, not yet in its own step, loses it with the role (R162, R164). -/
abbrev LosesSweep (s : State) (r : LeaderRecord) : Prop :=
  s.imn.mode = .measurer ∧ s.imn.sweep = .leading r ∧ r.phase ≠ .ownStep

theorem loseRole_leading {r : LeaderRecord} (leads : s.imn.sweep = .leading r) (step : r.phase ≠ .ownStep) :
    loseRole s = endLeading r .abandoned false s := by
  unfold loseRole
  rw [leads]
  dsimp only
  rw [if_neg step, abandonSweep_leading leads]

theorem loseRole_other (own : ∀ r, s.imn.sweep = .leading r → r.phase = .ownStep) : loseRole s = s := by
  unfold loseRole
  cases sweep : s.imn.sweep with
  | leading r => exact if_pos (own r sweep)
  | _ => rfl

theorem enterLocal_sweep (s : State) : (enterLocal s).imn.sweep = s.imn.sweep := by rw [enterLocal_imn]

theorem contactorOpened_measurer (measurer : s.imn.mode = .measurer) : contactorOpened s = loseRole (roleLeft s) := by
  unfold contactorOpened roleLeft
  rw [measurer]
  rfl

theorem roleLeft_sweep (s : State) : (roleLeft s).imn.sweep = s.imn.sweep := by
  unfold roleLeft
  split
  · rfl
  · exact enterLocal_sweep _

theorem contactorOpened_loses {r : LeaderRecord} (loses : LosesSweep s r) :
    contactorOpened s = endLeading r .abandoned false (roleLeft s) := by
  obtain ⟨measurer, leads, step⟩ := loses
  rw [contactorOpened_measurer measurer, loseRole_leading ((roleLeft_sweep s).trans leads) step]

theorem contactorOpened_keepsSweep (keeps : ∀ r, ¬ LosesSweep s r) : contactorOpened s = roleLeft s := by
  cases mode : s.imn.mode with
  | localMode =>
    unfold contactorOpened roleLeft
    rw [mode]
    rfl
  | passive =>
    unfold contactorOpened roleLeft
    rw [mode]
    rfl
  | measurer =>
    rw [contactorOpened_measurer mode]
    refine loseRole_other fun r leads => ?_
    by_contra other
    exact keeps r ⟨mode, (roleLeft_sweep s).symm.trans leads, other⟩

theorem roleLeft_stages (s : State) : StagesKept s (roleLeft s) := by
  unfold roleLeft
  split
  · rfl
  · exact StagesKept.trans rfl (enterLocal_stages _)

theorem roleLeft_imn (s : State) : (roleLeft s).imn =
    if s.imn.mode = .localMode then { s.imn with contactorClosed := false }
    else { atHome { s.imn with contactorClosed := false } with selfCheck := (roleLeft s).imn.selfCheck } := by
  unfold roleLeft
  split
  · rfl
  · exact enterLocal_imn _

theorem roleLeft_fli (s : State) : (roleLeft s).fli = { s.fli with queue := (roleLeft s).fli.queue } := by
  unfold roleLeft
  split
  · rfl
  · rw [enterLocal_fli]

theorem roleLeft_queue (s : State) : (roleLeft s).fli.queue =
    if s.imn.mode = .measurer then s.fli.queue.filter fun q => !q.frame.body.isMeasure else s.fli.queue := by
  unfold roleLeft
  split
  next home => rw [home, if_neg (by decide)]
  next => rw [enterLocal_fli]

theorem roleLeft_queue_le (s : State) : (roleLeft s).fli.queue.length ≤ s.fli.queue.length := by
  rw [roleLeft_queue]
  split
  · exact List.length_filter_le ..
  · exact le_rfl

theorem mem_roleLeft {e : EventKind} (mem : e ∈ s.cpt.events) : e ∈ (roleLeft s).cpt.events := by
  unfold roleLeft
  split
  · exact mem
  · exact mem_enterLocal mem

theorem roleLeft_entered (away : s.imn.mode ≠ .localMode) : EnteredLocal s (roleLeft s) := by
  unfold roleLeft
  rw [if_neg away]
  refine enterLocal_entered (s := { s with
    imn.contactorClosed := false
    fli.queue := if s.imn.mode = .measurer then s.fli.queue.filter fun q => !q.frame.body.isMeasure else s.fli.queue })
    fun measurer q mem => ?_
  dsimp only at mem measurer
  rw [if_pos measurer] at mem
  simpa using (List.mem_filter.1 mem).2

/-! ## What is left as the contactor opens -/

/-- A sweep lost with the role, or none. -/
theorem losesSweep_cases (s : State) : (∃ r, LosesSweep s r) ∨ ∀ r, ¬ LosesSweep s r := by
  by_cases some : ∃ r, LosesSweep s r
  · exact .inl some
  · exact .inr fun r loses => some ⟨r, loses⟩

/-- Whatever the opened contactor leaves, it leaves as the monitor goes home and a sweep it led ends. -/
theorem contactorOpened_home (s : State) : HomeKept (roleLeft s) (contactorOpened s) := by
  obtain ⟨r, loses⟩ | keeps := losesSweep_cases s
  · rw [contactorOpened_loses loses]
    exact endLeading_homeKept r .abandoned false _
  · rw [contactorOpened_keepsSweep keeps]
    exact HomeKept.refl _

theorem contactorOpened_stages (s : State) : StagesKept s (contactorOpened s) := by
  obtain ⟨r, loses⟩ | keeps := losesSweep_cases s
  · rw [contactorOpened_loses loses]
    exact (roleLeft_stages s).trans (endLeading_stages r .abandoned false _)
  · rw [contactorOpened_keepsSweep keeps]
    exact roleLeft_stages s

theorem contactorOpened_entered (away : s.imn.mode ≠ .localMode) : EnteredLocal s (contactorOpened s) :=
  (roleLeft_entered away).home (contactorOpened_home s)

theorem contactorOpened_open (s : State) : (contactorOpened s).imn.contactorClosed = false := by
  have home := (contactorOpened_home s).1
  generalize contactorOpened s = t at home ⊢
  rw [home, roleLeft_imn]
  split <;> rfl

theorem mem_contactorOpened {e : EventKind} (mem : e ∈ s.cpt.events) : e ∈ (contactorOpened s).cpt.events :=
  (contactorOpened_home s).2.2.1 e (mem_roleLeft mem)

/-- What an ended sweep leaves (R156, R162, R163). -/
theorem endLeading_ended (r : LeaderRecord) (o : SweepOutcome) (hold : Bool) (s : State) :
    SweepEnded o hold s (endLeading r o hold s) ∧ NoTarget (endLeading r o hold s) ∧
      QueuedOwn (endingFrame r o) s (endLeading r o hold s) := by
  have queued : QueuedOwn (endingFrame r o) s (enqueue (endingFrame r o) s) := enqueue_queued rfl
  rw [endLeading_eq]
  exact ⟨⟨rfl, rfl, rfl, raised_mem ..⟩, ⟨rfl, rfl, rfl⟩, queued.congr rfl rfl rfl rfl⟩

/-- What is queued on the way reads the line, the room, the station and the feeder. -/
theorem QueuedRoom.earlier {n : Nat} {b : FrameBody} {s' : State} (h : QueuedRoom n b s t) (line : s'.fli.line = s.fli.line)
    (room : s.fli.queue.length ≤ s'.fli.queue.length) (station : s'.cfg = s.cfg) (feeder : s'.psq.ident = s.psq.ident) :
    QueuedRoom n b s' t := by
  intro online short
  obtain ⟨q, mem, frame⟩ := h (line ▸ online) (by omega)
  refine ⟨q, mem, ?_⟩
  unfold heldFeeder at frame ⊢
  rw [frame, station, feeder]

theorem StagesKept.cfg (h : StagesKept s t) : t.cfg = s.cfg := by rw [h]

theorem roleLeft_psq (s : State) : (roleLeft s).psq = s.psq := by
  unfold roleLeft
  split
  · rfl
  · rw [enterLocal_eq]
    exact (startSelfCheck_keeps _).2.2.1

theorem roleLeft_hold (s : State) : (roleLeft s).imn.hold = s.imn.hold := by
  rw [roleLeft_imn]
  split <;> rfl

/-- A leader that loses its role before its own step has its sweep ABANDONED and reported (R162, R164). -/
theorem contactorOpened_roleLost (s : State) : RoleLost s (contactorOpened s) := by
  unfold RoleLost
  split
  next r measurer leads =>
    intro step
    rw [contactorOpened_loses ⟨measurer, leads, step⟩]
    obtain ⟨⟨none, outcome, hold, event⟩, target, queued⟩ := endLeading_ended r .abandoned false (roleLeft s)
    refine ⟨⟨none, outcome, hold.trans (by rw [roleLeft_hold]), event⟩, target, ?_⟩
    exact queued.earlier (by rw [roleLeft_fli]) (roleLeft_queue_le s) (roleLeft_stages s).cfg.symm (by rw [roleLeft_psq])
  next => trivial

end Sys2Proof.Machine
end

section
/-! PROOF. Both relays commanded open, the end of a session, and an entry to a state while the monitor is in LOCAL (R4,
R5, R20, R36, R37, R51, R52, R166, R183, R189). -/

namespace Sys2Proof.Machine

variable {s t u : State}

/-! ## Relays (R4, R5) -/

/-- The relays commanded open, each with its supervision (R4, R5). -/
abbrev cutPsq (p : Psq) : Psq :=
  { p with
    contactorCmd := false, contactorSup := p.contactorCmd || p.contactorSup
    prechargeCmd := false, prechargeSup := p.prechargeCmd || p.prechargeSup }

/-- The state as both relays are commanded open, before the monitor is told (R4, R5, R52). -/
abbrev relaysCut (s : State) : State := { s with psq := cutPsq s.psq, shu.joint := s.shu.joint && !s.psq.contactorCmd }

theorem openPrecharge_frame (s : State) : openPrecharge s = { s with psq := { s.psq with
    prechargeCmd := false, prechargeSup := s.psq.prechargeCmd || s.psq.prechargeSup } } := by
  have psq := openPrecharge_psq s
  have frame : openPrecharge s = { s with psq := (openPrecharge s).psq } := by
    unfold openPrecharge
    split <;> rfl
  rw [frame, psq]

theorem openRelays_eq (s : State) :
    openRelays s = if s.psq.contactorCmd = true then contactorOpened (relaysCut s) else relaysCut s := by
  unfold openRelays
  rw [openPrecharge_frame]
  unfold openContactor relaysCut cutPsq
  dsimp only
  cases cmd : s.psq.contactorCmd with
  | true => simp
  | false =>
    simp only [Bool.false_eq_true, if_false, Bool.false_or, Bool.not_false, Bool.and_true]

theorem openContactor_eq (s : State) : openContactor s =
    if s.psq.contactorCmd = true then
      contactorOpened { s with psq := { s.psq with contactorCmd := false, contactorSup := true }, shu.joint := false }
    else s := rfl

theorem openRelays_stages (s : State) : StagesKept s (openRelays s) := by
  rw [openRelays_eq]
  split
  · exact StagesKept.trans rfl (contactorOpened_stages _)
  · rfl

theorem mem_openRelays {e : EventKind} (mem : e ∈ s.cpt.events) : e ∈ (openRelays s).cpt.events := openRelays_events s mem

/-- With the contactor commanded open the monitor is in LOCAL (R138). -/
theorem openRelays_mode (home : s.imn.mode ≠ .localMode → s.psq.contactorCmd = true) :
    (openRelays s).imn.mode = .localMode := by
  rw [openRelays_eq]
  split
  · exact contactorOpened_mode _
  next open' =>
    by_contra away
    exact open' (home away)

/-- The relays' opening reads the relays and what the monitor's entry to LOCAL reads. -/
theorem openRelays_opened (s : State) : RelaysOpened s (openRelays s) := by
  have psq := openRelays_psq s
  refine ⟨by rw [psq], by rw [psq], fun closed => ⟨?_, ?_, fun away => ?_⟩, fun closed => ?_⟩
  · rw [psq, closed]
    rfl
  · rw [openRelays_eq, if_pos closed]
    exact contactorOpened_open _
  · rw [openRelays_eq, if_pos closed]
    exact contactorOpened_entered (s := relaysCut s) away
  · rw [psq, closed]
    rfl

/-- Both relays stay open, and the monitor at home, with what follows. -/
theorem RelaysOpened.home (h : RelaysOpened s t) (k : HomeKept t u) (contactor : u.psq.contactorCmd = t.psq.contactorCmd)
    (precharge : u.psq.prechargeCmd = t.psq.prechargeCmd) (supervised : u.psq.contactorSup = t.psq.contactorSup)
    (watched : u.psq.prechargeSup = t.psq.prechargeSup) : RelaysOpened s u := by
  obtain ⟨a, b, c, d⟩ := h
  unfold RelaysOpened
  rw [contactor, precharge, supervised, watched]
  refine ⟨a, b, fun closed => ?_, d⟩
  obtain ⟨sup, told, entered⟩ := c closed
  refine ⟨sup, ?_, fun away => (entered away).home k⟩
  rw [k.1]
  exact told

/-! ## The end of a session (R52, R183, R189) -/

theorem queueWrite_frame (w : PageWrite) (s : State) : queueWrite w s = { s with
    mst.writes := (queueWrite w s).mst.writes, mst.inFlight := (queueWrite w s).mst.inFlight
    cpt.events := (queueWrite w s).cpt.events } := by
  have mst := Mst.queueWrite_eq w s.mst
  unfold queueWrite
  dsimp only
  generalize s.mst.queueWrite w = m at mst ⊢
  rw [mst]
  cases decide (s.mst.writes.length < 7) && ({ s.mst with writes := m.writes, inFlight := m.inFlight } : Mst).writes.length == 7 <;> rfl

/-- What is pending and the events, with the reports as they stand. -/
abbrev WritesMoved (s t : State) : Prop :=
  t = { s with mst.writes := t.mst.writes, mst.inFlight := t.mst.inFlight, cpt.events := t.cpt.events }

theorem WritesMoved.trans (h : WritesMoved s t) (k : WritesMoved t u) : WritesMoved s u := by
  unfold WritesMoved at *
  rw [k, h]

theorem queueSnapshot_moved (c : Checkpoint) (s : State) : WritesMoved s (queueSnapshot c s) :=
  WritesMoved.trans (t := cancelClears s) rfl (queueWrite_frame _ _)

theorem placeRecord_frame (b : SessionBase) (cause : EndCause) (stored : Bool) (s : State) :
    placeRecord b cause stored s = { s with
      mst := (placeRecord b cause stored s).mst, cpt.events := (placeRecord b cause stored s).cpt.events } := by
  unfold placeRecord queueCounters
  dsimp only
  have joined (p : Place) (r : SessionRecord) : joinQueue p r s =
      { s with mst := (joinQueue p r s).mst, cpt.events := (joinQueue p r s).cpt.events } := rfl
  split
  · rw [queueWrite_frame, queueWrite_frame (.counters _), joined]
  · split
    · rw [queueWrite_frame, queueWrite_frame (.counters _)]
    · cases stored with
      | true =>
        rw [Bool.not_true, onlyIf_false, queueWrite_frame]
      | false =>
        rw [Bool.not_false, onlyIf_true, queueSnapshot_moved, queueWrite_frame]

/-- The record placed is held (R189). -/
theorem placeRecord_held (b : SessionBase) (cause : EndCause) (stored : Bool) (s : State) :
    RecordHeld (recordOf b cause) (placeRecord b cause stored s) := by
  unfold placeRecord queueCounters
  dsimp only
  split
  · rw [queueWrite_frame, queueWrite_frame (.counters _)]
    refine .inl ⟨⟨freePlace s.mst.queue, ⟨s.mst.nextPlacement, recordOf b cause⟩⟩, ?_, rfl⟩
    show _ ∈ s.mst.queue ++ [_]
    simp
  · split
    · rw [queueWrite_frame, queueWrite_frame (.counters _)]
      exact .inr (.inl rfl)
    · cases stored with
      | true =>
        rw [Bool.not_true, onlyIf_false, queueWrite_frame]
        exact .inr (.inr rfl)
      | false =>
        rw [Bool.not_false, onlyIf_true, queueSnapshot_moved, queueWrite_frame]
        exact .inr (.inr rfl)

/-- A close writes the session, the store and the events (R183). -/
theorem closeSession_frame (cause : EndCause) (forced : Bool) (s : State) : closeSession cause forced s = { s with
    mtr := { s.mtr with session := none, prefetched := if s.mtr.session = none then s.mtr.prefetched else none }
    mst := (closeSession cause forced s).mst, cpt.events := (closeSession cause forced s).cpt.events } := by
  unfold closeSession
  cases session : s.mtr.session with
  | none =>
    show s = { s with mtr := { s.mtr with session := none, prefetched := s.mtr.prefetched } }
    rw [← session]
  | some ss =>
    dsimp only
    rw [placeRecord_frame]
    rfl

theorem closeSession_held {ss : Session} (cause : EndCause) (forced : Bool) (opened : s.mtr.session = some ss) :
    RecordHeld (closedRecord ss cause forced) (closeSession cause forced s) ∧
      .sessionEnd ∈ (closeSession cause forced s).cpt.events := by
  unfold closeSession
  rw [opened]
  exact ⟨placeRecord_held _ cause false _, raised_mem ..⟩

/-- SHU with the session's share gone (R52). -/
abbrev shareGone (x : Shu) : Shu := { x with session := false, joint := false, sEff := 0, pendingRise := none, joining := 0 }

theorem clearSession_onlyChain (s : State) : OnlyChain { s with shu := shareGone s.shu } (clearSession s) :=
  evaluate_onlyChain _

theorem clearSession_shu (s : State) : (clearSession s).shu = shareGone s.shu := evaluate_shu _

/-- The end of a session, beside the chain (R52, R183). -/
abbrev sessionOver (cause : EndCause) (s : State) : State :=
  { s with
    mtr := { s.mtr with session := none, prefetched := if s.mtr.session = none then s.mtr.prefetched else none }
    mst := (closeSession cause s.psq.forced s).mst, shu := shareGone s.shu
    cpt.events := (closeSession cause s.psq.forced s).cpt.events }

theorem endSession_onlyChain (cause : EndCause) (s : State) : OnlyChain (sessionOver cause s) (endSession cause s) := by
  have chain := clearSession_onlyChain (closeSession cause s.psq.forced s)
  have frame := closeSession_frame cause s.psq.forced s
  unfold endSession sessionOver
  generalize closeSession cause s.psq.forced s = u at chain frame ⊢
  refine Eq.trans chain ?_
  generalize clearSession u = t
  rw [frame]

/-- No session and no share is left, and the record is held (R52, R183, R189). -/
theorem endSession_ended (cause : EndCause) (s : State) : SessionEnded cause s.psq.forced s (endSession cause s) := by
  have only := endSession_onlyChain cause s
  obtain ⟨session, joint, share⟩ := endSession_shu cause s
  refine ⟨endSession_session cause s, session, joint, share, fun ss opened => ?_⟩
  obtain ⟨held, event⟩ := closeSession_held cause s.psq.forced opened
  generalize endSession cause s = t at only
  have mst : t.mst = (closeSession cause s.psq.forced s).mst := congrArg (·.mst) only
  have events : t.cpt.events = (closeSession cause s.psq.forced s).cpt.events := congrArg (·.cpt.events) only
  unfold RecordHeld
  rw [mst, events]
  exact ⟨held, event⟩

/-! ## A share that is gone stays so -/

/-- Nothing is shared. -/
abbrev ShareGone (s : State) : Prop := s.shu.session = false ∧ s.shu.joint = false ∧ s.shu.sEff = 0

theorem evaluateAndHand_gone (h : ShareGone s) : ShareGone (evaluateAndHand s) := by
  obtain ⟨session, joint, share⟩ := h
  have only := evaluateAndHand_onlyChain s
  have handed : LowerHanded s (evaluateAndHand s) := (evaluateAndHand_follows s).2.2.2
  generalize evaluateAndHand s = t at only handed
  refine ⟨(congrArg (·.shu.session) only).trans session, (congrArg (·.shu.joint) only).trans joint, ?_⟩
  unfold LowerHanded at handed
  split at handed
  · rw [handed.2.2.2]
    exact share
  · rw [handed.2]
    exact share

theorem updateFallback_gone (h : ShareGone s) : ShareGone (updateFallback s) := by
  obtain ⟨session, joint, share⟩ := h
  unfold ShareGone
  rw [updateFallback_shu]
  refine ⟨session, joint, ?_⟩
  unfold judgedShu
  dsimp only
  rw [session]
  simpa using share

end Sys2Proof.Machine
end

section
/-! PROOF. An entry to a state with its change of the line (R1, R36, R37, R51, R73, R166). -/

namespace Sys2Proof.Machine

variable {s t u : State}

/-! ## The line decided anew (R36, R37) -/

theorem yieldRole_home (home : s.imn.mode ≠ .measurer) : yieldRole s = s := if_neg home

/-- What a change of the line writes at FLI, at SHU and at the monitor (R37, R51, R147, R166). -/
abbrev LineFrame (s t : State) : Prop :=
  t = { s with
    fli := t.fli, imn := t.imn, cpt.events := t.cpt.events
    shu := { s.shu with peers := t.shu.peers, overflow := t.shu.overflow, sweepTarget := t.shu.sweepTarget } }

theorem LineFrame.trans (h : LineFrame s t) (k : LineFrame t u) : LineFrame s u := by
  unfold LineFrame at *
  rw [k, h]

theorem LineFrame.onlyIf (c : Bool) {f : State → State} (h : LineFrame s (f s)) : LineFrame s (onlyIf c f s) :=
  onlyIf_ind (P := LineFrame s) c rfl h

theorem emptyPeers_frame (s : State) : LineFrame s (emptyPeers s) := by
  unfold emptyPeers
  cases !s.shu.peers.isEmpty <;> rfl

theorem yieldRole_lineFrame (s : State) : LineFrame s (yieldRole s) := by
  rw [yieldRole_frame]

theorem changeLine_frame (target : LineState) (s : State) : LineFrame s (changeLine target s) := by
  unfold changeLine
  dsimp only
  refine LineFrame.trans (t := { s with fli := enterLine target s.cfg.station s.fli }) rfl ?_
  generalize ({ s with fli := enterLine target s.cfg.station s.fli } : State) = x
  have resumed : LineFrame x (Machine.onlyIf (target == .online && s.fli.line == .silent) (raiseEvent .lineResumed) x) :=
    LineFrame.onlyIf _ rfl
  refine resumed.trans ?_
  generalize Machine.onlyIf (target == .online && s.fli.line == .silent) (raiseEvent .lineResumed) x = y
  have emptied : LineFrame y (Machine.onlyIf (target == .offline) (fun x => sweepOffline (emptyPeers x)) y) :=
    LineFrame.onlyIf (f := fun x => sweepOffline (emptyPeers x)) _ (LineFrame.trans (emptyPeers_frame y) rfl)
  refine emptied.trans ?_
  exact LineFrame.onlyIf _ (yieldRole_lineFrame _)

theorem lineMoved_frame (s : State) : LineFrame s (lineMoved s) := by
  unfold lineMoved
  split
  · rfl
  · exact changeLine_frame _ s

/-- No measurer's frame joins the queue as the line changes. -/
theorem enterLine_measure (target : LineState) (n : Nat) (f : Fli) :
    ∀ q ∈ (enterLine target n f).queue, q.frame.body.isMeasure = true → q ∈ f.queue := by
  intro q mem kind
  unfold enterLine at mem
  split at mem
  · cases mem
  · split at mem
    · have leave := (List.mem_filter.1 mem).2
      cases body : q.frame.body <;> simp_all [FrameBody.isLeave, FrameBody.isMeasure]
    · exact mem
    · exact mem
  · exact mem
  · exact mem

theorem emptyPeers_parts (s : State) : (emptyPeers s).imn = s.imn ∧ (emptyPeers s).htr = s.htr ∧ (emptyPeers s).fli = s.fli := by
  unfold emptyPeers
  cases !s.shu.peers.isEmpty <;> exact ⟨rfl, rfl, rfl⟩

theorem mem_changeLine {e : EventKind} (target : LineState) (mem : e ∈ s.cpt.events) : e ∈ (changeLine target s).cpt.events :=
  changeLine_events target s mem

theorem onlyIf_fixed (c : Bool) {f : State → State} (fixed : f s = s) : onlyIf c f s = s := by
  cases c with
  | false => rfl
  | true => exact fixed

/-- A line that moves elsewhere than OFFLINE, without a role to drop (R37, R38). -/
theorem changeLine_on {target : LineState} (home : s.imn.mode ≠ .measurer) (on : target ≠ .offline) :
    changeLine target s = onlyIf (target == .online && s.fli.line == .silent) (raiseEvent .lineResumed)
      { s with fli := enterLine target s.cfg.station s.fli } := by
  unfold changeLine
  dsimp only
  rw [beq_false_of_ne on, onlyIf_false]
  refine onlyIf_fixed _ (yieldRole_home ?_)
  cases target == .online && s.fli.line == .silent <;> exact home

/-- A line that goes OFFLINE, without a role to drop (R37, R51, R166). -/
theorem changeLine_off (home : s.imn.mode ≠ .measurer) :
    changeLine .offline s = sweepOffline (emptyPeers { s with fli := enterLine .offline s.cfg.station s.fli }) := by
  unfold changeLine
  refine onlyIf_fixed _ (yieldRole_home ?_)
  show (emptyPeers { s with fli := enterLine .offline s.cfg.station s.fli }).imn.mode ≠ .measurer
  rw [(emptyPeers_parts _).1]
  exact home

/-- What a change of the line leaves of a monitor that holds no role: a sweep is forgotten as the line goes OFFLINE
(R166). -/
theorem changeLine_home (target : LineState) (home : s.imn.mode ≠ .measurer) :
    (changeLine target s).imn =
        (if target = .offline then { s.imn with sweep := .none, hold := false, target := none, pendingRelease := false }
         else s.imn) ∧
      (changeLine target s).fli = enterLine target s.cfg.station s.fli ∧
      (changeLine target s).shu.sweepTarget = (if target = .offline then false else s.shu.sweepTarget) := by
  by_cases off : target = .offline
  · subst off
    obtain ⟨imn, -, fli⟩ := emptyPeers_parts { s with fli := enterLine .offline s.cfg.station s.fli }
    rw [changeLine_off home]
    generalize emptyPeers _ = u at imn fli
    refine ⟨?_, fli, rfl⟩
    show { u.imn with sweep := .none, hold := false, target := none, pendingRelease := false } = _
    rw [imn]
    rfl
  · rw [changeLine_on home off, if_neg off, if_neg off]
    cases target == .online && s.fli.line == .silent <;> exact ⟨rfl, rfl, rfl⟩

theorem lineMoved_home (local' : s.imn.mode = .localMode) : HomeKept s (lineMoved s) := by
  unfold lineMoved
  split
  · exact HomeKept.refl s
  · obtain ⟨imn, fli, -⟩ := changeLine_home (lineTarget s) (s := s) (by rw [local']; decide)
    have htr : (changeLine (lineTarget s) s).htr = s.htr := congrArg (·.htr) (changeLine_frame (lineTarget s) s)
    refine ⟨?_, by rw [htr], fun e mem => mem_changeLine _ mem, ?_⟩
    · rw [imn]
      split <;> rfl
    · rw [fli]
      exact enterLine_measure _ _ _

theorem lineMoved_noTarget (home : s.imn.mode ≠ .measurer) (none : NoTarget s) : NoTarget (lineMoved s) := by
  obtain ⟨target, pending, report⟩ := none
  unfold lineMoved
  split
  · exact ⟨target, pending, report⟩
  · obtain ⟨imn, -, shu⟩ := changeLine_home (lineTarget s) home
    unfold NoTarget
    rw [imn, shu]
    split
    · exact ⟨rfl, rfl, rfl⟩
    · exact ⟨target, pending, report⟩

/-! ## Entries (R1, R73) -/

theorem fallbackJudged_home (s : State) : HomeKept s (fallbackJudged s) :=
  ⟨rfl, rfl, fun _ mem => mem_judgedCpt mem, fun _ mem _ => mem⟩

theorem fallbackJudged_stages (s : State) : StagesKept s (fallbackJudged s) := by
  unfold StagesKept
  show fallbackJudged s = _
  unfold fallbackJudged
  rw [judgedCpt_frame]

theorem updateFallback_home (s : State) : HomeKept s (updateFallback s) :=
  (fallbackJudged_home s).trans (updateFallback_onlyChain s).homeKept

theorem updateFallback_stages (s : State) : StagesKept s (updateFallback s) :=
  (fallbackJudged_stages s).trans (updateFallback_onlyChain s).stages

theorem LineFrame.stages (h : LineFrame s t) : StagesKept s t := by
  unfold StagesKept
  rw [h]

theorem refreshLine_home (local' : s.imn.mode = .localMode) : HomeKept s (refreshLine s) :=
  (lineMoved_home local').trans (updateFallback_home _)

theorem refreshLine_stages (s : State) : StagesKept s (refreshLine s) :=
  (lineMoved_frame s).stages.trans (updateFallback_stages _)

theorem refreshLine_noTarget (home : s.imn.mode ≠ .measurer) (none : NoTarget s) : NoTarget (refreshLine s) := by
  obtain ⟨target, pending, report⟩ := lineMoved_noTarget home none
  have only := updateFallback_onlyChain (lineMoved s)
  refine ⟨(congrArg (·.imn.target) only).trans target, (congrArg (·.imn.pendingRelease) only).trans pending,
    (congrArg (·.shu.sweepTarget) only).trans report⟩

theorem refreshLine_gone (h : ShareGone s) : ShareGone (refreshLine s) := by
  refine updateFallback_gone (s := lineMoved s) ?_
  have frame := lineMoved_frame s
  unfold LineFrame at frame
  rw [frame]
  exact h

/-- What an entry makes of the identification (R8, R44). -/
theorem identOnEntry_frame (q : SeqState) (s : State) : identOnEntry q s = { s with
    psq.ident := (identOnEntry q s).psq.ident, shu.identCopy := (identOnEntry q s).shu.identCopy
    fli.foreignReported := (identOnEntry q s).fli.foreignReported } := by
  cases q <;> rfl

theorem setSeq_home (q : SeqState) (s : State) : HomeKept s (setSeq q s) := by
  by_cases same : s.psq.seq = q
  · rw [setSeq, if_pos same]
    exact HomeKept.refl s
  · have raised : HomeKept s (raiseEvent .seqState { s with psq := leaveState q s.psq }) :=
      ⟨rfl, rfl, fun _ mem => mem_raiseEvent _ mem, fun _ mem _ => mem⟩
    exact raised.trans (setSeq_onlyChain same).homeKept

theorem setSeq_stages (q : SeqState) (s : State) : StagesKept s (setSeq q s) := by
  by_cases same : s.psq.seq = q
  · rw [setSeq, if_pos same]
  · exact StagesKept.trans (t := raiseEvent .seqState { s with psq := leaveState q s.psq }) rfl (setSeq_onlyChain same).stages

theorem setSeq_gone (q : SeqState) (h : ShareGone s) : ShareGone (setSeq q s) := by
  unfold setSeq
  split
  · exact h
  · exact evaluateAndHand_gone (s := raiseEvent .seqState { s with psq := leaveState q s.psq }) h

theorem setSeq_raised {q : SeqState} (other : s.psq.seq ≠ q) : .seqState ∈ (setSeq q s).cpt.events := by
  have cpt : (setSeq q s).cpt = (raiseEvent .seqState s).cpt := congrArg (·.cpt) (setSeq_onlyChain other)
  rw [cpt]
  exact raised_mem ..

/-- Outside ACTIVE the chain leaves no setpoint (R79, R81). -/
theorem setSeq_setpoint {q : SeqState} (other : s.psq.seq ≠ q) (rests : q ≠ .active) : (setSeq q s).crg.setpoint = 0 := by
  have seq := setSeq_seq q s
  rw [setSeq, if_neg other] at seq ⊢
  have falls := (evaluateAndHand_setpoint (raiseEvent .seqState { s with psq := leaveState q s.psq })).1
  obtain ⟨-, -, -, -, -, -, -, pC, iShare, iTarget⟩ := evaluateAndHand_chain (raiseEvent .seqState { s with psq := leaveState q s.psq })
  generalize evaluateAndHand _ = t at *
  rw [if_pos (by rw [seq]; exact rests)] at pC
  rw [pC] at iShare
  have none : t.crg.iShare = 0 := by
    rw [iShare]
    split <;> simp
  rw [none] at iTarget
  omega

theorem enterSeq_home (q : SeqState) (local' : s.imn.mode = .localMode) : HomeKept s (enterSeq q s) := by
  have ident : HomeKept s (identOnEntry q s) := by
    rw [identOnEntry_frame]
    exact HomeKept.refl s
  have set := ident.trans (setSeq_home q _)
  exact set.trans (refreshLine_home (set.mode.trans local'))

theorem enterSeq_stages (q : SeqState) (s : State) : StagesKept s (enterSeq q s) := by
  have ident : StagesKept s (identOnEntry q s) := by
    rw [identOnEntry_frame]
  exact (ident.trans (setSeq_stages q _)).trans (refreshLine_stages _)

theorem enterSeq_gone (q : SeqState) (h : ShareGone s) : ShareGone (enterSeq q s) := by
  refine refreshLine_gone (setSeq_gone q ?_)
  rw [identOnEntry_frame]
  exact h

theorem identOnEntry_seq (q : SeqState) (s : State) : (identOnEntry q s).psq.seq = s.psq.seq := by
  rw [identOnEntry_frame]

theorem enterSeq_noTarget (q : SeqState) (home : s.imn.mode ≠ .measurer) (none : NoTarget s) : NoTarget (enterSeq q s) := by
  obtain ⟨target, pending, report⟩ := none
  have ident : (identOnEntry q s).imn = s.imn ∧ (identOnEntry q s).shu.sweepTarget = s.shu.sweepTarget := by
    rw [identOnEntry_frame]
    exact ⟨rfl, rfl⟩
  have set : (setSeq q (identOnEntry q s)).imn = (identOnEntry q s).imn ∧
      (setSeq q (identOnEntry q s)).shu.sweepTarget = (identOnEntry q s).shu.sweepTarget := by
    generalize identOnEntry q s = x
    by_cases same : x.psq.seq = q
    · rw [setSeq, if_pos same]
      exact ⟨rfl, rfl⟩
    · have only := setSeq_onlyChain same
      exact ⟨congrArg (·.imn) only, congrArg (·.shu.sweepTarget) only⟩
  refine refreshLine_noTarget ?_ ⟨?_, ?_, ?_⟩
  · rw [set.1, ident.1]
    exact home
  · rw [set.1, ident.1]
    exact target
  · rw [set.1, ident.1]
    exact pending
  · rw [set.2, ident.2]
    exact report

theorem enterSeq_raised {q : SeqState} (other : s.psq.seq ≠ q) : .seqState ∈ (enterSeq q s).cpt.events :=
  refreshLine_events _ (setSeq_raised (by rw [identOnEntry_seq]; exact other))

theorem updateFallback_setpoint (s : State) : (updateFallback s).crg.setpoint ≤ s.crg.setpoint := by
  rw [updateFallback_eq]
  split
  · exact le_rfl
  · rw [evaluate_setpoint]
    exact Nat.min_le_left _ _

theorem enterSeq_setpoint {q : SeqState} (other : s.psq.seq ≠ q) (rests : q ≠ .active) : (enterSeq q s).crg.setpoint = 0 := by
  have set := setSeq_setpoint (s := identOnEntry q s) (by rw [identOnEntry_seq]; exact other) rests
  have moved : (lineMoved (setSeq q (identOnEntry q s))).crg = (setSeq q (identOnEntry q s)).crg :=
    congrArg (·.crg) (lineMoved_frame _)
  have falls := updateFallback_setpoint (lineMoved (setSeq q (identOnEntry q s)))
  rw [moved, set] at falls
  exact Nat.le_zero.1 falls

/-! ## Entries that leave the line (R36) -/

/-- An entry that does not move the line: the state, SEQ_STATE, and the chain with SHU's conditions. -/
theorem enterSeq_lineKept {q : SeqState} (plugged : q ≠ .plugged) (identified : q ≠ .identified) (unplugged : q ≠ .unplugged)
    (kept : lineTarget (setSeq q s) = s.fli.line) :
    enterSeq q s = updateFallback (setSeq q s) := by
  have ident : identOnEntry q s = s := by
    unfold identOnEntry
    split
    · exact absurd rfl plugged
    · exact absurd rfl unplugged
    · exact absurd rfl identified
    · rfl
  unfold enterSeq
  rw [ident, refreshLine_eq]
  have fli := (setSeq_keeps q s).2.2.1
  unfold lineMoved
  rw [if_pos (by rw [kept, fli])]

end Sys2Proof.Machine
end

section
/-! PROOF. An entry to FAULT (R19, R20, R160, R162). -/

namespace Sys2Proof.Machine

variable {s t u : State}

/-! ## A target that leaves its isolation, with the monitor in LOCAL (R160, R162) -/

theorem sweepReady_home (home : s.imn.mode ≠ .measurer) : sweepReady s ≠ true := fun ready =>
  home (sweepReady_iff.1 ready).2.1

/-- The state a leader's own step ends in, where no other sweep starts, and otherwise the target's part gone (R160,
R162). -/
theorem leftSweep_own {r : LeaderRecord} (home : s.imn.mode ≠ .measurer) (leads : s.imn.sweep = .leading r)
    (own : r.phase = .ownStep) : leftSweep s = endLeading r .abandoned false s := by
  unfold leftSweep
  rw [leads]
  dsimp only
  rw [if_pos own]
  refine checkSweepStart_unready (sweepReady_home ?_)
  rw [endLeading_eq]
  exact home

theorem leftSweep_other (other : ∀ r, s.imn.sweep = .leading r → r.phase ≠ .ownStep) : leftSweep s = clearTarget s := by
  unfold leftSweep
  cases sweep : s.imn.sweep with
  | leading r => exact if_neg (other r sweep)
  | _ => rfl

/-- A leader in its own step. -/
abbrev InOwnStep (s : State) (r : LeaderRecord) : Prop := s.imn.sweep = .leading r ∧ r.phase = .ownStep

theorem inOwnStep_cases (s : State) :
    (∃ r, InOwnStep s r) ∨ ∀ r, s.imn.sweep = .leading r → r.phase ≠ .ownStep := by
  by_cases own : ∃ r, InOwnStep s r
  · exact .inl own
  · exact .inr fun r leads step => own ⟨r, leads, step⟩

theorem clearTarget_home (s : State) : HomeKept s (clearTarget s) :=
  ⟨rfl, rfl, fun _ mem => mem, fun _ mem _ => mem⟩

/-- What the end of a target's part leaves of the rest. -/
theorem leftSweep_leaves (home : s.imn.mode ≠ .measurer) :
    HomeKept s (leftSweep s) ∧ StagesKept s (leftSweep s) ∧ NoTarget (leftSweep s) ∧ (leftSweep s).psq = s.psq ∧
      (ShareGone s → ShareGone (leftSweep s)) := by
  obtain ⟨r, leads, own⟩ | other := inOwnStep_cases s
  · rw [leftSweep_own home leads own]
    refine ⟨endLeading_homeKept _ _ _ _, endLeading_stages _ _ _ _, (endLeading_ended _ _ _ _).2.1, ?_, ?_⟩
    · rw [endLeading_eq]
      rfl
    · rw [endLeading_eq]
      exact id
  · rw [leftSweep_other other]
    exact ⟨clearTarget_home s, rfl, ⟨rfl, rfl, rfl⟩, rfl, id⟩

/-- In its states a target is left. -/
abbrev LeavesTarget (q : SeqState) : Prop := q = .active ∨ q = .suspended ∨ q.isolated = true

theorem leaveTarget_other {q : SeqState} (other : ¬ LeavesTarget q) (s : State) : leaveTarget q s = s := by
  unfold leaveTarget
  split
  · exact absurd (.inl rfl) other
  · exact absurd (.inr (.inl rfl)) other
  · exact absurd (.inr (.inr rfl)) other
  · rfl

theorem leaveTarget_leaves (q : SeqState) (home : s.imn.mode ≠ .measurer) :
    HomeKept s (leaveTarget q s) ∧ StagesKept s (leaveTarget q s) ∧ (LeavesTarget q → NoTarget (leaveTarget q s)) ∧
      (leaveTarget q s).psq = s.psq ∧ (ShareGone s → ShareGone (leaveTarget q s)) := by
  by_cases leaves : LeavesTarget q
  · obtain rfl | rfl | isolated := leaves
    · exact ⟨clearTarget_home s, rfl, fun _ => ⟨rfl, rfl, rfl⟩, rfl, id⟩
    · exact ⟨clearTarget_home s, rfl, fun _ => ⟨rfl, rfl, rfl⟩, rfl, id⟩
    · cases q with
      | sweepIsolated p =>
        obtain ⟨kept, stages, none, psq, gone⟩ := leftSweep_leaves home
        exact ⟨kept, stages, fun _ => none, psq, gone⟩
      | _ => cases isolated
  · rw [leaveTarget_other leaves]
    exact ⟨HomeKept.refl s, StagesKept.refl s, fun h => absurd h leaves, rfl, id⟩

/-! ## The relays open and the session closed (R15, R20) -/

/-- The state with the output enable clear, the relays open, the timers stopped and the session closed. -/
abbrev driveEnded (cause : EndCause) (s : State) : State := endSession cause (stopTimers (openRelays (clearEnable s)))

/-- The sequencer's record with the relays open and the timers stopped. -/
abbrev endedPsq (p : Psq) : Psq := { cutPsq p with prechargeTimer := false, contactorTimer := false, stopTimer := false }

theorem driveEnded_psq (cause : EndCause) (s : State) : (driveEnded cause s).psq = endedPsq s.psq := by
  have psq : (driveEnded cause s).psq = (stopTimers (openRelays (clearEnable s))).psq := by
    have only := endSession_onlyChain cause (stopTimers (openRelays (clearEnable s)))
    exact congrArg (·.psq) only
  rw [psq]
  show { (openRelays (clearEnable s)).psq with prechargeTimer := false, contactorTimer := false, stopTimer := false } = _
  rw [openRelays_psq, (clearEnable_keeps s).2.2.1]

theorem endSession_home (cause : EndCause) (s : State) : HomeKept s (endSession cause s) := by
  have closed : HomeKept s (sessionOver cause s) :=
    ⟨rfl, rfl, fun e mem => closeSession_events cause s.psq.forced s mem, fun _ mem _ => mem⟩
  exact closed.trans (endSession_onlyChain cause s).homeKept

/-- While the relays open and the session closes, the station is at home. -/
theorem driveEnded_home (cause : EndCause) (s : State) :
    HomeKept (openRelays (clearEnable s)) (driveEnded cause s) :=
  HomeKept.trans (t := stopTimers (openRelays (clearEnable s))) ⟨rfl, rfl, fun _ mem => mem, fun _ mem _ => mem⟩
    (endSession_home cause _)

theorem endSession_stages (cause : EndCause) (s : State) : StagesKept s (endSession cause s) :=
  StagesKept.trans (t := sessionOver cause s) rfl (endSession_onlyChain cause s).stages

theorem driveEnded_stages (cause : EndCause) (s : State) : StagesKept (clearEnable s) (driveEnded cause s) :=
  ((openRelays_stages (clearEnable s)).trans rfl).trans (endSession_stages cause _)

theorem driveEnded_mode (cause : EndCause) (home : s.imn.mode ≠ .localMode → s.psq.contactorCmd = true) :
    (driveEnded cause s).imn.mode = .localMode := by
  have cleared : (clearEnable s).imn.mode ≠ .localMode → (clearEnable s).psq.contactorCmd = true := by
    rw [(clearEnable_keeps s).2.2.1, (clearEnable_keeps s).2.2.2.2.2.2.2.1]
    exact home
  exact (driveEnded_home cause s).mode.trans (openRelays_mode cleared)

/-- The relays' opening does not read what the output enable wrote. -/
theorem RelaysOpened.cleared (h : RelaysOpened (clearEnable s) t) : RelaysOpened s t := by
  obtain ⟨-, -, psq, -, -, -, htr, imn, -, -, cpt, -⟩ := clearEnable_keeps s
  have available : heaterAvailable (clearEnable s) = heaterAvailable s := by
    unfold heaterAvailable heaterChoice
    rw [htr, cpt]
  obtain ⟨a, b, c, d⟩ := h
  rw [psq] at c d
  refine ⟨a, b, fun closed => ?_, d⟩
  obtain ⟨supervised, told, entered⟩ := c closed
  rw [imn] at entered
  exact ⟨supervised, told, fun away => (entered away).congr imn.symm available.symm⟩

theorem driveEnded_opened (cause : EndCause) (s : State) : RelaysOpened s (driveEnded cause s) := by
  have psq := driveEnded_psq cause s
  have first := openRelays_psq (clearEnable s)
  rw [(clearEnable_keeps s).2.2.1] at first
  exact (((openRelays_opened (clearEnable s)).home (driveEnded_home cause s) (by rw [psq, first]) (by rw [psq, first])
    (by rw [psq, first]) (by rw [psq, first]))).cleared

theorem SessionEnded.of {forced : Bool} {cause : EndCause} {s' : State} (h : SessionEnded cause forced s' t)
    (session : s'.mtr.session = s.mtr.session) : SessionEnded cause forced s t := by
  unfold SessionEnded at h ⊢
  rw [← session]
  exact h

/-- What is left of a session that has ended stays so. -/
theorem SessionEnded.later {forced : Bool} {cause : EndCause} (h : SessionEnded cause forced s t)
    (session : u.mtr.session = none) (gone : ShareGone u) (store : u.mst = t.mst)
    (events : ∀ e ∈ t.cpt.events, e ∈ u.cpt.events) : SessionEnded cause forced s u := by
  obtain ⟨-, -, -, -, held⟩ := h
  obtain ⟨off, joint, share⟩ := gone
  refine ⟨session, off, joint, share, fun ss opened => ?_⟩
  obtain ⟨record, event⟩ := held ss opened
  unfold RecordHeld at record ⊢
  rw [store]
  exact ⟨record, events _ event⟩

theorem driveEnded_ended (cause : EndCause) (s : State) : SessionEnded cause s.psq.forced s (driveEnded cause s) := by
  have ended := endSession_ended cause (stopTimers (openRelays (clearEnable s)))
  have forced : (stopTimers (openRelays (clearEnable s))).psq.forced = s.psq.forced := by
    show (openRelays (clearEnable s)).psq.forced = _
    rw [openRelays_psq, (clearEnable_keeps s).2.2.1]
  have mtr : (stopTimers (openRelays (clearEnable s))).mtr = s.mtr := by
    show (openRelays (clearEnable s)).mtr = _
    rw [(openRelays_keeps _).2.2.2.1, (clearEnable_keeps s).2.2.2.2.2.2.2.2.1]
  rw [forced] at ended
  exact ended.of (by rw [mtr])

theorem driveEnded_gone (cause : EndCause) (s : State) : ShareGone (driveEnded cause s) :=
  ⟨(driveEnded_ended cause s).2.1, (driveEnded_ended cause s).2.2.1, (driveEnded_ended cause s).2.2.2.1⟩

/-! ## FAULT (R20) -/

/-- The state before FAULT is entered. -/
abbrev faultReady (cause : FaultCause) (s : State) : State :=
  { forgetStop (dropPrefetched (leaveTarget s.psq.seq (driveEnded (faultEndCause cause) s))) with
    psq.faultCause := some cause }

theorem enterFault_eq (cause : FaultCause) (s : State) : enterFault cause s = enterSeq .fault (faultReady cause s) := rfl

/-- The sequencer's record before FAULT is entered. -/
abbrev faultPsq (cause : FaultCause) (p : Psq) : Psq :=
  { endedPsq p with
    stopCause := none, forced := false, start := none, isoReturn := none, cancelPending := false, cancelContactor := false
    faultCause := some cause }

/-- The monitor leaves LOCAL with the contactor commanded closed alone (R138). -/
abbrev HomeUnlessClosed (s : State) : Prop := s.imn.mode ≠ .localMode → s.psq.contactorCmd = true

section
variable (cause : FaultCause) (home : HomeUnlessClosed s)
include home

theorem driveEnded_unheld (c : EndCause) : (driveEnded c s).imn.mode ≠ .measurer := by
  rw [driveEnded_mode c home]
  decide

theorem faultReady_psq : (faultReady cause s).psq = faultPsq cause s.psq := by
  have psq := (leaveTarget_leaves s.psq.seq (driveEnded_unheld home (faultEndCause cause))).2.2.2.1
  rw [driveEnded_psq] at psq
  show { (forgetStop (dropPrefetched (leaveTarget s.psq.seq (driveEnded (faultEndCause cause) s)))).psq with
    faultCause := some cause } = _
  unfold forgetStop dropPrefetched
  dsimp only
  rw [psq]

theorem faultReady_home : HomeKept (openRelays (clearEnable s)) (faultReady cause s) :=
  ((driveEnded_home (faultEndCause cause) s).trans
    (leaveTarget_leaves s.psq.seq (driveEnded_unheld home (faultEndCause cause))).1).trans
    ⟨rfl, rfl, fun _ mem => mem, fun _ mem _ => mem⟩

theorem faultReady_mode : (faultReady cause s).imn.mode = .localMode := by
  have kept := (leaveTarget_leaves s.psq.seq (driveEnded_unheld home (faultEndCause cause))).1
  exact kept.mode.trans (driveEnded_mode _ home)

theorem enterFault_home : HomeKept (openRelays (clearEnable s)) (enterFault cause s) :=
  (faultReady_home cause home).trans (enterSeq_home .fault (faultReady_mode cause home))

theorem enterFault_stages : StagesKept (clearEnable s) (enterFault cause s) := by
  refine StagesKept.trans ?_ (enterSeq_stages .fault (faultReady cause s))
  exact ((driveEnded_stages (faultEndCause cause) s).trans
    (leaveTarget_leaves s.psq.seq (driveEnded_unheld home (faultEndCause cause))).2.1).trans rfl

theorem enterFault_psq (other : s.psq.seq ≠ .fault) :
    (enterFault cause s).psq = leaveState .fault (faultPsq cause s.psq) := by
  have ident : identOnEntry .fault (faultReady cause s) = faultReady cause s := rfl
  rw [enterFault_eq, enterSeq_psq, ident, faultReady_psq cause home, if_neg other]

/-- FAULT has been entered with its cause (R20). -/
theorem enterFault_taken (other : s.psq.seq ≠ .fault) (asks : s.psq.query = true → s.psq.seq = .identifying) :
    FaultTaken cause (faultEndCause cause) s (enterFault cause s) := by
  have psq := enterFault_psq cause home other
  rw [leaveState_eq] at psq
  have ready := faultReady_psq cause home
  have mode := faultReady_mode cause home
  have first := openRelays_psq (clearEnable s)
  rw [(clearEnable_keeps s).2.2.1] at first
  have notFault : (faultReady cause s).psq.seq ≠ .fault := by
    rw [ready]
    exact other
  have closed : (faultReady cause s).mtr.session = none := by
    show (leaveTarget s.psq.seq (driveEnded (faultEndCause cause) s)).mtr.session = none
    rw [(leaveTarget_keeps _ _).2.2.2.1]
    exact endSession_session _ _
  have meter : (enterFault cause s).mtr = (faultReady cause s).mtr := enterSeq_mtr .fault closed
  refine ⟨by rw [psq], by rw [psq], enterSeq_raised notFault, ?_, ?_, enterSeq_setpoint notFault (by decide), ?_, by rw [psq], ?_,
    by rw [psq], by rw [psq], by rw [psq], ?_, fun leaves => ?_⟩
  · exact ((openRelays_opened (clearEnable s)).home (enterFault_home cause home) (by rw [psq, first])
      (by rw [psq, first]) (by rw [psq, first]) (by rw [psq, first])).cleared
  · have stages := enterFault_stages cause home
    unfold StagesKept at stages
    rw [stages]
    exact clearEnable_enable s
  · rw [meter]
    rfl
  · have entered := enterFault_psq cause home other
    rw [entered]
    unfold leaveState
    by_cases asking : s.psq.seq = .identifying
    · rw [show (faultPsq cause s.psq).seq = .identifying from asking]
    · have quiet : s.psq.query = false := Bool.eq_false_iff.2 fun q => asking (asks q)
      cases seq : (faultPsq cause s.psq).seq with
      | identifying => exact absurd seq asking
      | _ => exact quiet
  · have store : (enterFault cause s).mst = (driveEnded (faultEndCause cause) s).mst :=
      ((enterSeq_keeps .fault (faultReady cause s)).2.2.2.1).trans (leaveTarget_keeps s.psq.seq _).2.2.2.2.1
    have left := leaveTarget_leaves s.psq.seq (driveEnded_unheld home (faultEndCause cause))
    refine (driveEnded_ended (faultEndCause cause) s).later ?_ ?_ store fun e mem => ?_
    · rw [meter]
      exact closed
    · exact enterSeq_gone .fault (left.2.2.2.2 (driveEnded_gone _ s))
    · exact enterSeq_events .fault _ (left.1.2.2.1 e mem)
  · have left := (leaveTarget_leaves s.psq.seq (driveEnded_unheld home (faultEndCause cause))).2.2.1 leaves
    exact enterSeq_noTarget .fault (s := faultReady cause s) (by rw [mode]; decide) left

end

end Sys2Proof.Machine
end

section
/-! PROOF. A leader's own step that FAULT ends, and the expiries that enter FAULT (R5, R10, R20, R23, R162). -/

namespace Sys2Proof.Machine

variable {s t u : State}

/-! ## The queue and the sweep as the relays open (R39, R162) -/

/-- Of the line only the queue has changed. -/
abbrev QueueOnly (s t : State) : Prop := t.fli = { s.fli with queue := t.fli.queue }

theorem QueueOnly.trans (h : QueueOnly s t) (k : QueueOnly t u) : QueueOnly s u := by
  unfold QueueOnly at *
  rw [k, h]

theorem QueueOnly.line (h : QueueOnly s t) : t.fli.line = s.fli.line := by rw [h]

theorem enqueue_queueOnly (b : FrameBody) (s : State) : QueueOnly s (enqueue b s) := by
  unfold QueueOnly
  rw [enqueue_eq]

theorem endLeading_queueOnly (r : LeaderRecord) (o : SweepOutcome) (hold : Bool) (s : State) :
    QueueOnly s (endLeading r o hold s) := by
  unfold QueueOnly
  rw [endLeading_eq]
  rfl

theorem contactorOpened_queueOnly (s : State) : QueueOnly s (contactorOpened s) := by
  obtain ⟨r, loses⟩ | keeps := losesSweep_cases s
  · rw [contactorOpened_loses loses]
    exact QueueOnly.trans (roleLeft_fli s) (endLeading_queueOnly _ _ _ _)
  · rw [contactorOpened_keepsSweep keeps]
    exact roleLeft_fli s

theorem openRelays_queueOnly (s : State) : QueueOnly s (openRelays s) := by
  rw [openRelays_eq]
  split
  · exact contactorOpened_queueOnly (relaysCut s)
  · rfl

theorem endSession_fli (cause : EndCause) (s : State) : (endSession cause s).fli = s.fli :=
  congrArg (·.fli) (endSession_onlyChain cause s)

theorem driveEnded_fli (cause : EndCause) (s : State) : (driveEnded cause s).fli = (openRelays (clearEnable s)).fli :=
  endSession_fli cause _

theorem driveEnded_queueOnly (cause : EndCause) (s : State) : QueueOnly s (driveEnded cause s) := by
  have opened := openRelays_queueOnly (clearEnable s)
  unfold QueueOnly at opened ⊢
  rw [(clearEnable_keeps s).2.2.2.1] at opened
  rw [driveEnded_fli, ← opened]

/-- A leader in its own step leads on as the relays open, and no frame joins the queue (R162). -/
theorem openRelays_ownStep {r : LeaderRecord} (own : InOwnStep s r) :
    (openRelays s).imn.sweep = .leading r ∧ (openRelays s).imn.hold = s.imn.hold ∧
      (openRelays s).fli.queue.length ≤ s.fli.queue.length := by
  have keeps : ∀ x, ¬ LosesSweep (relaysCut s) x := by
    rintro x ⟨-, leads, step⟩
    obtain rfl : r = x := SweepRole.leading.inj (own.1.symm.trans leads)
    exact step own.2
  rw [openRelays_eq]
  split
  · rw [contactorOpened_keepsSweep keeps, roleLeft_sweep, roleLeft_hold]
    exact ⟨own.1, rfl, roleLeft_queue_le (relaysCut s)⟩
  · exact ⟨own.1, rfl, le_rfl⟩

theorem endSession_imn (cause : EndCause) (s : State) : (endSession cause s).imn = s.imn :=
  congrArg (·.imn) (endSession_onlyChain cause s)

theorem driveEnded_imn (cause : EndCause) (s : State) : (driveEnded cause s).imn = (openRelays (clearEnable s)).imn :=
  endSession_imn cause _

theorem InOwnStep.cleared {r : LeaderRecord} (own : InOwnStep s r) : InOwnStep (clearEnable s) r := by
  unfold InOwnStep
  rw [(clearEnable_keeps s).2.2.2.2.2.2.2.1]
  exact own

/-! ## The line's target (R36) -/

/-- What R36 reads besides the sequencer's state. -/
abbrev LineInputs (s t : State) : Prop :=
  t.psq.prox = s.psq.prox ∧ t.psq.ident = s.psq.ident ∧ t.fli.silentTimer = s.fli.silentTimer ∧
  t.fli.duplicate = s.fli.duplicate ∧ t.cpt.configured = s.cpt.configured

theorem lineTarget_inputs (h : LineInputs s t) (was : ¬ s.psq.seq.lineOff) (is : ¬ t.psq.seq.lineOff) :
    lineTarget t = lineTarget s := by
  obtain ⟨prox, ident, silent, duplicate, configured⟩ := h
  have off : lineOff t = lineOff s := by
    unfold lineOff
    rw [prox]
    have u : (s.psq.seq == .unplugged) = false := by simpa using fun e => was (.inl e)
    have p : (s.psq.seq == .plugSettle) = false := by simpa using fun e => was (.inr e)
    have u' : (t.psq.seq == .unplugged) = false := by simpa using fun e => is (.inl e)
    have p' : (t.psq.seq == .plugSettle) = false := by simpa using fun e => is (.inr e)
    rw [u, p, u', p']
  unfold lineTarget lineListens heldFeeder
  rw [off, silent, duplicate, configured, ident]

theorem StagesKept.configured (h : StagesKept s t) : t.cpt.configured = s.cpt.configured := by rw [h]

/-! ## A leader's own step that FAULT ends (R162) -/

section
variable (cause : FaultCause) (home : HomeUnlessClosed s)
include home

theorem faultReady_queueOnly : QueueOnly s (faultReady cause s) := by
  refine (driveEnded_queueOnly (faultEndCause cause) s).trans ?_
  have left : QueueOnly (driveEnded (faultEndCause cause) s)
      (leaveTarget s.psq.seq (driveEnded (faultEndCause cause) s)) := by
    by_cases leaves : LeavesTarget s.psq.seq
    · obtain active | suspended | isolated := leaves
      · rw [active]
        rfl
      · rw [suspended]
        rfl
      · cases seq : s.psq.seq with
        | sweepIsolated p =>
          show QueueOnly _ (leftSweep _)
          obtain ⟨r, leads, own⟩ | other := inOwnStep_cases (driveEnded (faultEndCause cause) s)
          · rw [leftSweep_own (driveEnded_unheld home _) leads own]
            exact endLeading_queueOnly _ _ _ _
          · rw [leftSweep_other other]
            rfl
        | _ =>
          rw [seq] at isolated
          cases isolated
    · rw [leaveTarget_other leaves]
  exact left

/-- FAULT does not move the line of a plug that is settled (R36). -/
theorem enterFault_lineKept (was : ¬ s.psq.seq.lineOff) (held : s.fli.line = lineTarget s) :
    enterFault cause s = updateFallback (setSeq .fault (faultReady cause s)) := by
  have fli := faultReady_queueOnly cause home
  have psq := faultReady_psq cause home
  have set := (setSeq_keeps .fault (faultReady cause s)).2.2.1
  have moved := setSeq_psq .fault (faultReady cause s)
  have stages : StagesKept (clearEnable s) (faultReady cause s) := by
    exact ((driveEnded_stages (faultEndCause cause) s).trans
      (leaveTarget_leaves s.psq.seq (driveEnded_unheld home (faultEndCause cause))).2.1).trans rfl
  have configured : (setSeq .fault (faultReady cause s)).cpt.configured = s.cpt.configured := by
    rw [(stages.trans (setSeq_stages .fault _)).configured, (clearEnable_keeps s).2.2.2.2.2.2.2.2.2.2.1]
  have record : (setSeq .fault (faultReady cause s)).psq.prox = s.psq.prox ∧
      (setSeq .fault (faultReady cause s)).psq.ident = s.psq.ident := by
    rw [moved, psq]
    split
    · exact ⟨rfl, rfl⟩
    · rw [leaveState_eq]
      exact ⟨rfl, rfl⟩
  refine enterSeq_lineKept (by decide) (by decide) (by decide) ?_
  rw [fli.line, held]
  refine lineTarget_inputs ⟨record.1, record.2, ?_, ?_, configured⟩ was ?_
  · rw [set, fli]
  · rw [set, fli]
  · rw [setSeq_seq]
    simp

theorem enterFault_ownStep (isolated : s.psq.seq.isolated = true) (held : s.fli.line = lineTarget s) :
    OwnStepAbandoned s (enterFault cause s) := by
  unfold OwnStepAbandoned
  split
  next r leads =>
    intro own
    have step : InOwnStep (clearEnable s) r := InOwnStep.cleared ⟨leads, own⟩
    obtain ⟨sweep, hold, short⟩ := openRelays_ownStep step
    rw [(clearEnable_keeps s).2.2.2.2.2.2.2.1] at hold
    rw [(clearEnable_keeps s).2.2.2.1] at short
    have imn := driveEnded_imn (faultEndCause cause) s
    have psq := driveEnded_psq (faultEndCause cause) s
    have queue := driveEnded_queueOnly (faultEndCause cause) s
    have cfg : (driveEnded (faultEndCause cause) s).cfg = s.cfg :=
      (driveEnded_stages (faultEndCause cause) s).cfg.trans (clearEnable_keeps s).2.1
    have fli := driveEnded_fli (faultEndCause cause) s
    have left : leaveTarget s.psq.seq (driveEnded (faultEndCause cause) s) =
        endLeading r .abandoned false (driveEnded (faultEndCause cause) s) := by
      have leaves : leaveTarget s.psq.seq (driveEnded (faultEndCause cause) s) = leftSweep (driveEnded (faultEndCause cause) s) := by
        cases seq : s.psq.seq with
        | sweepIsolated p => rfl
        | _ =>
          rw [seq] at isolated
          cases isolated
      rw [leaves]
      exact leftSweep_own (driveEnded_unheld home _) (by rw [imn]; exact sweep) own
    obtain ⟨⟨none, outcome, held', event⟩, -, queued⟩ :=
      endLeading_ended r .abandoned false (driveEnded (faultEndCause cause) s)
    have sent : QueuedOwn (endingFrame r .abandoned) s (endLeading r .abandoned false (driveEnded (faultEndCause cause) s)) :=
      queued.earlier queue.line.symm (by rw [fli]; exact short) cfg.symm (by rw [psq])
    rw [enterFault_lineKept cause home (not_lineOff_of_isolated isolated) held]
    have ready : (faultReady cause s).imn = (endLeading r .abandoned false (driveEnded (faultEndCause cause) s)).imn ∧
        (faultReady cause s).fli = (endLeading r .abandoned false (driveEnded (faultEndCause cause) s)).fli ∧
        (faultReady cause s).cpt = (endLeading r .abandoned false (driveEnded (faultEndCause cause) s)).cpt := by
      unfold faultReady
      rw [left]
      exact ⟨rfl, rfl, rfl⟩
    have event' : EventKind.sweep ∈ (faultReady cause s).cpt.events := by
      rw [ready.2.2]
      exact event
    have raised := mem_updateFallback (s := setSeq .fault (faultReady cause s)) (setSeq_events .fault _ event')
    have only := updateFallback_onlyChain (setSeq .fault (faultReady cause s))
    obtain ⟨-, -, setFli, -, setImn, -⟩ := setSeq_keeps .fault (faultReady cause s)
    generalize updateFallback _ = t at raised only ⊢
    have finalImn : t.imn = (endLeading r .abandoned false (driveEnded (faultEndCause cause) s)).imn :=
      ((congrArg (·.imn) only).trans setImn).trans ready.1
    have finalFli : t.fli = (endLeading r .abandoned false (driveEnded (faultEndCause cause) s)).fli :=
      ((congrArg (·.fli) only).trans setFli).trans ready.2.1
    unfold SweepEnded
    rw [finalImn]
    exact ⟨⟨none, outcome, held'.trans (by rw [imn, hold]), raised⟩, sent.congr rfl rfl rfl (by rw [finalFli])⟩
  next => trivial

/-- FAULT is entered with all that it ends (R20, R162). -/
theorem enterFault_entered (other : s.psq.seq ≠ .fault) (asks : s.psq.query = true → s.psq.seq = .identifying) :
    FaultEntered cause (faultEndCause cause) s (enterFault cause s) :=
  ⟨enterFault_taken cause home other asks, fun isolated settled => enterFault_ownStep cause home isolated settled.1⟩

end

/-! ## The expiries (O20) -/

theorem DriveSafe.home (h : DriveSafe s) : HomeUnlessClosed s := h.2.2.1.2.2.2.2.2.2.1

theorem DriveSafe.asks (h : DriveSafe s) : s.psq.query = true → s.psq.seq = .identifying :=
  fun query => h.2.2.1.2.2.1 (.inr query)

theorem energizes_not_fault {q : SeqState} (energizes : q.energizes = true) : q ≠ .fault := by
  rintro rfl
  cases energizes

theorem contactorSup_clear (clear : s.psq.contactorSup = false) : ({ s with psq.contactorSup := false } : State) = s := by
  rw [← clear]

theorem prechargeSup_clear (clear : s.psq.prechargeSup = false) : ({ s with psq.prechargeSup := false } : State) = s := by
  rw [← clear]

theorem supervisionExpiry_contactor (s : State) : supervisionExpiry .contactor s =
    if s.psq.contactorSup = true ∧ s.psq.contactorFb = true ∧ s.psq.seq ≠ .fault then
      enterFault .contactorWeld { s with psq.contactorSup := false }
    else { s with psq.contactorSup := false } := by
  unfold supervisionExpiry
  dsimp only
  cases sup : s.psq.contactorSup with
  | false => simp [contactorSup_clear sup]
  | true =>
    by_cases weld : s.psq.contactorFb = true ∧ s.psq.seq ≠ .fault
    · have both : (s.psq.contactorFb && s.psq.seq != .fault) = true := by simpa using weld
      rw [if_pos rfl, both, onlyIf_true, if_pos ⟨rfl, weld⟩]
    · have none : (s.psq.contactorFb && s.psq.seq != .fault) = false := by simpa using weld
      rw [if_pos rfl, none, onlyIf_false, if_neg fun h => weld h.2]

theorem supervisionExpiry_precharge (s : State) : supervisionExpiry .precharge s =
    if s.psq.prechargeSup = true ∧ s.psq.prechargeFb = true ∧ s.psq.seq ≠ .fault then
      enterFault .relayStuck { s with psq.prechargeSup := false }
    else { s with psq.prechargeSup := false } := by
  unfold supervisionExpiry
  dsimp only
  cases sup : s.psq.prechargeSup with
  | false => simp [prechargeSup_clear sup]
  | true =>
    by_cases stuck : s.psq.prechargeFb = true ∧ s.psq.seq ≠ .fault
    · have both : (s.psq.prechargeFb && s.psq.seq != .fault) = true := by simpa using stuck
      rw [if_pos rfl, both, onlyIf_true, if_pos ⟨rfl, stuck⟩]
    · have none : (s.psq.prechargeFb && s.psq.seq != .fault) = false := by simpa using stuck
      rw [if_pos rfl, none, onlyIf_false, if_neg fun h => stuck h.2]

/-- Settles O22: an expiry of a running timer enters FAULT, a supervision only where its contact reads closed. -/
theorem relayTimersEnterFault : Obligations.RelayTimersEnterFault := by
  unfold Obligations.RelayTimersEnterFault
  intro s run drive regulated
  have home := drive.home
  have asks := drive.asks
  have precharge : exec .prechargeTimeout s = .next (prechargeTimeout s) := whenRunning_running run
  have contactor : exec .contactorTimeout s = .next (contactorTimeout s) := whenRunning_running run
  have supervision (k : PlugRelay) : exec (.openSupervisionExpiry k) s = .next (supervisionExpiry k s) := whenRunning_running run
  have charging : s.psq.prechargeTimer = true → s.psq.seq.energizes = true := fun timer => (drive.2.2.1.2.1 timer).2
  have closing : s.psq.contactorTimer = true → s.psq.seq.energizes = true := fun timer => (drive.2.2.1.1 timer).2
  rw [precharge, contactor, supervision, supervision, supervisionExpiry_contactor, supervisionExpiry_precharge]
  unfold prechargeTimeout contactorTimeout
  refine ⟨?_, ?_, ?_, ?_⟩
  · split
    next timer => exact ⟨_, rfl, enterFault_entered .prechargeFail home (energizes_not_fault (charging timer)) asks⟩
    next => rfl
  · split
    next timer => exact ⟨_, rfl, enterFault_entered .contactorFail home (energizes_not_fault (closing timer)) asks⟩
    next => rfl
  · split
    next weld =>
      exact ⟨_, rfl, enterFault_entered (s := { s with psq.contactorSup := false }) .contactorWeld home weld.2.2 asks⟩
    next => rfl
  · split
    next stuck =>
      exact ⟨_, rfl, enterFault_entered (s := { s with psq.prechargeSup := false }) .relayStuck home stuck.2.2 asks⟩
    next => rfl

end Sys2Proof.Machine
end

section
/-! PROOF. The identification (R7, R8, R44). -/

namespace Sys2Proof.Machine

variable {s t u : State}

/-! ## A line that is not ONLINE -/

/-- R36 and R61 hold of a line just decided. -/
theorem refreshLine_settled (s : State) : LineHeld (refreshLine s) :=
  ((Sound.refl (line := False) False s nofun).refreshLine (line' := True)).settled trivial

/-- A line that neither was ONLINE nor goes OFFLINE leaves the monitor and the peer table (R51, R147, R166). -/
theorem lineMoved_quiet (online : s.fli.line ≠ .online) (off : lineTarget s = .offline → s.fli.line = .offline) :
    (lineMoved s).imn = s.imn ∧ (lineMoved s).shu.peers = s.shu.peers := by
  unfold lineMoved
  split
  · exact ⟨rfl, rfl⟩
  next moves =>
    rw [changeLine_quiet online fun target => moves (target.trans (off target).symm)]
    cases lineTarget s == .online && s.fli.line == .silent <;> exact ⟨rfl, rfl⟩

theorem refreshLine_quiet (online : s.fli.line ≠ .online) (off : lineTarget s = .offline → s.fli.line = .offline) :
    (refreshLine s).imn = s.imn ∧ (refreshLine s).shu.peers = s.shu.peers := by
  obtain ⟨imn, peers⟩ := lineMoved_quiet online off
  have only := updateFallback_onlyChain (lineMoved s)
  exact ⟨(congrArg (·.imn) only).trans imn, (congrArg (·.shu.peers) only).trans peers⟩

/-- Without an identification the line is not ONLINE (R36). -/
theorem line_of_no_ident (held : s.fli.line = lineTarget s) (none : s.psq.ident = none) : s.fli.line ≠ .online := by
  have listens : lineListens s = true := by
    unfold lineListens heldFeeder
    rw [none]
    simp
  rw [held]
  unfold lineTarget
  rw [listens]
  split
  · decide
  · split <;> decide

/-! ## Codes (R7) -/

theorem codeValid_iff (bits : List Bool) : codeValid bits = true ↔ CodeIsValid bits := by
  have ones : ((bits.take 18).filter id).length = (bits.take 18).count true := by
    rw [List.count, List.countP_eq_length_filter]
    congr 2
    funext b
    cases b <;> rfl
  unfold codeValid codeField CodeIsValid
  rw [ones]
  simp [and_assoc]

theorem ratingOfClass_eq (n : Nat) : ratingOfClass n = [60, 100, 130, 160, 200, 250, 320, 400, 500, 630].getD n 0 := by
  by_cases small : n < 10
  · interval_cases n <;> rfl
  · rw [List.getD_eq_default _ _ (by simpa using small)]
    unfold ratingOfClass
    split
    case h_11 => rfl
    all_goals omega

/-! ## IDENTIFIED (R8, R44) -/

/-- The line decided anew leaves the identification's copy (R44). -/
theorem refreshLine_identCopy (s : State) : (refreshLine s).shu.identCopy = s.shu.identCopy := by
  have moved : (lineMoved s).shu.identCopy = s.shu.identCopy := congrArg (·.shu.identCopy) (lineMoved_frame s)
  exact (congrArg (·.shu.identCopy) (updateFallback_onlyChain (lineMoved s))).trans moved

/-- A plug that is OFFLINE by its proximity level was so before (R36). -/
theorem lineTarget_offline (h : t.psq.prox = s.psq.prox) (is : ¬ t.psq.seq.lineOff) (off : lineTarget t = .offline) :
    lineTarget s = .offline := by
  have gone : lineOff t = true := by
    by_contra on
    unfold lineTarget at off
    rw [eq_false_of_ne_true on] at off
    revert off
    cases t.fli.silentTimer <;> cases lineListens t <;> simp
  have none : s.psq.prox = .none := by
    unfold lineOff at gone
    rw [h] at gone
    have u : (t.psq.seq == .unplugged) = false := by simpa using fun e => is (.inl e)
    have p : (t.psq.seq == .plugSettle) = false := by simpa using fun e => is (.inr e)
    rw [u, p] at gone
    simpa using gone
  unfold lineTarget lineOff
  rw [none]
  rfl

/-- IDENTIFIED is entered from IDENTIFYING with an identification (R8, R44). -/
theorem identify_identified (i : Identification) (drive : DriveSafe s) (settled : LineSettled s)
    (asking : s.psq.seq = .identifying) : IdentifiedAs i (ratingOfClass i.ratingClass) s (identify i s) := by
  obtain ⟨held, conds, early⟩ := settled
  have closed : s.mtr.session = none := by
    by_contra opened
    have holds := drive.2.2.2.2.2 opened
    rw [asking] at holds
    cases holds
  have entry : identOnEntry .identified { s with psq.ident := some i } =
      { s with psq.ident := some i, shu.identCopy := some ⟨i.feederId, i.capacity, ratingOfClass i.ratingClass⟩ } := rfl
  have mtr := enterSeq_mtr .identified (s := { s with psq.ident := some i }) closed
  have settledNow : LineHeld (enterSeq .identified { s with psq.ident := some i }) := refreshLine_settled _
  have psq := enterSeq_psq .identified { s with psq.ident := some i }
  obtain ⟨-, cfg, msq, mst, -⟩ := enterSeq_keeps .identified { s with psq.ident := some i }
  have other : s.psq.seq ≠ .identified := by
    rw [asking]
    decide
  rw [entry] at psq
  dsimp only at psq
  rw [if_neg other] at psq
  have raised := enterSeq_raised (q := .identified) (s := { s with psq.ident := some i }) other
  have set := setSeq_onlyChain (q := .identified)
    (s := { s with psq.ident := some i, shu.identCopy := some ⟨i.feederId, i.capacity, ratingOfClass i.ratingClass⟩ }) other
  have opened : enterSeq .identified { s with psq.ident := some i } = refreshLine (setSeq .identified
      { s with psq.ident := some i, shu.identCopy := some ⟨i.feederId, i.capacity, ratingOfClass i.ratingClass⟩ }) := rfl
  have seq := setSeq_seq .identified
    { s with psq.ident := some i, shu.identCopy := some ⟨i.feederId, i.capacity, ratingOfClass i.ratingClass⟩ }
  have quiet : (enterSeq .identified { s with psq.ident := some i }).imn = s.imn ∧
      (enterSeq .identified { s with psq.ident := some i }).shu.peers = s.shu.peers ∧
      (enterSeq .identified { s with psq.ident := some i }).shu.identCopy =
        some ⟨i.feederId, i.capacity, ratingOfClass i.ratingClass⟩ := by
    rw [opened]
    generalize setSeq _ _ = y at set seq ⊢
    have line : y.fli.line = s.fli.line := congrArg (·.fli.line) set
    have prox : y.psq.prox = s.psq.prox := by
      have moved : y.psq.prox = (leaveState .identified { s.psq with ident := some i }).prox := congrArg (·.psq.prox) set
      rw [moved, leaveState_eq]
    obtain ⟨imn, peers⟩ := refreshLine_quiet (s := y)
      (by rw [line]; exact line_of_no_ident held (early (.inr (.inr (.inr asking)))))
      (fun off => by rw [line, held]; exact lineTarget_offline prox (by rw [seq]; simp) off)
    exact ⟨imn.trans (congrArg (·.imn) set), peers.trans (congrArg (·.shu.peers) set),
      (refreshLine_identCopy y).trans (congrArg (·.shu.identCopy) set)⟩
  obtain ⟨imn, peers, copy⟩ := quiet
  unfold identify
  clear opened
  generalize enterSeq .identified _ = x at *
  refine ⟨?_, copy, raised_mem .., mem_raiseEvent _ raised, settledNow.1, mtr, mst, imn, msq, cfg, peers⟩
  show x.psq = _
  rw [psq]
  unfold leaveState
  rw [show ({ s.psq with ident := some i } : Psq).seq = .identifying from asking]
  simp

/-- Settles O16: a code or the timeout identifies, or the timeout enters FAULT. -/
theorem codesAndTimeoutIdentify : Obligations.CodesAndTimeoutIdentify := by
  unfold Obligations.CodesAndTimeoutIdentify
  intro s run drive settled regulated
  have code : exec .pilotCodeComplete s = .next (pilotCodeComplete s) := whenRunning_running run
  have timeout : exec .identTimeout s = .next (identTimeout s) := whenRunning_running run
  have asks : s.psq.identTimer = true ∨ s.psq.query = true → s.psq.seq = .identifying := drive.2.2.1.2.2.1
  rw [code, timeout]
  refine ⟨?_, ?_⟩
  · unfold pilotCodeComplete
    cases s.psq.assembly with
    | collecting bits =>
      dsimp only
      split
      next full =>
        unfold takeCode
        by_cases same : CodeIsValid bits ∧ s.psq.prevCode = some bits
        · rw [if_pos same, if_pos ⟨(codeValid_iff bits).2 same.1, same.2⟩]
          have identified := identify_identified (identOfCode bits) drive settled (asks (.inr full.2))
          rw [ratingOfClass_eq] at identified
          exact ⟨_, rfl, identified⟩
        · rw [if_neg same, if_neg fun h => same ⟨(codeValid_iff bits).1 h.1, h.2⟩]
      next => rfl
    | waiting => rfl
    | complete => rfl
  · unfold identTimeout
    cases timer : s.psq.identTimer with
    | false => rfl
    | true =>
      have asking := asks (.inl timer)
      rw [if_neg (by decide), if_pos rfl]
      cases policy : s.cfg.policy with
      | strict =>
        exact ⟨_, rfl, enterFault_entered .identFail drive.home (by rw [asking]; decide) drive.asks⟩
      | lenient => exact ⟨_, rfl, identify_identified lenientIdent drive settled asking⟩

end Sys2Proof.Machine
end

section
/-! PROOF. Stops: their start, their completion, and what a sweep isolation records of them (R13, R14, R22, R24,
R160, R162). -/

namespace Sys2Proof.Machine

variable {s t u : State}

/-! ## Entries between settled states (R1, R36) -/

/-- Between two states with a settled plug an entry leaves the line, its queue and the monitor. -/
theorem enterSeq_still {q : SeqState} (plugged : q ≠ .plugged) (unplugged : q ≠ .unplugged)
    (held : s.fli.line = lineTarget s) (was : ¬ s.psq.seq.lineOff) (is : ¬ q.lineOff) :
    enterSeq q s = updateFallback (setSeq q (identOnEntry q s)) ∧ (enterSeq q s).fli = s.fli ∧
      (enterSeq q s).imn = s.imn ∧ (enterSeq q s).shu.sweepTarget = s.shu.sweepTarget := by
  have ident : (identOnEntry q s).psq = s.psq ∧ (identOnEntry q s).fli = s.fli ∧ (identOnEntry q s).cpt = s.cpt ∧
      (identOnEntry q s).imn = s.imn ∧ (identOnEntry q s).shu.sweepTarget = s.shu.sweepTarget := by
    unfold identOnEntry
    split
    · exact absurd rfl plugged
    · exact absurd rfl unplugged
    · exact ⟨rfl, rfl, rfl, rfl, rfl⟩
    · exact ⟨rfl, rfl, rfl, rfl, rfl⟩
  obtain ⟨psq, fli, cpt, imn, target⟩ := ident
  have set : (setSeq q (identOnEntry q s)).fli = s.fli ∧ (setSeq q (identOnEntry q s)).imn = s.imn ∧
      (setSeq q (identOnEntry q s)).shu.sweepTarget = s.shu.sweepTarget := by
    obtain ⟨-, -, fli', -, imn', -⟩ := setSeq_keeps q (identOnEntry q s)
    refine ⟨fli'.trans fli, imn'.trans imn, ?_⟩
    by_cases same : (identOnEntry q s).psq.seq = q
    · rw [setSeq, if_pos same]
      exact target
    · exact (congrArg (·.shu.sweepTarget) (setSeq_onlyChain same)).trans target
  have configured := (setSeq_stages q (identOnEntry q s)).configured
  have moved := setSeq_psq q (identOnEntry q s)
  have seq := setSeq_seq q (identOnEntry q s)
  have entered : enterSeq q s = refreshLine (setSeq q (identOnEntry q s)) := rfl
  rw [entered]
  generalize setSeq q (identOnEntry q s) = y at *
  have record : y.psq.prox = s.psq.prox ∧ y.psq.ident = s.psq.ident := by
    rw [moved, psq]
    split
    · exact ⟨rfl, rfl⟩
    · rw [leaveState_eq]
      exact ⟨rfl, rfl⟩
  have target' : lineTarget y = y.fli.line := by
    rw [set.1, held]
    refine lineTarget_inputs ⟨record.1, record.2, by rw [set.1], by rw [set.1], by rw [configured, cpt]⟩ was ?_
    rw [seq]
    exact is
  have same : refreshLine y = updateFallback y := by
    rw [refreshLine_eq]
    unfold lineMoved
    rw [if_pos target']
  have only := updateFallback_onlyChain y
  rw [same]
  exact ⟨rfl, (congrArg (·.fli) only).trans set.1, (congrArg (·.imn) only).trans set.2.1,
    (congrArg (·.shu.sweepTarget) only).trans set.2.2⟩

/-! ## A stop starts (R13, R14, R160) -/

theorem leaveTarget_charging (charging : s.psq.seq = .active ∨ s.psq.seq = .suspended) :
    leaveTarget s.psq.seq s = clearTarget s := by
  obtain h | h := charging <;> rw [h] <;> rfl

/-- A stop begins in ACTIVE or SUSPENDED, and only the chain moves with it (R13, R14, R160). -/
theorem startStop_onlyChain (cause : EndCause) (settled : LineSettled s)
    (charging : s.psq.seq = .active ∨ s.psq.seq = .suspended) : OnlyChain (stopBegun cause s) (startStop cause s) := by
  have begun := enterSeq_onlyChain (q := .stopping)
    (s := { clearTarget s with
      psq.stopCause := some cause, psq.forced := false, psq.stopTimer := true })
    ⟨settled.1, settled.2.1⟩ (by obtain h | h := charging <;> simp [h]) (by simp) (by decide) (by decide)
    (by obtain h | h := charging <;> simp [h])
  have left : leaveState .stopping { s.psq with stopCause := some cause, forced := false, stopTimer := true } =
      { s.psq with seq := .stopping, stopCause := some cause, forced := false, stopTimer := true, batteryLow := false } := by
    rw [leaveState_psq (by obtain h | h := charging <;> simp [h])]
    simp
  unfold startStop stopBegun
  rw [leaveTarget_charging charging]
  have psq : ({ clearTarget s with psq.stopCause := some cause, psq.forced := false, psq.stopTimer := true } : State).psq =
      { s.psq with stopCause := some cause, forced := false, stopTimer := true } := rfl
  rw [psq, left] at begun
  exact begun

theorem stopRequest_charging (cause : EndCause) (charging : s.psq.seq = .active ∨ s.psq.seq = .suspended) :
    stopRequest cause s = startStop cause s := by
  unfold stopRequest
  obtain h | h := charging <;> rw [h]

/-! ## A stop completes (R14, R24) -/

/-- The sequencer's record after a stop that has completed. -/
abbrev stoppedPsq (p : Psq) : Psq :=
  { p with
    seq := .identified, batteryLow := false, prechargeTimer := false, contactorTimer := false, stopTimer := false
    stopCause := none, forced := false, start := none, isoReturn := none, cancelPending := false, cancelContactor := false }

/-- The states a stop completes in. -/
abbrev Stops (q : SeqState) : Prop := q = .stopping ∨ q.isolated = true

theorem Stops.facts {q : SeqState} (h : Stops q) : ¬ q.lineOff ∧ q ≠ .identified ∧ q ≠ .identifying := by
  obtain rfl | isolated := h
  · simp
  · refine ⟨not_lineOff_of_isolated isolated, ?_, ?_⟩ <;>
    · rintro rfl
      cases isolated

/-- A stop that has completed, with its cause (R14, R24). -/
abbrev stopReady (cause : EndCause) (s : State) : State :=
  forgetStop (stopTimers (endSession cause { s with imn.pendingRelease := false }))

theorem finishStop_eq (s : State) : finishStop s =
    onlyIf (s.psq.stopCause.getD .hostStop == .released) (enqueue .leave)
      (enterSeq .identified (stopReady (s.psq.stopCause.getD .hostStop) s)) := rfl

/-- The session's end with no pending release left of the isolation. -/
abbrev sessionStopped (cause : EndCause) (s : State) : State := endSession cause { s with imn.pendingRelease := false }

theorem sessionStopped_parts (cause : EndCause) (s : State) :
    (sessionStopped cause s).psq = s.psq ∧ (sessionStopped cause s).fli = s.fli ∧
      (sessionStopped cause s).imn = { s.imn with pendingRelease := false } ∧
      (sessionStopped cause s).shu.sweepTarget = s.shu.sweepTarget := by
  have only := endSession_onlyChain cause { s with imn.pendingRelease := false }
  exact ⟨congrArg (·.psq) only, congrArg (·.fli) only, congrArg (·.imn) only, congrArg (·.shu.sweepTarget) only⟩

theorem sessionStopped_stages (cause : EndCause) (s : State) : StagesKept s (sessionStopped cause s) :=
  StagesKept.trans (t := { s with imn.pendingRelease := false }) rfl (endSession_stages cause _)

theorem stopReady_frame (cause : EndCause) (s : State) : stopReady cause s =
    { sessionStopped cause s with psq := (stopReady cause s).psq } := rfl

theorem stopReady_psq (cause : EndCause) (s : State) : (stopReady cause s).psq =
    { s.psq with
      prechargeTimer := false, contactorTimer := false, stopTimer := false, stopCause := none, forced := false
      start := none, isoReturn := none, cancelPending := false, cancelContactor := false } := by
  have psq := (sessionStopped_parts cause s).1
  show { (sessionStopped cause s).psq with
      prechargeTimer := false, contactorTimer := false, stopTimer := false, stopCause := none, forced := false
      start := none, isoReturn := none, cancelPending := false, cancelContactor := false } = _
  rw [psq]

theorem stopReady_stages (cause : EndCause) (s : State) : StagesKept s (stopReady cause s) :=
  (sessionStopped_stages cause s).trans rfl

theorem stopReady_line (cause : EndCause) (held : s.fli.line = lineTarget s) (was : ¬ s.psq.seq.lineOff) :
    (stopReady cause s).fli.line = lineTarget (stopReady cause s) := by
  have psq := stopReady_psq cause s
  have fli : (stopReady cause s).fli = s.fli := (sessionStopped_parts cause s).2.1
  have configured := (stopReady_stages cause s).configured
  generalize stopReady cause s = y at *
  rw [fli, held]
  exact (lineTarget_inputs ⟨by rw [psq], by rw [psq], by rw [fli], by rw [fli], configured⟩ was (by rw [psq]; exact was)).symm

section
variable (cause : EndCause) (held : s.fli.line = lineTarget s) (stops : Stops s.psq.seq)
include held stops

/-- What IDENTIFIED leaves after a stop (R14, R24). -/
theorem stopped_leaves : (enterSeq .identified (stopReady cause s)).psq = stoppedPsq s.psq ∧
    (enterSeq .identified (stopReady cause s)).fli = s.fli ∧
    (enterSeq .identified (stopReady cause s)).imn = { s.imn with pendingRelease := false } ∧
    .seqState ∈ (enterSeq .identified (stopReady cause s)).cpt.events ∧
    SessionEnded cause s.psq.forced s (enterSeq .identified (stopReady cause s)) ∧
    (enterSeq .identified (stopReady cause s)).shu.sweepTarget = s.shu.sweepTarget ∧
    StagesKept s (enterSeq .identified (stopReady cause s)) ∧
    ∀ e ∈ s.cpt.events, e ∈ (enterSeq .identified (stopReady cause s)).cpt.events := by
  obtain ⟨was, other, asking⟩ := stops.facts
  have ended : SessionEnded cause s.psq.forced s (sessionStopped cause s) :=
    endSession_ended cause { s with imn.pendingRelease := false }
  obtain ⟨-, fli, imn, target⟩ := sessionStopped_parts cause s
  have kept : ∀ e ∈ s.cpt.events, e ∈ (sessionStopped cause s).cpt.events := fun e mem =>
    endSession_events cause { s with imn.pendingRelease := false } mem
  have psq := stopReady_psq cause s
  have line := stopReady_line cause held was
  have frame := stopReady_frame cause s
  have stages := stopReady_stages cause s
  generalize sessionStopped cause s = x at *
  generalize stopReady cause s = y at *
  have seq : y.psq.seq = s.psq.seq := by rw [psq]
  obtain ⟨-, fli', imn', target'⟩ := enterSeq_still (q := .identified) (s := y) (by decide) (by decide) line
    (by rw [seq]; exact was) (by simp)
  have record := enterSeq_psq .identified y
  have onEntry : (identOnEntry .identified y).psq = y.psq := rfl
  rw [onEntry, psq, if_neg other, leaveState_psq (by exact asking)] at record
  have closed : y.mtr.session = none := by
    rw [frame]
    exact ended.1
  have gone : ShareGone y := by
    rw [frame]
    exact ⟨ended.2.1, ended.2.2.1, ended.2.2.2.1⟩
  have raised := enterSeq_raised (q := .identified) (s := y) (by rw [seq]; exact other)
  have mtr := enterSeq_mtr .identified closed
  have mst := (enterSeq_keeps .identified y).2.2.2.1
  have goneNow := enterSeq_gone .identified gone
  have stagesNow := stages.trans (enterSeq_stages .identified y)
  have events e (mem : e ∈ y.cpt.events) := enterSeq_events .identified y mem
  generalize enterSeq .identified y = z at *
  have yfli : y.fli = s.fli := by rw [frame]; exact fli
  have yimn : y.imn = { s.imn with pendingRelease := false } := by rw [frame]; exact imn
  have ytarget : y.shu.sweepTarget = s.shu.sweepTarget := by rw [frame]; exact target
  have ymst : y.mst = x.mst := by rw [frame]
  have ycpt : y.cpt = x.cpt := by rw [frame]
  rw [ycpt] at events
  refine ⟨by rw [record]; simp, fli'.trans yfli, imn'.trans yimn, raised, ?_, target'.trans ytarget, stagesNow,
    fun e mem => events e (kept e mem)⟩
  refine SessionEnded.later ended ?_ goneNow (mst.trans ymst) events
  rw [mtr]
  exact closed

end

/-- A stop has completed with its recorded cause (R14, R24). -/
theorem finishStop_done {cause : EndCause} (held : s.fli.line = lineTarget s) (stops : Stops s.psq.seq)
    (recorded : s.psq.stopCause = some cause) :
    StopDone cause s (finishStop s) ∧ (finishStop s).psq = stoppedPsq s.psq ∧
      (finishStop s).imn = { s.imn with pendingRelease := false } ∧ StagesKept s (finishStop s) ∧
      (finishStop s).shu.sweepTarget = s.shu.sweepTarget ∧ ∀ e ∈ s.cpt.events, e ∈ (finishStop s).cpt.events := by
  obtain ⟨psq, fli, imn, raised, ended, target, stages, events⟩ := stopped_leaves cause held stops
  rw [finishStop_eq, recorded]
  show _ ∧ _
  rw [Option.getD_some]
  generalize enterSeq .identified (stopReady cause s) = y at *
  have done (z : State) (zf : z = { y with fli := z.fli }) (leave : cause = .released → QueuedOwn .leave s z)
      (line : cause ≠ .released → z.fli = s.fli) :
      StopDone cause s z ∧ z.psq = stoppedPsq s.psq ∧ z.imn = { s.imn with pendingRelease := false } ∧ StagesKept s z ∧
        z.shu.sweepTarget = s.shu.sweepTarget ∧ ∀ e ∈ s.cpt.events, e ∈ z.cpt.events := by
    have zpsq : z.psq = stoppedPsq s.psq := by rw [zf]; exact psq
    have zimn : z.imn = { s.imn with pendingRelease := false } := by rw [zf]; exact imn
    have zstages : StagesKept s z := stages.trans (by unfold StagesKept; rw [zf])
    have zended : SessionEnded cause s.psq.forced s z := by
      rw [zf]
      exact ended
    refine ⟨⟨by rw [zpsq], by rw [zpsq], by rw [zpsq], by rw [zpsq], by rw [zimn], ?_, zended, leave, line, zstages.cfg, ?_⟩,
      zpsq, zimn, zstages, ?_, ?_⟩
    · rw [zf]
      exact raised
    · rw [zstages]
    · rw [zf]
      exact target
    · rw [zf]
      exact events
  by_cases released : cause = .released
  · rw [released, beq_self_eq_true, onlyIf_true]
    rw [released] at done
    refine done _ (by rw [enqueue_eq]) (fun _ => ?_) fun other => absurd rfl other
    exact (enqueue_queued (s := y) rfl).congr (by rw [fli]) (by rw [stages.cfg]) (by rw [psq]) rfl
  · rw [beq_false_of_ne released, onlyIf_false]
    exact done y rfl (fun r => absurd r released) fun _ => fli

end Sys2Proof.Machine
end

section
/-! PROOF. A stop recorded in a sweep isolation (R24, R154, R160, R162). -/

namespace Sys2Proof.Machine

variable {s t u : State}

/-! ## What a sweep's end and start write (R154, R160, R162) -/

/-- The monitor, the queue, the sweep-target report and the events. -/
abbrev SweepFrame (s t : State) : Prop :=
  t = { s with
    fli.queue := t.fli.queue, imn := t.imn, shu.sweepTarget := t.shu.sweepTarget, cpt.events := t.cpt.events }

theorem SweepFrame.trans (h : SweepFrame s t) (k : SweepFrame t u) : SweepFrame s u := by
  unfold SweepFrame at *
  rw [k, h]

theorem endLeading_frame (r : LeaderRecord) (o : SweepOutcome) (hold : Bool) (s : State) :
    SweepFrame s (endLeading r o hold s) := by
  rw [endLeading_eq]
  rfl

/-- The sequencer would not move with a step or a release (R22, R23). -/
abbrev Unmoved (q : SeqState) : Prop := q ≠ .active ∧ q ≠ .suspended ∧ q ≠ .sweepIsolated .isoWait

theorem takeRelease_unmoved (unmoved : s.psq.seq ≠ .sweepIsolated .isoWait) : takeRelease s = s := if_neg unmoved

theorem endLeading_psq (r : LeaderRecord) (o : SweepOutcome) (hold : Bool) (s : State) :
    (endLeading r o hold s).psq = s.psq := by
  rw [endLeading_eq]
  rfl

theorem stepAnnounced_sweepFrame (n : Nat) (r : LeaderRecord) (s : State) : SweepFrame s (stepAnnounced n r s) := by
  rw [stepAnnounced_frame]
  rfl

/-- A step that moves no sequencer. -/
theorem startStep_unmoved (r : LeaderRecord) (unmoved : Unmoved s.psq.seq) :
    startStep r s =
      if r.index + 1 = r.list.length then
        endLeading { ownStep r with unresponsive := r.unresponsive + 1 } .notFound true
          (stepAnnounced s.cfg.station (ownStep r) s)
      else stepAnnounced (r.list.getD r.index 0) (peerStep r) s := by
  by_cases own : r.index + 1 = r.list.length
  · rw [startStep_own own, if_pos own, if_neg (not_or.2 ⟨unmoved.1, unmoved.2.1⟩)]
    refine takeRelease_unmoved ?_
    rw [endLeading_psq, stepAnnounced_frame]
    exact unmoved.2.2
  · rw [startStep_peer own, if_neg own]

theorem startStep_sweepFrame (r : LeaderRecord) (unmoved : Unmoved s.psq.seq) : SweepFrame s (startStep r s) := by
  rw [startStep_unmoved r unmoved]
  split
  · exact (stepAnnounced_sweepFrame _ _ _).trans (endLeading_frame _ _ _ _)
  · exact stepAnnounced_sweepFrame _ _ _

theorem startStep_noTarget (r : LeaderRecord) (unmoved : Unmoved s.psq.seq) (none : NoTarget s) : NoTarget (startStep r s) := by
  rw [startStep_unmoved r unmoved]
  split
  · exact (endLeading_ended _ _ _ _).2.1
  · rw [stepAnnounced_frame]
    exact none

/-- A frame of the sweep stays as a step starts, but for the step's own and, at its end, a result (R39). -/
theorem startStep_keepsResult {r : LeaderRecord} {q : Queued} (unmoved : Unmoved s.psq.seq) (mem : q ∈ s.fli.queue)
    (top : q.frame.body.cls = 0) (kind : q.frame.body.code ≠ 2) (leads : (startStep r s).imn.sweep ≠ .none) :
    q ∈ (startStep r s).fli.queue := by
  rw [startStep_unmoved r unmoved] at leads ⊢
  split
  next own =>
    rw [if_pos own] at leads
    exact absurd (endLeading_ended _ _ _ _).1.1 leads
  next =>
    rw [stepAnnounced_frame]
    exact mem_enqueue_other mem kind (.inr (by rw [top]; exact Nat.zero_le _))

theorem sweepAlerted_frame (s : State) : SweepFrame s (sweepAlerted s) := by
  unfold sweepAlerted
  rw [enqueue_eq]
  rfl

theorem sweepAlerted_psq (s : State) : (sweepAlerted s).psq = s.psq := congrArg (·.psq) (sweepAlerted_frame s)

theorem startSweep_sweepFrame (unmoved : Unmoved s.psq.seq) : SweepFrame s (startSweep s) := by
  rw [startSweep_eq]
  exact (sweepAlerted_frame s).trans (startStep_sweepFrame _ (by rw [sweepAlerted_psq]; exact unmoved))

theorem startSweep_noTarget (unmoved : Unmoved s.psq.seq) (none : NoTarget s) : NoTarget (startSweep s) := by
  rw [startSweep_eq]
  refine startStep_noTarget _ (by rw [sweepAlerted_psq]; exact unmoved) ?_
  unfold sweepAlerted
  rw [enqueue_eq]
  exact none

/-- A result that is queued stays as the next sweep starts and leads on (R39, R154). -/
theorem startSweep_keepsResult {q : Queued} (unmoved : Unmoved s.psq.seq) (mem : q ∈ s.fli.queue)
    (top : q.frame.body.cls = 0) (kind : q.frame.body.code ≠ 2 ∧ q.frame.body.code ≠ 1)
    (leads : (startSweep s).imn.sweep ≠ .none) : q ∈ (startSweep s).fli.queue := by
  rw [startSweep_eq] at leads ⊢
  refine startStep_keepsResult (by rw [sweepAlerted_psq]; exact unmoved) ?_ top kind.1 leads
  exact mem_enqueue_other (s := s) (b := .alert (BitVec.ofNat 16 (jointRf s))) mem kind.2
    (.inr (by rw [top]; exact Nat.zero_le _))

/-! ## The target's part ends (R160, R162) -/

/-- Where the station has left its isolation on the way to a stop, a new sweep of it leaves the sequencer. -/
abbrev Leaves (s : State) : Prop := s.imn.mode = .measurer → Unmoved s.psq.seq

theorem leftSweep_frame (leaves : Leaves s) : SweepFrame s (leftSweep s) ∧ NoTarget (leftSweep s) := by
  obtain ⟨r, leads, own⟩ | other := inOwnStep_cases s
  · have ended : leftSweep s = checkSweepStart (endLeading r .abandoned false s) := by
      unfold leftSweep
      rw [leads]
      exact if_pos own
    have frame := endLeading_frame r .abandoned false s
    have none := (endLeading_ended r .abandoned false s).2.1
    rw [ended]
    by_cases ready : sweepReady (endLeading r .abandoned false s) = true
    · rw [checkSweepStart_ready ready]
      have measurer : s.imn.mode = .measurer := by
        have held := (sweepReady_iff.1 ready).2.1
        rw [endLeading_eq] at held
        exact held
      have unmoved : Unmoved (endLeading r .abandoned false s).psq.seq := by
        rw [endLeading_psq]
        exact leaves measurer
      exact ⟨frame.trans (startSweep_sweepFrame unmoved), startSweep_noTarget unmoved none⟩
    · rw [checkSweepStart_unready ready]
      exact ⟨frame, none⟩
  · rw [leftSweep_other other]
    exact ⟨rfl, rfl, rfl, rfl⟩

/-- Where no sweep starts, a leader's own step is ended alone (R162). -/
theorem leftSweep_quiet {r : LeaderRecord} (quiet : NoSweepStarts s) (leads : s.imn.sweep = .leading r)
    (own : r.phase = .ownStep) : leftSweep s = endLeading r .abandoned false s := by
  unfold leftSweep
  rw [leads]
  dsimp only
  rw [if_pos own]
  refine checkSweepStart_unready fun ready => ?_
  obtain ⟨-, mode, hold, alarm⟩ := sweepReady_iff.1 ready
  rw [endLeading_eq] at mode hold alarm
  obtain away | held | calm := quiet
  · exact away mode
  · have free : (s.imn.hold || false) = false := hold
    rw [held] at free
    cases free
  · exact calm alarm

/-- Where a sweep starts, it starts after the own step's end (R154, R162). -/
theorem leftSweep_starts {r : LeaderRecord} (starts : ¬ NoSweepStarts s) (leads : s.imn.sweep = .leading r)
    (own : r.phase = .ownStep) : leftSweep s = startSweep (endLeading r .abandoned false s) := by
  unfold leftSweep
  rw [leads]
  dsimp only
  rw [if_pos own]
  refine checkSweepStart_ready (sweepReady_iff.2 ?_)
  obtain ⟨mode, hold, alarm⟩ : s.imn.mode = .measurer ∧ s.imn.hold = false ∧ s.imn.net.state = some .alarm := by
    unfold NoSweepStarts at starts
    push Not at starts
    obtain ⟨mode, hold, alarm⟩ := starts
    exact ⟨mode, eq_false_of_ne_true hold, alarm⟩
  rw [endLeading_eq]
  refine ⟨rfl, mode, ?_, alarm⟩
  show (s.imn.hold || false) = false
  rw [hold]
  rfl

/-! ## The phases of a recorded stop (R24) -/

/-- The sequencer's record with a stop recorded (R24). -/
abbrev recordedPsq (cause : EndCause) (p : Psq) : Psq :=
  { p with stopCause := some cause, forced := p.forced && p.stopCause.isSome }

/-- The state with the stop recorded and the target's part at its end, before the phase acts on it. -/
abbrev stopRecorded (cause : EndCause) (s : State) : State :=
  onlyIf s.psq.stopCause.isNone leftSweep { s with psq := recordedPsq cause s.psq }

theorem recordIsolatedStop_eq (cause : EndCause) (s : State) :
    recordIsolatedStop cause s = isolatedStop (stopRecorded cause s) := by
  unfold recordIsolatedStop stopRecorded recordedPsq
  dsimp only
  rw [show (!s.psq.stopCause.isNone) = s.psq.stopCause.isSome from by cases s.psq.stopCause <;> rfl]

section
variable (cause : EndCause) (leaves : Leaves s)
include leaves

theorem stopRecorded_frame : SweepFrame { s with psq := recordedPsq cause s.psq } (stopRecorded cause s) := by
  unfold stopRecorded
  cases s.psq.stopCause.isNone with
  | true => exact (leftSweep_frame (s := { s with psq := recordedPsq cause s.psq }) leaves).1
  | false => rfl

theorem stopRecorded_noTarget (first : s.psq.stopCause = none) : NoTarget (stopRecorded cause s) := by
  unfold stopRecorded
  rw [first]
  exact (leftSweep_frame (s := { s with psq := recordedPsq cause s.psq }) leaves).2

theorem stopRecorded_psq : (stopRecorded cause s).psq = recordedPsq cause s.psq :=
  congrArg (·.psq) (stopRecorded_frame cause leaves)

end

/-- Of a measurer's sweep, nothing that R36 reads changes. -/
theorem SweepFrame.line (h : SweepFrame s t) (held : s.fli.line = lineTarget s) : t.fli.line = lineTarget t := by
  rw [h]
  exact held

theorem DriveSafe.leaves (h : DriveSafe s) (isolated : s.psq.seq.isolated = true) : Leaves s := by
  intro measurer
  have cmd := h.home (by rw [measurer]; decide)
  refine ⟨?_, ?_, fun waits => ?_⟩
  · intro e
    rw [e] at isolated
    cases isolated
  · intro e
    rw [e] at isolated
    cases isolated
  · obtain drives | energizes := h.2.1.2.1 cmd
    · rw [waits] at drives
      cases drives
    · rw [waits] at energizes
      cases energizes

/-- At home the contactor's opening is told and nothing more (R138). -/
theorem contactorOpened_atHome (local' : s.imn.mode = .localMode) :
    contactorOpened s = { s with imn.contactorClosed := false } := by
  unfold contactorOpened
  rw [local']

/-- At home the relays' opening writes the relays, JOINT and the contactor report alone. -/
theorem openRelays_atHome (local' : s.imn.mode = .localMode) : openRelays s =
    { relaysCut s with imn.contactorClosed := s.imn.contactorClosed && !s.psq.contactorCmd } := by
  rw [openRelays_eq]
  cases cmd : s.psq.contactorCmd with
  | true =>
    rw [if_pos rfl, contactorOpened_atHome (s := relaysCut s) local']
    simp
  | false =>
    rw [if_neg (by decide)]
    simp

theorem stopRecorded_home (cause : EndCause) (local' : s.imn.mode = .localMode) :
    HomeKept s (stopRecorded cause s) := by
  have recorded : HomeKept s { s with psq := recordedPsq cause s.psq } := HomeKept.refl s
  refine recorded.trans ?_
  unfold stopRecorded
  cases s.psq.stopCause.isNone with
  | true => exact (leftSweep_leaves (s := { s with psq := recordedPsq cause s.psq }) (by rw [show _ = _ from local']; decide)).1
  | false => exact HomeKept.refl _

/-- The relays opened in ISO_REJOIN for a recorded stop (R24). -/
abbrev rejoinCut (u : State) : State :=
  { u with
    psq := endedPsq u.psq, shu.joint := u.shu.joint && !u.psq.contactorCmd
    imn.contactorClosed := u.imn.contactorClosed && !u.psq.contactorCmd }

theorem rejoinCut_eq (local' : u.imn.mode = .localMode) : openRelays (stopTimers u) = rejoinCut u := by
  rw [openRelays_atHome (s := stopTimers u) local']
  rfl

/-- Both feedbacks of a stop recorded in ISO_REJOIN read open, and it completes, or it waits for them (R24). -/
theorem rejoinStopped_cases (rejoins : s.psq.seq = .sweepIsolated .isoRejoin) (recorded : s.psq.stopCause.isSome = true) :
    rejoinStopped s =
      if s.psq.contactorFb = false ∧ s.psq.prechargeFb = false then finishStop s else s := by
  unfold rejoinStopped bothOpen
  rw [rejoins, recorded]
  cases s.psq.contactorFb <;> cases s.psq.prechargeFb <;> rfl

/-- What a recorded stop does in its phase (R24), with the target's part gone where it is recorded first. -/
theorem recordIsolatedStop_taken (cause : EndCause) (leaves : Leaves s)
    (joins : s.psq.seq.energizes = true → s.imn.mode = .localMode) (held : s.fli.line = lineTarget s)
    (isolated : s.psq.seq.isolated = true) :
    IsolatedStop cause (s.psq.forced && s.psq.stopCause.isSome) s (recordIsolatedStop cause s) ∧
      (s.psq.stopCause = none → NoTarget (recordIsolatedStop cause s)) := by
  have frame := stopRecorded_frame cause leaves
  have psq := stopRecorded_psq cause leaves
  have none := stopRecorded_noTarget cause leaves
  have home : s.psq.seq.energizes = true → (stopRecorded cause s).imn.mode = .localMode := fun energizes =>
    (stopRecorded_home cause (joins energizes)).mode.trans (joins energizes)
  rw [recordIsolatedStop_eq]
  generalize stopRecorded cause s = u at *
  have line : u.fli.line = lineTarget u := frame.line held
  have mtr : u.mtr = s.mtr := by rw [frame]
  have seq : u.psq.seq = s.psq.seq := by rw [psq]
  have recorded : u.psq.stopCause = some cause := by rw [psq]
  unfold isolatedStop IsolatedStop
  rw [seq]
  cases phase : s.psq.seq with
  | sweepIsolated p =>
    cases p with
    | isoRamp => exact ⟨⟨psq, mtr⟩, none⟩
    | isoOpen => exact ⟨⟨psq, mtr⟩, none⟩
    | isoWait =>
      obtain ⟨done, -, imn, -, target, -⟩ := finishStop_done line (.inr (by rw [seq]; exact isolated)) recorded
      obtain ⟨identified, -, -, -, pending, -, ended, -⟩ := done
      rw [psq] at ended
      refine ⟨⟨identified, pending, SessionEnded.of ended (by rw [mtr])⟩, fun first => ?_⟩
      obtain ⟨gone, -, report⟩ := none first
      refine ⟨?_, pending, target.trans report⟩
      rw [imn]
      exact gone
    | isoRejoin =>
      have local' := home (by rw [phase]; rfl)
      have away : s.imn.mode = .localMode := joins (by rw [phase]; rfl)
      dsimp only
      rw [rejoinCut_eq local', rejoinStopped_cases (s := rejoinCut u) (seq.trans phase)
        (by show u.psq.stopCause.isSome = true; rw [recorded]; rfl)]
      have contactor : (rejoinCut u).psq.contactorFb = s.psq.contactorFb := by
        show u.psq.contactorFb = _
        rw [psq]
      have precharge : (rejoinCut u).psq.prechargeFb = s.psq.prechargeFb := by
        show u.psq.prechargeFb = _
        rw [psq]
      rw [contactor, precharge]
      have cut : (rejoinCut u).psq = endedPsq (recordedPsq cause s.psq) := by
        show endedPsq u.psq = _
        rw [psq]
      have closed : s.psq.contactorCmd = true → (rejoinCut u).imn.contactorClosed = false := by
        intro cmd
        show (u.imn.contactorClosed && !u.psq.contactorCmd) = false
        rw [psq, show (recordedPsq cause s.psq).contactorCmd = true from cmd]
        simp
      have opened (z : State) (a : z.psq.contactorCmd = false) (b : z.psq.prechargeCmd = false)
          (c : s.psq.contactorCmd = true → z.psq.contactorSup = true) (d : s.psq.prechargeCmd = true → z.psq.prechargeSup = true)
          (e : s.psq.contactorCmd = true → z.imn.contactorClosed = false) : RelaysOpened s z :=
        ⟨a, b, fun cmd => ⟨c cmd, e cmd, fun other => absurd away other⟩, d⟩
      have supervised : s.psq.contactorCmd = true → (s.psq.contactorCmd || s.psq.contactorSup) = true := by simp +contextual
      have watched : s.psq.prechargeCmd = true → (s.psq.prechargeCmd || s.psq.prechargeSup) = true := by simp +contextual
      split
      next both =>
        have lineNow : (rejoinCut u).fli.line = lineTarget (rejoinCut u) := line
        obtain ⟨done, after, imn, -, target, -⟩ := finishStop_done lineNow (.inr (by rw [cut]; exact isolated))
          (by rw [cut])
        obtain ⟨identified, -, -, -, pending, -, ended, -⟩ := done
        rw [cut] at ended after
        generalize finishStop (rejoinCut u) = z at *
        refine ⟨⟨opened z (by rw [after]) (by rw [after]) ?_ ?_ ?_, by rw [after], by rw [after], identified, pending,
          SessionEnded.of ended (congrArg (·.session) mtr)⟩, fun first => ?_⟩
        · rw [after]
          exact supervised
        · rw [after]
          exact watched
        · rw [imn]
          exact closed
        · obtain ⟨gone, -, report⟩ := none first
          refine ⟨?_, pending, target.trans report⟩
          rw [imn]
          exact gone
      next waits =>
        refine ⟨⟨opened _ (by rw [cut]) (by rw [cut]) ?_ ?_ closed, by rw [cut], by rw [cut], ?_, by rw [cut], by rw [cut], mtr⟩,
          none⟩
        · rw [cut]
          exact supervised
        · rw [cut]
          exact watched
        · rw [cut]
          exact phase
  | _ =>
    rw [phase] at isolated
    cases isolated

/-- A stop recorded in a part that is safe (R24). -/
theorem recordIsolatedStop_stop (cause : EndCause) (drive : DriveSafe s) (held : s.fli.line = lineTarget s)
    (isolated : s.psq.seq.isolated = true) :
    IsolatedStop cause (s.psq.forced && s.psq.stopCause.isSome) s (recordIsolatedStop cause s) ∧
      (s.psq.stopCause = none → NoTarget (recordIsolatedStop cause s)) :=
  recordIsolatedStop_taken cause (drive.leaves isolated) drive.2.2.1.2.2.2.2.2.2.2 held isolated

end Sys2Proof.Machine
end

section
/-! PROOF. GO_STOP (R13, R24, R154, R160, R162). -/

namespace Sys2Proof.Machine

variable {s t u : State}

/-! ## What a recorded stop leaves of the line and the sweep (R24) -/

/-- A stop recorded with another cause than RELEASED leaves the line, and of the monitor all but the pending release and
the contactor report. -/
theorem isolatedStop_leaves {cause : EndCause} (recorded : s.psq.stopCause = some cause) (kept : cause ≠ .released)
    (held : s.fli.line = lineTarget s) (isolated : s.psq.seq.isolated = true)
    (home : s.psq.seq.energizes = true → s.imn.mode = .localMode) :
    (isolatedStop s).fli = s.fli ∧
      (isolatedStop s).imn = { s.imn with
        pendingRelease := (isolatedStop s).imn.pendingRelease, contactorClosed := (isolatedStop s).imn.contactorClosed } ∧
      (NoTarget s → NoTarget (isolatedStop s)) ∧ ∀ e ∈ s.cpt.events, e ∈ (isolatedStop s).cpt.events := by
  unfold isolatedStop
  cases phase : s.psq.seq with
  | sweepIsolated p =>
    cases p with
    | isoRamp => exact ⟨rfl, rfl, id, fun _ mem => mem⟩
    | isoOpen => exact ⟨rfl, rfl, id, fun _ mem => mem⟩
    | isoWait =>
      obtain ⟨⟨-, -, -, -, -, -, -, -, fli, -⟩, -, imn, -, report, events⟩ := finishStop_done held (.inr isolated) recorded
      refine ⟨fli kept, ?_, fun ⟨gone, _, off⟩ => ⟨?_, ?_, report.trans off⟩, events⟩
      · dsimp only
        rw [imn]
      · dsimp only
        rw [imn]
        exact gone
      · dsimp only
        rw [imn]
    | isoRejoin =>
      have local' := home (by rw [phase]; rfl)
      dsimp only
      rw [rejoinCut_eq local', rejoinStopped_cases (s := rejoinCut s) phase
        (by show s.psq.stopCause.isSome = true; rw [recorded]; rfl)]
      split
      · obtain ⟨⟨-, -, -, -, -, -, -, -, fli, -⟩, -, imn, -, report, events⟩ :=
          finishStop_done (s := rejoinCut s) held (.inr isolated) recorded
        refine ⟨fli kept, ?_, fun ⟨gone, _, off⟩ => ⟨?_, ?_, report.trans off⟩, events⟩
        · rw [imn]
        · rw [imn]
          exact gone
        · rw [imn]
      · exact ⟨rfl, rfl, id, fun _ mem => mem⟩
  | _ =>
    rw [phase] at isolated
    cases isolated

/-- The own step that a recorded stop ends (R162). -/
theorem recordIsolatedStop_ownStep {cause : EndCause} (kept : cause ≠ .released) (drive : DriveSafe s)
    (held : s.fli.line = lineTarget s) (isolated : s.psq.seq.isolated = true) (first : s.psq.stopCause = none)
    (quiet : NoSweepStarts s) : OwnStepAbandoned s (recordIsolatedStop cause s) := by
  unfold OwnStepAbandoned
  split
  next r leads =>
    intro own
    have leaves := drive.leaves isolated
    have ended : stopRecorded cause s = endLeading r .abandoned false { s with psq := recordedPsq cause s.psq } := by
      unfold stopRecorded
      rw [first]
      exact leftSweep_quiet (s := { s with psq := recordedPsq cause s.psq }) quiet leads own
    have psq := stopRecorded_psq cause leaves
    have frame := stopRecorded_frame cause leaves
    have home : s.psq.seq.energizes = true → (stopRecorded cause s).imn.mode = .localMode := fun energizes =>
      (stopRecorded_home cause (drive.2.2.1.2.2.2.2.2.2.2 energizes)).mode.trans (drive.2.2.1.2.2.2.2.2.2.2 energizes)
    obtain ⟨⟨none, outcome, hold, event⟩, -, queued⟩ :=
      endLeading_ended r .abandoned false { s with psq := recordedPsq cause s.psq }
    rw [← ended] at none outcome hold event queued
    rw [recordIsolatedStop_eq]
    generalize stopRecorded cause s = u at *
    obtain ⟨fli, imn, -, events⟩ := isolatedStop_leaves (s := u) (cause := cause) (by rw [psq]) kept (frame.line held)
      (by rw [psq]; exact isolated) (by rw [psq]; exact home)
    generalize isolatedStop u = t at *
    have sent : QueuedOwn (endingFrame r .abandoned) s u := queued.congr rfl rfl rfl rfl
    unfold SweepEnded
    rw [imn]
    exact ⟨⟨none, outcome, hold, events _ event⟩, sent.congr rfl rfl rfl (by rw [fli])⟩
  next => trivial

/-- The sweep that a measurer starts as its own step ends with a recorded stop (R154, R162). -/
theorem recordIsolatedStop_starts (cause : EndCause) {r : LeaderRecord} (ramps : s.psq.seq = .sweepIsolated .isoRamp)
    (first : s.psq.stopCause = none) (starts : ¬ NoSweepStarts s) (leads : s.imn.sweep = .leading r) (own : r.phase = .ownStep) :
    SweepStarted
        (enqueue (.sweepResult 3 0 (BitVec.ofNat 8 r.unresponsive)) { s with psq := (recordIsolatedStop cause s).psq })
        (recordIsolatedStop cause s) ∧
      ((recordIsolatedStop cause s).imn.sweep ≠ .none →
        QueuedRoom 3 (.sweepResult 3 0 (BitVec.ofNat 8 r.unresponsive)) s (recordIsolatedStop cause s)) := by
  have unmoved : Unmoved (recordedPsq cause s.psq).seq := by
    rw [show (recordedPsq cause s.psq).seq = _ from ramps]
    exact ⟨by decide, by decide, by decide⟩
  have leaves : Leaves s := fun _ => unmoved
  have psq := stopRecorded_psq cause leaves
  have started : recordIsolatedStop cause s = startSweep (endLeading r .abandoned false { s with psq := recordedPsq cause s.psq }) := by
    rw [recordIsolatedStop_eq]
    have rests : isolatedStop (stopRecorded cause s) = stopRecorded cause s := by
      unfold isolatedStop
      rw [psq]
      rw [show (recordedPsq cause s.psq).seq = _ from ramps]
    rw [rests]
    unfold stopRecorded
    rw [first]
    exact leftSweep_starts (s := { s with psq := recordedPsq cause s.psq }) starts leads own
  have record : (recordIsolatedStop cause s).psq = recordedPsq cause s.psq := by
    rw [started]
    have unmovedNow : Unmoved (endLeading r .abandoned false { s with psq := recordedPsq cause s.psq }).psq.seq := by
      rw [endLeading_psq]
      exact unmoved
    exact (congrArg (·.psq) (startSweep_sweepFrame unmovedNow)).trans
      (endLeading_psq r .abandoned false { s with psq := recordedPsq cause s.psq })
  rw [record, started]
  have sweep := startSweep_started (endLeading r .abandoned false { s with psq := recordedPsq cause s.psq })
  obtain ⟨-, -, queued⟩ := endLeading_ended r .abandoned false { s with psq := recordedPsq cause s.psq }
  have keeps q mem := startSweep_keepsResult (s := endLeading r .abandoned false { s with psq := recordedPsq cause s.psq })
    (q := q) (by rw [endLeading_psq]; exact unmoved) mem
  have fields : (endLeading r .abandoned false { s with psq := recordedPsq cause s.psq }).imn.jointResult = s.imn.jointResult ∧
      (endLeading r .abandoned false { s with psq := recordedPsq cause s.psq }).imn.hold = s.imn.hold ∧
      (endLeading r .abandoned false { s with psq := recordedPsq cause s.psq }).shu.peers = s.shu.peers ∧
      (endLeading r .abandoned false { s with psq := recordedPsq cause s.psq }).shu.identCopy = s.shu.identCopy ∧
      (endLeading r .abandoned false { s with psq := recordedPsq cause s.psq }).cfg = s.cfg ∧
      (endLeading r .abandoned false { s with psq := recordedPsq cause s.psq }).fli =
        (enqueue (.sweepResult 3 0 (BitVec.ofNat 8 r.unresponsive)) { s with psq := recordedPsq cause s.psq }).fli := by
    rw [endLeading_eq]
    exact ⟨rfl, Bool.or_false _, rfl, rfl, rfl,
      (enqueue_fli (endingFrame r .abandoned) { s with psq := recordedPsq cause s.psq }).symm⟩
  obtain ⟨joint, hold, peers, copy, cfg, fli⟩ := fields
  have psqNow := endLeading_psq r .abandoned false { s with psq := recordedPsq cause s.psq }
  generalize endLeading r .abandoned false _ = v at *
  refine ⟨sweep.congr ?_ ?_ ?_ ?_ ?_ ?_ fli.symm, fun leadsOn online room => ?_⟩
  · rw [enqueue_eq]
    exact joint.symm
  · rw [enqueue_eq]
    exact hold.symm
  · rw [enqueue_eq]
    exact peers.symm
  · rw [enqueue_eq]
    exact copy.symm
  · rw [enqueue_eq]
    exact cfg.symm
  · rw [enqueue_eq]
    exact psqNow.symm
  · obtain ⟨q, mem, frame⟩ := queued online (by show s.fli.queue.length + 1 ≤ 4; omega)
    have kind : q.frame.body = endingFrame r .abandoned := by rw [frame]
    exact ⟨q, keeps q mem (by rw [kind]; rfl) (by rw [kind]; exact ⟨show (4 : Nat) ≠ 2 by decide, show (4 : Nat) ≠ 1 by decide⟩) leadsOn, frame⟩

/-- Settles O18: GO_STOP starts a stop, or records one in an isolation. -/
theorem goStopStartsAStop : Obligations.GoStopStartsAStop := by
  unfold Obligations.GoStopStartsAStop
  intro s run drive settled
  have row : exec .goStop s = .next (goStop s) := whenRunning_running run
  rw [row]
  unfold goStop
  by_cases busy : s.psq.cancelPending = true
  · rw [if_pos busy, if_pos busy]
  · rw [if_neg busy, if_neg busy]
    have charging (h : s.psq.seq = .active ∨ s.psq.seq = .suspended) :
        OnlyChain (stopBegun .hostStop (answerEmpty .accepted s)) (answerEmpty .accepted (stopRequest .hostStop s)) := by
      rw [stopRequest_charging .hostStop h]
      exact (startStop_onlyChain .hostStop settled h).answerEmpty .accepted
    cases seq : s.psq.seq with
    | active => exact ⟨_, rfl, charging (.inl seq)⟩
    | suspended => exact ⟨_, rfl, charging (.inr seq)⟩
    | sweepIsolated p =>
      have isolated : s.psq.seq.isolated = true := by
        rw [seq]
        rfl
      have request : stopRequest .hostStop s =
          if s.psq.stopCause.isSome = true then s else recordIsolatedStop .hostStop s := by
        unfold stopRequest
        rw [seq]
      dsimp only
      rw [request, if_pos (show (SeqState.sweepIsolated p).stoppable = true from rfl)]
      cases first : s.psq.stopCause with
      | some c => rfl
      | none =>
        obtain ⟨stop, noTarget⟩ := recordIsolatedStop_stop .hostStop drive settled.1 isolated
        obtain ⟨gone, pending, report⟩ := noTarget first
        rw [first, Bool.and_comm] at stop
        refine ⟨_, rfl, rfl, gone, pending, report, ?_, fun r leads own => ?_⟩
        · exact stop
        · split
          next quiet =>
            exact recordIsolatedStop_ownStep (by decide) drive settled.1 isolated first quiet
          next starts =>
            intro ramps
            exact recordIsolatedStop_starts .hostStop (seq.trans ramps) first starts leads own
    | _ => rfl

end Sys2Proof.Machine
end

section
/-! PROOF. The timers of a stop (R13, R14, R22). -/

namespace Sys2Proof.Machine

variable {s t u : State}

/-- The loss of the role reads the monitor, the queue, the station and the feeder. -/
theorem RoleLost.congr {s' : State} (h : RoleLost s t) (imn : s'.imn = s.imn) (fli : s'.fli = s.fli) (cfg : s'.cfg = s.cfg)
    (ident : s'.psq.ident = s.psq.ident) : RoleLost s' t := by
  unfold RoleLost SweepEnded QueuedOwn QueuedRoom heldFeeder at h ⊢
  rw [imn, fli, cfg, ident]
  exact h

/-- Of SHU the hand-over's values and the sweep-target report have changed. -/
abbrev ShareMovedOnly (s t : State) : Prop :=
  t.shu = { s.shu with
    dOwnHanded := t.shu.dOwnHanded, sNew := t.shu.sNew, activeCount := t.shu.activeCount, sEff := t.shu.sEff
    sweepTarget := t.shu.sweepTarget }

theorem ShareMovedOnly.trans (h : ShareMovedOnly s t) (k : ShareMovedOnly t u) : ShareMovedOnly s u := by
  unfold ShareMovedOnly at *
  rw [k, h]

theorem setIsolate_share (b : Bool) (s : State) : ShareMovedOnly s (setIsolate b s) := by
  unfold setIsolate
  split
  · rfl
  · have only := selectHeater_onlyHeater { s with htr.isolateReq := b }
    unfold OnlyHeater OnlyChain at only
    unfold ShareMovedOnly
    rw [only]

theorem startSelfCheck_share (s : State) : ShareMovedOnly s (startSelfCheck s) := by
  unfold startSelfCheck
  split
  · split
    · rfl
    · exact setIsolate_share true { s with imn.selfCheck := .running 0 }
  · rfl

theorem contactorOpened_share (s : State) : ShareMovedOnly s (contactorOpened s) := by
  have left : ShareMovedOnly s (roleLeft s) := by
    unfold roleLeft
    split
    · rfl
    · rw [enterLocal_eq]
      exact startSelfCheck_share _
  obtain ⟨r, loses⟩ | keeps := losesSweep_cases s
  · rw [contactorOpened_loses loses]
    refine left.trans ?_
    rw [endLeading_eq]
    rfl
  · rw [contactorOpened_keepsSweep keeps]
    exact left

/-- The output enable cleared and the contactor commanded open, with `p` for the sequencer's record. -/
abbrev rampEnded (p : Psq) (s : State) : State := openContactor (clearEnable { s with psq := p })

/-- The contactor's opening at the end of a ramp: the enable, JOINT, the monitor and its role (R14, R22, R138, R164). -/
theorem rampEnded_leaves (p : Psq) (closed : p.contactorCmd = true) (ident : p.ident = s.psq.ident) :
    (rampEnded p s).psq = { p with contactorCmd := false, contactorSup := true } ∧ (rampEnded p s).ptu.enable = false ∧
      (rampEnded p s).shu.joint = false ∧ (rampEnded p s).imn.contactorClosed = false ∧
      (s.imn.mode ≠ .localMode → EnteredLocal s (rampEnded p s)) ∧ RoleLost s (rampEnded p s) ∧
      (rampEnded p s).mtr = s.mtr ∧ (rampEnded p s).mst = s.mst := by
  obtain ⟨-, cfg, psq, fli, -, -, htr, imn, mtr, mst, cpt, -⟩ := clearEnable_keeps { s with psq := p }
  have off := clearEnable_enable { s with psq := p }
  unfold rampEnded
  generalize clearEnable { s with psq := p } = y at *
  have available : heaterAvailable s = heaterAvailable y := by
    unfold heaterAvailable heaterChoice
    rw [htr, cpt]
  rw [openContactor_eq, if_pos (by rw [psq]; exact closed)]
  have stages := contactorOpened_stages
    { y with psq := { y.psq with contactorCmd := false, contactorSup := true }, shu.joint := false }
  have lost := contactorOpened_roleLost
    { y with psq := { y.psq with contactorCmd := false, contactorSup := true }, shu.joint := false }
  have told := contactorOpened_open
    { y with psq := { y.psq with contactorCmd := false, contactorSup := true }, shu.joint := false }
  have entered : s.imn.mode ≠ .localMode → EnteredLocal y (contactorOpened
      { y with psq := { y.psq with contactorCmd := false, contactorSup := true }, shu.joint := false }) :=
    fun away => contactorOpened_entered
      (s := { y with psq := { y.psq with contactorCmd := false, contactorSup := true }, shu.joint := false })
      (by show y.imn.mode ≠ _; rw [imn]; exact away)
  have joint : (contactorOpened { y with
      psq := { y.psq with contactorCmd := false, contactorSup := true }, shu.joint := false }).shu.joint = false := by
    rw [contactorOpened_share]
  obtain ⟨-, -, psq', -, mtr', mst', -⟩ := contactorOpened_keeps
    { y with psq := { y.psq with contactorCmd := false, contactorSup := true }, shu.joint := false }
  generalize contactorOpened _ = t at *
  refine ⟨?_, ?_, joint, told, fun away => (entered away).congr imn.symm available, ?_, mtr'.trans mtr, mst'.trans mst⟩
  · rw [psq']
    show { y.psq with contactorCmd := false, contactorSup := true } = _
    rw [psq]
  · rw [stages]
    exact off
  · refine lost.congr imn.symm fli.symm cfg.symm ?_
    show s.psq.ident = y.psq.ident
    rw [psq]
    exact ident.symm

/-- Settles O23: the battery-low timer starts a stop, and the 3 s timer opens the contactor. -/
theorem stopTimersOpenTheContactor : Obligations.StopTimersOpenTheContactor := by
  unfold Obligations.StopTimersOpenTheContactor
  intro s run drive settled
  have low : exec .batteryLowTimeout s = .next (batteryLowTimeout s) := whenRunning_running run
  have stop : exec .stopTimerExpiry s = .next (stopTimerExpiry s) := whenRunning_running run
  rw [low, stop]
  refine ⟨?_, ?_⟩
  · unfold batteryLowTimeout
    split
    next held =>
      refine ⟨_, rfl, ?_⟩
      have active : ({ s with psq.batteryLow := false } : State).psq.seq = .active := held.2
      rw [stopRequest_charging .batteryLow (.inl active)]
      exact startStop_onlyChain (s := { s with psq.batteryLow := false }) .batteryLow settled (.inl active)
    next => rfl
  · unfold stopTimerExpiry
    cases timer : s.psq.stopTimer with
    | false => rfl
    | true =>
      rw [if_neg (by decide), if_pos rfl]
      cases seq : s.psq.seq with
      | stopping =>
        intro closed fb
        obtain ⟨psq, enable, joint, told, entered, lost, mtr, mst⟩ := rampEnded_leaves (s := s)
          { s.psq with stopTimer := false, forced := s.psq.forced || true } closed rfl
        have ramp : rampDown true s = contactorReadsOpen
            (rampEnded { s.psq with stopTimer := false, forced := s.psq.forced || true } s) := by
          unfold rampDown
          rw [seq]
          exact if_pos closed
        have rests : contactorReadsOpen (rampEnded { s.psq with stopTimer := false, forced := s.psq.forced || true } s) =
            rampEnded { s.psq with stopTimer := false, forced := s.psq.forced || true } s :=
          if_pos (.inr (by rw [psq]; exact fb))
        rw [ramp, rests]
        refine ⟨_, rfl, ?_, enable, joint, told, entered, lost, mtr, mst⟩
        rw [psq, Bool.or_true]
      | sweepIsolated p =>
        cases p with
        | isoRamp =>
          intro closed fb
          obtain ⟨psq, enable, joint, told, entered, lost, mtr, mst⟩ := rampEnded_leaves (s := s)
            { s.psq with stopTimer := false, forced := s.psq.forced || (true && s.psq.stopCause.isSome) } closed rfl
          have ramp : rampDown true s = contactorReadsOpen (setPhase .isoOpen
              (rampEnded { s.psq with stopTimer := false, forced := s.psq.forced || (true && s.psq.stopCause.isSome) } s)) := by
            unfold rampDown
            rw [seq]
          generalize rampEnded _ s = y at *
          have rests : contactorReadsOpen (setPhase .isoOpen y) = setPhase .isoOpen y :=
            if_pos (.inr (by show y.psq.contactorFb = true; rw [psq]; exact fb))
          rw [ramp, rests]
          refine ⟨_, rfl, ?_, enable, joint, told, fun away => ?_, ?_, raised_mem .., mtr, mst⟩
          · show { y.psq with seq := .sweepIsolated .isoOpen } = _
            rw [psq, Bool.true_and]
          · exact (entered away).home ⟨rfl, rfl, fun _ mem => mem_raiseEvent _ mem, fun _ mem _ => mem⟩
          · unfold RoleLost at lost ⊢
            split
            next r measurer leads =>
              rw [measurer, leads] at lost
              intro step
              obtain ⟨⟨none, outcome, hold, event⟩, target, queued⟩ := lost step
              exact ⟨⟨none, outcome, hold, mem_raiseEvent _ event⟩, target, queued⟩
            next => trivial
        | _ => trivial
      | _ => trivial

end Sys2Proof.Machine
end

section
/-! PROOF. The contacts of the plug relays as they open (R5, R14, R16, R22 to R24). -/

namespace Sys2Proof.Machine

variable {s t u : State}

/-! ## What the readings complete (R14, R16, R22, R24) -/

theorem rejoinStopped_rests (h : ¬ (s.psq.seq = .sweepIsolated .isoRejoin ∧ s.psq.stopCause ≠ none ∧
    s.psq.contactorFb = false ∧ s.psq.prechargeFb = false)) : rejoinStopped s = s := by
  unfold rejoinStopped
  refine if_neg fun ⟨rejoins, stop, both⟩ => h ⟨rejoins, ?_, ?_⟩
  · exact Option.isSome_iff_ne_none.1 stop
  · simpa [bothOpen] using both

theorem rejoinStopped_completes (rejoins : s.psq.seq = .sweepIsolated .isoRejoin) (stop : s.psq.stopCause ≠ none)
    (contactor : s.psq.contactorFb = false) (precharge : s.psq.prechargeFb = false) : rejoinStopped s = finishStop s := by
  rw [rejoinStopped_cases rejoins (Option.isSome_iff_ne_none.2 stop), if_pos ⟨contactor, precharge⟩]

theorem contactorReadsOpen_rests (h : s.psq.contactorCmd = true ∨
    (s.psq.seq ≠ .stopping ∧ s.psq.seq ≠ .sweepIsolated .isoOpen)) : contactorReadsOpen s = s := by
  obtain cmd | ⟨stopping, opening⟩ := h
  · exact if_pos (.inl cmd)
  · unfold contactorReadsOpen
    split
    · rfl
    · split
      next e => exact absurd e stopping
      next e => exact absurd e opening
      next => rfl

theorem contactorReadsOpen_stopping (cmd : s.psq.contactorCmd = false) (fb : s.psq.contactorFb = false)
    (stopping : s.psq.seq = .stopping) : contactorReadsOpen s = finishStop s := by
  unfold contactorReadsOpen
  rw [if_neg (by simp [cmd, fb]), stopping]

theorem contactorReadsOpen_isolating (cmd : s.psq.contactorCmd = false) (fb : s.psq.contactorFb = false)
    (opening : s.psq.seq = .sweepIsolated .isoOpen) : contactorReadsOpen s = isolationOpen s := by
  unfold contactorReadsOpen
  rw [if_neg (by simp [cmd, fb]), opening]

theorem cancelComplete_rests (h : ¬ (s.psq.cancelPending = true ∧ s.psq.prechargeFb = false ∧
    ¬ (s.psq.cancelContactor = true ∧ s.psq.contactorFb = true))) : cancelComplete s = s := by
  unfold cancelComplete
  have waits : (s.psq.cancelPending && cancelOpen s) = false := by
    simpa [cancelOpen] using h
  rw [waits, onlyIf_false]

theorem cancelComplete_done (pending : s.psq.cancelPending = true) (precharge : s.psq.prechargeFb = false)
    (contactor : ¬ (s.psq.cancelContactor = true ∧ s.psq.contactorFb = true)) :
    cancelComplete s = enterSeq .identified (forgetStop s) := by
  have opened : (s.psq.cancelPending && cancelOpen s) = true := by
    rw [pending, cancelOpen, precharge, Bool.and_eq_false_iff.2 (Classical.or_iff_not_imp_left.2 fun h =>
      eq_false_of_ne_true fun fb => contactor ⟨eq_true_of_ne_false h, fb⟩)]
    rfl
  unfold cancelComplete
  rw [opened]
  rfl

/-- A cancel in PRECHARGE is done as IDENTIFIED is entered (R16). -/
theorem cancel_done (held : s.fli.line = lineTarget s) (precharging : s.psq.seq = .precharge)
    (closed : s.mtr.session = none) : CancelDone s (enterSeq .identified (forgetStop s)) := by
  have was : ¬ s.psq.seq.lineOff := by simp [precharging]
  have line : (forgetStop s).fli.line = lineTarget (forgetStop s) :=
    held.trans (lineTarget_inputs ⟨rfl, rfl, rfl, rfl, rfl⟩ was was).symm
  have record := enterSeq_psq .identified (forgetStop s)
  have onEntry : (identOnEntry .identified (forgetStop s)).psq = (forgetStop s).psq := rfl
  have other : (forgetStop s).psq.seq ≠ .identified := by
    show s.psq.seq ≠ _
    rw [precharging]
    decide
  rw [onEntry, if_neg other, leaveState_psq (by show s.psq.seq ≠ _; rw [precharging]; decide)] at record
  have stages := enterSeq_stages .identified (forgetStop s)
  refine ⟨?_, enterSeq_raised other, enterSeq_mtr .identified (s := forgetStop s) closed,
    (enterSeq_keeps .identified (forgetStop s)).2.2.2.1, stages.cfg, ?_⟩
  · rw [record]
    simp [forgetStop]
  · rw [stages]
    rfl

/-- ISO_WAIT is reported to the monitor, or the release that is pending is taken at once (R22, R23, R159, R162). -/
theorem isolationOpen_reports (plain : s.psq.stopCause = none) :
    (if s.imn.pendingRelease = true then
      (isolationOpen s).psq = { s.psq with
        seq := .sweepIsolated .isoRejoin, prechargeCmd := true, prechargeTimer := true } ∧
      (isolationOpen s).imn = { s.imn with pendingRelease := false } ∧ (isolationOpen s).fli = s.fli
     else
      (isolationOpen s).psq = { s.psq with seq := .sweepIsolated .isoWait } ∧ IsolationReported s (isolationOpen s)) ∧
    .seqState ∈ (isolationOpen s).cpt.events ∧ (isolationOpen s).mtr = s.mtr ∧ (isolationOpen s).shu = s.shu := by
  have reached : isolationOpen s = isolationReached (setPhase .isoWait s) := by
    unfold isolationOpen
    rw [plain]
    rfl
  have raised : .seqState ∈ (setPhase .isoWait s).cpt.events := raised_mem ..
  rw [reached]
  by_cases pending : s.imn.pendingRelease = true
  · have taken : isolationReached (setPhase .isoWait s) = setPhase .isoRejoin { setPhase .isoWait s with
        imn.pendingRelease := false, psq.prechargeCmd := true, psq.prechargeTimer := true } := by
      unfold isolationReached
      exact (if_pos pending).trans (if_pos rfl)
    rw [taken, if_pos pending]
    exact ⟨⟨rfl, rfl, rfl⟩, mem_raiseEvent _ raised, rfl, rfl⟩
  · rw [if_neg pending]
    unfold isolationReached
    rw [if_neg (show ¬ (setPhase .isoWait s).imn.pendingRelease = true from pending)]
    have sweep : (setPhase .isoWait s).imn.sweep = s.imn.sweep := rfl
    have target : (setPhase .isoWait s).imn.target = s.imn.target := rfl
    unfold IsolationReported
    rw [sweep, target]
    have answered (g : TargetRecord) : QueuedOwn (.sweepAnswer (BitVec.ofNat 8 s.cfg.station) 1) s
        (enqueue (.sweepAnswer (BitVec.ofNat 8 s.cfg.station) 1)
          { setPhase .isoWait s with imn.target := some { g with verdict := none } }) :=
      (enqueue_queued (s := { setPhase .isoWait s with imn.target := some { g with verdict := none } })
        (b := .sweepAnswer (BitVec.ofNat 8 s.cfg.station) 1) rfl).congr rfl rfl rfl rfl
    cases s.imn.sweep with
    | leading l => exact ⟨⟨rfl, rfl, rfl⟩, raised, rfl, rfl⟩
    | none =>
      cases s.imn.target with
      | none => exact ⟨⟨rfl, rfl, rfl⟩, raised, rfl, rfl⟩
      | some g =>
        have queued := answered g
        dsimp only
        rw [enqueue_eq] at queued ⊢
        exact ⟨⟨rfl, queued, rfl⟩, raised, rfl, rfl⟩
    | following f =>
      cases s.imn.target with
      | none => exact ⟨⟨rfl, rfl, rfl⟩, raised, rfl, rfl⟩
      | some g =>
        have queued := answered g
        dsimp only
        rw [enqueue_eq] at queued ⊢
        exact ⟨⟨rfl, queued, rfl⟩, raised, rfl, rfl⟩

/-- Nothing waits for a contact after a stop has completed. -/
theorem completed_rests (psq : t.psq = stoppedPsq u.psq) : cancelComplete (rejoinStopped t) = t := by
  rw [rejoinStopped_rests (by rw [psq]; simp), cancelComplete_rests (by rw [psq]; simp)]

/-- A cancel that is pending stands in PRECHARGE with no session open (R16, R174). -/
theorem DriveSafe.cancels (h : DriveSafe s) (pending : s.psq.cancelPending = true) :
    s.psq.seq = .precharge ∧ s.psq.contactorCmd = false ∧ s.mtr.session = none := by
  obtain ⟨precharging, -, -, cmd, -⟩ := h.2.2.1.2.2.2.1 pending
  refine ⟨precharging, cmd, ?_⟩
  by_contra held
  have states := h.2.2.2.2.2 held
  rw [precharging] at states
  cases states

/-- A stop recorded in ISO_REJOIN has commanded the contactor open (R24). -/
theorem DriveSafe.rejoins (h : DriveSafe s) (rejoins : s.psq.seq = .sweepIsolated .isoRejoin)
    (stop : s.psq.stopCause ≠ none) : s.psq.contactorCmd = false :=
  (h.2.2.1.2.2.2.2.2.1 ⟨rejoins, stop⟩).2.2.1

/-! ## The contactor's contact (R14, R16, R22, R24) -/

/-- The contactor's contact read open, and its supervision ended. -/
abbrev contactorRead (s : State) : State :=
  { s with psq := { s.psq with contactorFb := false, contactorSup := false } }

/-- The precharge relay's contact read open, and its supervision ended. -/
abbrev prechargeRead (s : State) : State :=
  { s with psq := { s.psq with prechargeFb := false, prechargeSup := false } }

theorem contactorRead_stops {cause : EndCause} (held : s.fli.line = lineTarget s) (cmd : s.psq.contactorCmd = false)
    (waits : s.psq.seq = .stopping ∨ s.psq.seq = .sweepIsolated .isoOpen ∨
      (s.psq.seq = .sweepIsolated .isoRejoin ∧ s.psq.prechargeFb = false))
    (recorded : s.psq.stopCause = some cause) :
    cancelComplete (rejoinStopped (contactorReadsOpen (contactorRead s))) = finishStop (contactorRead s) := by
  have stop : s.psq.stopCause ≠ none := by simp [recorded]
  have stops : Stops (contactorRead s).psq.seq := by
    show Stops s.psq.seq
    obtain h | h | ⟨h, -⟩ := waits <;> rw [h]
    · exact .inl rfl
    · exact .inr rfl
    · exact .inr rfl
  obtain ⟨-, psq, -⟩ := finishStop_done (s := contactorRead s) held stops recorded
  obtain h | h | ⟨h, precharge⟩ := waits
  · rw [contactorReadsOpen_stopping (s := contactorRead s) cmd rfl h]
    exact completed_rests psq
  · have opens : isolationOpen (contactorRead s) = finishStop (contactorRead s) := by
      unfold isolationOpen
      rw [show (contactorRead s).psq.stopCause = some cause from recorded]
      rfl
    rw [contactorReadsOpen_isolating (s := contactorRead s) cmd rfl h, opens]
    exact completed_rests psq
  · rw [contactorReadsOpen_rests (s := contactorRead s) (.inr ⟨by simp [h], by simp [h]⟩),
      rejoinStopped_completes (s := contactorRead s) h stop rfl precharge]
    refine cancelComplete_rests ?_
    rw [psq]
    simp

theorem contactorRead_isolates (drive : DriveSafe s) (cmd : s.psq.contactorCmd = false) (opening : s.psq.seq = .sweepIsolated .isoOpen)
    (plain : s.psq.stopCause = none) :
    cancelComplete (rejoinStopped (contactorReadsOpen (contactorRead s))) = isolationOpen (contactorRead s) := by
  have free : s.psq.cancelPending = false := by
    refine eq_false_of_ne_true fun pending => ?_
    have precharging := (drive.cancels pending).1
    rw [opening] at precharging
    cases precharging
  rw [contactorReadsOpen_isolating (s := contactorRead s) cmd rfl opening]
  obtain ⟨report, -⟩ := isolationOpen_reports (s := contactorRead s) plain
  have psq : (isolationOpen (contactorRead s)).psq.stopCause = none ∧
      (isolationOpen (contactorRead s)).psq.cancelPending = false := by
    split at report
    · rw [report.1]
      exact ⟨plain, free⟩
    · rw [report.1]
      exact ⟨plain, free⟩
  rw [rejoinStopped_rests (by rw [psq.1]; simp), cancelComplete_rests (by rw [psq.2]; simp)]

theorem contactorRead_cancels (drive : DriveSafe s) (pending : s.psq.cancelPending = true) (precharge : s.psq.prechargeFb = false) :
    cancelComplete (rejoinStopped (contactorReadsOpen (contactorRead s))) =
      enterSeq .identified (forgetStop (contactorRead s)) := by
  obtain ⟨precharging, -⟩ := drive.cancels pending
  rw [contactorReadsOpen_rests (.inr ⟨by simp [precharging], by simp [precharging]⟩),
    rejoinStopped_rests (by simp [precharging])]
  exact cancelComplete_done pending precharge (by simp)

theorem contactorRead_rests (drive : DriveSafe s)
    (idle : s.psq.contactorCmd = true ∨
      (s.psq.seq ≠ .stopping ∧ s.psq.seq ≠ .sweepIsolated .isoOpen ∧
        (s.psq.seq = .sweepIsolated .isoRejoin → s.psq.stopCause = none ∨ s.psq.prechargeFb = true) ∧
        (s.psq.cancelPending = true → s.psq.prechargeFb = true))) :
    cancelComplete (rejoinStopped (contactorReadsOpen (contactorRead s))) = contactorRead s := by
  rw [contactorReadsOpen_rests (s := contactorRead s) (idle.imp id fun ⟨stopping, opening, _⟩ => ⟨stopping, opening⟩),
    rejoinStopped_rests, cancelComplete_rests]
  · rintro ⟨pending, precharge, -⟩
    obtain cmd | ⟨-, -, -, cancels⟩ := idle
    · exact absurd (cmd.symm.trans (drive.cancels pending).2.1) (by decide)
    · exact absurd ((cancels pending).symm.trans precharge) (by decide)
  · rintro ⟨rejoins, stop, -, precharge⟩
    obtain cmd | ⟨-, -, rejoined, -⟩ := idle
    · exact absurd (cmd.symm.trans (drive.rejoins rejoins stop)) (by decide)
    · obtain none | closed := rejoined rejoins
      · exact stop none
      · exact absurd (closed.symm.trans precharge) (by decide)

/-- Settles O25: a relay's opening contact completes what waits for it, and otherwise is read alone. -/
theorem contactorOpenCompletesAStop : Obligations.ContactorOpenCompletesAStop := by
  unfold Obligations.ContactorOpenCompletesAStop
  intro s run drive settled
  have held : s.fli.line = lineTarget s := settled.1
  have row (relay : PlugRelay) (closed : Bool) :
      exec (.relayFeedbackChange relay closed) s = .next (relayFeedback relay closed s) := whenRunningOr_running run
  have contactor (fb : s.psq.contactorFb = true) : relayFeedback .contactor false s =
      cancelComplete (rejoinStopped (contactorReadsOpen (contactorRead s))) := if_pos fb
  have precharge (fb : s.psq.prechargeFb = true) : relayFeedback .precharge false s =
      cancelComplete (rejoinStopped (prechargeRead s)) := if_pos fb
  simp only [row]
  refine ⟨fun fb => ?_, fun fb cmd => ⟨fun waits cause recorded => ?_, fun opening plain => ?_, fun pending pre => ?_⟩,
    fun fb idle => ?_, rfl, fun fb => ?_, fun fb => ?_⟩
  · exact congrArg _ (if_neg (by simp [fb]))
  · have stops : Stops s.psq.seq := by
      obtain h | h | ⟨h, -⟩ := waits <;> rw [h]
      · exact .inl rfl
      · exact .inr rfl
      · exact .inr rfl
    obtain ⟨done, psq, -⟩ := finishStop_done (s := contactorRead s) held stops recorded
    rw [contactor fb, contactorRead_stops held cmd waits recorded]
    exact ⟨_, rfl, done, by rw [psq], by rw [psq]⟩
  · rw [contactor fb, contactorRead_isolates drive cmd opening plain]
    exact ⟨_, rfl, isolationOpen_reports (s := contactorRead s) plain⟩
  · obtain ⟨precharging, -, closed⟩ := drive.cancels pending
    rw [contactor fb, contactorRead_cancels drive pending pre]
    exact ⟨_, rfl, cancel_done (s := contactorRead s)
      (held.trans (lineTarget_inputs ⟨rfl, rfl, rfl, rfl, rfl⟩ (by simp [precharging]) (by simp [precharging])).symm)
      precharging closed⟩
  · rw [contactor fb, contactorRead_rests drive idle]
  · exact congrArg _ (if_neg (by simp [fb]))
  · rw [precharge fb]
    split
    next waits =>
      obtain ⟨rejoins, stop, contactorOpen⟩ := waits
      intro cause recorded
      obtain ⟨done, psq, -⟩ := finishStop_done (s := prechargeRead s) held
        (.inr (by show s.psq.seq.isolated = true; rw [rejoins]; rfl)) recorded
      rw [rejoinStopped_completes (s := prechargeRead s) rejoins stop contactorOpen rfl,
        cancelComplete_rests (by rw [psq]; simp)]
      exact ⟨_, rfl, done, by rw [psq], by rw [psq]⟩
    next rests =>
      rw [rejoinStopped_rests (s := prechargeRead s) fun ⟨rejoins, stop, opened, _⟩ => rests ⟨rejoins, stop, opened⟩]
      split
      next cancels =>
        obtain ⟨pending, opened⟩ := cancels
        obtain ⟨precharging, -, closed⟩ := drive.cancels pending
        rw [cancelComplete_done (s := prechargeRead s) pending rfl opened]
        exact ⟨_, rfl, cancel_done (s := prechargeRead s)
          (held.trans (lineTarget_inputs ⟨rfl, rfl, rfl, rfl, rfl⟩ (by simp [precharging]) (by simp [precharging])).symm)
          precharging closed⟩
      next idle =>
        rw [cancelComplete_rests (s := prechargeRead s) fun ⟨pending, _, opened⟩ => idle ⟨pending, opened⟩]

end Sys2Proof.Machine
end

section
/-! PROOF. CANCEL (R16). -/

namespace Sys2Proof.Machine

variable {s t u : State}

/-- The sequencer's record as a cancel in PRECHARGE starts (R16). -/
abbrev cancellingPsq (p : Psq) : Psq :=
  { cutPsq p with
    prechargeTimer := false, contactorTimer := false, stopTimer := false
    cancelPending := true, cancelContactor := p.contactorCmd }

/-- PRECHARGE withdrawn by a cancel: the relays open, the timers stopped, the copy dropped (R16). -/
abbrev cancelling (s : State) : State :=
  { s with
    psq := cancellingPsq s.psq, shu.joint := s.shu.joint && !s.psq.contactorCmd, mtr.prefetched := none
    imn.contactorClosed := s.imn.contactorClosed && !s.psq.contactorCmd }

theorem startCancel_eq (local' : s.imn.mode = .localMode) : startCancel s = cancelComplete (cancelling s) := by
  unfold startCancel withdraw
  rw [openRelays_atHome
    (s := stopTimers { s with psq.cancelPending := true, psq.cancelContactor := s.psq.contactorCmd }) local']
  rfl

/-- The cancel leaves the relays commanded open, each under its supervision (R5, R16). -/
theorem RelaysOpened.cancelling (local' : s.imn.mode = .localMode) (contactor : t.psq.contactorCmd = false)
    (precharge : t.psq.prechargeCmd = false)
    (contactorSup : t.psq.contactorSup = (s.psq.contactorCmd || s.psq.contactorSup))
    (prechargeSup : t.psq.prechargeSup = (s.psq.prechargeCmd || s.psq.prechargeSup))
    (imn : t.imn = (cancelling s).imn) : RelaysOpened s t := by
  refine ⟨contactor, precharge, fun cmd => ⟨?_, ?_, fun away => absurd local' away⟩, fun cmd => ?_⟩
  · rw [contactorSup, cmd, Bool.true_or]
  · rw [imn]
    show (s.imn.contactorClosed && !s.psq.contactorCmd) = false
    rw [cmd, Bool.not_true, Bool.and_false]
  · rw [prechargeSup, cmd, Bool.true_or]

/-- No session is open before PRECHARGE has ended (R174). -/
theorem DriveSafe.noSession (h : DriveSafe s) (states : s.psq.seq.holdsSession = false) : s.mtr.session = none := by
  by_contra held
  exact absurd ((h.2.2.2.2.2 held).symm.trans states) (by decide)

/-- The line an energizing's withdrawal leaves is the one R36 gives. -/
theorem cancelling_line (held : s.fli.line = lineTarget s) (precharging : s.psq.seq = .precharge) :
    (cancelling s).fli.line = lineTarget (cancelling s) := by
  have was : ¬ s.psq.seq.lineOff := by simp [precharging]
  exact held.trans (lineTarget_inputs ⟨rfl, rfl, rfl, rfl, rfl⟩ was was).symm

/-- A cancel in PRECHARGE (R16). -/
theorem startCancel_withdraws (drive : DriveSafe s) (held : s.fli.line = lineTarget s) (precharging : s.psq.seq = .precharge) :
    RelaysOpened s (startCancel s) ∧ (startCancel s).psq.prechargeTimer = false ∧
      (startCancel s).psq.contactorTimer = false ∧ (startCancel s).mtr.prefetched = none ∧
      (startCancel s).mtr.session = s.mtr.session ∧
      if s.psq.prechargeFb = true ∨ (s.psq.contactorCmd = true ∧ s.psq.contactorFb = true) then
        (startCancel s).psq.seq = .precharge ∧ (startCancel s).psq.cancelPending = true ∧
          (startCancel s).psq.cancelContactor = s.psq.contactorCmd
      else
        (startCancel s).psq.seq = .identified ∧ (startCancel s).psq.cancelPending = false ∧
          (startCancel s).psq.cancelContactor = false ∧ (startCancel s).psq.start = none ∧
          .seqState ∈ (startCancel s).cpt.events := by
  have local' : s.imn.mode = .localMode := drive.2.2.1.2.2.2.2.2.2.2 (by rw [precharging]; rfl)
  have closed : s.mtr.session = none := drive.noSession (by rw [precharging]; rfl)
  have line := cancelling_line held precharging
  rw [startCancel_eq local']
  split
  next waits =>
    rw [cancelComplete_rests (s := cancelling s) fun ⟨_, precharge, contactor⟩ =>
      waits.elim (fun fb => absurd (fb.symm.trans precharge) (by decide)) contactor]
    exact ⟨RelaysOpened.cancelling local' rfl rfl rfl rfl rfl, rfl, rfl, rfl, rfl, precharging, rfl, rfl⟩
  next opened =>
    obtain ⟨precharge, contactor⟩ := not_or.1 opened
    have still := enterSeq_still (q := .identified) (s := forgetStop (cancelling s)) (by decide) (by decide)
      (line.trans (lineTarget_inputs ⟨rfl, rfl, rfl, rfl, rfl⟩ (by simp [precharging]) (by simp [precharging])).symm)
      (by simp [forgetStop, precharging]) (by simp)
    obtain ⟨psq, raised, mtr, -⟩ := cancel_done (s := cancelling s) line precharging closed
    rw [cancelComplete_done (s := cancelling s) rfl (eq_false_of_ne_true precharge) contactor]
    have imn := still.2.2.1
    generalize enterSeq .identified (forgetStop (cancelling s)) = t at *
    exact ⟨RelaysOpened.cancelling local' (by rw [psq]) (by rw [psq]) (by rw [psq]) (by rw [psq]) imn, by rw [psq], by rw [psq],
      by rw [mtr], by rw [mtr], by rw [psq], by rw [psq], by rw [psq], by rw [psq], raised⟩

/-- Settles O20: CANCEL is answered by the state it is taken in. -/
theorem cancelWithdrawsByState : Obligations.CancelWithdrawsByState := by
  unfold Obligations.CancelWithdrawsByState
  intro s run drive settled
  have row : exec .cancel s = .next (cancel s) := whenRunning_running run
  rw [row]
  unfold cancel
  cases seq : s.psq.seq with
  | identifying =>
    have closed := drive.noSession (by rw [seq]; rfl)
    have psq := enterSeq_psq .plugged s
    have other : ¬ (identOnEntry .plugged s).psq.seq = .plugged := by
      rw [identOnEntry_seq, seq]
      decide
    have asking : (identOnEntry .plugged s).psq.seq = .identifying := by rw [identOnEntry_seq, seq]
    rw [if_neg other] at psq
    have quiet : (enterSeq .plugged s).psq.query = false ∧ (enterSeq .plugged s).psq.identTimer = false := by
      rw [psq, leaveState, asking]
      exact ⟨rfl, rfl⟩
    exact ⟨_, rfl, rfl, enterSeq_seq .plugged s, quiet.1, quiet.2, enterSeq_raised (by rw [seq]; decide),
      enterSeq_mtr .plugged closed, (enterSeq_keeps .plugged s).2.2.2.1⟩
  | precharge =>
    dsimp only
    split
    next => rfl
    next => exact ⟨_, rfl, rfl, startCancel_withdraws drive settled.1 seq⟩
  | _ => rfl

end Sys2Proof.Machine
end

section
/-! PROOF. GO_IDLE (R15, R20, R24, R138, R160, R162). -/

namespace Sys2Proof.Machine

variable {s t u : State}

/-! ## The drive ended and the session closed (R15) -/

theorem dropIfEnergizing_frame (s : State) : dropIfEnergizing s = { s with
    mtr.prefetched := if s.psq.seq = SeqState.precharge then none else s.mtr.prefetched } := by
  unfold dropIfEnergizing
  by_cases energizing : s.psq.seq = .precharge
  · rw [beq_iff_eq.2 energizing, onlyIf_true, if_pos energizing]
    rfl
  · rw [beq_false_of_ne energizing, onlyIf_false, if_neg energizing]

/-- The relays open, the timers stopped, the copy of an energizing dropped. -/
abbrev idleCut (s : State) : State := dropIfEnergizing (stopTimers (openRelays (clearEnable s)))

/-- The session closed with HOST_IDLE. -/
abbrev idleEnded (s : State) : State := endSession .hostIdle (idleCut s)

/-- The target's part of a sweep at its end. -/
abbrev idleLeft (s : State) : State := leaveTarget s.psq.seq (idleEnded s)

/-- The state before PLUGGED is entered. -/
abbrev idleReady (s : State) : State := forgetStop (enqueue .leave (idleLeft s))

theorem idle_eq (s : State) : idle s = enterSeq .plugged (idleReady s) := rfl

theorem idleCut_psq (s : State) : (idleCut s).psq = endedPsq s.psq := by
  have psq := openRelays_psq (clearEnable s)
  rw [(clearEnable_keeps s).2.2.1] at psq
  unfold idleCut
  rw [dropIfEnergizing_frame]
  show { (openRelays (clearEnable s)).psq with prechargeTimer := false, contactorTimer := false, stopTimer := false } = _
  rw [psq]

theorem idleCut_mtr (s : State) : (idleCut s).mtr = { s.mtr with
    prefetched := if s.psq.seq = SeqState.precharge then none else s.mtr.prefetched } := by
  have psq := idleCut_psq s
  have mtr : (openRelays (clearEnable s)).mtr = s.mtr :=
    (openRelays_keeps _).2.2.2.1.trans (clearEnable_keeps s).2.2.2.2.2.2.2.2.1
  have seq : (stopTimers (openRelays (clearEnable s))).psq.seq = s.psq.seq := by
    show (openRelays (clearEnable s)).psq.seq = _
    rw [openRelays_psq, (clearEnable_keeps s).2.2.1]
  unfold idleCut
  rw [dropIfEnergizing_frame, seq]
  show { (openRelays (clearEnable s)).mtr with
    prefetched := if s.psq.seq = SeqState.precharge then none else (openRelays (clearEnable s)).mtr.prefetched } = _
  rw [mtr]

theorem idleCut_home (s : State) : HomeKept (openRelays (clearEnable s)) (idleCut s) := by
  unfold idleCut
  rw [dropIfEnergizing_frame]
  exact ⟨rfl, rfl, fun _ mem => mem, fun _ mem _ => mem⟩

theorem idleCut_stages (s : State) : StagesKept (clearEnable s) (idleCut s) := by
  refine (openRelays_stages (clearEnable s)).trans ?_
  unfold idleCut
  rw [dropIfEnergizing_frame]
  rfl

theorem idleCut_rest (s : State) : (idleCut s).imn = (openRelays (clearEnable s)).imn ∧
    (idleCut s).fli = (openRelays (clearEnable s)).fli ∧ (idleCut s).mst = s.mst := by
  have mst : (openRelays (clearEnable s)).mst = s.mst :=
    (openRelays_keeps _).2.2.2.2.1.trans (clearEnable_keeps s).2.2.2.2.2.2.2.2.2.1
  unfold idleCut
  rw [dropIfEnergizing_frame]
  exact ⟨rfl, rfl, mst⟩

theorem idleEnded_psq (s : State) : (idleEnded s).psq = endedPsq s.psq :=
  (endSession_keeps _ _).2.2.1.trans (idleCut_psq s)

theorem idleEnded_home (s : State) : HomeKept (openRelays (clearEnable s)) (idleEnded s) :=
  (idleCut_home s).trans (endSession_home _ _)

theorem idleEnded_stages (s : State) : StagesKept (clearEnable s) (idleEnded s) :=
  (idleCut_stages s).trans (endSession_stages _ _)

theorem idleEnded_imn (s : State) : (idleEnded s).imn = (openRelays (clearEnable s)).imn :=
  (endSession_imn _ _).trans (idleCut_rest s).1

theorem idleEnded_fli (s : State) : (idleEnded s).fli = (openRelays (clearEnable s)).fli :=
  (endSession_fli _ _).trans (idleCut_rest s).2.1

theorem idleEnded_cfg (s : State) : (idleEnded s).cfg = s.cfg := (idleEnded_stages s).cfg.trans (clearEnable_keeps s).2.1

theorem idleEnded_queueOnly (s : State) : QueueOnly s (idleEnded s) := by
  have opened := openRelays_queueOnly (clearEnable s)
  unfold QueueOnly at opened ⊢
  rw [(clearEnable_keeps s).2.2.2.1] at opened
  rw [idleEnded_fli, ← opened]

theorem idleEnded_mtr (s : State) : (idleEnded s).mtr = { s.mtr with
    session := none
    prefetched := if s.psq.seq = .precharge ∨ s.mtr.session ≠ none then none else s.mtr.prefetched } := by
  have only : (idleEnded s).mtr = (sessionOver .hostIdle (idleCut s)).mtr :=
    congrArg (·.mtr) (endSession_onlyChain .hostIdle (idleCut s))
  rw [only]
  show { (idleCut s).mtr with session := none, prefetched :=
    if (idleCut s).mtr.session = none then (idleCut s).mtr.prefetched else none } = _
  rw [idleCut_mtr]
  by_cases closed : s.mtr.session = none
  · rw [if_pos closed]
    simp [closed]
  · rw [if_neg closed, if_pos (show s.psq.seq = SeqState.precharge ∨ s.mtr.session ≠ none from .inr closed)]

theorem placeRecord_page (b : SessionBase) (cause : EndCause) (stored : Bool) (s : State) :
    (placeRecord b cause stored s).mst.page = s.mst.page := by
  unfold placeRecord queueCounters
  dsimp only
  split
  · rw [queueWrite_frame, queueWrite_frame (.counters _)]
    rfl
  · split
    · rw [queueWrite_frame, queueWrite_frame (.counters _)]
    · cases stored with
      | true => rw [Bool.not_true, onlyIf_false, queueWrite_frame]
      | false => rw [Bool.not_false, onlyIf_true, queueSnapshot_moved, queueWrite_frame]

/-- A close queues writes and leaves the page (R187). -/
theorem closeSession_page (cause : EndCause) (forced : Bool) (s : State) :
    (closeSession cause forced s).mst.page = s.mst.page := by
  unfold closeSession
  split
  · rfl
  · exact placeRecord_page ..

theorem idleEnded_page (s : State) : (idleEnded s).mst.page = s.mst.page := by
  have mst : (idleEnded s).mst = (closeSession .hostIdle (idleCut s).psq.forced (idleCut s)).mst :=
    congrArg (·.mst) (endSession_onlyChain .hostIdle (idleCut s))
  rw [mst, closeSession_page, (idleCut_rest s).2.2]

theorem idleEnded_ended (s : State) : SessionEnded .hostIdle s.psq.forced s (idleEnded s) := by
  have ended := endSession_ended .hostIdle (idleCut s)
  have forced : (idleCut s).psq.forced = s.psq.forced := by rw [idleCut_psq]
  rw [forced] at ended
  exact ended.of (by rw [idleCut_mtr])

theorem idleEnded_gone (s : State) : ShareGone (idleEnded s) :=
  ⟨(idleEnded_ended s).2.1, (idleEnded_ended s).2.2.1, (idleEnded_ended s).2.2.2.1⟩

theorem idleEnded_opened (s : State) : RelaysOpened s (idleEnded s) := by
  have psq := idleEnded_psq s
  have first := openRelays_psq (clearEnable s)
  rw [(clearEnable_keeps s).2.2.1] at first
  exact (((openRelays_opened (clearEnable s)).home (idleEnded_home s) (by rw [psq, first]) (by rw [psq, first])
    (by rw [psq, first]) (by rw [psq, first]))).cleared

/-! ## The target's part and LEAVE (R15, R39, R160, R162) -/

theorem leaveTarget_isolated {q : SeqState} (isolated : q.isolated = true) (s : State) : leaveTarget q s = leftSweep s := by
  cases q with
  | sweepIsolated p => rfl
  | _ => cases isolated

theorem leaveTarget_free {q : SeqState} (free : ¬ q.isolated = true) (s : State) : leaveTarget q s = s ∨ leaveTarget q s = clearTarget s := by
  cases q with
  | sweepIsolated p => exact absurd rfl free
  | active => exact .inr rfl
  | suspended => exact .inr rfl
  | _ => exact .inl rfl

/-- At most a leader's result joins the queue as the target's part ends (R162). -/
theorem leaveTarget_queue (q : SeqState) (home : s.imn.mode ≠ .measurer) :
    QueueOnly s (leaveTarget q s) ∧ (leaveTarget q s).fli.queue.length ≤ s.fli.queue.length + 1 ∧
      ((∀ r, ¬ InOwnStep s r) → (leaveTarget q s).fli = s.fli) := by
  have swept : QueueOnly s (leftSweep s) ∧ (leftSweep s).fli.queue.length ≤ s.fli.queue.length + 1 ∧
      ((∀ r, ¬ InOwnStep s r) → (leftSweep s).fli = s.fli) := by
    obtain ⟨r, leads, own⟩ | other := inOwnStep_cases s
    · rw [leftSweep_own home leads own]
      refine ⟨endLeading_queueOnly _ _ _ _, ?_, fun none => absurd ⟨leads, own⟩ (none r)⟩
      rw [endLeading_eq]
      exact enqueue_length _ _
    · rw [leftSweep_other other]
      exact ⟨rfl, Nat.le_succ _, fun _ => rfl⟩
  by_cases isolated : q.isolated = true
  · rw [leaveTarget_isolated isolated]
    exact swept
  · obtain same | cleared := leaveTarget_free isolated s
    · rw [same]
      exact ⟨rfl, Nat.le_succ _, fun _ => rfl⟩
    · rw [cleared]
      exact ⟨rfl, Nat.le_succ _, fun _ => rfl⟩

/-- As the relays open a leader before its own step may end its sweep with a result, and then leads no more. -/
theorem openRelays_queue (s : State) :
    ((∃ r, s.imn.sweep = .leading r) ∧ (openRelays s).imn.sweep = .none ∧
      (openRelays s).fli.queue.length ≤ s.fli.queue.length + 1) ∨
    ((openRelays s).imn.sweep = s.imn.sweep ∧ (openRelays s).fli.queue.length ≤ s.fli.queue.length) := by
  rw [openRelays_eq]
  split
  · obtain ⟨r, loses⟩ | keeps := losesSweep_cases (relaysCut s)
    · refine .inl ⟨⟨r, loses.2.1⟩, ?_⟩
      rw [contactorOpened_loses loses]
      refine ⟨(endLeading_ended _ _ _ _).1.1, ?_⟩
      rw [endLeading_eq]
      exact (enqueue_length _ _).trans (Nat.succ_le_succ (roleLeft_queue_le (relaysCut s)))
    · rw [contactorOpened_keepsSweep keeps, roleLeft_sweep]
      exact .inr ⟨rfl, roleLeft_queue_le (relaysCut s)⟩
  · exact .inr ⟨rfl, le_rfl⟩

theorem idleReady_frame (s : State) : idleReady s = { idleLeft s with psq := (idleReady s).psq, fli := (idleReady s).fli } := by
  unfold idleReady forgetStop
  rw [enqueue_eq]

theorem idleReady_home (s : State) : HomeKept (idleLeft s) (idleReady s) := by
  have queue : (idleReady s).fli.queue = queueWith .leave (idleLeft s) := by
    show (enqueue .leave (idleLeft s)).fli.queue = _
    rw [enqueue_eq]
  rw [idleReady_frame s]
  refine ⟨rfl, rfl, fun _ mem => mem, fun q mem kind => ?_⟩
  have joined : q ∈ (enqueue .leave (idleLeft s)).fli.queue := by
    rw [enqueue_eq]
    rw [queue] at mem
    exact mem
  obtain leave | old := mem_of_mem_enqueue joined
  · rw [leave] at kind
    cases kind
  · exact old

section
variable (home : HomeUnlessClosed s)
include home

theorem idleEnded_mode : (idleEnded s).imn.mode = .localMode := by
  have cleared : (clearEnable s).imn.mode ≠ .localMode → (clearEnable s).psq.contactorCmd = true := by
    rw [(clearEnable_keeps s).2.2.1, (clearEnable_keeps s).2.2.2.2.2.2.2.1]
    exact home
  exact (idleEnded_home s).mode.trans (openRelays_mode cleared)

theorem idleEnded_unheld : (idleEnded s).imn.mode ≠ .measurer := by
  rw [idleEnded_mode home]
  decide

/-- One place more than the queue's may be taken, and none where no sweep is led (R39). -/
theorem idleLeft_queue : QueueOnly s (idleLeft s) ∧ (idleLeft s).fli.queue.length ≤ s.fli.queue.length + 1 ∧
    ((∀ r, s.imn.sweep ≠ .leading r) → (idleLeft s).fli.queue.length ≤ s.fli.queue.length) := by
  obtain ⟨only, more, same⟩ := leaveTarget_queue s.psq.seq (idleEnded_unheld home)
  have opened := openRelays_queue (clearEnable s)
  have imn := idleEnded_imn s
  have fli := idleEnded_fli s
  have sweep : (clearEnable s).imn.sweep = s.imn.sweep := by rw [(clearEnable_keeps s).2.2.2.2.2.2.2.1]
  have queue : (clearEnable s).fli.queue = s.fli.queue := by rw [(clearEnable_keeps s).2.2.2.1]
  rw [sweep, queue, ← imn, ← fli] at opened
  refine ⟨(idleEnded_queueOnly s).trans only, ?_⟩
  obtain ⟨⟨r, leads⟩, none, short⟩ | ⟨keeps, short⟩ := opened
  · have left := same fun r own => by
      have held := own.1
      rw [none] at held
      cases held
    unfold idleLeft
    rw [left]
    exact ⟨short, fun other => absurd leads (other r)⟩
  · refine ⟨more.trans (Nat.succ_le_succ short), fun other => ?_⟩
    have left := same fun r own => other r (keeps.symm.trans own.1)
    unfold idleLeft
    rw [left]
    exact short

theorem idleLeft_psq : (idleLeft s).psq = endedPsq s.psq :=
  (leaveTarget_leaves s.psq.seq (idleEnded_unheld home)).2.2.2.1.trans (idleEnded_psq s)

/-- The sequencer's record before PLUGGED is entered. -/
theorem idleReady_psq : (idleReady s).psq = { endedPsq s.psq with
    stopCause := none, forced := false, start := none, isoReturn := none, cancelPending := false, cancelContactor := false } := by
  have psq : (enqueue .leave (idleLeft s)).psq = endedPsq s.psq := by
    rw [enqueue_eq]
    exact idleLeft_psq home
  show { (enqueue .leave (idleLeft s)).psq with
    stopCause := none, forced := false, start := none, isoReturn := none, cancelPending := false, cancelContactor := false } = _
  rw [psq]

/-- LEAVE is queued before PLUGGED is entered (R15, R39). -/
theorem idleReady_queued (online : s.fli.line = .online)
    (room : s.fli.queue.length < 3 ∨ (s.fli.queue.length < 4 ∧ ∀ r, s.imn.sweep ≠ .leading r)) :
    ∃ q ∈ (idleReady s).fli.queue, q.frame = ⟨BitVec.ofNat 6 s.cfg.station, BitVec.ofNat 8 (heldFeeder s), .leave⟩ := by
  obtain ⟨only, more, same⟩ := idleLeft_queue home
  have psq := idleLeft_psq home
  have cfg : (idleLeft s).cfg = s.cfg := (leaveTarget_keeps _ _).2.1.trans (idleEnded_cfg s)
  have short : (idleLeft s).fli.queue.length + 1 ≤ 4 := by
    obtain few | ⟨few, none⟩ := room
    · omega
    · have := same none
      omega
  obtain ⟨q, mem, frame⟩ := enqueue_queued (s := idleLeft s) (b := .leave) rfl (only.line.trans online) short
  refine ⟨q, mem, ?_⟩
  rw [frame, cfg]
  unfold heldFeeder
  rw [psq]

end

/-! ## PLUGGED entered (R8, R36, R37) -/

theorem enterSeq_fli (q : SeqState) (s : State) : (enterSeq q s).fli = (lineMoved (setSeq q (identOnEntry q s))).fli :=
  congrArg (·.fli) (updateFallback_onlyChain _)

theorem lineMoved_foreign (s : State) : (lineMoved s).fli.foreignReported = s.fli.foreignReported := by
  unfold lineMoved
  split
  · rfl
  · rw [changeLine_fli]
    unfold enterLine
    dsimp only
    split
    · rfl
    · split <;> rfl
    · rfl
    · rfl

theorem setSeq_rest (q : SeqState) (s : State) : (setSeq q s).fli = s.fli ∧ (setSeq q s).imn = s.imn ∧
    (setSeq q s).shu.identCopy = s.shu.identCopy ∧ (setSeq q s).psq.ident = s.psq.ident ∧
    (setSeq q s).psq.prox = s.psq.prox := by
  obtain ⟨-, -, fli, -, imn, -⟩ := setSeq_keeps q s
  have psq := setSeq_psq q s
  by_cases same : s.psq.seq = q
  · rw [setSeq, if_pos same]
    exact ⟨rfl, rfl, rfl, rfl, rfl⟩
  · rw [if_neg same, leaveState_eq] at psq
    exact ⟨fli, imn, congrArg (·.shu.identCopy) (setSeq_onlyChain same), by rw [psq], by rw [psq]⟩

/-- An entry to PLUGGED or UNPLUGGED forgets the identification (R8, R34, R44). -/
theorem enterSeq_forgets {q : SeqState} (forgets : q = .plugged ∨ q = .unplugged) :
    (enterSeq q s).psq.ident = none ∧ (enterSeq q s).shu.identCopy = none ∧ (enterSeq q s).fli.foreignReported = false := by
  have ident : identOnEntry q s = forgetIdent s := by
    obtain rfl | rfl := forgets <;> rfl
  have entered : enterSeq q s = refreshLine (setSeq q (forgetIdent s)) := by
    unfold enterSeq
    rw [ident]
  obtain ⟨fli, -, copy, held, -⟩ := setSeq_rest q (forgetIdent s)
  have line := enterSeq_fli q s
  rw [ident] at line
  refine ⟨?_, ?_, ?_⟩
  · rw [entered, (refreshLine_keeps _).2.2.1]
    exact held
  · rw [entered, refreshLine_identCopy]
    exact copy
  · rw [line, lineMoved_foreign, fli]
    rfl

theorem lineOff_prox (is : ¬ s.psq.seq.lineOff) : lineOff s = true ↔ s.psq.prox = .none := by
  unfold lineOff
  have u : (s.psq.seq == .unplugged) = false := by simpa using fun e => is (.inl e)
  have p : (s.psq.seq == .plugSettle) = false := by simpa using fun e => is (.inr e)
  rw [u, p]
  simp

theorem lineTarget_offline_iff : lineTarget s = .offline ↔ lineOff s = true := by
  unfold lineTarget
  cases lineOff s <;> cases s.fli.silentTimer <;> cases lineListens s <;> simp

/-- An entry with the plug in place leaves a monitor that holds no role (R147, R166). -/
theorem enterSeq_imn {q : SeqState} (is : ¬ q.lineOff) (home : s.imn.mode ≠ .measurer)
    (off : s.psq.prox = .none → s.fli.line = .offline) : (enterSeq q s).imn = s.imn := by
  have ident : (identOnEntry q s).imn = s.imn ∧ (identOnEntry q s).fli.line = s.fli.line ∧
      (identOnEntry q s).psq.prox = s.psq.prox := by
    rw [identOnEntry_frame]
    exact ⟨rfl, rfl, rfl⟩
  obtain ⟨fli, imn, -, -, prox⟩ := setSeq_rest q (identOnEntry q s)
  have seq := setSeq_seq q (identOnEntry q s)
  have entered : (enterSeq q s).imn = (lineMoved (setSeq q (identOnEntry q s))).imn :=
    congrArg (·.imn) (updateFallback_onlyChain _)
  rw [entered]
  generalize setSeq q (identOnEntry q s) = y at *
  have held : y.imn = s.imn := imn.trans ident.1
  unfold lineMoved
  split
  · exact held
  next moves =>
    have on : lineTarget y ≠ .offline := fun offline => by
      have none := (lineOff_prox (by rw [seq]; exact is)).1 (lineTarget_offline_iff.1 offline)
      rw [prox, ident.2.2] at none
      exact moves (by rw [offline, fli, ident.2.1, off none])
    rw [(changeLine_home _ (by rw [held]; exact home)).1, if_neg on]
    exact held

/-- A LEAVE stays queued as the line leaves ONLINE for LISTEN (R37). -/
theorem enterLine_leave {f : Fli} {q : Queued} (n : Nat) (online : f.line = .online) (mem : q ∈ f.queue)
    (leave : q.frame.body.isLeave = true) : ∃ x ∈ (enterLine .listen n f).queue, x.frame = q.frame := by
  unfold enterLine
  rw [online]
  dsimp only
  split
  · exact ⟨q, List.mem_filter.2 ⟨mem, leave⟩, rfl⟩
  · exact ⟨{ q with inAttempt := false }, List.mem_filter.2 ⟨List.mem_map.2 ⟨q, mem, rfl⟩, leave⟩, rfl⟩

/-- An entry to PLUGGED from ONLINE puts the line in LISTEN, with a LEAVE queued before it (R15, R36, R37). -/
theorem enterPlugged_leave {q : Queued} (home : s.imn.mode ≠ .measurer) (online : s.fli.line = .online)
    (quiet : s.fli.silentTimer = false) (inserted : s.psq.prox ≠ .none) (mem : q ∈ s.fli.queue)
    (leave : q.frame.body.isLeave = true) : ∃ x ∈ (enterSeq .plugged s).fli.queue, x.frame = q.frame := by
  obtain ⟨fli, imn, -, ident, prox⟩ := setSeq_rest .plugged (forgetIdent s)
  have seq := setSeq_seq .plugged (forgetIdent s)
  have entered : (enterSeq .plugged s).fli = (lineMoved (setSeq .plugged (forgetIdent s))).fli := enterSeq_fli .plugged s
  rw [entered]
  generalize setSeq .plugged (forgetIdent s) = y at *
  have on : ¬ lineOff y = true := by
    rw [lineOff_prox (by rw [seq]; simp), prox]
    exact inserted
  have silent : y.fli.silentTimer = false := by rw [fli]; exact quiet
  have listens : lineListens y = true := by
    unfold lineListens heldFeeder
    rw [show y.psq.ident = none from ident]
    simp
  have target : lineTarget y = .listen := by
    unfold lineTarget
    rw [if_neg on, silent, listens]
    rfl
  have line : y.fli.line = .online := by rw [fli]; exact online
  have moves : lineTarget y ≠ y.fli.line := by
    rw [target, line]
    decide
  have moved : lineMoved y = changeLine .listen y := by
    unfold lineMoved
    rw [if_neg moves, target]
  rw [moved, (changeLine_home .listen (by rw [imn]; exact home)).2.1]
  exact enterLine_leave _ line (by rw [fli]; exact mem) leave

end Sys2Proof.Machine
end

section
/-! PROOF. GO_IDLE in FAULT and outside it (R15, R20). -/

namespace Sys2Proof.Machine

variable {s t u : State}

/-- What an entry leaves of the sequencer's record. -/
theorem enterSeq_record (q : SeqState) (s : State) : (enterSeq q s).psq = { s.psq with
    seq := q, ident := (enterSeq q s).psq.ident, query := (enterSeq q s).psq.query
    identTimer := (enterSeq q s).psq.identTimer, assembly := (enterSeq q s).psq.assembly
    prevCode := (enterSeq q s).psq.prevCode, batteryLow := (enterSeq q s).psq.batteryLow } := by
  have psq := enterSeq_psq q s
  have ident : (identOnEntry q s).psq = { s.psq with ident := (identOnEntry q s).psq.ident } := by
    rw [identOnEntry_frame]
  split at psq
  next same =>
    rw [identOnEntry_seq] at same
    rw [psq, ident, ← same]
  next =>
    rw [psq, leaveState_eq, ident]

/-- Outside IDENTIFYING no query is left (R6). -/
theorem enterSeq_quiet {q : SeqState} (other : q ≠ .identifying)
    (asks : s.psq.identTimer = true ∨ s.psq.query = true → s.psq.seq = .identifying) :
    (enterSeq q s).psq.query = false ∧ (enterSeq q s).psq.identTimer = false := by
  have psq := enterSeq_psq q s
  have ident : (identOnEntry q s).psq = { s.psq with ident := (identOnEntry q s).psq.ident } := by
    rw [identOnEntry_frame]
  have rests (still : s.psq.seq ≠ .identifying) : s.psq.query = false ∧ s.psq.identTimer = false :=
    ⟨eq_false_of_ne_true fun query => still (asks (.inr query)), eq_false_of_ne_true fun timer => still (asks (.inl timer))⟩
  split at psq
  next same =>
    rw [identOnEntry_seq] at same
    rw [psq, ident]
    exact rests (by rw [same]; exact other)
  next =>
    rw [psq]
    by_cases asking : s.psq.seq = .identifying
    · unfold leaveState
      rw [identOnEntry_seq, asking]
      exact ⟨rfl, rfl⟩
    · rw [leaveState_psq (by rw [identOnEntry_seq]; exact asking), ident]
      exact rests asking

/-! ## GO_IDLE outside FAULT (R15) -/

theorem lineTarget_online_quiet (online : lineTarget s = .online) : s.fli.silentTimer = false := by
  unfold lineTarget at online
  cases silent : s.fli.silentTimer with
  | false => rfl
  | true =>
    rw [silent] at online
    split at online <;> cases online

theorem idleReady_rest (s : State) : (idleReady s).mtr = (idleEnded s).mtr ∧ (idleReady s).mst = (idleEnded s).mst := by
  obtain ⟨-, -, -, mtr, mst, -⟩ := leaveTarget_keeps s.psq.seq (idleEnded s)
  rw [idleReady_frame]
  exact ⟨mtr, mst⟩

theorem idle_rest (s : State) : (idle s).mtr = (idleEnded s).mtr ∧ (idle s).mst = (idleEnded s).mst := by
  obtain ⟨mtr, mst⟩ := idleReady_rest s
  have closed : (idleReady s).mtr.session = none := by rw [mtr, idleEnded_mtr]
  rw [idle_eq]
  exact ⟨(enterSeq_mtr .plugged closed).trans mtr, (enterSeq_keeps _ _).2.2.2.1.trans mst⟩

section
variable (drive : DriveSafe s)
include drive

theorem idleReady_mode : (idleReady s).imn.mode = .localMode := by
  have home := drive.home
  have left := (leaveTarget_leaves s.psq.seq (idleEnded_unheld home)).1
  exact (idleReady_home s).mode.trans (left.mode.trans (idleEnded_mode home))

theorem idle_home : HomeKept (idleEnded s) (idle s) :=
  ((leaveTarget_leaves s.psq.seq (idleEnded_unheld drive.home)).1.trans (idleReady_home s)).trans
    (enterSeq_home .plugged (idleReady_mode drive))

theorem idleReady_stages : StagesKept (clearEnable s) (idleReady s) := by
  have left := (leaveTarget_leaves s.psq.seq (idleEnded_unheld drive.home)).2.1
  refine ((idleEnded_stages s).trans left).trans ?_
  rw [idleReady_frame]

theorem idle_stages : StagesKept (clearEnable s) (idle s) :=
  (idleReady_stages drive).trans (enterSeq_stages .plugged (idleReady s))

theorem idle_psq : (idle s).psq = { endedPsq s.psq with
    seq := .plugged, ident := (idle s).psq.ident, query := (idle s).psq.query, identTimer := (idle s).psq.identTimer
    assembly := (idle s).psq.assembly, prevCode := (idle s).psq.prevCode, batteryLow := (idle s).psq.batteryLow
    stopCause := none, forced := false, start := none, isoReturn := none, cancelPending := false
    cancelContactor := false } := by
  have record := enterSeq_record .plugged (idleReady s)
  rw [← idle_eq, idleReady_psq drive.home] at record
  exact record

theorem idle_opened : RelaysOpened s (idle s) := by
  have psq := idle_psq drive
  exact (idleEnded_opened s).home (idle_home drive) (by rw [psq, idleEnded_psq]) (by rw [psq, idleEnded_psq])
    (by rw [psq, idleEnded_psq]) (by rw [psq, idleEnded_psq])

theorem idle_enable : (idle s).ptu.enable = false := by
  rw [idle_stages drive]
  exact clearEnable_enable s

theorem idle_ended : SessionEnded .hostIdle s.psq.forced s (idle s) := by
  have left := leaveTarget_leaves s.psq.seq (idleEnded_unheld drive.home)
  obtain ⟨mtr, mst⟩ := idle_rest s
  have gone : ShareGone (idleReady s) := by
    rw [idleReady_frame]
    exact left.2.2.2.2 (idleEnded_gone s)
  refine (idleEnded_ended s).later ?_ (enterSeq_gone .plugged gone) mst (idle_home drive).2.2.1
  rw [mtr, idleEnded_mtr]

theorem idle_cleared : TargetCleared s (idle s) := by
  intro leaves
  have left := (leaveTarget_leaves s.psq.seq (idleEnded_unheld drive.home)).2.2.1 leaves
  refine enterSeq_noTarget .plugged (s := idleReady s) (by rw [idleReady_mode drive]; decide) ?_
  rw [idleReady_frame]
  exact left

/-- A plug that is out has its line OFFLINE, and so it stays (R36). -/
theorem idleReady_off (held : s.fli.line = lineTarget s) (out : (idleReady s).psq.prox = .none) :
    (idleReady s).fli.line = .offline := by
  have line : (idleReady s).fli.line = s.fli.line := by
    show (enqueue .leave (idleLeft s)).fli.line = _
    rw [enqueue_eq]
    exact (idleLeft_queue drive.home).1.line
  rw [idleReady_psq drive.home] at out
  rw [line, held, lineTarget_offline_iff, lineOff, show s.psq.prox = .none from out]
  rfl

/-- A leader's own step ends ABANDONED as its isolation ends by GO_IDLE (R162). -/
theorem idle_ownStep {r : LeaderRecord} (held : s.fli.line = lineTarget s) (isolated : s.psq.seq.isolated = true)
    (own : InOwnStep s r) : SweepEnded .abandoned false s (idle s) := by
  obtain ⟨sweep, hold, -⟩ := openRelays_ownStep own.cleared
  rw [(clearEnable_keeps s).2.2.2.2.2.2.2.1] at hold
  rw [← idleEnded_imn s] at sweep hold
  have left : idleLeft s = endLeading r .abandoned false (idleEnded s) := by
    unfold idleLeft
    rw [leaveTarget_isolated isolated]
    exact leftSweep_own (idleEnded_unheld drive.home) sweep own.2
  obtain ⟨⟨none, outcome, held', event⟩, -⟩ := endLeading_ended r .abandoned false (idleEnded s)
  rw [← left] at none outcome held' event
  have imn : (idle s).imn = (idleLeft s).imn := by
    have kept := enterSeq_imn (q := .plugged) (s := idleReady s) (by simp) (by rw [idleReady_mode drive]; decide)
      (idleReady_off drive held)
    rw [idle_eq, kept, idleReady_frame]
  have told := ((idleReady_home s).trans (enterSeq_home .plugged (idleReady_mode drive))).2.2.1 _ event
  unfold SweepEnded
  rw [imn]
  exact ⟨none, outcome, held'.trans (by rw [hold]), told⟩

/-- LEAVE is queued, and is still queued in LISTEN (R15, R37, R39). -/
theorem idle_leave (held : s.fli.line = lineTarget s) (online : s.fli.line = .online) (inserted : s.psq.prox ≠ .none)
    (room : s.fli.queue.length < 3 ∨ (s.fli.queue.length < 4 ∧ ∀ r, s.imn.sweep ≠ .leading r)) :
    ∃ q ∈ (idle s).fli.queue, q.frame = ⟨BitVec.ofNat 6 s.cfg.station, BitVec.ofNat 8 (heldFeeder s), .leave⟩ := by
  obtain ⟨q, mem, frame⟩ := idleReady_queued drive.home online room
  have fli : (idleReady s).fli.line = s.fli.line ∧ (idleReady s).fli.silentTimer = s.fli.silentTimer := by
    have only := (idleLeft_queue drive.home).1
    have readied : (idleReady s).fli = { (idleLeft s).fli with queue := (idleReady s).fli.queue } := by
      show (enqueue .leave (idleLeft s)).fli = _
      unfold idleReady forgetStop
      rw [enqueue_eq]
    rw [readied, only]
    exact ⟨rfl, rfl⟩
  obtain ⟨x, mem, same⟩ := enterPlugged_leave (s := idleReady s) (by rw [idleReady_mode drive]; decide)
    (by rw [fli.1]; exact online) (by rw [fli.2]; exact lineTarget_online_quiet (held.symm.trans online))
    (by rw [idleReady_psq drive.home]; exact inserted) mem (by rw [frame]; rfl)
  exact ⟨x, mem, same.trans frame⟩

end

/-! ## GO_IDLE in FAULT (R20) -/

/-- FAULT left with its cause cleared and LEAVE queued, before the entry. -/
abbrev faultLeft (s : State) : State := { enqueue .leave s with psq.faultCause := none }

theorem faultLeft_frame (s : State) : faultLeft s = { s with
    psq.faultCause := none, fli.queue := queueWith .leave s } := by
  unfold faultLeft
  rw [enqueue_eq]

theorem DriveSafe.faultHome (h : DriveSafe s) (fault : s.psq.seq = .fault) : s.imn.mode = .localMode := by
  by_contra away
  obtain drives | energizes := h.2.1.2.1 (h.home away)
  · rw [fault] at drives
    cases drives
  · rw [fault] at energizes
    cases energizes

/-- What GO_IDLE in FAULT leaves (R20). -/
theorem faultLeft_enters {q : SeqState} (drive : DriveSafe s) (fault : s.psq.seq = .fault)
    (forgets : q = .plugged ∨ q = .unplugged) :
    ((enterSeq q (faultLeft s)).psq.query = false ∧ (enterSeq q (faultLeft s)).psq.identTimer = false) ∧
      (enterSeq q (faultLeft s)).psq.faultCause = none ∧ (enterSeq q (faultLeft s)).cfg = s.cfg ∧
      (enterSeq q (faultLeft s)).msq = s.msq ∧ (enterSeq q (faultLeft s)).mtr = s.mtr ∧
      (enterSeq q (faultLeft s)).mst = s.mst := by
  have other : q ≠ .identifying := by
    obtain rfl | rfl := forgets <;> decide
  have quiet := enterSeq_quiet (s := faultLeft s) other (by rw [faultLeft_frame]; exact drive.2.2.1.2.2.1)
  have record := enterSeq_record q (faultLeft s)
  have mtr := enterSeq_mtr q (s := faultLeft s) (by rw [faultLeft_frame]; exact drive.noSession (by rw [fault]; rfl))
  obtain ⟨-, cfg, msq, mst, -⟩ := enterSeq_keeps q (faultLeft s)
  generalize enterSeq q (faultLeft s) = t at *
  rw [faultLeft_frame] at record mtr cfg msq mst
  exact ⟨quiet, by rw [record], cfg, msq, mtr, mst⟩

/-- LEAVE is queued in FAULT as well, and is still queued in LISTEN (R15, R20, R37, R39). -/
theorem faultLeft_leave (drive : DriveSafe s) (fault : s.psq.seq = .fault) (held : s.fli.line = lineTarget s)
    (online : s.fli.line = .online) (inserted : s.psq.prox ≠ .none) (room : s.fli.queue.length + 1 ≤ 4) :
    ∃ q ∈ (enterSeq .plugged (faultLeft s)).fli.queue,
      q.frame = ⟨BitVec.ofNat 6 s.cfg.station, BitVec.ofNat 8 (heldFeeder s), .leave⟩ := by
  obtain ⟨q, mem, frame⟩ := enqueue_queued (s := s) (b := .leave) rfl online room
  have frame' := faultLeft_frame s
  have queued : q ∈ (faultLeft s).fli.queue := mem
  generalize faultLeft s = u at *
  obtain ⟨x, mem, same⟩ := enterPlugged_leave (s := u) (by rw [frame', drive.faultHome fault]; decide)
    (by rw [frame']; exact online) (by rw [frame']; exact lineTarget_online_quiet (held.symm.trans online))
    (by rw [frame']; exact inserted) queued (by rw [frame]; rfl)
  exact ⟨x, mem, same.trans frame⟩

/-- The state GO_IDLE enters from FAULT (R20). -/
abbrev afterFault (s : State) : SeqState := if s.psq.prox = .none then .unplugged else .plugged

theorem afterFault_forgets (s : State) : afterFault s = .plugged ∨ afterFault s = .unplugged := by
  unfold afterFault
  split
  · exact .inr rfl
  · exact .inl rfl

/-- GO_IDLE in FAULT is refused by its reasons, and otherwise taken (R20). -/
theorem idleFromFault_eq (s : State) : idleFromFault s =
    if s.ptu.trip ≠ none then answerEmpty .tripLatched s
    else if s.psq.contactorFb = true then answerEmpty .contactorClosed s
    else answerEmpty .accepted (enterSeq (afterFault s) (faultLeft s)) := by
  have latched : tripped s = true ↔ s.ptu.trip ≠ none := Option.isSome_iff_ne_none
  unfold idleFromFault
  simp only [latched]

/-- GO_IDLE is taken outside FAULT (R15). -/
theorem goIdle_taken (free : ¬ s.psq.cancelPending = true) (fault : s.psq.seq ≠ .fault) (unplugged : s.psq.seq ≠ .unplugged)
    (settling : s.psq.seq ≠ .plugSettle) (stopping : s.psq.seq ≠ .stopping) : goIdle s = answerEmpty .accepted (idle s) := by
  unfold goIdle
  rw [if_neg free]
  split
  next h => exact absurd h unplugged
  next h => exact absurd h settling
  next h => exact absurd h stopping
  next h => exact absurd h fault
  next => rfl

/-- GO_IDLE is refused in the states it has no way out of (R15). -/
theorem goIdle_refused (free : ¬ s.psq.cancelPending = true)
    (refused : s.psq.seq = .unplugged ∨ s.psq.seq = .plugSettle ∨ s.psq.seq = .stopping) : goIdle s = answerEmpty .wrongState s := by
  unfold goIdle
  rw [if_neg free]
  obtain h | h | h := refused <;> rw [h]

theorem goIdle_fault (free : ¬ s.psq.cancelPending = true) (fault : s.psq.seq = .fault) : goIdle s = idleFromFault s := by
  unfold goIdle
  rw [if_neg free, fault]

/-- Settles O19: GO_IDLE returns the sequencer to PLUGGED. -/
theorem goIdleReturnsToPlugged : Obligations.GoIdleReturnsToPlugged := by
  unfold Obligations.GoIdleReturnsToPlugged
  intro s run drive settled
  have row : exec .goIdle s = .next (goIdle s) := whenRunning_running run
  rw [row]
  split
  next busy => exact congrArg _ (if_pos busy)
  next free =>
  split
  next refused => rw [goIdle_refused free refused]
  next allowed =>
  by_cases fault : s.psq.seq = .fault
  · rw [goIdle_fault free fault, idleFromFault_eq]
    split
    next latched => rw [if_pos latched.2]
    next unlatched =>
    rw [if_neg fun h => unlatched ⟨fault, h⟩]
    split
    next closed => rw [if_pos closed.2]
    next opened =>
    rw [if_neg fun h => opened ⟨fault, h⟩]
    have forgets := afterFault_forgets s
    obtain ⟨quiet, cause, cfg, msq, mtr, mst⟩ := faultLeft_enters drive fault forgets
    obtain ⟨ident, copy, foreign⟩ := enterSeq_forgets (s := faultLeft s) forgets
    have leave := faultLeft_leave drive fault settled.1
    have seq := enterSeq_seq (afterFault s) (faultLeft s)
    refine ⟨_, rfl, rfl, ?_, ident, copy, foreign, quiet.1, quiet.2, fun _ => cause, fun h => absurd fault h,
      fun leaves => ?_, fun isolated => ?_, fun online inserted room => ?_, cfg, msq, ?_, ?_⟩
    · refine Eq.trans seq ?_
      unfold afterFault
      simp only [fault, true_and]
    · rw [fault] at leaves
      obtain h | h | h := leaves <;> cases h
    · rw [fault] at isolated
      cases isolated
    · have plugged : afterFault s = .plugged := if_neg inserted
      rw [plugged]
      exact leave online inserted (by omega)
    · exact congrArg (·.table) mtr
    · exact congrArg (·.page) mst
  · obtain ⟨unplugged, settling, stopping⟩ : s.psq.seq ≠ .unplugged ∧ s.psq.seq ≠ .plugSettle ∧ s.psq.seq ≠ .stopping := by
      simpa using allowed
    rw [goIdle_taken free fault unplugged settling stopping, if_neg (fun h => fault h.1), if_neg (fun h => fault h.1)]
    have psq := idle_psq drive
    have seq : (idle s).psq.seq = .plugged := by rw [psq]
    have quiet := enterSeq_quiet (q := .plugged) (s := idleReady s) (by decide)
      (by rw [idleReady_psq drive.home]; exact drive.2.2.1.2.2.1)
    obtain ⟨ident, copy, foreign⟩ := enterSeq_forgets (s := idleReady s) (.inl rfl)
    rw [← idle_eq] at quiet ident copy foreign
    obtain ⟨mtr, mst⟩ := idle_rest s
    have stages := idle_stages drive
    have opened := idle_opened drive
    have enable := idle_enable drive
    have ended := idle_ended drive
    have cleared := idle_cleared drive
    have swept (isolated : s.psq.seq.isolated = true) (r : LeaderRecord) (leads : s.imn.sweep = .leading r)
        (own : r.phase = .ownStep) : SweepEnded .abandoned false s (idle s) :=
      idle_ownStep drive settled.1 isolated ⟨leads, own⟩
    have leave := idle_leave drive settled.1
    have prefetched := (congrArg (·.prefetched) mtr).trans (congrArg (·.prefetched) (idleEnded_mtr s))
    have table := (congrArg (·.table) mtr).trans (congrArg (·.table) (idleEnded_mtr s))
    have page := (congrArg (·.page) mst).trans (idleEnded_page s)
    have msq := (congrArg (·.msq) stages).trans (clearEnable_keeps s).2.2.2.2.2.1
    have cfg := stages.cfg.trans (clearEnable_keeps s).2.1
    clear mtr mst stages
    generalize idle s = z at *
    refine ⟨_, rfl, rfl, seq.trans (if_neg fun h => fault h.1).symm, ident, copy, foreign, quiet.1, quiet.2,
      fun h => absurd h fault, fun _ => ⟨opened, enable, ended, ?_, ?_, ?_, ?_, prefetched⟩,
      cleared, swept, leave, cfg, msq, table, page⟩
    · exact congrArg (·.stopCause) psq
    · exact congrArg (·.stopTimer) psq
    · exact congrArg (·.prechargeTimer) psq
    · exact congrArg (·.contactorTimer) psq

end Sys2Proof.Machine
end

section
/-! PROOF. Writes queued one after another, and the activation of a copy (R174 to R176, R187 to R189). -/

namespace Sys2Proof.Machine

variable {s t u : State} {m n : Mst} {ws : List PageWrite}

/-! ## Writes queued (R187) -/

theorem startNext_busy (busy : m.inFlight ≠ none) : m.startNext = m := by
  unfold Mst.startNext
  cases h : m.inFlight with
  | none => exact absurd h busy
  | some f => rfl

theorem Mst.queueWrite_busy (busy : m.inFlight ≠ none) (w : PageWrite) :
    m.queueWrite w = { m with writes := putWrite w m.writes } :=
  startNext_busy (m := { m with writes := putWrite w m.writes }) busy

theorem Mst.queueWrite_idle (idle : m.inFlight = none) (empty : m.writes = []) (w : PageWrite) :
    m.queueWrite w = { m with inFlight := some (flightOf m.page w), writes := [] } := by
  unfold Mst.queueWrite Mst.startNext
  rw [idle, empty]
  rfl

theorem flightOf_write (g : Page) (w : PageWrite) : (flightOf g w).write = w := by
  cases w <;> rfl

theorem WritesQueued.start (m : Mst) : WritesQueued [] m m :=
  ⟨fun _ => ⟨rfl, rfl⟩, fun idle empty => ⟨by rw [idle]; rfl, by rw [empty]; rfl⟩⟩

/-- One more write joins those queued (R187). -/
theorem WritesQueued.queue (h : WritesQueued ws m n) (w : PageWrite) : WritesQueued (ws ++ [w]) m (n.queueWrite w) := by
  obtain ⟨busy, idle⟩ := h
  refine ⟨fun flying => ?_, fun rests empty => ?_⟩
  · obtain ⟨flight, writes⟩ := busy flying
    rw [Mst.queueWrite_busy (by rw [flight]; exact flying)]
    refine ⟨flight, ?_⟩
    show putWrite w n.writes = _
    rw [writes, List.foldl_append]
    rfl
  · obtain ⟨flight, writes⟩ := idle rests empty
    cases ws with
    | nil =>
      rw [Mst.queueWrite_idle (Option.map_eq_none_iff.1 flight) writes]
      exact ⟨congrArg some (flightOf_write _ w), rfl⟩
    | cons v vs =>
      have flying : n.inFlight ≠ none := by
        intro none
        rw [none] at flight
        cases flight
      rw [Mst.queueWrite_busy flying]
      refine ⟨flight, ?_⟩
      show putWrite w n.writes = _
      rw [writes, List.cons_append, List.tail_cons, List.tail_cons, List.foldl_append]
      rfl

/-- A write goes to its place also among the writes with their clears dropped (R189). -/
theorem putWrite_keep (w : PageWrite) (q : List PageWrite) :
    (putWrite w q).map (·.keepSnapshot) = putWrite w.keepSnapshot (q.map (·.keepSnapshot)) := by
  unfold putWrite
  have found : (q.map (·.keepSnapshot)).any w.keepSnapshot.sameTarget = q.any w.sameTarget := by
    rw [List.any_map]
    exact congrArg (q.any ·) (funext (PageWrite.keepSnapshot_sameTarget w))
  rw [found]
  split
  · rw [List.map_map, List.map_map]
    refine List.map_congr_left fun x _ => ?_
    simp only [Function.comp, PageWrite.keepSnapshot_sameTarget]
    exact apply_ite PageWrite.keepSnapshot ..
  · rw [List.map_append, List.map_singleton]

theorem putWrites_keep (ws q : List PageWrite) :
    (ws.foldl (fun q w => putWrite w q) q).map (·.keepSnapshot) =
      (ws.map (·.keepSnapshot)).foldl (fun q w => putWrite w q) (q.map (·.keepSnapshot)) := by
  induction ws generalizing q with
  | nil => rfl
  | cons w ws ih =>
    have rest := ih (putWrite w q)
    rw [putWrite_keep] at rest
    exact rest

/-- With the clears dropped throughout, the same writes have joined (R189). -/
theorem WritesQueued.kept (h : WritesQueued ws m n) :
    WritesQueued (ws.map (·.keepSnapshot)) (snapshotKept m) (snapshotKept n) := by
  obtain ⟨busy, idle⟩ := h
  refine ⟨fun flying => ?_, fun rests empty => ?_⟩
  · have was : m.inFlight ≠ none := fun none => flying (congrArg (Option.map _) none)
    obtain ⟨flight, writes⟩ := busy was
    refine ⟨?_, ?_⟩
    · show n.inFlight.map _ = m.inFlight.map _
      rw [flight]
    · show n.writes.map _ = _
      rw [writes]
      exact putWrites_keep ws m.writes
  · obtain ⟨flight, writes⟩ := idle (Option.map_eq_none_iff.1 rests) (List.map_eq_nil_iff.1 empty)
    refine ⟨?_, ?_⟩
    · have kept : (snapshotKept n).inFlight.map (·.write) = (n.inFlight.map (·.write)).map (·.keepSnapshot) := by
        show (n.inFlight.map _).map _ = _
        rw [Option.map_map, Option.map_map]
        rfl
      rw [kept, flight, List.head?_map]
    · show n.writes.map _ = _
      rw [writes, ← List.map_tail]
      exact putWrites_keep ws.tail []

/-! ## Checkpoints (R188) -/

/-- Of the events only this one may have joined. -/
abbrev AddsOnly (k : EventKind) (s t : State) : Prop := ∀ e, e ≠ k → (e ∈ t.cpt.events ↔ e ∈ s.cpt.events)

theorem mem_raiseEvent_iff {e k : EventKind} : e ∈ (raiseEvent k s).cpt.events ↔ e = k ∨ e ∈ s.cpt.events :=
  mem_insertEvent e k _

theorem queueWrite_onlyBusy (w : PageWrite) (s : State) : AddsOnly .storeBusy s (queueWrite w s) := by
  intro e other
  unfold queueWrite
  dsimp only
  cases decide (s.mst.writes.length < 7) && (s.mst.queueWrite w).writes.length == 7 with
  | false => exact Iff.rfl
  | true => exact mem_raiseEvent_iff.trans ⟨fun h => h.resolve_left other, .inr⟩

theorem queueSnapshot_onlyBusy (c : Checkpoint) (s : State) : AddsOnly .storeBusy s (queueSnapshot c s) :=
  fun e other => queueWrite_onlyBusy (.checkpoint c) (cancelClears s) e other

theorem queueSnapshot_mst (c : Checkpoint) (s : State) : (queueSnapshot c s).mst = (snapshotKept s.mst).queueWrite (.checkpoint c) :=
  queueWrite_mst _ _

/-- What a checkpoint writes (R188). -/
theorem takeCheckpoint_frame (s : State) : takeCheckpoint s = { s with
    mst := { s.mst with
      writes := (takeCheckpoint s).mst.writes, inFlight := (takeCheckpoint s).mst.inFlight
      sessionEnergy := 0, lifeEnergy := 0 }
    cpt.events := (takeCheckpoint s).cpt.events } := by
  unfold takeCheckpoint queueCounters
  dsimp only
  cases s.mtr.session with
  | none =>
    dsimp only
    rw [queueWrite_frame]
  | some ss =>
    have moved := queueSnapshot_moved (.opened ss.base) (queueWrite (.counters s.mst.working) s)
    have first := queueWrite_frame (.counters s.mst.working) s
    dsimp only
    generalize queueSnapshot _ _ = x at *
    unfold WritesMoved at moved
    rw [moved]
    generalize queueWrite _ s = y at *
    rw [first]

theorem takeCheckpoint_onlyBusy (s : State) : AddsOnly .storeBusy s (takeCheckpoint s) := by
  intro e other
  unfold takeCheckpoint queueCounters
  dsimp only
  have first := queueWrite_onlyBusy (.counters s.mst.working) s e other
  cases s.mtr.session with
  | none => exact first
  | some ss => exact (queueSnapshot_onlyBusy (.opened ss.base) _ e other).trans first

/-- A checkpoint of the open session is taken, after what has been queued before it (R188). -/
theorem takeCheckpoint_taken {ss : Session} {before : List PageWrite} (opened : s.mtr.session = some ss)
    (queued : WritesQueued before m s.mst) :
    (takeCheckpoint s).mst.sessionEnergy = 0 ∧ (takeCheckpoint s).mst.lifeEnergy = 0 ∧
      WritesQueued (before.map (·.keepSnapshot) ++ [.counters (takeCheckpoint s).mst.working, .checkpoint (.opened ss.base)])
        (snapshotKept m) (takeCheckpoint s).mst := by
  have working : (takeCheckpoint s).mst.working = s.mst.working := by rw [takeCheckpoint_frame]
  have counted := queued.queue (.counters s.mst.working)
  have both := counted.kept.queue (.checkpoint (.opened ss.base))
  have store : (takeCheckpoint s).mst = { (queueSnapshot (.opened ss.base) (queueCounters s)).mst with
      sessionEnergy := 0, lifeEnergy := 0 } := by
    unfold takeCheckpoint
    rw [opened]
  rw [working]
  rw [store, queueSnapshot_mst, show (queueCounters s).mst = s.mst.queueWrite (.counters s.mst.working) from queueWrite_mst _ _]
  rw [List.map_append, List.append_assoc] at both
  exact ⟨rfl, rfl, both⟩

/-! ## Activation (R175, R176) -/

/-- A copy that starts near its end (R176). -/
abbrev startsNear (c : DescCopy) : Prop := NearEnd c.desc (c.desc.quota * 1000) c.desc.duration

theorem near_start (c : DescCopy) : (Running.start c).near = decide (startsNear c) := by
  rw [Bool.eq_iff_iff]
  unfold Running.near Running.start
  simp

/-- The near-end check of a copy just started (R176). -/
theorem nearEndCheck_start {c : DescCopy} {base : SessionBase} (started : s.mtr.session = some ⟨base, some (Running.start c)⟩)
    (free : s.mtr.prefetched = none) : nearEndCheck s =
      onlyIf (decide (startsNear c) && c.desc.notice) (raiseEvent .lowQuota)
        { s with
          mtr.session := some ⟨base, some { Running.start c with nearEnd := decide (startsNear c) }⟩
          mtr.prefetched := if startsNear c ∧ c.desc.chain = true then SlotCopy c.desc.next s else none } := by
  have copy : (Running.start c).copy = c := rfl
  have fresh : (Running.start c).nearEnd = false := rfl
  unfold nearEndCheck
  rw [started]
  dsimp only
  rw [fresh, Bool.false_or, near_start, copy, free]
  have notice : (decide (startsNear c) && !false && c.desc.notice) = (decide (startsNear c) && c.desc.notice) := by simp
  have prefetched : (if (decide (startsNear c) && c.desc.chain && (none : Option DescCopy).isNone) = true then
      copySlot c.desc.next s else none) = if startsNear c ∧ c.desc.chain = true then SlotCopy c.desc.next s else none := by
    have both : (decide (startsNear c) && c.desc.chain && (none : Option DescCopy).isNone) = true ↔
        startsNear c ∧ c.desc.chain = true := by
      rw [Option.isNone_none, Bool.and_true, Bool.and_eq_true, decide_eq_true_iff]
    exact if_congr both rfl rfl
  rw [notice, prefetched]

/-- The state a copy is activated in, before its checkpoint (R175). -/
abbrev itemStarted (c : DescCopy) (b : SessionBase) (s : State) : State :=
  { s with
    mtr.session := some ⟨{ b with items := b.items ++ [LineItem.start c] }, some (Running.start c)⟩
    mtr.prefetched := none }

/-- Activation where the session has room for a line item (R175). -/
theorem activate_room {c : DescCopy} {ss : Session} (opened : s.mtr.session = some ss) (room : ¬ 16 ≤ ss.base.items.length) :
    activate c s = (nearEndCheck (takeCheckpoint (itemStarted c ss.base s)), none) := by
  unfold activate
  rw [opened]
  exact if_neg room

/-- Activation where it has none ends the chain with LINE_LIMIT (R175, R179). -/
theorem activate_full {c : DescCopy} {ss : Session} (opened : s.mtr.session = some ss) (full : 16 ≤ ss.base.items.length) :
    activate c s = (endChain s, some (.stop .lineLimit)) := by
  unfold activate
  rw [opened]
  exact if_pos full

/-- What an activation writes: the session's copy with its near-end flag, what it prefetches, the checkpoint and the
events (R175, R176, R188). -/
abbrev ActivationFrame (c : DescCopy) (b : SessionBase) (s t : State) : Prop :=
  t = { s with
    mtr := { s.mtr with
      session := some ⟨{ b with items := b.items ++ [LineItem.start c] },
        some { Running.start c with nearEnd := decide (startsNear c) }⟩
      prefetched := if startsNear c ∧ c.desc.chain = true then SlotCopy c.desc.next s else none }
    mst := { s.mst with writes := t.mst.writes, inFlight := t.mst.inFlight, sessionEnergy := 0, lifeEnergy := 0 }
    cpt.events := t.cpt.events }

/-- A copy is activated: its frame, its checkpoint after the writes queued before, and LOW_QUOTA where it starts near its
end (R175, R176, R188). -/
theorem activate_activated {c : DescCopy} {ss : Session} {before : List PageWrite} (opened : s.mtr.session = some ss)
    (room : ¬ 16 ≤ ss.base.items.length) (queued : WritesQueued before m s.mst) :
    (activate c s).2 = none ∧ ActivationFrame c ss.base s (activate c s).1 ∧
      (WritesQueued (before.map (·.keepSnapshot) ++ [.counters (activate c s).1.mst.working,
          .checkpoint (.opened { ss.base with items := ss.base.items ++ [LineItem.start c] })])
        (snapshotKept m) (activate c s).1.mst) ∧
      (∀ e ∈ s.cpt.events, e ∈ (activate c s).1.cpt.events) ∧
      (.lowQuota ∈ (activate c s).1.cpt.events ↔
        .lowQuota ∈ s.cpt.events ∨ (startsNear c ∧ c.desc.notice = true)) := by
  rw [activate_room opened room]
  have frame := takeCheckpoint_frame (itemStarted c ss.base s)
  have busy := takeCheckpoint_onlyBusy (itemStarted c ss.base s) .lowQuota (by decide)
  have kept : ∀ e ∈ s.cpt.events, e ∈ (takeCheckpoint (itemStarted c ss.base s)).cpt.events := fun e mem =>
    takeCheckpoint_events (itemStarted c ss.base s) mem
  obtain ⟨-, -, writes⟩ := takeCheckpoint_taken (s := itemStarted c ss.base s) rfl queued
  generalize takeCheckpoint (itemStarted c ss.base s) = x at *
  have started : x.mtr.session = (itemStarted c ss.base s).mtr.session := by rw [frame]
  have free : x.mtr.prefetched = none := by rw [frame]
  have check := nearEndCheck_start started free
  have table : SlotCopy c.desc.next x = SlotCopy c.desc.next s := by
    unfold SlotCopy
    rw [frame]
  rw [table] at check
  dsimp only
  rw [check]
  refine ⟨rfl, ?_⟩
  have told : (decide (startsNear c) && c.desc.notice) = true ↔ startsNear c ∧ c.desc.notice = true := by
    rw [Bool.and_eq_true, decide_eq_true_iff]
  cases notice : decide (startsNear c) && c.desc.notice with
  | true =>
    rw [onlyIf_true]
    refine ⟨?_, writes, fun e mem => mem_raiseEvent _ (kept e mem), ?_⟩
    · unfold ActivationFrame
      rw [frame]
      rfl
    · refine ⟨fun _ => .inr (told.1 notice), fun _ => raised_mem ..⟩
  | false =>
    rw [onlyIf_false]
    refine ⟨?_, writes, kept, ?_⟩
    · unfold ActivationFrame
      rw [frame]
    · have quiet : ¬ (startsNear c ∧ c.desc.notice = true) := fun h =>
        absurd ((told.2 h).symm.trans notice) (by decide)
      exact ⟨fun mem => .inl (busy.1 mem), fun h => busy.2 (h.resolve_right quiet)⟩

/-- What stands after an activation (R175, R176). -/
theorem Activated.of {c : DescCopy} {b : SessionBase} {s' : State} (frame : ActivationFrame c b s t) (table : s.mtr.table = s'.mtr.table)
    (low : .lowQuota ∈ t.cpt.events ↔ .lowQuota ∈ s'.cpt.events ∨ (startsNear c ∧ c.desc.notice = true)) :
    Activated c s' t := by
  unfold ActivationFrame at frame
  refine ⟨by rw [frame]; rfl, ?_, low⟩
  rw [frame]
  unfold SlotCopy
  rw [table]

end Sys2Proof.Machine
end

section
/-! PROOF. GO_ENERGIZE (R9 to R11, R174 to R176, R179). -/

namespace Sys2Proof.Machine

variable {s t u : State}

/-- The checks of R9, in their order. -/
theorem energizeCheck_eq (slot : Byte) (s : State) : energizeCheck slot s =
    if s.cpt.configured = false then .inl .notConfigured
    else if s.psq.cancelPending = true then .inl .busy
    else if s.psq.seq ≠ .identified ∧ s.psq.seq ≠ .suspended then .inl .wrongState
    else if s.ptu.trip ≠ none then .inl .tripLatched
    else if s.imn.ownFault = true then .inl .insulationFault
    else if s.imn.localFlag = false then .inl .insulationUnknown
    else if s.mst.stacked ≠ none then .inl .backlog
    else (validCopy slot s).elim (.inl .badSlot) .inr := by
  have latched : tripped s = true ↔ s.ptu.trip ≠ none := Option.isSome_iff_ne_none
  have backlog : s.mst.stacked.isSome = true ↔ s.mst.stacked ≠ none := Option.isSome_iff_ne_none
  unfold energizeCheck
  simp only [latched, backlog, Bool.not_eq_true]
  cases validCopy slot s <;> rfl

theorem goEnergize_refused {slot : Byte} (stamp : Word32) {why : Status} (check : energizeCheck slot s = .inl why) :
    goEnergize slot stamp s = answerEmpty why s := by
  unfold goEnergize
  rw [check]

theorem goEnergize_taken {slot : Byte} (stamp : Word32) {c : DescCopy} (check : energizeCheck slot s = .inr c) :
    goEnergize slot stamp s = answerEmpty .accepted (if s.psq.seq = .suspended then
        resume { s with mtr.prefetched := some c, psq.start := some (c.slot, stamp) }
      else startPrecharge { s with mtr.prefetched := some c, psq.start := some (c.slot, stamp) }) := by
  unfold goEnergize
  rw [check]

/-- A copy energizes from IDENTIFIED: PRECHARGE is entered with the precharge relay closed (R10). -/
theorem startPrecharge_onlyChain (c : DescCopy) (stamp : Word32) (settled : LineSettled s) (identified : s.psq.seq = .identified) :
    OnlyChain
      (raiseEvent .seqState { s with
        psq := { s.psq with
          seq := .precharge, start := some (c.slot, stamp), prechargeCmd := true, prechargeTimer := true
          batteryLow := false }
        mtr.prefetched := some c })
      (startPrecharge { s with mtr.prefetched := some c, psq.start := some (c.slot, stamp) }) := by
  have entered := enterSeq_onlyChain (q := .precharge)
    (s := { s with
      mtr.prefetched := some c
      psq := { s.psq with start := some (c.slot, stamp), prechargeCmd := true, prechargeTimer := true } })
    ⟨settled.1, settled.2.1⟩ (by simp [identified]) (by simp) (by decide) (by decide) (by simp [identified])
  have left : leaveState .precharge
      { s.psq with start := some (c.slot, stamp), prechargeCmd := true, prechargeTimer := true } = { s.psq with
        seq := .precharge, start := some (c.slot, stamp), prechargeCmd := true, prechargeTimer := true
        batteryLow := false } := by
    rw [leaveState_psq (by simp [identified])]
    simp
  dsimp only at entered
  rw [left] at entered
  exact entered

/-- WRITE_DESCRIPTOR of the slot prefetched takes effect later (R173). -/
theorem writeDescriptor_later {slot : Byte} {c : DescCopy} (named : slotOf slot = some c.slot) (held : s.mtr.prefetched = some c) :
    (writeDescriptor slot 1 0 0 0 0 0 s).cpt.reply = ⟨.inUseLater, .empty⟩ ∧
      (writeDescriptor slot 1 0 0 0 0 0 s).mtr.prefetched = s.mtr.prefetched := by
  have next : slotOf 0 = some 0 := by decide
  have used : slotInUse c.slot s = true := by
    unfold slotInUse
    rw [held]
    simp
  unfold writeDescriptor
  rw [named, next]
  dsimp only
  rw [if_pos (by decide), used]
  exact ⟨rfl, rfl⟩

/-! ## ACTIVE resumed (R11, R175) -/

/-- ACTIVE entered from SUSPENDED with the copy prefetched (R11). -/
abbrev resumed (c : DescCopy) (s : State) : State := enterSeq .active { s with mtr.prefetched := some c, psq.start := none }

theorem resume_eq (c : DescCopy) (start : Option (Fin 16 × Word32)) (s : State) :
    resume { s with mtr.prefetched := some c, psq.start := start } =
      takeRequest (activatePrefetched (resumed c s)).2 (activatePrefetched (resumed c s)).1 := rfl

theorem resumed_onlyChain (c : DescCopy) (settled : LineSettled s) (suspended : s.psq.seq = .suspended) :
    OnlyChain
      (raiseEvent .seqState { s with mtr.prefetched := some c, psq := { s.psq with seq := .active, start := none } })
      (resumed c s) := by
  have entered := enterSeq_onlyChain (q := .active) (s := { s with mtr.prefetched := some c, psq.start := none })
    ⟨settled.1, settled.2.1⟩ (by simp [suspended]) (by simp) (by decide) (by decide) (by simp [suspended])
  have left : leaveState .active { s.psq with start := none } = { s.psq with seq := .active, start := none } := by
    rw [leaveState_psq (by simp [suspended])]
    simp
  dsimp only at entered
  rw [left] at entered
  exact entered

theorem activatePrefetched_some {c : DescCopy} (held : s.mtr.prefetched = some c) : activatePrefetched s = activate c s := by
  unfold activatePrefetched
  rw [held]

section
variable {c : DescCopy} {ss : Session} (settled : LineSettled s) (suspended : s.psq.seq = .suspended)
  (opened : s.mtr.session = some ss)
include settled suspended opened

/-- ACTIVE is resumed with the copy's line item (R11, R175, R176, R188). -/
theorem resume_room (start : Option (Fin 16 × Word32)) (room : ¬ 16 ≤ ss.base.items.length) :
    ActivationFrame c ss.base (resumed c s) (resume { s with mtr.prefetched := some c, psq.start := start }) ∧
      .seqState ∈ (resume { s with mtr.prefetched := some c, psq.start := start }).cpt.events ∧
      Activated c s (resume { s with mtr.prefetched := some c, psq.start := start }) ∧
      WritesQueued [.counters (resume { s with mtr.prefetched := some c, psq.start := start }).mst.working,
        .checkpoint (.opened { ss.base with items := ss.base.items ++ [LineItem.start c] })] (snapshotKept s.mst)
        (resume { s with mtr.prefetched := some c, psq.start := start }).mst := by
  have only := resumed_onlyChain c settled suspended
  rw [resume_eq]
  generalize resumed c s = x at *
  have mtr : x.mtr = { s.mtr with prefetched := some c } := congrArg (·.mtr) only
  have mst : x.mst = s.mst := congrArg (·.mst) only
  have cpt : x.cpt = (raiseEvent .seqState s).cpt := congrArg (·.cpt) only
  rw [activatePrefetched_some (by rw [mtr])]
  obtain ⟨quiet, frame, writes, events, low⟩ := activate_activated (c := c) (s := x) (by rw [mtr]; exact opened) room
    (WritesQueued.start x.mst)
  rw [quiet]
  show _ ∧ _ ∧ _ ∧ _
  unfold takeRequest
  refine ⟨frame, events _ ?_, Activated.of frame (by rw [mtr]) ?_, ?_⟩
  · rw [cpt]
    exact raised_mem ..
  · rw [low, cpt, mem_raiseEvent_iff]
    simp
  · rw [mst] at writes
    exact writes

/-- A session that holds sixteen line items is stopped with LINE_LIMIT (R13, R14, R179). -/
theorem resume_full (start : Option (Fin 16 × Word32)) (full : 16 ≤ ss.base.items.length) :
    ∃ x, OnlyChain
        (raiseEvent .seqState { s with mtr.prefetched := some c, psq := { s.psq with seq := .active, start := none } }) x ∧
      OnlyChain (stopBegun .lineLimit (endChain x)) (resume { s with mtr.prefetched := some c, psq.start := start }) := by
  have only := resumed_onlyChain c settled suspended
  have held : LineHeld (resumed c s) := refreshLine_settled _
  refine ⟨resumed c s, only, ?_⟩
  rw [resume_eq]
  generalize resumed c s = x at *
  have mtr : x.mtr = { s.mtr with prefetched := some c } := congrArg (·.mtr) only
  have seq : x.psq.seq = .active := congrArg (·.psq.seq) only
  rw [activatePrefetched_some (by rw [mtr]), activate_full (by rw [mtr]; exact opened) full]
  show OnlyChain _ (stopRequest .lineLimit (endChain x))
  rw [stopRequest_charging (s := endChain x) .lineLimit (.inl seq)]
  refine startStop_onlyChain (s := endChain x) .lineLimit ⟨held.1, held.2, fun early => ?_⟩ (.inl seq)
  have active : (endChain x).psq.seq = .active := seq
  rw [active] at early
  obtain h | h | h | h := early <;> cases h

end

/-- The slot named by an operand holds no valid copy, or it holds this one (R9). -/
theorem validCopy_named {slot : Byte} {i : Fin 16} (named : slotOf slot = some i) :
    validCopy slot s = if s.mtr.table[i].valid = false then none else some ⟨i, s.mtr.table[i]⟩ := by
  unfold validCopy copySlot
  rw [named, Option.bind_some]
  cases s.mtr.table[i].valid <;> rfl

/-- PRECHARGE is entered by GO_ENERGIZE, and a write of its slot takes effect later (R10, R173). -/
theorem energize_identified {slot : Byte} (stamp : Word32) (c : DescCopy) (run : s.power = .running) (settled : LineSettled s)
    (named : slotOf slot = some c.slot) (identified : s.psq.seq = .identified) :
    Completes (.next (answerEmpty .accepted
        (startPrecharge { s with mtr.prefetched := some c, psq.start := some (c.slot, stamp) }))) fun t =>
      OnlyChain
        (raiseEvent .seqState (answerEmpty .accepted
          { s with
            psq := { s.psq with
              seq := .precharge, start := some (c.slot, stamp), prechargeCmd := true,
              prechargeTimer := true, batteryLow := false }
            mtr.prefetched := some c })) t ∧
      Completes (exec (.writeDescriptor slot 1 0 0 0 0 0) t) fun u =>
        u.cpt.reply = ⟨.inUseLater, .empty⟩ ∧ u.mtr.prefetched = t.mtr.prefetched := by
  have only := (startPrecharge_onlyChain c stamp settled identified).answerEmpty .accepted
  generalize answerEmpty .accepted (startPrecharge _) = t at *
  have power : t.power = .running := (congrArg (·.power) only).trans run
  have held : t.mtr.prefetched = some c := congrArg (·.mtr.prefetched) only
  have written : exec (.writeDescriptor slot 1 0 0 0 0 0) t = .next (writeDescriptor slot 1 0 0 0 0 0 t) :=
    whenRunning_running power
  refine ⟨_, rfl, only, ?_⟩
  rw [written]
  exact ⟨_, rfl, writeDescriptor_later named held⟩

/-- ACTIVE is resumed by GO_ENERGIZE, or the session is stopped for want of a line item (R11, R175, R179). -/
theorem energize_suspended {ss : Session} (stamp : Word32) (c : DescCopy) (settled : LineSettled s)
    (suspended : s.psq.seq = .suspended) (opened : s.mtr.session = some ss) :
    Completes (.next (answerEmpty .accepted
        (resume { s with mtr.prefetched := some c, psq.start := some (c.slot, stamp) }))) fun t =>
      .seqState ∈ t.cpt.events ∧ t.cpt.reply = ⟨.accepted, .empty⟩ ∧
      if 16 ≤ ss.base.items.length then
        t.psq = { s.psq with
          seq := .stopping, start := none, stopCause := some .lineLimit, forced := false
          stopTimer := true, batteryLow := false } ∧
        NoTarget t ∧ t.mtr = { s.mtr with
          prefetched := none, session := some { ss with running := none } } ∧
        t.fli = s.fli ∧ t.mst = s.mst
      else
        t.psq = { s.psq with seq := .active, start := none } ∧
        t.mtr.session.map (·.base) = some { ss.base with
          items := ss.base.items ++ [⟨c.slot, c.desc.rateChg, c.desc.rateCond, 0, 0, 0, none⟩] } ∧
        Activated c s t ∧
        (∀ b, t.mtr.session.map (·.base) = some b → CheckpointTaken [] b s t) ∧
        t.mst.page = s.mst.page ∧ t.fli = s.fli ∧ t.imn = s.imn ∧ t.msq = s.msq ∧ t.cfg = s.cfg ∧
        t.ptu.enable = s.ptu.enable ∧ t.mst.working = s.mst.working := by
  refine ⟨_, rfl, ?_⟩
  by_cases full : 16 ≤ ss.base.items.length
  · obtain ⟨x, only, stopped⟩ := resume_full settled suspended opened (some (c.slot, stamp)) full
    rw [if_pos full]
    generalize resume _ = t at *
    have cpt : t.cpt = (raiseEvent .seqState (raiseEvent .seqState s)).cpt :=
      (congrArg (·.cpt) stopped).trans (congrArg (fun y : State => (raiseEvent .seqState y).cpt) only)
    have psq : x.psq = { s.psq with seq := .active, start := none } := congrArg (·.psq) only
    have mtr : x.mtr = { s.mtr with prefetched := some c } := congrArg (·.mtr) only
    refine ⟨?_, rfl, ?_, ⟨congrArg (·.imn.target) stopped, congrArg (·.imn.pendingRelease) stopped,
      congrArg (·.shu.sweepTarget) stopped⟩, ?_, ?_, ?_⟩
    · show EventKind.seqState ∈ t.cpt.events
      rw [cpt]
      exact raised_mem ..
    · have set : t.psq = { x.psq with
          seq := .stopping, stopCause := some .lineLimit, forced := false, stopTimer := true, batteryLow := false } :=
        congrArg (·.psq) stopped
      exact set.trans (by rw [psq])
    · have set : t.mtr = { x.mtr with
          session := x.mtr.session.map fun ss => { ss with running := none }, prefetched := none } :=
        congrArg (·.mtr) stopped
      exact set.trans (by rw [mtr, opened]; rfl)
    · exact (congrArg (·.fli) stopped).trans (congrArg (·.fli) only)
    · exact (congrArg (·.mst) stopped).trans (congrArg (·.mst) only)
  · obtain ⟨frame, raised, activated, writes⟩ := resume_room settled suspended opened (some (c.slot, stamp)) full
    have only := resumed_onlyChain c settled suspended
    rw [if_neg full]
    generalize resume _ = t at *
    generalize resumed c s = x at *
    have mst : t.mst = { x.mst with
        writes := t.mst.writes, inFlight := t.mst.inFlight, sessionEnergy := 0, lifeEnergy := 0 } := congrArg (·.mst) frame
    have base : t.mtr.session.map (·.base) = some { ss.base with items := ss.base.items ++ [LineItem.start c] } :=
      congrArg (·.mtr.session.map (·.base)) frame
    refine ⟨raised, rfl, ?_, base, activated, fun b is => ?_, ?_, ?_, ?_, ?_, ?_, ?_, ?_⟩
    · exact (congrArg (·.psq) frame).trans (congrArg (·.psq) only)
    · have same := Option.some.inj (is.symm.trans base)
      refine ⟨congrArg (·.sessionEnergy) mst, congrArg (·.lifeEnergy) mst, ?_⟩
      rw [same]
      exact writes
    · exact (congrArg (·.page) mst).trans (congrArg (·.mst.page) only)
    · exact (congrArg (·.fli) frame).trans (congrArg (·.fli) only)
    · exact (congrArg (·.imn) frame).trans (congrArg (·.imn) only)
    · exact (congrArg (·.msq) frame).trans (congrArg (·.msq) only)
    · exact (congrArg (·.cfg) frame).trans (congrArg (·.cfg) only)
    · exact (congrArg (·.ptu.enable) frame).trans (congrArg (·.ptu.enable) only)
    · exact (congrArg (·.working) mst).trans (congrArg (·.mst.working) only)

/-- Settles O17: GO_ENERGIZE is checked in R9's order, and starts from IDENTIFIED and from SUSPENDED. -/
theorem goEnergizeChecksAndStarts : Obligations.GoEnergizeChecksAndStarts := by
  unfold Obligations.GoEnergizeChecksAndStarts
  intro s slot stamp run settled
  have row : exec (.goEnergize slot stamp) s = .next (goEnergize slot stamp s) := whenRunning_running run
  have refused {why : Status} (check : energizeCheck slot s = .inl why) :
      exec (.goEnergize slot stamp) s = .next (answerEmpty why s) := by
    rw [row, goEnergize_refused stamp check]
  have check := energizeCheck_eq slot s
  by_cases configured : s.cpt.configured = false
  · rw [if_pos configured] at check ⊢
    exact refused check
  rw [if_neg configured] at check ⊢
  by_cases cancels : s.psq.cancelPending = true
  · rw [if_pos cancels] at check ⊢
    exact refused check
  rw [if_neg cancels] at check ⊢
  by_cases elsewhere : s.psq.seq ≠ .identified ∧ s.psq.seq ≠ .suspended
  · rw [if_pos elsewhere] at check ⊢
    exact refused check
  rw [if_neg elsewhere] at check ⊢
  by_cases latched : s.ptu.trip ≠ none
  · rw [if_pos latched] at check ⊢
    exact refused check
  rw [if_neg latched] at check ⊢
  by_cases fault : s.imn.ownFault = true
  · rw [if_pos fault] at check ⊢
    exact refused check
  rw [if_neg fault] at check ⊢
  by_cases unknown : s.imn.localFlag = false
  · rw [if_pos unknown] at check ⊢
    exact refused check
  rw [if_neg unknown] at check ⊢
  by_cases backlog : s.mst.stacked ≠ none
  · rw [if_pos backlog] at check ⊢
    exact refused check
  rw [if_neg backlog] at check ⊢
  cases named : slotOf slot with
  | none =>
    have none : validCopy slot s = none := by
      unfold validCopy
      rw [named]
      rfl
    rw [none] at check
    exact refused check
  | some i =>
    rw [validCopy_named named] at check
    dsimp only
    by_cases invalid : s.mtr.table[i].valid = false
    · rw [if_pos invalid] at check ⊢
      exact refused check
    rw [if_neg invalid] at check ⊢
    rw [row, goEnergize_taken stamp check]
    by_cases identified : s.psq.seq = .identified
    · rw [if_pos identified, if_neg (by rw [identified]; decide)]
      exact energize_identified stamp ⟨i, s.mtr.table[i]⟩ run settled named identified
    · have suspended : s.psq.seq = .suspended := by
        by_contra other
        exact elsewhere ⟨identified, other⟩
      rw [if_neg identified, if_pos suspended]
      exact fun ss opened => energize_suspended stamp ⟨i, s.mtr.table[i]⟩ settled suspended opened

end Sys2Proof.Machine
end

section
/-! PROOF. The contactor's contact closes, and the station joins the network (R11, R23, R52, R97, R138, R149, R150). -/

namespace Sys2Proof.Machine

variable {s t u : State}

/-! ## The monitor leaves LOCAL (R138, R149, R150) -/

theorem AddsOnly.trans {k : EventKind} (h : AddsOnly k s t) (h' : AddsOnly k t u) : AddsOnly k s u :=
  fun e other => (h' e other).trans (h e other)

theorem addsOnly_raise (k : EventKind) (s : State) : AddsOnly k s (raiseEvent k s) :=
  fun _ other => mem_raiseEvent_iff.trans ⟨fun h => h.resolve_left other, .inr⟩

/-- What a check that fails leaves: the heater's selection, the monitor's records, INSULATION raised (R149, R150). -/
structure CheckFailed (s t : State) : Prop where
  stages : StagesKept s t
  share : ShareMovedOnly s t
  only : AddsOnly .insulation s t
  told : .insulation ∈ t.cpt.events

theorem failSelfCheck_failed (s : State) : CheckFailed s (failSelfCheck s) ∧
    (failSelfCheck s).imn = { s.imn with selfCheck := .idle } ∧ (failSelfCheck s).htr.isolateReq = false := by
  have stages := setIsolate_stages false { s with imn.selfCheck := .idle }
  have share := setIsolate_share false { s with imn.selfCheck := .idle }
  have request := setIsolate_htr false { s with imn.selfCheck := .idle }
  obtain ⟨-, -, -, -, -, imn, -, -, cpt, -⟩ := setIsolate_keeps false { s with imn.selfCheck := .idle }
  unfold failSelfCheck
  generalize setIsolate false _ = x at *
  have same : AddsOnly .insulation s x := by
    intro e _
    rw [cpt]
  exact ⟨⟨StagesKept.raise (StagesKept.trans (t := { s with imn.selfCheck := .idle }) rfl stages) _, share,
    same.trans (addsOnly_raise _ x), raised_mem ..⟩, imn, request⟩

/-- The heater's request after a clearing that fails (R150). -/
theorem failClearing_failed (s : State) : CheckFailed s (failClearing s) ∧
    (failClearing s).imn = { s.imn with clearing := false, lastClearing := some false } ∧
    (failClearing s).htr.isolateReq = if s.imn.heaterIsolated = true then true else s.htr.isolateReq := by
  have stages := setIsolate_stages true { s with imn.clearing := false, imn.lastClearing := some false }
  have share := setIsolate_share true { s with imn.clearing := false, imn.lastClearing := some false }
  have request := setIsolate_htr true { s with imn.clearing := false, imn.lastClearing := some false }
  obtain ⟨-, -, -, -, -, imn, -, -, cpt, -⟩ :=
    setIsolate_keeps true { s with imn.clearing := false, imn.lastClearing := some false }
  unfold failClearing
  cases s.imn.heaterIsolated with
  | false =>
    rw [onlyIf_false]
    exact ⟨⟨rfl, rfl, addsOnly_raise _ _, raised_mem ..⟩, rfl, rfl⟩
  | true =>
    rw [onlyIf_true]
    generalize setIsolate true _ = x at *
    have same : AddsOnly .insulation s x := by
      intro e _
      rw [cpt]
    exact ⟨⟨StagesKept.raise (StagesKept.trans
      (t := { s with imn.clearing := false, imn.lastClearing := some false }) rfl stages) _, share,
      same.trans (addsOnly_raise _ x), raised_mem ..⟩, imn, request⟩

/-- What runs in LOCAL has failed as the mode changes (R149, R150). -/
theorem endLocalChecks_ended (s : State) :
    StagesKept s (endLocalChecks s) ∧ ShareMovedOnly s (endLocalChecks s) ∧ AddsOnly .insulation s (endLocalChecks s) ∧
      (s.imn.clearing = true ∨ s.imn.selfCheck.isRunning = true → .insulation ∈ (endLocalChecks s).cpt.events) ∧
      (endLocalChecks s).imn = { s.imn with
        clearing := false
        lastClearing := if s.imn.clearing = true then some false else s.imn.lastClearing
        selfCheck := if s.imn.selfCheck.isRunning = true then .idle else s.imn.selfCheck } ∧
      (endLocalChecks s).htr.isolateReq =
        (if s.imn.clearing = true ∧ s.imn.heaterIsolated = true then true
         else if s.imn.selfCheck.isRunning = true then false else s.htr.isolateReq) := by
  have first : StagesKept s (onlyIf s.imn.selfCheck.isRunning failSelfCheck s) ∧
      ShareMovedOnly s (onlyIf s.imn.selfCheck.isRunning failSelfCheck s) ∧
      AddsOnly .insulation s (onlyIf s.imn.selfCheck.isRunning failSelfCheck s) ∧
      (s.imn.selfCheck.isRunning = true → .insulation ∈ (onlyIf s.imn.selfCheck.isRunning failSelfCheck s).cpt.events) ∧
      (onlyIf s.imn.selfCheck.isRunning failSelfCheck s).imn = { s.imn with
        selfCheck := if s.imn.selfCheck.isRunning = true then .idle else s.imn.selfCheck } ∧
      (onlyIf s.imn.selfCheck.isRunning failSelfCheck s).htr.isolateReq =
        if s.imn.selfCheck.isRunning = true then false else s.htr.isolateReq := by
    obtain ⟨⟨stages, share, only, told⟩, imn, request⟩ := failSelfCheck_failed s
    cases s.imn.selfCheck.isRunning with
    | false => exact ⟨rfl, rfl, fun _ _ => Iff.rfl, nofun, rfl, rfl⟩
    | true => exact ⟨stages, share, only, fun _ => told, imn, request⟩
  unfold endLocalChecks
  generalize onlyIf s.imn.selfCheck.isRunning failSelfCheck s = x at first
  obtain ⟨stages, share, only, told, imn, request⟩ := first
  have clear : x.imn.heaterIsolated = s.imn.heaterIsolated := by rw [imn]
  obtain ⟨⟨stages', share', only', told'⟩, imn', request'⟩ := failClearing_failed x
  cases clears : s.imn.clearing with
  | false =>
    rw [onlyIf_false]
    refine ⟨stages, share, only, fun h => told (h.resolve_left (by decide)), ?_, ?_⟩
    · rw [imn]
      simp [clears]
    · rw [request]
      simp
  | true =>
    rw [onlyIf_true]
    refine ⟨stages.trans stages', share.trans share', only.trans only', fun _ => told', ?_, ?_⟩
    · rw [imn', imn]
      rfl
    · rw [request', clear, request]
      simp

/-- The contactor's closing is told, and the monitor enters JOINT-passive from LOCAL (R138, R149, R150). -/
theorem contactorClosed_entered (local' : s.imn.mode = .localMode) :
    StagesKept s (contactorClosed s) ∧ ShareMovedOnly s (contactorClosed s) ∧ AddsOnly .insulation s (contactorClosed s) ∧
      (contactorClosed s).imn.contactorClosed = true ∧ EnteredPassive s (contactorClosed s) := by
  obtain ⟨stages, share, only, told, imn, request⟩ := endLocalChecks_ended { s with imn.contactorClosed := true }
  unfold contactorClosed stopInjection
  dsimp only
  rw [if_pos local']
  generalize endLocalChecks { s with imn.contactorClosed := true } = x at *
  refine ⟨(StagesKept.trans (t := { s with imn.contactorClosed := true }) rfl stages).trans rfl, share, only, 
    congrArg (·.contactorClosed) imn, rfl, rfl, rfl, rfl, rfl, rfl, congrArg (·.net) imn, congrArg (·.ownFault) imn,
    congrArg (·.heaterIsolated) imn, congrArg (·.clearing) imn, congrArg (·.lastClearing) imn,
    congrArg (·.selfCheck) imn, request, told⟩

end Sys2Proof.Machine
end

section
/-! PROOF. PRECHARGE becomes ACTIVE, and an isolation rejoins (R10, R11, R23, R174 to R176, R188). -/

namespace Sys2Proof.Machine

variable {s t u : State}

/-! ## The network joined (R11, R23, R97, R138) -/

theorem armEnable_armed (clear : tripped s = false) : (armEnable s).ptu.enable = true ∧
    (s.ptu.enable = false → (armEnable s).ptu.gridTimer = true) := by
  unfold armEnable
  rw [clear]
  cases enable : s.ptu.enable with
  | true => exact ⟨enable, nofun⟩
  | false => exact ⟨rfl, fun _ => rfl⟩

/-- Beside the enable, SHU's JOINT and the monitor, the hand-offs leave the rest (R11, R23). -/
structure Joined (s t : State) : Prop where
  psq : t.psq = s.psq
  fli : t.fli = s.fli
  mtr : t.mtr = s.mtr
  mst : t.mst = s.mst
  cfg : t.cfg = s.cfg
  msq : t.msq = s.msq
  joint : t.shu.joint = true
  session : t.shu.session = s.shu.session
  enable : t.ptu.enable = true
  grid : s.ptu.enable = false → t.ptu.gridTimer = true
  told : t.imn.contactorClosed = true
  only : AddsOnly .insulation s t
  entered : EnteredPassive s t

/-- The monitor's entry reads the monitor and the heater's request. -/
theorem EnteredPassive.congr {s' : State} (h : EnteredPassive s t) (imn : s'.imn = s.imn)
    (request : s'.htr.isolateReq = s.htr.isolateReq) : EnteredPassive s' t := by
  unfold EnteredPassive at h ⊢
  rw [imn, request]
  exact h

theorem joinNetwork_joined (local' : s.imn.mode = .localMode) (clear : tripped s = false) : Joined s (joinNetwork s) := by
  obtain ⟨enable, grid⟩ := armEnable_armed (s := { s with shu.joint := true }) clear
  obtain ⟨-, cfg, psq, fli, shu, -, msq, htr, imn, mtr, mst, cpt, -⟩ := armEnable_keeps { s with shu.joint := true }
  unfold joinNetwork
  generalize armEnable { s with shu.joint := true } = x at *
  obtain ⟨stages, share, only, told, entered⟩ := contactorClosed_entered (s := x) (by rw [imn]; exact local')
  obtain ⟨-, cfg', psq', fli', msq', mtr', mst', -⟩ := contactorClosed_keeps x
  generalize contactorClosed x = t at *
  unfold StagesKept at stages
  unfold ShareMovedOnly at share
  refine ⟨psq'.trans psq, fli'.trans fli, mtr'.trans mtr, mst'.trans mst, cfg'.trans cfg, msq'.trans msq, ?_, ?_, ?_, ?_,
    told, fun e other => ?_, entered.congr imn.symm (by rw [htr])⟩
  · rw [share, shu]
  · rw [share, shu]
  · rw [stages]
    exact enable
  · rw [stages]
    exact grid
  · rw [only e other, cpt]

/-! ## ACTIVE from PRECHARGE (R10, R11, R174) -/

/-- The counter raised and its write queued, with the new session open and no copy running yet (R174, R188). -/
abbrev sessionOpened (stamp : Word32) (s : State) : State :=
  { raiseSessionCounter s with
    mtr.session := some (newSession (raiseSessionCounter s).mst.working.sessions stamp (raiseSessionCounter s)) }

theorem openSession_some (stamp : Word32) (c : DescCopy) (s : State) :
    openSession stamp (some c) s = activate c (sessionOpened stamp s) := rfl

/-- The working counters with one session more (R174). -/
abbrev nextCounters (s : State) : Counters := { s.mst.working with sessions := (s.mst.working.sessions + 1) % 65536 }

theorem raiseSessionCounter_frame (s : State) : raiseSessionCounter s = { s with
    mst := { s.mst with
      working := nextCounters s, writes := (raiseSessionCounter s).mst.writes
      inFlight := (raiseSessionCounter s).mst.inFlight }
    cpt.events := (raiseSessionCounter s).cpt.events } := by
  unfold raiseSessionCounter queueCounters
  rw [queueWrite_frame]

theorem raiseSessionCounter_queued (s : State) :
    WritesQueued [.counters (nextCounters s)] s.mst (raiseSessionCounter s).mst := by
  have queued := (WritesQueued.start { s.mst with working := nextCounters s }).queue (.counters (nextCounters s))
  rw [← queueWrite_mst (.counters (nextCounters s)) { s with mst.working := nextCounters s }] at queued
  exact queued

theorem raiseSessionCounter_onlyBusy (s : State) : AddsOnly .storeBusy s (raiseSessionCounter s) := fun e other =>
  queueWrite_onlyBusy (.counters (nextCounters s)) { s with mst.working := nextCounters s } e other

/-- The session context of an opening, with its first line item (R174, R175). -/
abbrev openedBase (stamp : Word32) (k : DescCopy) (s : State) : SessionBase :=
  { number := (s.mst.working.sessions + 1) % 65536, station := s.cfg.station
    feederId := (s.psq.ident.map (·.feederId)).getD 0
    ratingClass := (s.psq.ident.map (·.ratingClass)).getD 0
    stamp := stamp, elapsed := 0
    flags :=
      { reverseFlow := false, fallbackUsed := s.shu.conds.any
        identLenient := (s.psq.ident.map (·.lenient)).getD false
        insulation := false, forcedStop := false, estimated := false }
    items := [LineItem.start k] }

/-- A session opened with its first copy activated (R174 to R176, R188). -/
theorem openSession_opened (stamp : Word32) (k : DescCopy) (s : State) :
    (openSession stamp (some k) s).1 = { s with
        mtr := { (openSession stamp (some k) s).1.mtr with table := s.mtr.table }
        mst := { s.mst with
          working := nextCounters s, writes := (openSession stamp (some k) s).1.mst.writes
          inFlight := (openSession stamp (some k) s).1.mst.inFlight, sessionEnergy := 0, lifeEnergy := 0 }
        cpt.events := (openSession stamp (some k) s).1.cpt.events } ∧
      (openSession stamp (some k) s).1.mtr.session.map (·.base) = some (openedBase stamp k s) ∧
      Activated k s (openSession stamp (some k) s).1 ∧
      WritesQueued [.counters (nextCounters s), .counters (nextCounters s), .checkpoint (.opened (openedBase stamp k s))]
        (snapshotKept s.mst) (openSession stamp (some k) s).1.mst ∧
      ∀ e ∈ s.cpt.events, e ∈ (openSession stamp (some k) s).1.cpt.events := by
  have frame := raiseSessionCounter_frame s
  have queued := raiseSessionCounter_queued s
  have busy := raiseSessionCounter_onlyBusy s .lowQuota (by decide)
  have kept : ∀ e ∈ s.cpt.events, e ∈ (raiseSessionCounter s).cpt.events := fun e mem => raiseSessionCounter_events _ mem
  rw [openSession_some]
  unfold sessionOpened
  generalize raiseSessionCounter s = x at *
  have fresh : (newSession x.mst.working.sessions stamp x).base = { openedBase stamp k s with items := [] } := by
    rw [frame]
    rfl
  obtain ⟨-, activation, writes, events, low⟩ := activate_activated (c := k) (m := s.mst)
    (s := { x with mtr.session := some (newSession x.mst.working.sessions stamp x) })
    (before := [.counters (nextCounters s)]) rfl (by rw [fresh]; show ¬ 16 ≤ 0; decide) queued
  generalize (activate k _).1 = t at *
  rw [fresh] at activation writes
  have table : x.mtr.table = s.mtr.table := by rw [frame]
  have working : t.mst.working = nextCounters s := by
    have held : t.mst.working = x.mst.working := congrArg (·.mst.working) activation
    rw [held, frame]
  refine ⟨?_, congrArg (·.mtr.session.map (·.base)) activation, Activated.of activation table ?_, ?_,
    fun e mem => events e (kept e mem)⟩
  · unfold ActivationFrame at activation
    rw [activation, frame]
  · rw [low]
    exact or_congr_left busy
  · rw [working] at writes
    exact writes

end Sys2Proof.Machine
end

section
/-! PROOF. The contactor's contact as it closes (R5, R10, R11, R23, R138, R174 to R176, R188). -/

namespace Sys2Proof.Machine

variable {s t u : State}

/-- An activation stands as the sequencer's state and the monitor follow it. -/
theorem Activated.later {c : DescCopy} {s' : State} (h : Activated c s t) (table : s'.mtr.table = s.mtr.table)
    (was : EventKind.lowQuota ∈ s'.cpt.events ↔ .lowQuota ∈ s.cpt.events) (mtr : u.mtr = t.mtr)
    (low : EventKind.lowQuota ∈ u.cpt.events ↔ .lowQuota ∈ t.cpt.events) : Activated c s' u := by
  obtain ⟨running, prefetched, told⟩ := h
  unfold SlotCopy at prefetched
  unfold Activated SlotCopy
  rw [mtr, table, was, low]
  exact ⟨running, prefetched, told⟩

/-- The contactor's contact read closed. -/
abbrev contactorMade (s : State) : State := { s with psq.contactorFb := true }

/-- The sequencer's record as the contactor has closed, and the precharge relay opens (R4, R5, R10, R23). -/
abbrev closedPsq (p : Psq) : Psq :=
  { p with
    contactorFb := true, contactorTimer := false, prechargeCmd := false, prechargeSup := p.prechargeCmd || p.prechargeSup }

/-! ## ACTIVE from PRECHARGE (R10, R11) -/

/-- The energizing's end, before the session opens. -/
abbrev energized (s : State) : State := { s with psq := closedPsq s.psq }

theorem openPrecharge_energized (s : State) :
    openPrecharge { contactorMade s with psq.contactorTimer := false } = energized s := by
  rw [openPrecharge_frame]

/-- SESSION set on the session opened, before ACTIVE is entered (R52, R174). -/
abbrev sessionReady (k : DescCopy) (s : State) : State :=
  setSession { (openSession (startStamp s) (some k) (energized s)).1 with psq.start := none }

theorem becomeActive_eq {k : DescCopy} (held : s.mtr.prefetched = some k) :
    becomeActive (contactorMade s) = joinNetwork (enterSeq .active (sessionReady k s)) := by
  unfold becomeActive
  dsimp only
  rw [openPrecharge_energized, show (energized s).mtr.prefetched = some k from held]
  rfl

theorem sessionReady_frame (k : DescCopy) (s : State) : sessionReady k s = { s with
    psq := { closedPsq s.psq with start := none }
    shu := { s.shu with session := true, joining := 0, pendingRise := none }
    fli.departed := false
    mtr := (sessionReady k s).mtr
    mst := { s.mst with
      working := nextCounters s, writes := (sessionReady k s).mst.writes, inFlight := (sessionReady k s).mst.inFlight
      sessionEnergy := 0, lifeEnergy := 0 }
    cpt.events := (sessionReady k s).cpt.events } := by
  obtain ⟨frame, -⟩ := openSession_opened (startStamp s) k (energized s)
  unfold sessionReady setSession
  generalize (openSession (startStamp s) (some k) (energized s)).1 = x at *
  dsimp only
  rw [frame]

theorem sessionReady_opened (k : DescCopy) (s : State) :
    (sessionReady k s).mtr.session.map (·.base) = some (openedBase (startStamp s) k s) ∧
      Activated k s (sessionReady k s) ∧
      WritesQueued [.counters (nextCounters s), .counters (nextCounters s),
        .checkpoint (.opened (openedBase (startStamp s) k s))] (snapshotKept s.mst) (sessionReady k s).mst := by
  obtain ⟨-, base, activated, writes, -⟩ := openSession_opened (startStamp s) k (energized s)
  unfold sessionReady setSession
  generalize (openSession (startStamp s) (some k) (energized s)).1 = x at *
  exact ⟨base, activated, writes⟩

theorem sessionReady_enters (k : DescCopy) (settled : LineSettled s) (precharging : s.psq.seq = .precharge) :
    OnlyChain (raiseEvent .seqState { sessionReady k s with psq := { closedPsq s.psq with seq := .active, start := none } })
      (enterSeq .active (sessionReady k s)) := by
  have frame := sessionReady_frame k s
  generalize sessionReady k s = x at *
  have psq : x.psq = { closedPsq s.psq with start := none } := congrArg (·.psq) frame
  have held : LineHeld x := by
    rw [frame]
    exact ⟨settled.1, settled.2.1⟩
  have seq : x.psq.seq = .precharge := by
    rw [psq]
    exact precharging
  have entered := enterSeq_onlyChain (q := .active) held (by simp [seq]) (by simp) (by decide) (by decide) (by simp [seq])
  have left : leaveState .active x.psq = { closedPsq s.psq with seq := .active, start := none } := by
    rw [leaveState_psq (by simp [seq]), psq]
    simp
  rw [left] at entered
  exact entered

/-- With the trip latch set nothing energizes (R19). -/
theorem DriveSafe.untripped (h : DriveSafe s) (trips : s.psq.seq.tripsToFault = true) : tripped s = false :=
  eq_false_of_ne_true fun latched => absurd ((h.2.1.2.2.2.1 latched).symm.trans trips) (by decide)

/-- PRECHARGE becomes ACTIVE with all of R11's hand-offs. -/
theorem becomeActive_active {k : DescCopy} (drive : DriveSafe s) (settled : LineSettled s) (precharging : s.psq.seq = .precharge)
    (held : s.mtr.prefetched = some k) :
    ∃ y, Joined y (becomeActive (contactorMade s)) ∧
      y = enterSeq .active (sessionReady k s) ∧ y.imn = s.imn ∧ y.ptu.enable = s.ptu.enable ∧
      y.htr.isolateReq = s.htr.isolateReq := by
  have local' : s.imn.mode = .localMode := drive.2.2.1.2.2.2.2.2.2.2 (by rw [precharging]; rfl)
  have clear := drive.untripped (by rw [precharging]; rfl)
  have only := sessionReady_enters k settled precharging
  have frame := sessionReady_frame k s
  rw [becomeActive_eq held]
  refine ⟨_, ?_, rfl, ?_⟩
  all_goals generalize enterSeq .active (sessionReady k s) = y at *
  all_goals generalize sessionReady k s = x at *
  all_goals have imn : y.imn = s.imn := (congrArg (·.imn) only).trans (congrArg (·.imn) frame)
  · refine joinNetwork_joined (by rw [imn]; exact local') ?_
    have trip : y.ptu.trip = s.ptu.trip := (congrArg (·.ptu.trip) only).trans (congrArg (·.ptu.trip) frame)
    unfold tripped at clear ⊢
    rw [trip]
    exact clear
  · exact ⟨imn, (congrArg (·.ptu.enable) only).trans (congrArg (·.ptu.enable) frame),
      (congrArg (·.htr.isolateReq) only).trans (congrArg (·.htr.isolateReq) frame)⟩

end Sys2Proof.Machine
end

section
/-! PROOF. The contactor's contact closes in each state (R5, R10, R11, R23). -/

namespace Sys2Proof.Machine

variable {s t u : State}

/-- The state an isolation rejoins in (R23). -/
abbrev rejoinState (s : State) : SeqState := if s.psq.isoReturn = some .suspended then .suspended else .active

/-- The state before the recorded state is entered again (R23). -/
abbrev rejoinReady (s : State) : State := { s with psq := { closedPsq s.psq with isoReturn := none } }

theorem rejoin_eq (s : State) : rejoin (contactorMade s) = joinNetwork (enterSeq (rejoinState s) (rejoinReady s)) := by
  unfold rejoin rejoinState
  dsimp only
  rw [openPrecharge_frame]
  cases s.psq.isoReturn with
  | none => rfl
  | some r => cases r <;> rfl

theorem rejoinState_cases (s : State) : rejoinState s = .suspended ∧ s.psq.isoReturn = some .suspended ∨
    rejoinState s = .active ∧ s.psq.isoReturn ≠ some .suspended := by
  unfold rejoinState
  by_cases home : s.psq.isoReturn = some .suspended
  · exact .inl ⟨if_pos home, home⟩
  · exact .inr ⟨if_neg home, home⟩

/-- The sequencer's record as an isolation rejoins (R13, R23). -/
abbrev rejoinedPsq (s : State) : Psq :=
  { closedPsq s.psq with
    seq := rejoinState s, isoReturn := none, batteryLow := s.psq.batteryLow && s.psq.isoReturn != some .suspended }

theorem rejoin_enters (settled : LineSettled s) (rejoins : s.psq.seq = .sweepIsolated .isoRejoin) :
    OnlyChain (raiseEvent .seqState { s with psq := rejoinedPsq s }) (enterSeq (rejoinState s) (rejoinReady s)) := by
  have charging : rejoinState s = .active ∨ rejoinState s = .suspended := by
    obtain ⟨h, -⟩ | ⟨h, -⟩ := rejoinState_cases s
    · exact .inr h
    · exact .inl h
  have entered := enterSeq_onlyChain (q := rejoinState s) (s := rejoinReady s) ⟨settled.1, settled.2.1⟩ (by simp [rejoins])
    (by obtain h | h := charging <;> simp [h]) (by obtain h | h := charging <;> simp [h])
    (by obtain h | h := charging <;> simp [h]) (by obtain h | h := charging <;> simp [h, rejoins])
  have left : leaveState (rejoinState s) (rejoinReady s).psq = rejoinedPsq s := by
    rw [leaveState_psq (by simp [rejoins])]
    unfold rejoinedPsq rejoinReady
    obtain ⟨h, home⟩ | ⟨h, home⟩ := rejoinState_cases s
    · rw [h, home]
      rfl
    · rw [h, bne_iff_ne.2 home]
      rfl
  rw [left] at entered
  exact entered

/-- The contact's closing is what the contactor timer has waited for (R10, R23). -/
theorem contactorReadsClosed_timed (timer : s.psq.contactorTimer = true) :
    (s.psq.seq = .precharge → contactorReadsClosed (contactorMade s) = becomeActive (contactorMade s)) ∧
    (s.psq.seq = .sweepIsolated .isoRejoin → contactorReadsClosed (contactorMade s) = rejoin (contactorMade s)) := by
  have closed : (contactorMade s).psq.contactorTimer = true ∧ (contactorMade s).psq.contactorFb = true := ⟨timer, rfl⟩
  have seq (q : SeqState) (is : s.psq.seq = q) : (contactorMade s).psq.seq = q := is
  unfold contactorReadsClosed
  rw [if_pos closed]
  exact ⟨fun h => by rw [seq _ h], fun h => by rw [seq _ h]⟩

/-- A contactor that reads closed while commanded open (R5). -/
theorem weldAtOnce_made (open' : s.psq.contactorCmd = false) : weldAtOnce (contactorMade s) =
    if s.psq.contactorSup = true ∨ s.psq.seq = .fault then contactorMade s
    else enterFault .contactorWeld (contactorMade s) := by
  unfold weldAtOnce
  by_cases held : s.psq.contactorSup = true ∨ s.psq.seq = .fault
  · rw [if_pos held, if_neg]
    rintro ⟨-, -, unsupervised, other⟩
    exact held.elim unsupervised other
  · obtain ⟨unsupervised, other⟩ := not_or.1 held
    rw [if_neg held, if_pos ⟨rfl, fun cmd => absurd (open'.symm.trans cmd) (by decide), unsupervised, other⟩]

/-- Settles O24: the contactor's closing contact completes PRECHARGE and ISO_REJOIN, and is a weld elsewhere. -/
theorem contactorClosedMakesActive : Obligations.ContactorClosedMakesActive := by
  unfold Obligations.ContactorClosedMakesActive
  intro s run drive settled regulated
  have row : exec (.relayFeedbackChange .contactor true) s = .next (relayFeedback .contactor true s) := whenRunningOr_running run
  have closes (fb : s.psq.contactorFb = false) : relayFeedback .contactor true s = contactorCloses (contactorMade s) :=
    if_neg (by simp [fb])
  have timed (fb : s.psq.contactorFb = false) (timer : s.psq.contactorTimer = true) :
      relayFeedback .contactor true s = contactorReadsClosed (contactorMade s) := by
    rw [closes fb]
    exact if_pos (drive.2.2.1.1 timer).1
  rw [row]
  refine ⟨fun fb => ?_, fun fb cmd => ?_, fun fb timer precharging k held => ?_, fun fb timer rejoins => ?_⟩
  · exact congrArg _ (if_pos fb)
  · have welds : relayFeedback .contactor true s = weldAtOnce (contactorMade s) := by
      rw [closes fb]
      exact if_neg (by simp [cmd])
    rw [welds, weldAtOnce_made cmd]
    split
    next => rfl
    next weld =>
      exact ⟨_, rfl, enterFault_entered (s := contactorMade s) .contactorWeld drive.home (not_or.1 weld).2 drive.asks⟩
  · rw [timed fb timer, (contactorReadsClosed_timed timer).1 precharging]
    obtain ⟨y, joined, is, imn, enable, request⟩ := becomeActive_active drive settled precharging held
    have only := sessionReady_enters k settled precharging
    have frame := sessionReady_frame k s
    obtain ⟨base, activated, writes⟩ := sessionReady_opened k s
    rw [← is] at only
    clear is
    generalize becomeActive (contactorMade s) = t at *
    generalize sessionReady k s = x at *
    have local' : s.imn.mode = .localMode := drive.2.2.1.2.2.2.2.2.2.2 (by rw [precharging]; rfl)
    have cpt : y.cpt = (raiseEvent .seqState x).cpt := congrArg (·.cpt) only
    have mtr : t.mtr = x.mtr := joined.mtr.trans (congrArg (·.mtr) only)
    have mst : t.mst = x.mst := joined.mst.trans (congrArg (·.mst) only)
    have store : x.mst = { s.mst with
        working := nextCounters s, writes := x.mst.writes, inFlight := x.mst.inFlight
        sessionEnergy := 0, lifeEnergy := 0 } := congrArg (·.mst) frame
    have working : t.mst.working = nextCounters s := by rw [mst, store]
    have low : EventKind.lowQuota ∈ t.cpt.events ↔ .lowQuota ∈ x.cpt.events := by
      rw [joined.only _ (by decide), cpt, mem_raiseEvent_iff]
      simp
    have entered : EnteredPassive s t := joined.entered.congr imn.symm request.symm
    refine ⟨_, rfl, joined.psq.trans (congrArg (·.psq) only), ?_, joined.enable, fun off => joined.grid (enable.trans off),
      ?_, joined.joint, ?_, joined.told, ?_, fun _ => entered, ?_, ?_, fun b is => ?_, ?_⟩
    · rw [joined.only _ (by decide), cpt]
      exact raised_mem ..
    · rw [joined.session]
      exact (congrArg (·.shu.session) only).trans (congrArg (·.shu.session) frame)
    · rw [joined.fli]
      exact (congrArg (·.fli.departed) only).trans (congrArg (·.fli.departed) frame)
    · rw [entered.1]
      decide
    · rw [mtr]
      exact base
    · exact activated.later rfl Iff.rfl mtr low
    · rw [mtr] at is
      have same := Option.some.inj (is.symm.trans base)
      refine ⟨?_, ?_, ?_⟩
      · rw [mst, store]
      · rw [mst, store]
      · rw [working, same, mst]
        exact writes
    · rw [mst, store]
  · rw [timed fb timer, (contactorReadsClosed_timed timer).2 rejoins]
    have local' : s.imn.mode = .localMode := drive.2.2.1.2.2.2.2.2.2.2 (by rw [rejoins]; rfl)
    have only := rejoin_enters settled rejoins
    have clear := drive.untripped (by rw [rejoins]; rfl)
    rw [rejoin_eq]
    generalize enterSeq (rejoinState s) (rejoinReady s) = y at *
    have imn : y.imn = s.imn := congrArg (·.imn) only
    have trip : y.ptu.trip = s.ptu.trip := congrArg (·.ptu.trip) only
    have request : y.htr.isolateReq = s.htr.isolateReq := congrArg (·.htr.isolateReq) only
    have cpt : y.cpt = (raiseEvent .seqState s).cpt := congrArg (·.cpt) only
    have joined := joinNetwork_joined (s := y) (by rw [imn]; exact local') (by
      unfold tripped at clear ⊢
      rw [trip]
      exact clear)
    generalize joinNetwork y = t at *
    have entered : EnteredPassive s t := joined.entered.congr imn.symm request.symm
    refine ⟨_, rfl, joined.psq.trans (congrArg (·.psq) only), ?_, joined.enable,
      fun off => joined.grid ((congrArg (·.ptu.enable) only).trans off), joined.joint, ?_, joined.told, ?_, fun _ => entered,
      joined.mtr.trans (congrArg (·.mtr) only), joined.mst.trans (congrArg (·.mst) only),
      joined.fli.trans (congrArg (·.fli) only)⟩
    · rw [joined.only _ (by decide), cpt]
      exact raised_mem ..
    · rw [joined.session]
      exact congrArg (·.shu.session) only
    · rw [entered.1]
      decide

end Sys2Proof.Machine
end

section
/-! PROOF. The trip latch as it is set, and as it takes later causes (R19, R20, R82, R99, R130). -/

namespace Sys2Proof.Machine

variable {s t u : State}

/-! ## The latch set, before the sequencer is told (R82, R98, R99) -/

/-- The latch with its first cause, the output enable clear, and TRIP raised. -/
abbrev latchSet (c : TripCause) (s : State) : State := raiseEvent .trip (clearEnable { s with ptu.trip := some ⟨c, []⟩ })

theorem setTrip_eq (c : TripCause) (s : State) : setTrip c s = heaterTripped (tripTold (latchSet c s)) := rfl

theorem formCommands_off (k : Leg) (off : s.ptu.enable = false) : ((formCommands s).ptu.legs.get k).command = .off := by
  unfold formCommands
  rw [watchConflicts_get]
  show ((PerLeg.map (fun k (l : LegState) => l.take (commandAt s.ptu.enable s.ptu.position (s.ptu.inUse.leg k))) s.ptu.legs).get k).command = _
  rw [PerLeg.get_map, LegState.take_command, commandAt_eq, if_pos off]

/-- What the clearing of the output enable leaves of the power stage and the loops (R82, R98). -/
theorem clearEnable_cut (set : s.ptu.enable = true) :
    (clearEnable s).ptu.buffer = .neutral ∧ (clearEnable s).crg.linkI = 0 ∧ (clearEnable s).crg.batI = 0 ∧
      ∀ k : Leg, ((clearEnable s).ptu.legs.get k).command = .off := by
  unfold clearEnable
  rw [if_pos set]
  exact ⟨rfl, rfl, rfl, fun k => formCommands_off k rfl⟩

theorem clearEnable_trip (s : State) : (clearEnable s).ptu.trip = s.ptu.trip := by
  unfold clearEnable
  split <;> rfl

/-- The parts that the latch's setting leaves to the sequencer. -/
structure SameDrive (s x : State) : Prop where
  psq : x.psq = s.psq
  fli : x.fli = s.fli
  shu : x.shu = s.shu
  imn : x.imn = s.imn
  cfg : x.cfg = s.cfg
  mtr : x.mtr = s.mtr
  mst : x.mst = s.mst
  htr : x.htr = s.htr
  configured : x.cpt.configured = s.cpt.configured

theorem latchSet_drive (c : TripCause) (s : State) : SameDrive s (latchSet c s) := by
  obtain ⟨-, cfg, psq, fli, shu, -, htr, imn, mtr, mst, cpt, -⟩ := clearEnable_keeps { s with ptu.trip := some ⟨c, []⟩ }
  exact ⟨psq, fli, shu, imn, cfg, mtr, mst, htr, congrArg (·.configured) cpt⟩

theorem SameDrive.available (h : SameDrive s t) : heaterAvailable s = heaterAvailable t := by
  unfold heaterAvailable heaterChoice
  rw [h.htr, h.configured]

theorem SameDrive.settled (h : SameDrive s t) (settled : LineSettled s) : LineSettled t := by
  have line : lineTarget t = lineTarget s := by
    unfold lineTarget lineOff lineListens heldFeeder
    rw [h.psq, h.fli, h.configured]
  have conds : fallbackConds t = fallbackConds s := by
    unfold fallbackConds unheard sameFeeder
    rw [h.shu, h.fli]
  unfold LineSettled
  rw [line, conds, h.psq, h.fli, h.shu]
  exact settled

/-- FAULT reads neither the latch nor the loops. -/
theorem FaultEntered.sameDrive {cause : FaultCause} {e : EndCause} {x : State} (same : SameDrive s x)
    (h : FaultEntered cause e x t) : FaultEntered cause e s t := by
  obtain ⟨⟨seq, held, raised, opened, enable, setpoint, free, cancel, query, pre, con, stop, ended, target⟩, own⟩ := h
  have available := same.available
  unfold TargetCleared at target
  rw [same.psq] at ended target own
  refine ⟨⟨seq, held, raised, ?_, enable, setpoint, free, cancel, query, pre, con, stop, ended.of (by rw [same.mtr]), target⟩,
    fun isolated settled => ?_⟩
  · obtain ⟨contactor, precharge, supervised, watched⟩ := opened
    rw [same.psq] at supervised watched
    refine ⟨contactor, precharge, fun closed => ?_, watched⟩
    obtain ⟨sup, told, entered⟩ := supervised closed
    rw [same.imn] at entered
    exact ⟨sup, told, fun away => (entered away).congr same.imn.symm available⟩
  · have done := own isolated (same.settled settled)
    unfold OwnStepAbandoned QueuedOwn QueuedRoom heldFeeder SweepEnded at done ⊢
    rw [same.imn, same.fli, same.cfg, same.psq] at done
    exact done

/-! ## What FAULT leaves of the meter's tables (R187) -/

theorem endSession_store (cause : EndCause) (s : State) :
    (endSession cause s).mtr.table = s.mtr.table ∧ (endSession cause s).mst.page = s.mst.page := by
  have only := endSession_onlyChain cause s
  have mst : (endSession cause s).mst = (closeSession cause s.psq.forced s).mst := congrArg (·.mst) only
  refine ⟨congrArg (·.mtr.table) only, ?_⟩
  rw [mst, closeSession_page]

theorem enterFault_store (cause : FaultCause) (s : State) :
    (enterFault cause s).mtr.table = s.mtr.table ∧ (enterFault cause s).mst.page = s.mst.page := by
  have opened : (stopTimers (openRelays (clearEnable s))).mtr = s.mtr ∧ (stopTimers (openRelays (clearEnable s))).mst = s.mst :=
    ⟨(openRelays_keeps _).2.2.2.1.trans (clearEnable_keeps s).2.2.2.2.2.2.2.2.1,
      (openRelays_keeps _).2.2.2.2.1.trans (clearEnable_keeps s).2.2.2.2.2.2.2.2.2.1⟩
  obtain ⟨table, page⟩ := endSession_store (faultEndCause cause) (stopTimers (openRelays (clearEnable s)))
  obtain ⟨-, -, -, mtr, mst, -⟩ := leaveTarget_keeps s.psq.seq (driveEnded (faultEndCause cause) s)
  have closed : (faultReady cause s).mtr.session = none := by
    show (leaveTarget s.psq.seq (driveEnded (faultEndCause cause) s)).mtr.session = none
    rw [mtr]
    exact endSession_session _ _
  rw [enterFault_eq, enterSeq_mtr .fault closed, (enterSeq_keeps .fault (faultReady cause s)).2.2.2.1]
  refine ⟨?_, ?_⟩
  · show (leaveTarget s.psq.seq (driveEnded (faultEndCause cause) s)).mtr.table = _
    rw [mtr, table, opened.1]
  · show (leaveTarget s.psq.seq (driveEnded (faultEndCause cause) s)).mst.page = _
    rw [mst, page, opened.2]

/-! ## The sequencer told (R19) -/

theorem tripTold_faults (faults : s.psq.seq.tripsToFault = true) : tripTold s = enterFault .trip s := by
  unfold tripTold
  rw [faults]
  rfl

theorem tripTold_stays (stays : s.psq.seq.tripsToFault = false) : tripTold s = s := by
  unfold tripTold
  rw [stays]
  rfl

theorem tripTold_leaves (home : HomeUnlessClosed s) : StagesKept (clearEnable s) (tripTold s) ∨ tripTold s = s := by
  cases faults : s.psq.seq.tripsToFault with
  | true =>
    rw [tripTold_faults faults]
    exact .inl (enterFault_stages .trip home)
  | false => exact .inr (tripTold_stays faults)

theorem clearEnable_clear (clear : s.ptu.enable = false) : clearEnable s = s := by
  unfold clearEnable
  rw [clear]
  rfl

/-- Beside the sequencer's part, the told latch stays as it was set. -/
theorem tripTold_stages (home : HomeUnlessClosed s) (clear : s.ptu.enable = false) : StagesKept s (tripTold s) := by
  obtain kept | same := tripTold_leaves home
  · rw [clearEnable_clear clear] at kept
    exact kept
  · rw [same]

theorem tripTold_store (s : State) : (tripTold s).mtr.table = s.mtr.table ∧ (tripTold s).mst.page = s.mst.page := by
  cases faults : s.psq.seq.tripsToFault with
  | true =>
    rw [tripTold_faults faults]
    exact enterFault_store .trip s
  | false =>
    rw [tripTold_stays faults]
    exact ⟨rfl, rfl⟩

end Sys2Proof.Machine
end

section
/-! PROOF. A trip cause taken, and the rows that raise one themselves (R95, R96, R99 to R101). -/

namespace Sys2Proof.Machine

variable {s t u : State}

/-! ## The latch acts (R82, R94, R99, R130) -/

/-- The state as the latch has been set and the sequencer told, before the heater is. -/
abbrev latchTold (c : TripCause) (s : State) : State := tripTold (latchSet c s)

theorem latchTold_stages {c : TripCause} (home : HomeUnlessClosed s) : StagesKept (latchSet c s) (latchTold c s) := by
  have same := latchSet_drive c s
  refine tripTold_stages ?_ (clearEnable_enable _)
  unfold HomeUnlessClosed
  rw [same.psq, same.imn]
  exact home

/-- With the latch set a gate output floats or stands at its inactive level (R94, R99). -/
theorem gateOutput_tripped (latched : tripped s = true) (k : Leg) (d : Device) : gateOutput s k d =
    if s.cfg.floatOnTrip = true then .floating else (legLevel s k).elim .floating (driven · false) := by
  unfold gateOutput
  rw [latched]
  cases legLevel s k with
  | none => simp
  | some l => rfl

/-- With the latch set every output is cut, by float-on-trip and its group's level (R94, R99). -/
theorem outputsCut_of_tripped (latched : tripped s = true) : OutputsCut s := by
  refine ⟨fun k d => ?_, ?_⟩
  · rw [gateOutput_tripped latched]
    split
    · rfl
    · cases k with
      | d =>
        show (s.cfg.dcLevel).elim PinLevel.floating (driven · false) = _
        cases s.cfg.dcLevel with
        | none => rfl
        | some l => cases l <;> rfl
      | _ =>
        show (s.cfg.feLevel).elim PinLevel.floating (driven · false) = _
        cases s.cfg.feLevel with
        | none => rfl
        | some l => cases l <;> rfl
  · unfold heaterOutput
    rw [latched]
    cases s.cfg.heaterLevel with
    | none => simp
    | some l => cases l <;> rfl

/-- The latch set with its first cause: it acts, the sequencer follows it, and the settings stay (R19, R20, R99). -/
theorem setTrip_acts (c : TripCause) (home : HomeUnlessClosed s) :
    (setTrip c s).ptu.trip = some ⟨c, []⟩ ∧ LatchActs s (setTrip c s) ∧ SettingsKept s (setTrip c s) := by
  have drive := latchSet_drive c s
  have stages := latchTold_stages (c := c) home
  obtain ⟨table, page⟩ := tripTold_store (latchSet c s)
  have told : EventKind.trip ∈ (latchTold c s).cpt.events := tripTold_events _ (raised_mem ..)
  have trip : (latchSet c s).ptu.trip = some ⟨c, []⟩ := clearEnable_trip _
  have off : (latchSet c s).ptu.enable = false := clearEnable_enable _
  have cut : s.ptu.enable = true → (latchSet c s).ptu.buffer = .neutral ∧ (latchSet c s).crg.linkI = 0 ∧
      (latchSet c s).crg.batI = 0 ∧ ∀ k : Leg, ((latchSet c s).ptu.legs.get k).command = .off := fun set =>
    clearEnable_cut (s := { s with ptu.trip := some ⟨c, []⟩ }) set
  obtain ⟨power, -, -, -, -, msq, -, -, -, -, cpt, fresh, pending⟩ := clearEnable_keeps { s with ptu.trip := some ⟨c, []⟩ }
  have cause : (latchSet c s).cpt.resetCause = s.cpt.resetCause := congrArg (·.resetCause) cpt
  rw [setTrip_eq]
  unfold latchTold at stages told
  have rest : (latchSet c s).power = s.power ∧ (latchSet c s).msq = s.msq ∧ (latchSet c s).fresh = s.fresh ∧
      (latchSet c s).pending = s.pending := ⟨power, msq, fresh, pending⟩
  clear power msq cpt fresh pending
  generalize latchSet c s = x at *
  generalize tripTold x = y at *
  have latched : y.ptu.trip = some ⟨c, []⟩ := by
    rw [stages]
    exact trip
  have due : heaterOpenDue y = heaterOpenDue s := by
    unfold heaterOpenDue
    rw [stages, drive.htr]
  refine ⟨latched, ⟨?_, rfl, rfl, told, outputsCut_of_tripped ?_, fun early => ?_, fun set => ?_⟩, ?_⟩
  · show y.ptu.enable = false
    rw [stages]
    exact off
  · show y.ptu.trip.isSome = true
    rw [latched]
    rfl
  · have waits : heaterOpenDue y = false := by
      rw [due, heaterOpenDue, Bool.and_eq_false_iff]
      exact early.imp (fun few => decide_eq_false (by omega)) fun open' => by rw [open']; rfl
    show (if heaterOpenDue y = true then y.htr.openMs else 0) = 0
    rw [waits]
    rfl
  · obtain ⟨buffer, link, bat, legs⟩ := cut set
    show y.ptu.buffer = _ ∧ y.crg.linkI = 0 ∧ y.crg.batI = 0 ∧ ∀ k : Leg, (y.ptu.legs.get k).command = .off
    rw [stages]
    exact ⟨buffer, link, bat, legs⟩
  · obtain ⟨power, msq, fresh, pending⟩ := rest
    refine ⟨?_, ?_, ?_, ?_, ?_, table.trans (by rw [drive.mtr]), page.trans (by rw [drive.mst]), ?_, ?_⟩
    · show y.power = _
      rw [stages]
      exact power
    · show y.cfg = _
      rw [stages]
      exact drive.cfg
    · show y.cpt.configured = _
      rw [stages]
      exact drive.configured
    · show y.cpt.resetCause = _
      rw [stages]
      exact cause
    · show y.msq = _
      rw [stages]
      exact msq
    · show y.fresh = _
      rw [stages]
      exact fresh
    · show y.pending = _
      rw [stages]
      exact pending

/-- A sequencer that energizes or charges enters FAULT as the latch is set (R19, R20). -/
theorem setTrip_faults (c : TripCause) (home : HomeUnlessClosed s)
    (asks : s.psq.query = true → s.psq.seq = .identifying) (faults : s.psq.seq.tripsToFault = true) :
    FaultEntered .trip .trip s (setTrip c s) := by
  have drive := latchSet_drive c s
  have home' : HomeUnlessClosed (latchSet c s) := by
    unfold HomeUnlessClosed
    rw [drive.psq, drive.imn]
    exact home
  have other : (latchSet c s).psq.seq ≠ .fault := by
    rw [drive.psq]
    intro fault
    rw [fault] at faults
    cases faults
  have entered := enterFault_entered .trip home' other (by rw [drive.psq]; exact asks)
  have told := tripTold_faults (s := latchSet c s) (by rw [drive.psq]; exact faults)
  rw [setTrip_eq, told]
  have done := FaultEntered.sameDrive drive entered
  generalize enterFault .trip (latchSet c s) = y at *
  exact done

/-- In the other states the sequencer and the meter stay (R19). -/
theorem setTrip_stays (c : TripCause) (stays : s.psq.seq.tripsToFault = false) :
    (setTrip c s).psq = s.psq ∧ (setTrip c s).mtr = s.mtr ∧ (setTrip c s).mst = s.mst := by
  have drive := latchSet_drive c s
  have told := tripTold_stays (s := latchSet c s) (by rw [drive.psq]; exact stays)
  rw [setTrip_eq, told]
  exact ⟨drive.psq, drive.mtr, drive.mst⟩

end Sys2Proof.Machine
end

section
/-! PROOF. The rows that raise a trip cause themselves (R95, R96, R99 to R101). -/

namespace Sys2Proof.Machine

variable {s t u : State}

/-! ## A cause taken (R99) -/

theorem mem_insertCause {c x : TripCause} {xs : List TripCause} : x ∈ insertCause c xs ↔ x ∈ xs ∨ x = c := by
  induction xs with
  | nil => simp [insertCause]
  | cons y ys ih =>
    unfold insertCause
    split
    next same => simp [same]; tauto
    next =>
      split
      · simp; tauto
      · simp [ih]; tauto

theorem TripLatch.add_first (c : TripCause) (l : TripLatch) : (l.add c).first = l.first := by
  unfold TripLatch.add
  split <;> rfl

theorem TripLatch.mem_add {c x : TripCause} {l : TripLatch} : x ∈ (l.add c).also ↔ x ∈ l.also ∨ (x = c ∧ c ≠ l.first) := by
  unfold TripLatch.add
  split
  next same => simp [same]
  next other => simp [mem_insertCause, other]

theorem raiseTrip_none {c : TripCause} (clear : s.ptu.trip = none) : raiseTrip c s = setTrip c s := by
  unfold raiseTrip
  rw [clear]

theorem raiseTrip_some {c : TripCause} {l : TripLatch} (latched : s.ptu.trip = some l) :
    raiseTrip c s = { s with ptu.trip := some (l.add c) } := by
  unfold raiseTrip
  rw [latched]

theorem raiseTrip_latched (c : TripCause) (home : HomeUnlessClosed s) : (raiseTrip c s).ptu.trip ≠ none := by
  cases latch : s.ptu.trip with
  | none =>
    rw [raiseTrip_none latch, (setTrip_acts c home).1]
    nofun
  | some l =>
    rw [raiseTrip_some latch]
    nofun

/-- A trip cause is taken (R19, R20, R99). -/
theorem raiseTrip_taken (c : TripCause) (home : HomeUnlessClosed s)
    (asks : s.psq.query = true → s.psq.seq = .identifying) : CauseTaken c s (raiseTrip c s) := by
  unfold CauseTaken
  cases latch : s.ptu.trip with
  | none =>
    rw [raiseTrip_none latch]
    obtain ⟨trip, acts, kept⟩ := setTrip_acts c home
    refine ⟨trip, acts, ?_, kept⟩
    have faults := setTrip_faults c home asks
    have stays := setTrip_stays (s := s) c
    cases seq : s.psq.seq with
    | precharge => exact faults (by rw [seq]; rfl)
    | active => exact faults (by rw [seq]; rfl)
    | suspended => exact faults (by rw [seq]; rfl)
    | stopping => exact faults (by rw [seq]; rfl)
    | sweepIsolated p => exact faults (by rw [seq]; rfl)
    | _ => exact stays (by rw [seq]; rfl)
  | some l =>
    rw [raiseTrip_some latch]
    intro u is
    obtain rfl : l.add c = u := Option.some.inj is
    exact ⟨TripLatch.add_first c l, fun x => TripLatch.mem_add, rfl⟩

/-- A cause taken with the legs written besides, each command as it was left. -/
theorem CauseTaken.legs {c : TripCause} {x y : PerLeg LegState} (h : CauseTaken c { s with ptu.legs := x } t)
    (same : ∀ k, (y.get k).command = (t.ptu.legs.get k).command) :
    CauseTaken c { s with ptu.legs := y } { t with ptu.legs := y } := by
  unfold CauseTaken at h ⊢
  dsimp only at h ⊢
  cases latch : s.ptu.trip with
  | none =>
    rw [latch] at h
    obtain ⟨trip, ⟨enable, duty, buffer, event, -, timer, cut⟩, sequencer, kept⟩ := h
    have latched : tripped ({ t with ptu.legs := y } : State) = true := by
      show t.ptu.trip.isSome = true
      rw [trip]
      rfl
    refine ⟨trip, ⟨enable, duty, buffer, event, outputsCut_of_tripped latched, timer, fun set => ?_⟩, sequencer, kept⟩
    obtain ⟨neutral, link, bat, off⟩ := cut set
    exact ⟨neutral, link, bat, fun k => (same k).trans (off k)⟩
  | some l =>
    rw [latch] at h
    intro u is
    obtain ⟨first, also, frame⟩ := h u is
    refine ⟨first, also, ?_⟩
    rw [frame]

/-! ## The end of a dead time (R92, R95) -/

/-- The interval ended, before its reading is judged (R92). -/
abbrev intervalEnded (k : Leg) (s : State) : State :=
  { s with ptu.legs := s.ptu.legs.set k { s.ptu.legs.get k with deadTime := none } }

/-- The legs once the device that the command names has turned on (R92, R96). -/
abbrev legsAfter (k : Leg) (u : State) : PerLeg LegState :=
  (watchConflicts { u with ptu.legs := u.ptu.legs.set k (u.ptu.legs.get k).endDeadTime }).ptu.legs

theorem deadTimeEnd_raises {k : Leg} {i : DeadTime} (runs : (s.ptu.legs.get k).deadTime = some i)
    (reads : latchedFeedback k i.turnedOff s = true) : deadTimeEnd k s =
      { raiseTrip (.legConflict k) (intervalEnded k s) with
        ptu.legs := legsAfter k (raiseTrip (.legConflict k) (intervalEnded k s)) } := by
  unfold deadTimeEnd
  rw [runs]
  dsimp only
  rw [reads, onlyIf_true]
  rfl

theorem legsAfter_get (k j : Leg) (u : State) : (legsAfter k u).get j =
    { (if j = k then (u.ptu.legs.get k).endDeadTime else u.ptu.legs.get j) with
      conflict := ((legsAfter k u).get j).conflict } := by
  unfold legsAfter
  rw [watchConflicts_get, PerLeg.get_set]

theorem legsAfter_command (k j : Leg) (u : State) : ((legsAfter k u).get j).command = (u.ptu.legs.get j).command := by
  rw [legsAfter_get]
  split
  next same => rw [same]; rfl
  next => rfl

theorem latchedFeedback_iff (k : Leg) (d : Option Device) (s : State) : latchedFeedback k d s = true ↔
    (d = some .upper ∧ (s.ptu.feedback.get k).upper = true) ∨
      (d = some .lower ∧ k ≠ .d ∧ (s.ptu.feedback.get k).lower = true) := by
  cases d with
  | none => simp [latchedFeedback]
  | some d =>
    cases d with
    | upper => simp [latchedFeedback]
    | lower => cases k <;> simp [latchedFeedback]

/-- The latch as LEG_CONFLICT is raised at the end of a dead time (R92, R95). -/
theorem deadTimeEnd_taken {k : Leg} {i : DeadTime} (home : HomeUnlessClosed s)
    (asks : s.psq.query = true → s.psq.seq = .identifying) (runs : (s.ptu.legs.get k).deadTime = some i)
    (reads : latchedFeedback k i.turnedOff s = true) :
    (deadTimeEnd k s).ptu.trip ≠ none ∧ CauseTaken (.legConflict k) { s with ptu.legs := (deadTimeEnd k s).ptu.legs } (deadTimeEnd k s) ∧
      ((deadTimeEnd k s).ptu.legs.get k).deadTime = none ∧
      (s.ptu.trip = none → s.ptu.enable = true →
        ((deadTimeEnd k s).ptu.legs.get k).upperOn = false ∧ ((deadTimeEnd k s).ptu.legs.get k).lowerOn = false) := by
  have latched := raiseTrip_latched (s := intervalEnded k s) (.legConflict k) home
  have taken := raiseTrip_taken (s := intervalEnded k s) (.legConflict k) home asks
  have off : s.ptu.trip = none → s.ptu.enable = true →
      ((raiseTrip (.legConflict k) (intervalEnded k s)).ptu.legs.get k).command = .off := by
    intro clear set
    rw [raiseTrip_none (s := intervalEnded k s) clear]
    obtain ⟨-, ⟨-, -, -, -, -, -, cut⟩, -⟩ := setTrip_acts (s := intervalEnded k s) (.legConflict k) home
    exact (cut set).2.2.2 k
  rw [deadTimeEnd_raises runs reads]
  generalize raiseTrip (.legConflict k) (intervalEnded k s) = u at *
  refine ⟨latched, CauseTaken.legs taken fun j => legsAfter_command k j u, ?_, fun clear set => ?_⟩
  · show ((legsAfter k u).get k).deadTime = none
    rw [legsAfter_get, if_pos rfl]
    rfl
  · show ((legsAfter k u).get k).upperOn = false ∧ ((legsAfter k u).get k).lowerOn = false
    have command := off clear set
    rw [legsAfter_get, if_pos rfl]
    unfold LegState.endDeadTime
    rw [command]
    exact ⟨rfl, rfl⟩

/-- Settles O27: the causes that the power timing unit raises itself set the latch, or join it. -/
theorem tripCausesSetTheLatch : Obligations.TripCausesSetTheLatch := by
  unfold Obligations.TripCausesSetTheLatch
  intro s k active run drive regulated
  have home := drive.home
  have asks := drive.asks
  have change : exec (.extTripLineChange active) s = .next (extLineChange active s) :=
    (whenRunningOr_running run : whenRunningOr (fun s => { s with ptu.extActive := active }) (extLineChange active) s = _)
  have inactive : exec .extInactiveTimerExpiry s = .next (extInactiveExpiry s) := whenRunning_running run
  have filter : exec .extTripFilterExpiry s = .next (extFilterExpiry s) := whenRunning_running run
  have grid : exec .gridSupervisionExpiry s = .next (gridExpiry s) := whenRunning_running run
  have conflict : exec (.legConflictTimerExpiry k) s = .next (conflictExpiry k s) := whenRunning_running run
  have ends : exec (.deadTimeEnd k) s = .next (deadTimeEnd k s) := whenRunning_running run
  rw [change, inactive, filter, grid, conflict, ends]
  refine ⟨?_, ?_, ?_, ?_, ?_, fun i runs reads => ⟨_, rfl, deadTimeEnd_taken home asks runs ((latchedFeedback_iff k _ s).2 reads)⟩⟩
  · unfold extLineChange
    split
    · rfl
    · cases active <;> rfl
  · rfl
  · unfold extFilterExpiry
    split
    · exact ⟨_, rfl, raiseTrip_latched (s := { s with ptu.extFilter := .passed }) .ext home,
        raiseTrip_taken (s := { s with ptu.extFilter := .passed }) .ext home asks⟩
    · rfl
  · unfold gridExpiry
    split
    · exact ⟨_, rfl, raiseTrip_latched (s := { s with ptu.gridTimer := false }) .gridLost home,
        raiseTrip_taken (s := { s with ptu.gridTimer := false }) .gridLost home asks⟩
    · rfl
  · unfold conflictExpiry
    cases (s.ptu.legs.get k).conflict with
    | timing => exact ⟨_, rfl, raiseTrip_latched (s := setConflict k .raised s) (.legConflict k) home,
        raiseTrip_taken (s := setConflict k .raised s) (.legConflict k) home asks⟩
    | _ => rfl

end Sys2Proof.Machine
end

section
/-! PROOF. A record is placed with its writes in order, and the meter's commands (R173, R181, R182, R189). -/

namespace Sys2Proof.Machine

variable {s t u : State}

/-! ## Placing a record (R189) -/

theorem queueWrite_queued {ws : List PageWrite} {m : Mst} (queued : WritesQueued ws m s.mst) (w : PageWrite) :
    WritesQueued (ws ++ [w]) m (queueWrite w s).mst := by
  rw [queueWrite_mst]
  exact queued.queue w

theorem WritesQueued.trans {m n k : Mst} {vs ws : List PageWrite} (h : WritesQueued vs m n) (g : WritesQueued ws n k) :
    WritesQueued (vs ++ ws) m k := by
  obtain ⟨busy, idle⟩ := h
  obtain ⟨busyLater, idleLater⟩ := g
  refine ⟨fun flying => ?_, fun rests empty => ?_⟩
  · obtain ⟨flight, writes⟩ := busy flying
    obtain ⟨flight', writes'⟩ := busyLater (by rw [flight]; exact flying)
    exact ⟨flight'.trans flight, by rw [writes', writes, List.foldl_append]⟩
  · obtain ⟨flight, writes⟩ := idle rests empty
    cases vs with
    | nil => exact idleLater (Option.map_eq_none_iff.1 flight) writes
    | cons v vs =>
      have flying : n.inFlight ≠ none := by
        intro none
        rw [none] at flight
        cases flight
      obtain ⟨flight', writes'⟩ := busyLater flying
      refine ⟨by rw [flight', flight]; rfl, ?_⟩
      rw [writes', writes, List.cons_append, List.tail_cons, List.tail_cons, List.foldl_append]

/-- Two writes queued one after the other. -/
theorem queueWrites_two (v w : PageWrite) (s : State) : WritesMoved s (queueWrite w (queueWrite v s)) ∧
    WritesQueued [v, w] s.mst (queueWrite w (queueWrite v s)).mst :=
  ⟨WritesMoved.trans (queueWrite_frame v s) (queueWrite_frame w _),
    queueWrite_queued (queueWrite_queued (.start s.mst) v) w⟩

theorem queueWrites_two_events {e : EventKind} (v w : PageWrite) (mem : e ∈ s.cpt.events) :
    e ∈ (queueWrite w (queueWrite v s)).cpt.events :=
  queueWrite_events w _ (queueWrite_events v s mem)

/-- A record joins the queue, the stacked slot, or waits, with its writes (R189). -/
theorem placeRecord_placed (b : SessionBase) (cause : EndCause) (s : State) :
    RecordPlaced b cause s (placeRecord b cause false s) := by
  unfold placeRecord queueCounters
  dsimp only [RecordPlaced]
  by_cases room : s.mst.queue.length < 4
  · rw [if_pos room, if_pos room]
    obtain ⟨frame, queued⟩ := queueWrites_two (.counters (joinQueue (freePlace s.mst.queue) (recordOf b cause) s).mst.working)
      (.place (freePlace s.mst.queue) (some ⟨s.mst.nextPlacement, recordOf b cause⟩) true)
      (joinQueue (freePlace s.mst.queue) (recordOf b cause) s)
    have ready := queueWrites_two_events (s := joinQueue (freePlace s.mst.queue) (recordOf b cause) s)
      (.counters (joinQueue (freePlace s.mst.queue) (recordOf b cause) s).mst.working)
      (.place (freePlace s.mst.queue) (some ⟨s.mst.nextPlacement, recordOf b cause⟩) true)
      (e := .reportReady) (raised_mem ..)
    generalize queueWrite _ (queueWrite _ _) = t at *
    have mst := congrArg (·.mst) frame
    exact ⟨_, freePlace_lowest room, congrArg (·.queue) mst, congrArg (·.nextPlacement) mst, ready,
      congrArg (·.stacked) mst, congrArg (·.waiting) mst, queued⟩
  · rw [if_neg room, if_neg room]
    by_cases free : s.mst.stacked = none
    · rw [if_pos free, if_pos free]
      obtain ⟨frame, queued⟩ := queueWrites_two (.counters s.mst.working) (.place .p5 (some ⟨0, recordOf b cause⟩) true)
        { s with mst.stacked := some (recordOf b cause) }
      generalize queueWrite _ (queueWrite _ _) = t at *
      have mst := congrArg (·.mst) frame
      exact ⟨congrArg (·.queue) mst, congrArg (·.nextPlacement) mst, congrArg (·.stacked) mst,
        congrArg (·.waiting) mst, queued⟩
    · rw [if_neg free, if_neg free, Bool.not_false, onlyIf_true]
      have counted := queueWrite_frame (.counters s.mst.working) { s with mst.waiting := some (recordOf b cause) }
      have queued := queueWrite_queued (s := { s with mst.waiting := some (recordOf b cause) }) (.start s.mst)
        (.counters s.mst.working)
      generalize queueWrite (.counters s.mst.working) _ = x at *
      have frame := WritesMoved.trans (s := { s with mst.waiting := some (recordOf b cause) }) counted
        (queueSnapshot_moved (.closed b cause) x)
      have both := queueWrite_queued (s := cancelClears x) queued.kept (.checkpoint (.closed b cause))
      rw [show queueWrite (.checkpoint (.closed b cause)) (cancelClears x) = queueSnapshot (.closed b cause) x from rfl] at both
      generalize queueSnapshot _ x = t at *
      have mst := congrArg (·.mst) frame
      exact ⟨congrArg (·.queue) mst, congrArg (·.nextPlacement) mst, congrArg (·.stacked) mst,
        congrArg (·.waiting) mst, both⟩

/-! ## A session closed for the next one (R182) -/

/-- The final context of a session that closes (R183). -/
abbrev finalBase (ss : Session) (forced : Bool) : SessionBase :=
  { ss.base with flags := { ss.base.flags with forcedStop := forced } }

/-- The state in which the record of a session is placed. -/
abbrev sessionLeft (s : State) : State := { s with mtr.session := none, mtr.prefetched := none }

theorem closeSession_eq {ss : Session} (cause : EndCause) (forced : Bool) (opened : s.mtr.session = some ss) :
    closeSession cause forced s =
      raiseEvent .sessionEnd (placeRecord (finalBase ss forced) cause false (sessionLeft s)) := by
  unfold closeSession
  rw [opened]

theorem placeRecord_working (b : SessionBase) (cause : EndCause) (stored : Bool) (s : State) :
    (placeRecord b cause stored s).mst.working = s.mst.working := by
  unfold placeRecord queueCounters
  dsimp only
  split
  · rw [queueWrite_frame, queueWrite_frame (.counters _)]
    rfl
  · split
    · rw [queueWrite_frame, queueWrite_frame (.counters _)]
    · cases stored with
      | true => rw [Bool.not_true, onlyIf_false, queueWrite_frame]
      | false => rw [Bool.not_false, onlyIf_true, queueSnapshot_moved, queueWrite_frame]

theorem placeRecord_lowQuota (b : SessionBase) (cause : EndCause) (s : State) :
    .lowQuota ∈ (placeRecord b cause false s).cpt.events ↔ .lowQuota ∈ s.cpt.events := by
  have busy (w : PageWrite) (x : State) := queueWrite_onlyBusy w x .lowQuota (by decide)
  have snapshot (c : Checkpoint) (x : State) := queueSnapshot_onlyBusy c x .lowQuota (by decide)
  unfold placeRecord queueCounters
  dsimp only
  split
  · rw [busy, busy]
    exact mem_raiseEvent_iff.trans ⟨fun h => h.resolve_left (by decide), .inr⟩
  · split
    · rw [busy, busy]
    · rw [Bool.not_false, onlyIf_true, snapshot, busy]

/-! ## The split (R182) -/

/-- The session closed with SPLIT and the next one opened with the slot's copy. -/
abbrev splitSession (stamp : Word32) (k : DescCopy) (s : State) : State :=
  (openSession stamp (some k) (closeSession .split false s)).1

/-- What a split writes, and that both the closed and the new session are stored in their order (R175, R182, R188,
R189). -/
theorem splitSession_split {ss : Session} (stamp : Word32) (k : DescCopy) (opened : s.mtr.session = some ss)
    (free : s.mst.stacked = none) :
    splitSession stamp k s = { s with
        mtr := { (splitSession stamp k s).mtr with table := s.mtr.table }
        mst := { (splitSession stamp k s).mst with page := s.mst.page, working := nextCounters s }
        cpt.events := (splitSession stamp k s).cpt.events } ∧
      .sessionEnd ∈ (splitSession stamp k s).cpt.events ∧
      RecordHeld (closedRecord ss .split false) (splitSession stamp k s) ∧
      (splitSession stamp k s).mtr.session.map (·.base) = some (openedBase stamp k s) ∧
      Activated k s (splitSession stamp k s) ∧
      SplitStored (closedRecord ss .split false) (openedBase stamp k s) s (splitSession stamp k s) := by
  have closed := closeSession_eq .split false opened
  have frame := placeRecord_frame (finalBase ss false) .split false (sessionLeft s)
  have page := placeRecord_page (finalBase ss false) .split false (sessionLeft s)
  have working := placeRecord_working (finalBase ss false) .split false (sessionLeft s)
  have low := placeRecord_lowQuota (finalBase ss false) .split (sessionLeft s)
  have held := placeRecord_held (finalBase ss false) .split false (sessionLeft s)
  have placed := placeRecord_placed (finalBase ss false) .split (sessionLeft s)
  obtain ⟨mst, base, activated, queued, events⟩ := openSession_opened stamp k (closeSession .split false s)
  unfold splitSession
  rw [closed] at mst base activated queued events ⊢
  generalize placeRecord _ _ _ _ = x at *
  generalize (openSession stamp (some k) (raiseEvent .sessionEnd x)).1 = t at *
  have moved : (raiseEvent .sessionEnd x) = { s with
      mtr := { s.mtr with session := none, prefetched := none }, mst := x.mst
      cpt.events := (raiseEvent .sessionEnd x).cpt.events } :=
    congrArg (raiseEvent .sessionEnd) frame
  have working : nextCounters (raiseEvent .sessionEnd x) = nextCounters s := by
    show ({ x.mst.working with sessions := (x.mst.working.sessions + 1) % 65536 } : Counters) = _
    rw [working]
  have same : openedBase stamp k (raiseEvent .sessionEnd x) = openedBase stamp k s := by
    show ({ number := (nextCounters (raiseEvent .sessionEnd x)).sessions, .. } : SessionBase) = _
    rw [working]
    rw [moved]
  rw [same] at base queued
  rw [working] at mst queued
  have ended : ∀ e ∈ x.cpt.events, e ∈ t.cpt.events := fun e mem => events e (mem_raiseEvent _ mem)
  have store : t.mst = { x.mst with
      working := nextCounters s, writes := t.mst.writes, inFlight := t.mst.inFlight
      sessionEnergy := 0, lifeEnergy := 0 } := congrArg (·.mst) mst
  have record : RecordHeld (closedRecord ss .split false) t := by
    unfold RecordHeld
    rw [store]
    exact held
  refine ⟨?_, events _ (raised_mem ..), record, base, ?_, ?_⟩
  · have store' : ({ t.mst with page := s.mst.page, working := nextCounters s } : Mst) = t.mst := by
      have page' : t.mst.page = s.mst.page := (congrArg (·.page) store).trans page
      rw [← page', show nextCounters s = t.mst.working from (congrArg (·.working) store).symm]
    rw [store', store]
    refine mst.trans ?_
    rw [moved]
  · unfold Activated at activated ⊢
    obtain ⟨running, prefetched, noticed⟩ := activated
    refine ⟨running, ?_, noticed.trans (or_congr_left ?_)⟩
    · rw [prefetched]
      unfold SlotCopy
      rw [moved]
    · exact (mem_raiseEvent_iff.trans ⟨fun h => h.resolve_left (by decide), .inr⟩).trans low
  · unfold SplitStored
    dsimp only [RecordPlaced] at placed
    have taken {before : List PageWrite} (writes : WritesQueued before s.mst x.mst) :
        CheckpointTaken (before.map (·.keepSnapshot) ++ [.counters t.mst.working]) (openedBase stamp k s) s t := by
      have all := writes.kept.trans queued
      rw [← show t.mst.working = nextCounters s from congrArg (·.working) store] at all
      refine ⟨congrArg (·.sessionEnergy) store, congrArg (·.lifeEnergy) store, ?_⟩
      rw [List.append_assoc]
      exact all
    by_cases room : s.mst.queue.length < 4
    · rw [if_pos room] at placed ⊢
      obtain ⟨p, lowest, queue, placement, ready, stacked, waiting, writes⟩ := placed
      refine ⟨?_, ?_, ?_, ?_, ended _ ready, p, lowest, taken writes⟩
      · exact (congrArg (·.waiting) store).trans waiting
      · rw [store]
        show x.mst.queue.map _ = _
        rw [queue, List.map_append]
        rfl
      · exact (congrArg (·.nextPlacement) store).trans placement
      · exact (congrArg (·.stacked) store).trans stacked
    · rw [if_neg room] at placed ⊢
      obtain ⟨queue, placement, rest⟩ := placed
      rw [if_pos free] at rest
      obtain ⟨stacked, waiting, writes⟩ := rest
      exact ⟨(congrArg (·.waiting) store).trans waiting, (congrArg (·.queue) store).trans queue,
        (congrArg (·.nextPlacement) store).trans placement, (congrArg (·.stacked) store).trans stacked, taken writes⟩

end Sys2Proof.Machine
end

section
/-! PROOF. The meter's commands (R173, R181, R182). -/

namespace Sys2Proof.Machine

variable {s t u : State}

/-! ## Slots named by an operand (R9, R173) -/

theorem slotOf_none {b : Byte} (outside : 15 < b.toNat) : slotOf b = none := dif_neg (by omega)

theorem slotOf_some {b : Byte} (inside : ¬ 15 < b.toNat) : slotOf b = some ⟨b.toNat, by omega⟩ := dif_pos _

theorem validCopy_none {b : Byte} (invalid : ¬ ValidSlot b s) : validCopy b s = none := by
  by_cases outside : 15 < b.toNat
  · unfold validCopy
    rw [slotOf_none outside]
    rfl
  · rw [validCopy_named (slotOf_some outside), if_pos]
    by_contra valid
    exact invalid ⟨_, rfl, Bool.eq_true_of_not_eq_false valid⟩

theorem validCopy_some {b : Byte} {i : Fin 16} (named : b.toNat = i.val) (valid : s.mtr.table[i].valid = true) :
    validCopy b s = some ⟨i, s.mtr.table[i]⟩ := by
  have slot : slotOf b = some i := by
    rw [slotOf_some (by omega)]
    exact congrArg some (Fin.ext named)
  rw [validCopy_named slot, if_neg (by rw [valid]; decide)]

theorem slotInUse_iff {b : Byte} {i : Fin 16} (named : b.toNat = i.val) : slotInUse i s = true ↔ SlotInUse b s := by
  have slot (c : Fin 16) : (c == i) = true ↔ c.val = b.toNat := by
    rw [beq_iff_eq, Fin.ext_iff, named]
  unfold slotInUse SlotInUse
  rw [Bool.or_eq_true]
  refine or_congr ?_ ?_
  · cases s.mtr.prefetched with
    | none => simp
    | some c => simpa using slot c.slot
  · cases s.mtr.session.bind (·.running) with
    | none => simp
    | some r => simpa using slot r.copy.slot

/-! ## WRITE_DESCRIPTOR (R173) -/

theorem writeDescriptor_badSlot {x : Byte} (f : Byte) (q d r c : Word16) (n : Byte) (outside : 15 < x.toNat) :
    writeDescriptor x f q d r c n s = answerEmpty .badSlot s := by
  unfold writeDescriptor
  rw [slotOf_none outside]

theorem writeDescriptor_badValue {x f n : Byte} (q d r c : Word16) (inside : ¬ 15 < x.toNat)
    (bad : 15 < n.toNat ∨ 15 < f.toNat) : writeDescriptor x f q d r c n s = answerEmpty .badValue s := by
  unfold writeDescriptor
  rw [slotOf_some inside]
  dsimp only
  by_cases next : 15 < n.toNat
  · rw [slotOf_none next]
  · rw [slotOf_some next]
    exact if_neg (by omega)

/-- The slot is written, and a copy taken of it before stays as it is (R172, R173). -/
theorem writeDescriptor_written {x f n : Byte} (q d r c : Word16) (inside : ¬ 15 < x.toNat)
    (good : ¬ (15 < n.toNat ∨ 15 < f.toNat)) : writeDescriptor x f q d r c n s =
      answerEmpty (if SlotInUse x s then .inUseLater else .accepted)
        { s with mtr.table := Vector.set s.mtr.table x.toNat (descriptorOf f q d r c ⟨n.toNat, by omega⟩) (by omega) } := by
  unfold writeDescriptor
  rw [slotOf_some inside, slotOf_some (b := n) (by omega)]
  dsimp only
  rw [if_pos (by omega), ite_congr (propext (slotInUse_iff rfl)) (fun _ => rfl) (fun _ => rfl)]

theorem execWriteDescriptor_follows (x f n : Byte) (q d r c : Word16) (run : s.power = .running) :
    if 15 < x.toNat then exec (.writeDescriptor x f q d r c n) s = .next (answerEmpty .badSlot s)
    else if 15 < n.toNat ∨ 15 < f.toNat then
      exec (.writeDescriptor x f q d r c n) s = .next (answerEmpty .badValue s)
    else Completes (exec (.writeDescriptor x f q d r c n) s) fun t =>
      t.cpt = { s.cpt with
        reply := ⟨if SlotInUse x s then .inUseLater else .accepted, .empty⟩, shifting := none } ∧
      t = { s with cpt := t.cpt, mtr.table := t.mtr.table } ∧
      ∀ i : Fin 16, t.mtr.table[i] =
        if i.val = x.toNat then
          ⟨f.getLsbD 0, q.toNat, d.toNat, r.toNat, c.toNat, Fin.ofNat 16 n.toNat, f.getLsbD 1,
            f.getLsbD 2, f.getLsbD 3⟩
        else s.mtr.table[i] := by
  have row : exec (.writeDescriptor x f q d r c n) s = .next (writeDescriptor x f q d r c n s) := whenRunning_running run
  rw [row]
  by_cases outside : 15 < x.toNat
  · rw [if_pos outside, writeDescriptor_badSlot f q d r c n outside]
  rw [if_neg outside]
  by_cases bad : 15 < n.toNat ∨ 15 < f.toNat
  · rw [if_pos bad, writeDescriptor_badValue q d r c outside bad]
  rw [if_neg bad, writeDescriptor_written q d r c outside bad]
  refine ⟨_, rfl, rfl, rfl, fun i => ?_⟩
  have next : (⟨n.toNat, by omega⟩ : Fin 16) = Fin.ofNat 16 n.toNat := Fin.ext (Nat.mod_eq_of_lt (by omega)).symm
  show (s.mtr.table.set x.toNat _ (by omega))[i.val] = _
  rw [Vector.getElem_set, next]
  exact if_congr eq_comm rfl rfl

/-! ## EXTEND (R181) -/

theorem extend_closed (n : Byte) (closed : s.mtr.session = none) : extend n s = answerEmpty .noSession s := by
  unfold extend
  rw [closed]

/-- The running copy is given its successor (R181). -/
abbrev successorGiven (n : Byte) (ss : Session) (u : Running) : Session :=
  { ss with running := some { u with copy := { u.copy with desc := { u.copy.desc with
      chain := true, next := Fin.ofNat 16 n.toNat } } } }

section
variable {ss : Session} {r : Running} (n : Byte) (opened : s.mtr.session = some ss)
include opened

theorem extend_suspended (suspended : s.psq.seq = .suspended) : extend n s = answerEmpty .suspended s := by
  unfold extend
  rw [opened]
  exact if_pos suspended

theorem extend_idle (awake : s.psq.seq ≠ .suspended) (idle : ss.running = none) : extend n s = answerEmpty .noSession s := by
  unfold extend
  rw [opened]
  dsimp only
  rw [if_neg awake, idle]

theorem extend_chained (awake : s.psq.seq ≠ .suspended) (runs : ss.running = some r) (chained : r.copy.desc.chain = true) :
    extend n s = answerEmpty .alreadyChained s := by
  unfold extend
  rw [opened]
  dsimp only
  rw [if_neg awake, runs]
  exact if_pos chained

theorem extend_badSlot (awake : s.psq.seq ≠ .suspended) (runs : ss.running = some r)
    (unchained : ¬ r.copy.desc.chain = true) (invalid : ¬ ValidSlot n s) : extend n s = answerEmpty .badSlot s := by
  unfold extend
  rw [opened]
  dsimp only
  rw [if_neg awake, runs]
  dsimp only
  rw [if_neg unchained, validCopy_none invalid]

/-- The running copy is given its successor (R181). -/
theorem extend_given (awake : s.psq.seq ≠ .suspended) (runs : ss.running = some r)
    (unchained : ¬ r.copy.desc.chain = true) (valid : ValidSlot n s) : extend n s =
      answerEmpty .accepted { s with mtr.session := some { ss with running := some { r with copy := { r.copy with
        desc := { r.copy.desc with chain := true, next := Fin.ofNat 16 n.toNat } } } } } := by
  obtain ⟨i, named, valid⟩ := valid
  have next : Fin.ofNat 16 n.toNat = i := Fin.ext (by rw [named]; exact Nat.mod_eq_of_lt i.isLt)
  unfold extend
  rw [opened]
  dsimp only
  rw [if_neg awake, runs]
  dsimp only
  rw [if_neg unchained, validCopy_some named valid, next]

end

/-! ## SESSION_SPLIT (R182) -/

theorem stopInProgress_iff : stopInProgress s = true ↔
    s.psq.seq = .stopping ∨ (s.psq.seq.isolated = true ∧ s.psq.stopCause ≠ none) := by
  unfold stopInProgress
  rw [Bool.or_eq_true, Bool.and_eq_true, beq_iff_eq, Option.isSome_iff_ne_none]

theorem sessionSplit_closed (x : Byte) (w : Word32) (closed : s.mtr.session = none) :
    sessionSplit x w s = answerEmpty .noSession s := by
  unfold sessionSplit sessionOpen
  rw [closed]
  rfl

section
variable {ss : Session} (x : Byte) (w : Word32) (opened : s.mtr.session = some ss)
include opened

theorem sessionSplit_ending (ending : stopInProgress s = true) : sessionSplit x w s = answerEmpty .ending s := by
  unfold sessionSplit sessionOpen
  rw [opened, if_neg (by simp), if_pos ending]

theorem sessionSplit_backlog (runs : ¬ stopInProgress s = true) (backlog : s.mst.stacked.isSome = true) :
    sessionSplit x w s = answerEmpty .backlog s := by
  unfold sessionSplit sessionOpen
  rw [opened, if_neg (by simp), if_neg runs, if_pos backlog]

theorem sessionSplit_badSlot (runs : ¬ stopInProgress s = true) (free : ¬ s.mst.stacked.isSome = true)
    (invalid : ¬ ValidSlot x s) : sessionSplit x w s = answerEmpty .badSlot s := by
  unfold sessionSplit sessionOpen
  rw [opened, if_neg (by simp), if_neg runs, if_neg free, validCopy_none invalid]

theorem sessionSplit_split {i : Fin 16} (runs : ¬ stopInProgress s = true) (free : ¬ s.mst.stacked.isSome = true)
    (named : x.toNat = i.val) (valid : s.mtr.table[i].valid = true) :
    sessionSplit x w s = answerEmpty .splitDone (splitSession w ⟨i, s.mtr.table[i]⟩ s) := by
  unfold sessionSplit sessionOpen
  rw [opened, if_neg (by simp), if_neg runs, if_neg free, validCopy_some named valid]

end

/-- Settles O49: WRITE_DESCRIPTOR, EXTEND and SESSION_SPLIT follow their checks. -/
theorem meterCommandsFollowTheirChecks : Obligations.MeterCommandsFollowTheirChecks := by
  unfold Obligations.MeterCommandsFollowTheirChecks
  intro s x f n q d r c w run
  have extended : exec (.extend n) s = .next (extend n s) := whenRunning_running run
  have split : exec (.sessionSplit x w) s = .next (sessionSplit x w s) := whenRunning_running run
  refine ⟨execWriteDescriptor_follows x f n q d r c run, ?_, ?_⟩
  · rw [extended]
    cases opened : s.mtr.session with
    | none => exact congrArg _ (extend_closed n opened)
    | some ss =>
      dsimp only
      by_cases suspended : s.psq.seq = .suspended
      · rw [if_pos suspended, extend_suspended n opened suspended]
      rw [if_neg suspended]
      cases runs : ss.running with
      | none => exact congrArg _ (extend_idle n opened suspended runs)
      | some u =>
        dsimp only
        by_cases chained : u.copy.desc.chain = true
        · rw [if_pos chained, extend_chained n opened suspended runs chained]
        rw [if_neg chained]
        by_cases valid : ValidSlot n s
        · rw [if_neg (not_not_intro valid), extend_given n opened suspended runs chained valid]
        · rw [if_pos valid, extend_badSlot n opened suspended runs chained valid]
  · rw [split]
    cases opened : s.mtr.session with
    | none => exact congrArg _ (sessionSplit_closed x w opened)
    | some ss =>
      dsimp only
      by_cases ending : s.psq.seq = .stopping ∨ (s.psq.seq.isolated = true ∧ s.psq.stopCause ≠ none)
      · rw [if_pos ending, sessionSplit_ending x w opened (stopInProgress_iff.2 ending)]
      have runs := mt stopInProgress_iff.1 ending
      rw [if_neg ending]
      by_cases backlog : s.mst.stacked ≠ none
      · rw [if_pos backlog, sessionSplit_backlog x w opened runs (Option.isSome_iff_ne_none.2 backlog)]
      have free := mt Option.isSome_iff_ne_none.1 backlog
      rw [if_neg backlog]
      by_cases valid : ValidSlot x s
      · obtain ⟨i, named, valid'⟩ := valid
        rw [if_neg (not_not_intro ⟨i, named, valid'⟩), sessionSplit_split x w opened runs free named valid']
        obtain ⟨frame, ended, held, base, activated, stored⟩ :=
          splitSession_split w ⟨i, s.mtr.table[i]⟩ opened (not_not.1 backlog)
        generalize splitSession w _ s = t at *
        have here (j : Fin 16) (is : x.toNat = j.val) : j = i := Fin.ext (is.symm.trans named)
        refine ⟨_, rfl, rfl, ended, held, congrArg (·.mst.working.sessions) frame, fun j is => ?_, fun b is => ?_,
          congrArg (·.psq) frame, congrArg (·.shu) frame, congrArg (·.crg) frame, congrArg (·.ptu) frame,
          congrArg (·.imn) frame, congrArg (·.fli) frame, congrArg (·.htr) frame, congrArg (·.msq) frame,
          congrArg (·.cfg) frame, congrArg (·.mtr.table) frame, congrArg (·.mst.page) frame⟩
        · obtain rfl := here j is
          exact ⟨base, activated⟩
        · rw [← Option.some.inj (base.symm.trans is)]
          exact stored
      · rw [if_pos valid, sessionSplit_badSlot x w opened runs free valid]

end Sys2Proof.Machine
end

section
/-! PROOF. The layout of a report, most significant byte first (R190, 12.6; log 73). -/

namespace Sys2Proof.Machine

/-! ## Fields in bytes -/

theorem fieldAt_eq {bs : List Byte} {i n : Nat} {field rest : List Byte} (at' : bs.drop i = field ++ rest)
    (length : field.length = n) : fieldAt bs i n = field.foldl (fun v b => 256 * v + b.toNat) 0 := by
  unfold fieldAt
  rw [at', ← length, List.take_left']
  rfl

theorem fieldAt_drop (bs : List Byte) (i k n : Nat) : fieldAt bs (i + k) n = fieldAt (bs.drop i) k n := by
  unfold fieldAt
  rw [List.drop_drop]

theorem foldl_bytes32 (w : Word32) : (bytes32 w).foldl (fun v b => 256 * v + b.toNat) 0 = w.toNat := by
  simp only [bytes32, List.foldl_cons, List.foldl_nil, BitVec.extractLsb'_toNat, Nat.shiftRight_eq_div_pow]
  omega

theorem foldl_bytes16 (w : Word16) : (bytes16 w).foldl (fun v b => 256 * v + b.toNat) 0 = w.toNat := by
  simp only [bytes16, List.foldl_cons, List.foldl_nil, BitVec.extractLsb'_toNat, Nat.shiftRight_eq_div_pow]
  omega

theorem foldl_field32 {v : Nat} (fits : v < 256 ^ 4) : (field32 v).foldl (fun v b => 256 * v + b.toNat) 0 = v := by
  unfold field32
  rw [if_pos (show v < 2 ^ 32 from fits), foldl_bytes32, BitVec.toNat_ofNat]
  exact Nat.mod_eq_of_lt fits

section
variable {bs rest : List Byte} {i v : Nat}

theorem fieldAt_field32 (at' : bs.drop i = field32 v ++ rest) : HoldsField bs i 4 v := fun fits =>
  (fieldAt_eq at' rfl).trans (foldl_field32 fits)

theorem fieldAt_bytes32 {w : Word32} (at' : bs.drop i = bytes32 w ++ rest) : fieldAt bs i 4 = w.toNat :=
  (fieldAt_eq at' rfl).trans (foldl_bytes32 w)

theorem fieldAt_bytes16 (at' : bs.drop i = bytes16 (BitVec.ofNat 16 v) ++ rest) : HoldsField bs i 2 v := fun fits =>
  (fieldAt_eq at' rfl).trans ((foldl_bytes16 _).trans (Nat.mod_eq_of_lt fits))

theorem fieldAt_byte {b : Byte} (at' : bs.drop i = b :: rest) : fieldAt bs i 1 = b.toNat :=
  (fieldAt_eq (field := [b]) at' rfl).trans (by simp)

theorem fieldAt_ofNat (at' : bs.drop i = BitVec.ofNat 8 v :: rest) : HoldsField bs i 1 v := fun fits =>
  (fieldAt_byte at').trans (Nat.mod_eq_of_lt fits)

end

/-! ## Line items -/

theorem itemBytes_length (i : RecordItem) : (itemBytes i).length = 22 := rfl

theorem itemsBytes_length (is : List RecordItem) : (is.flatMap itemBytes).length = 22 * is.length := by
  induction is with
  | nil => rfl
  | cons i is ih =>
    rw [List.flatMap_cons, List.length_append, ih, itemBytes_length, List.length_cons]
    omega

theorem itemsBytes_drop (is : List RecordItem) (n : Nat) (h : n < is.length) :
    ∃ rest, (is.flatMap itemBytes).drop (22 * n) = itemBytes is[n] ++ rest := by
  induction is generalizing n with
  | nil => exact absurd h (Nat.not_lt_zero n)
  | cons i is ih =>
    cases n with
    | zero => exact ⟨is.flatMap itemBytes, rfl⟩
    | succ n =>
      obtain ⟨rest, eq⟩ := ih n (Nat.lt_of_succ_lt_succ h)
      refine ⟨rest, ?_⟩
      rw [List.flatMap_cons, show 22 * (n + 1) = (itemBytes i).length + 22 * n by rw [itemBytes_length]; omega,
        ← List.drop_drop, List.drop_left, eq]
      rfl

theorem item_laidOut {bs rest : List Byte} {i : RecordItem} (at' : bs = itemBytes i ++ rest) : ItemLaidOut bs 0 i := by
  subst at'
  refine ⟨?_, ?_, fieldAt_field32 rfl, fieldAt_field32 rfl, fieldAt_field32 rfl, fieldAt_field32 rfl, fieldAt_field32 rfl⟩
  · refine (fieldAt_byte rfl).trans (Nat.mod_eq_of_lt ?_)
    exact i.slot.isLt.trans (by decide)
  · refine (fieldAt_byte rfl).trans ?_
    cases i.overrun <;> rfl

theorem ItemLaidOut.shift {bs : List Byte} {k : Nat} {i : RecordItem} (h : ItemLaidOut (bs.drop k) 0 i) :
    ItemLaidOut bs k i := by
  unfold ItemLaidOut HoldsField at h ⊢
  simpa only [← fieldAt_drop, Nat.add_zero, Nat.zero_add] using h

/-! ## The report -/

theorem flags_byte (f : SessionFlags) : f.byte.toNat =
    f.reverseFlow.toNat + 2 * f.fallbackUsed.toNat + 4 * f.identLenient.toNat + 8 * f.insulation.toNat
      + 16 * f.forcedStop.toNat + 32 * f.estimated.toNat := by
  have all : ∀ a b c d e g : Bool, (byteOfBits [a, b, c, d, e, g]).toNat =
      a.toNat + 2 * b.toNat + 4 * c.toNat + 8 * d.toNat + 16 * e.toNat + 32 * g.toNat := by decide
  exact all ..

theorem endCause_code (c : EndCause) : some c = ([.hostStop, .hostIdle, .released, .unplugged, .trip, .insulation,
    .quotaEnd, .chainBroken, .lineLimit, .split, .batteryLow, .contactorWeld, .powerLost] :
      List EndCause)[c.code.toNat - 1]? ∧ c.code.toNat ≠ 0 := by
  cases c <;> decide

theorem report_laidOut (p : Placed) : ReportLaidOut p (ReplyBody.report p).bytes := by
  have code : fieldAt (ReplyBody.report p).bytes 17 1 = p.record.endCause.code.toNat := fieldAt_byte rfl
  have items : (ReplyBody.report p).bytes.drop 32 = p.record.items.flatMap itemBytes := rfl
  refine ⟨?_, fieldAt_bytes32 rfl, fieldAt_bytes16 rfl, fieldAt_ofNat rfl, fieldAt_ofNat rfl, fieldAt_ofNat rfl,
    fieldAt_bytes32 rfl, fieldAt_field32 rfl, ?_, (fieldAt_byte rfl).trans (flags_byte _), fieldAt_ofNat rfl,
    fieldAt_field32 rfl, fieldAt_field32 rfl, fieldAt_field32 rfl, fun n h => ?_⟩
  · show ((ReplyBody.report p).bytes.take 32 ++ (ReplyBody.report p).bytes.drop 32).length = _
    rw [items, List.length_append, itemsBytes_length]
    rfl
  · rw [code]
    exact endCause_code _
  · obtain ⟨rest, eq⟩ := itemsBytes_drop p.record.items n h
    refine ItemLaidOut.shift (item_laidOut (rest := rest) ?_)
    rw [← List.drop_drop, items, eq]

end Sys2Proof.Machine
end

section
/-! PROOF. The store's writes complete, and reports leave in order (R185 to R190). -/

namespace Sys2Proof.Machine

variable {s t u : State}

theorem recordOf_formed (b : SessionBase) (cause : EndCause) : RecordFormed b cause (recordOf b cause) := by
  have total {α : Type} (f : RecordItem → α) : (b.items.map recordItem).map f = b.items.map (f ∘ recordItem) := List.map_map
  exact ⟨rfl, rfl, rfl, rfl, rfl, rfl, rfl, rfl, rfl, congrArg List.sum (total _), congrArg List.sum (total _),
    congrArg List.sum (total _)⟩

/-! ## The completion of a write (R187) -/

theorem startNext_idle {m : Mst} (idle : m.inFlight = none) : m.startNext =
    { m with inFlight := m.writes.head?.map (flightOf m.page), writes := m.writes.tail } := by
  obtain ⟨page, working, queue, stacked, waiting, placement, session, life, writes, flight, torn⟩ := m
  cases idle
  cases writes with
  | nil => rfl
  | cons w ws => rfl

theorem writing_startNext {m : Mst} (idle : m.inFlight = none) :
    m.startNext.inFlight.map (·.write) = m.writes.head? ∧ m.startNext.writes = m.writes.tail := by
  rw [startNext_idle idle]
  refine ⟨?_, rfl⟩
  show (m.writes.head?.map _).map _ = _
  rw [Option.map_map]
  cases m.writes.head? with
  | none => rfl
  | some w => exact congrArg some (flightOf_write _ w)

/-- The write in flight is on the page, and none is in flight (R187). -/
abbrev writeLanded (f : Flight) (s : State) : State := { s with mst.page := s.mst.page.complete f, mst.inFlight := none }

/-- The completion of a write writes the page, what is pending and the events (R187). -/
theorem completeWrite_frame {f : Flight} (flying : s.mst.inFlight = some f) : completeWrite s = { s with
    cpt.events := (completeWrite s).cpt.events
    mst := { s.mst with
      page := s.mst.page.complete f
      inFlight := (completeWrite s).mst.inFlight, writes := (completeWrite s).mst.writes } } := by
  unfold completeWrite
  rw [flying]
  dsimp only
  split
  · rw [queueWrite_frame]
  · rw [startNext_idle (by rfl)]

theorem completeWrite_clears {f : Flight} {p : Place} {x : Option Placed} (flying : s.mst.inFlight = some f)
    (place : f.write = .place p x true) :
    (completeWrite s).mst.inFlight.map (·.write) = (putWrite (.checkpoint .empty) s.mst.writes).head? ∧
      (completeWrite s).mst.writes = (putWrite (.checkpoint .empty) s.mst.writes).tail := by
  have store : (completeWrite s).mst = (writeLanded f s).mst.queueWrite (.checkpoint .empty) := by
    unfold completeWrite
    rw [flying]
    dsimp only
    rw [place]
    exact queueWrite_mst _ _
  rw [store]
  exact writing_startNext (m := { (writeLanded f s).mst with writes := putWrite (.checkpoint .empty) s.mst.writes }) rfl

theorem completeWrite_keeps_clears {f : Flight} (flying : s.mst.inFlight = some f)
    (keeps : ∀ p x, f.write ≠ .place p x true) :
    (completeWrite s).mst.inFlight.map (·.write) = s.mst.writes.head? ∧
      (completeWrite s).mst.writes = s.mst.writes.tail := by
  have store : (completeWrite s).mst = (writeLanded f s).mst.startNext := by
    unfold completeWrite
    rw [flying]
    dsimp only
    split
    next p x is => exact absurd is (keeps p x)
    next => rfl
  rw [store]
  exact writing_startNext (m := (writeLanded f s).mst) rfl

/-! ## REMOVE_REPORT (R190) -/

/-- A clear is due with the write of one of two places (log 26). -/
theorem pendingClear_either {p q : Place} {f : PageWrite → Bool} (clears : ∀ a x, f (.place a x true) = (a == p || a == q))
    (keeps : ∀ a x, f (.place a x false) = false) (counters : ∀ c, f (.counters c) = false)
    (checkpoint : ∀ c, f (.checkpoint c) = false) (ws : List PageWrite) :
    ws.any f = (pendingClear p ws || pendingClear q ws) := by
  induction ws with
  | nil => rfl
  | cons w ws ih =>
    unfold pendingClear at ih ⊢
    rw [List.any_cons, List.any_cons, List.any_cons, ih]
    cases w with
    | counters c => rw [counters]; rfl
    | checkpoint c => rw [checkpoint]; rfl
    | place a x clear =>
      cases clear with
      | false => rw [keeps]; rfl
      | true =>
        rw [clears]
        dsimp only
        ac_rfl

/-- The working view of the queue after a removal (R190, steps 1 to 3). -/
abbrev queueLeft (r : Report) (rest : List Report) (s : State) : State := moveStacked r.place { s with mst.queue := rest }

theorem queueLeft_none {r : Report} {rest : List Report} (none : s.mst.stacked = none) :
    queueLeft r rest s = { s with mst.queue := rest } := by
  unfold queueLeft moveStacked
  dsimp only
  rw [none]

theorem queueLeft_some {r : Report} {rest : List Report} {x : SessionRecord} (stacked : s.mst.stacked = some x) :
    queueLeft r rest s = joinQueue r.place x
      { s with mst.queue := rest, mst.stacked := s.mst.waiting, mst.waiting := Option.none } := by
  unfold queueLeft moveStacked
  dsimp only
  rw [stacked]

/-- The queue's moves write the store's reports and the events. -/
theorem queueLeft_frame (r : Report) (rest : List Report) (s : State) : queueLeft r rest s = { s with
    cpt.events := (queueLeft r rest s).cpt.events
    mst := { s.mst with
      queue := (queueLeft r rest s).mst.queue, stacked := (queueLeft r rest s).mst.stacked
      waiting := (queueLeft r rest s).mst.waiting, nextPlacement := (queueLeft r rest s).mst.nextPlacement } } := by
  cases stacked : s.mst.stacked with
  | none =>
    rw [queueLeft_none stacked]
  | some x =>
    rw [queueLeft_some stacked]
    rfl

/-- The two place writes of a removal (R190). -/
abbrev removalWrites (r : Report) (s : State) : List PageWrite :=
  [.place r.place (movedRecord s) (pendingClear r.place s.mst.writes || pendingClear .p5 s.mst.writes),
    .place .p5 (s.mst.waiting.map fun x => ⟨0, x⟩) s.mst.waiting.isSome]

theorem removeOldest_removed (r : Report) (rest : List Report) (s : State) :
    WritesMoved (queueLeft r rest s) (removeOldest r rest s) ∧
      WritesQueued (removalWrites r s) s.mst (removeOldest r rest s).mst ∧
      ∀ e ∈ (queueLeft r rest s).cpt.events, e ∈ (removeOldest r rest s).cpt.events := by
  obtain ⟨moved, queued⟩ := queueWrites_two
    (.place r.place (movedRecord s) (pendingClear r.place s.mst.writes || pendingClear .p5 s.mst.writes))
    (.place .p5 (s.mst.waiting.map fun x => ⟨0, x⟩) s.mst.waiting.isSome) (queueLeft r rest s)
  refine ⟨moved, ?_, fun e mem => queueWrites_two_events _ _ mem⟩
  have left := congrArg (·.mst) (queueLeft_frame r rest s)
  have flight : (queueLeft r rest s).mst.inFlight = s.mst.inFlight := congrArg (·.inFlight) left
  have writes : (queueLeft r rest s).mst.writes = s.mst.writes := congrArg (·.writes) left
  unfold WritesQueued at queued ⊢
  rw [flight, writes] at queued
  exact queued

theorem removeOldest_frame (r : Report) (rest : List Report) (s : State) : removeOldest r rest s =
    { s with mst := (removeOldest r rest s).mst, cpt := (removeOldest r rest s).cpt } := by
  obtain ⟨moved, -⟩ := removeOldest_removed r rest s
  have left := queueLeft_frame r rest s
  unfold WritesMoved at moved
  generalize removeOldest r rest s = x at *
  generalize queueLeft r rest s = q at *
  rw [moved, left]

section
variable {r : Report} {rest : List Report}

theorem readReport_some (queue : s.mst.queue = r :: rest) : readReport s = answer .accepted (.report r.placed) s := by
  unfold readReport
  rw [queue]

theorem removeReport_some (queue : s.mst.queue = r :: rest) : removeReport s = answerEmpty .accepted (removeOldest r rest s) := by
  unfold removeReport
  rw [queue]

theorem readReport_none (queue : s.mst.queue = []) : readReport s = answerEmpty .none s := by
  unfold readReport
  rw [queue]

theorem removeReport_none (queue : s.mst.queue = []) : removeReport s = answerEmpty .none s := by
  unfold removeReport
  rw [queue]

end

/-- Settles O50: store writes complete in order, reports leave oldest first, and a record is formed, placed and laid
out. -/
theorem storeWritesAndReportsLeaveInOrder : Obligations.StoreWritesAndReportsLeaveInOrder := by
  unfold Obligations.StoreWritesAndReportsLeaveInOrder
  intro s b cause run
  have completed : exec .storeWriteComplete s = .next (completeWrite s) := whenRunning_running run
  have read : exec .readReport s = .next (readReport s) := whenRunning_running run
  have removed : exec .removeReport s = .next (removeReport s) := whenRunning_running run
  refine ⟨recordOf_formed b cause, placeRecord_placed b cause s, ?_, ?_⟩
  · rw [completed]
    cases flying : s.mst.inFlight with
    | none =>
      dsimp only
      unfold completeWrite
      rw [flying]
    | some f =>
      have frame := completeWrite_frame flying
      have page : (completeWrite s).mst.page = s.mst.page.complete f := congrArg (·.mst.page) frame
      refine ⟨_, rfl, ?_, ?_, ?_⟩
      · rw [page]
        exact frame
      · rw [page]
        unfold Page.complete
        cases f.write with
        | place p x clear =>
          obtain ⟨counters, checkpoint⟩ := Page.putPlace_doubled s.mst.page p (.valid x)
          exact ⟨counters, checkpoint, Page.place_putPlace_self .., fun q other => Page.place_putPlace_other _ other _⟩
        | counters c => exact ⟨rfl, rfl, fun q => by cases q <;> rfl⟩
        | checkpoint c => exact ⟨rfl, rfl, fun q => by cases q <;> rfl⟩
      · split
        next p x clears => exact completeWrite_clears flying clears
        next keeps => exact completeWrite_keeps_clears flying keeps
  · rw [read, removed]
    cases queue : s.mst.queue with
    | nil => exact ⟨congrArg _ (readReport_none queue), congrArg _ (removeReport_none queue)⟩
    | cons r rest =>
      dsimp only
      rw [readReport_some queue, removeReport_some queue]
      obtain ⟨moved, queued, events⟩ := removeOldest_removed r rest s
      have left := queueLeft_frame r rest s
      have frame := removeOldest_frame r rest s
      generalize removeOldest r rest s = x at *
      refine ⟨rfl, report_laidOut r.placed, _, rfl, rfl, ?_, ?_, ?_, ?_, ?_⟩
      · exact (congrArg (·.mst.page) moved).trans (congrArg (·.mst.page) left)
      · exact (congrArg (·.mst.working) moved).trans (congrArg (·.mst.working) left)
      · exact congrArg (answerEmpty .accepted) frame
      · rw [pendingClear_either (p := r.place) (q := .p5) (fun _ _ => rfl) (fun _ _ => rfl) (fun _ => rfl) fun _ => rfl]
        exact queued
      · cases stacked : s.mst.stacked with
        | none =>
          rw [queueLeft_none stacked] at moved
          have mst := congrArg (·.mst) moved
          exact ⟨congrArg (·.queue) mst, (congrArg (·.stacked) mst).trans stacked, congrArg (·.waiting) mst,
            congrArg (·.nextPlacement) mst⟩
        | some y =>
          rw [queueLeft_some stacked] at moved events
          have mst := congrArg (·.mst) moved
          exact ⟨congrArg (·.queue) mst, congrArg (·.nextPlacement) mst, congrArg (·.stacked) mst,
            congrArg (·.waiting) mst, events _ (raised_mem ..)⟩

end Sys2Proof.Machine
end

section
/-! PROOF. The sequencer is told of the own-side fault latch, and the self-check starts (R21, R24, R145, R149, R160). -/

namespace Sys2Proof.Machine

variable {s t u x : State}

/-! ## The self-check beside the sequencer (R149) -/

theorem setIsolate_gone (b : Bool) (h : ShareGone s) : ShareGone (setIsolate b s) := by
  unfold setIsolate
  split
  · exact h
  · have chosen : ShareGone (selected { s with htr.isolateReq := b }) := by
      rw [selected_frame]
      exact h
    rw [selectHeater_eq]
    split
    · exact chosen
    · exact evaluateAndHand_gone chosen

theorem setIsolate_target (b : Bool) (s : State) : (setIsolate b s).shu.sweepTarget = s.shu.sweepTarget := by
  unfold setIsolate
  split
  · rfl
  · have only := selectHeater_onlyHeater { s with htr.isolateReq := b }
    unfold OnlyHeater at only
    exact congrArg (·.shu.sweepTarget) only

/-- What the self-check, the monitor's cycle and a target's end leave: the sequencer, the session and its records, a share
that is gone, the contactor report, and no target where there was none. -/
structure TellKept (x t : State) : Prop where
  psq : t.psq = x.psq
  mtr : t.mtr = x.mtr
  mst : t.mst = x.mst
  gone : ShareGone x → ShareGone t
  events : ∀ e ∈ x.cpt.events, e ∈ t.cpt.events
  closed : t.imn.contactorClosed = x.imn.contactorClosed
  target : NoTarget x → NoTarget t
  pending : x.imn.pendingRelease = false → t.imn.pendingRelease = false

theorem TellKept.trans (h : TellKept s t) (k : TellKept t u) : TellKept s u :=
  ⟨k.psq.trans h.psq, k.mtr.trans h.mtr, k.mst.trans h.mst, fun g => k.gone (h.gone g),
    fun e mem => k.events e (h.events e mem), k.closed.trans h.closed, fun n => k.target (h.target n),
    fun p => k.pending (h.pending p)⟩

theorem startSelfCheck_tellKept (x : State) : TellKept x (startSelfCheck x) := by
  unfold startSelfCheck
  split
  · split
    · exact ⟨rfl, rfl, rfl, id, fun _ mem => mem, rfl, id, id⟩
    · obtain ⟨-, -, psq, -, -, imn, mtr, mst, cpt, -⟩ := setIsolate_keeps true { x with imn.selfCheck := .running 0 }
      have gone : ShareGone x → _ := setIsolate_gone (s := { x with imn.selfCheck := .running 0 }) true
      have target := setIsolate_target true { x with imn.selfCheck := .running 0 }
      generalize setIsolate true _ = y at *
      have report : y.imn.contactorClosed = x.imn.contactorClosed := by rw [imn]
      have record : y.imn.target = x.imn.target := by rw [imn]
      have release : y.imn.pendingRelease = x.imn.pendingRelease := by rw [imn]
      exact ⟨psq, mtr, mst, gone, fun e mem => by show e ∈ y.cpt.events; rw [cpt]; exact mem, report,
        fun ⟨a, b, c⟩ => ⟨record.trans a, release.trans b, target.trans c⟩, fun p => release.trans p⟩
  · exact ⟨rfl, rfl, rfl, id, fun _ mem => mem, rfl, id, id⟩

theorem StagesKept.available (h : StagesKept s t) : heaterAvailable t = heaterAvailable s := by
  have choice (z : State) : heaterAvailable z =
      if z.htr.overcurrent = true ∨ z.htr.openLatch = true then false
      else if z.htr.permission = .off ∨ ¬ z.cpt.configured = true then false else z.htr.tBat.isSome := by
    unfold heaterAvailable heaterChoice
    rw [if_neg (by decide)]
    split
    · rfl
    · split
      · rfl
      · cases z.htr.tBat with
        | none => rfl
        | some v =>
          dsimp only
          unfold temperatureState
          split <;> split <;> rfl
  have overcurrent := congrArg (·.htr.overcurrent) h
  have openLatch := congrArg (·.htr.openLatch) h
  have permission := congrArg (·.htr.permission) h
  have configured := congrArg (·.cpt.configured) h
  have temperature := congrArg (·.htr.tBat) h
  dsimp only at overcurrent openLatch permission configured temperature
  rw [choice, choice, overcurrent, openLatch, permission, configured, temperature]

/-! ## The sequencer told (R21) -/

/-- Where the sequencer is told of the latch: the line is the one R36 gives, the monitor is in LOCAL while the contactor is
being closed, no session is open then, and no sweep of this station starts as its target's part ends. -/
structure TellReady (s : State) : Prop where
  settled : LineSettled s
  joins : s.psq.seq.energizes = true → s.imn.mode = .localMode
  leaves : s.psq.seq.isolated = true → Leaves s
  closed : s.psq.seq = .precharge → s.mtr.session = none
  quiet : s.imn.mode ≠ .measurer ∨ ∀ r, s.imn.sweep = .leading r → r.phase ≠ .ownStep

theorem DriveSafe.tellReady (drive : DriveSafe s) (settled : LineSettled s)
    (quiet : s.imn.mode ≠ .measurer ∨ ∀ r, s.imn.sweep = .leading r → r.phase ≠ .ownStep) : TellReady s :=
  ⟨settled, drive.2.2.1.2.2.2.2.2.2.2, drive.leaves, fun seq => drive.noSession (by rw [seq]; rfl), quiet⟩

/-- What the monitor keeps beside the sweep, with the stages. -/
structure MonitorHeld (s t : State) : Prop where
  mode : t.imn.mode = s.imn.mode
  isolated : t.imn.heaterIsolated = s.imn.heaterIsolated
  latch : t.imn.ownFault = s.imn.ownFault
  own : t.imn.own = s.imn.own
  stages : StagesKept s t

theorem MonitorHeld.trans (h : MonitorHeld s t) (k : MonitorHeld t u) : MonitorHeld s u :=
  ⟨k.mode.trans h.mode, k.isolated.trans h.isolated, k.latch.trans h.latch, k.own.trans h.own, h.stages.trans k.stages⟩

theorem HomeKept.held (h : HomeKept s t) (stages : StagesKept s t) : MonitorHeld s t := by
  obtain ⟨imn, -⟩ := h
  exact ⟨by rw [imn], by rw [imn], by rw [imn], by rw [imn], stages⟩

theorem OnlyChain.held (h : OnlyChain s t) : MonitorHeld s t := h.homeKept.held h.stages

/-- PRECHARGE withdrawn: the relays open, the timers stopped, the copy dropped (R16, R21). -/
abbrev withdrawn (s : State) : State :=
  { s with
    psq := { cutPsq s.psq with prechargeTimer := false, contactorTimer := false, stopTimer := false }
    shu.joint := s.shu.joint && !s.psq.contactorCmd, mtr.prefetched := none
    imn.contactorClosed := s.imn.contactorClosed && !s.psq.contactorCmd }

theorem withdraw_eq (local' : s.imn.mode = .localMode) : withdraw s = withdrawn s := by
  unfold withdraw
  rw [openRelays_atHome (s := stopTimers s) local']
  rfl

theorem ownFaultTold_precharge (ready : TellReady s) (precharging : s.psq.seq = .precharge) :
    ownFaultTold s = enterSeq .identified (forgetStop (withdrawn s)) := by
  unfold ownFaultTold
  rw [precharging]
  dsimp only
  rw [withdraw_eq (ready.joins (by rw [precharging]; rfl))]

/-- A withdrawal in PRECHARGE (R21). -/
theorem withdrawn_identified (ready : TellReady s) (precharging : s.psq.seq = .precharge) :
    (ownFaultTold s).psq = { (forgetStop (withdrawn s)).psq with seq := .identified, batteryLow := false } ∧
      (ownFaultTold s).imn = (withdrawn s).imn ∧ (ownFaultTold s).mtr = { s.mtr with prefetched := none } ∧
      MonitorHeld s (ownFaultTold s) ∧ (ownFaultTold s).fli = s.fli ∧
      (ownFaultTold s).shu.sweepTarget = s.shu.sweepTarget := by
  have was : ¬ s.psq.seq.lineOff := by simp [precharging]
  have line : (forgetStop (withdrawn s)).fli.line = lineTarget (forgetStop (withdrawn s)) :=
    ready.settled.1.trans (lineTarget_inputs ⟨rfl, rfl, rfl, rfl, rfl⟩ was was).symm
  have seq : (forgetStop (withdrawn s)).psq.seq = .precharge := precharging
  have record := enterSeq_psq .identified (forgetStop (withdrawn s))
  have onEntry : (identOnEntry .identified (forgetStop (withdrawn s))).psq = (forgetStop (withdrawn s)).psq := rfl
  rw [onEntry, if_neg (by rw [seq]; decide), leaveState_psq (by rw [seq]; decide)] at record
  obtain ⟨-, fli, imn, report⟩ := enterSeq_still (q := .identified) (s := forgetStop (withdrawn s)) (by decide) (by decide) line
    was (by simp)
  have mtr := enterSeq_mtr .identified (s := forgetStop (withdrawn s)) (ready.closed precharging)
  have stages := enterSeq_stages .identified (forgetStop (withdrawn s))
  rw [ownFaultTold_precharge ready precharging]
  generalize enterSeq .identified (forgetStop (withdrawn s)) = t at *
  exact ⟨record.trans (by simp), imn, mtr, ⟨congrArg (·.mode) imn, congrArg (·.heaterIsolated) imn, congrArg (·.ownFault) imn,
    congrArg (·.own) imn, StagesKept.trans (t := forgetStop (withdrawn s)) rfl stages⟩, fli, report⟩

theorem ownFaultTold_charging (charging : s.psq.seq = .active ∨ s.psq.seq = .suspended) :
    ownFaultTold s = startStop .insulation s := by
  unfold ownFaultTold
  obtain h | h := charging <;> rw [h]

theorem ownFaultTold_isolated (isolated : s.psq.seq.isolated = true) :
    ownFaultTold s = recordIsolatedStop .insulation s := by
  unfold ownFaultTold
  cases seq : s.psq.seq with
  | sweepIsolated p => rfl
  | _ =>
    rw [seq] at isolated
    cases isolated

theorem ownFaultTold_elsewhere (precharging : s.psq.seq ≠ .precharge)
    (charging : ¬ (s.psq.seq = .active ∨ s.psq.seq = .suspended)) (isolated : ¬ s.psq.seq.isolated = true) :
    ownFaultTold s = s := by
  unfold ownFaultTold
  split
  next seq => exact absurd seq precharging
  next seq => exact absurd (.inl seq) charging
  next seq => exact absurd (.inr seq) charging
  next p seq => exact absurd (by rw [seq]; rfl) isolated
  next => rfl

theorem leftSweep_held (quiet : s.imn.mode ≠ .measurer ∨ ∀ r, s.imn.sweep = .leading r → r.phase ≠ .ownStep) :
    MonitorHeld s (leftSweep s) := by
  obtain home | other := quiet
  · obtain ⟨kept, stages, -⟩ := leftSweep_leaves home
    exact kept.held stages
  · rw [leftSweep_other other]
    exact ⟨rfl, rfl, rfl, rfl, rfl⟩

theorem stopRecorded_held (cause : EndCause) (ready : TellReady s) : MonitorHeld s (stopRecorded cause s) := by
  unfold stopRecorded
  have recorded : MonitorHeld s { s with psq := recordedPsq cause s.psq } := ⟨rfl, rfl, rfl, rfl, rfl⟩
  exact onlyIf_ind (P := MonitorHeld s) _ recorded (recorded.trans (leftSweep_held ready.quiet))

theorem isolatedStop_held {cause : EndCause} (recorded : s.psq.stopCause = some cause)
    (held : s.fli.line = lineTarget s) (isolated : s.psq.seq.isolated = true)
    (joins : s.psq.seq.energizes = true → s.imn.mode = .localMode) : MonitorHeld s (isolatedStop s) := by
  have stopped {u : State} (line : u.fli.line = lineTarget u) (stop : u.psq.stopCause = some cause)
      (seq : u.psq.seq.isolated = true) : MonitorHeld u (finishStop u) := by
    obtain ⟨-, -, imn, stages, -⟩ := finishStop_done line (.inr seq) stop
    exact ⟨by rw [imn], by rw [imn], by rw [imn], by rw [imn], stages⟩
  unfold isolatedStop
  split
  · exact stopped held recorded isolated
  next rejoins =>
    have local' := joins (by rw [rejoins]; rfl)
    rw [rejoinCut_eq local', rejoinStopped_cases (s := rejoinCut s) rejoins
      (by show s.psq.stopCause.isSome = true; rw [recorded]; rfl)]
    have cut : MonitorHeld s (rejoinCut s) := ⟨rfl, rfl, rfl, rfl, rfl⟩
    split
    · exact cut.trans (stopped held recorded isolated)
    · exact cut
  · exact ⟨rfl, rfl, rfl, rfl, rfl⟩

/-- Telling the sequencer leaves the monitor's mode and latches (R21). -/
theorem ownFaultTold_held (ready : TellReady s) : MonitorHeld s (ownFaultTold s) := by
  by_cases precharging : s.psq.seq = .precharge
  · exact (withdrawn_identified ready precharging).2.2.2.1
  by_cases charging : s.psq.seq = .active ∨ s.psq.seq = .suspended
  · rw [ownFaultTold_charging charging]
    have begun : MonitorHeld s (stopBegun .insulation s) := ⟨rfl, rfl, rfl, rfl, rfl⟩
    exact begun.trans (startStop_onlyChain .insulation ready.settled charging).held
  by_cases isolated : s.psq.seq.isolated = true
  · have leaves := ready.leaves isolated
    have psq := stopRecorded_psq .insulation leaves
    have frame := stopRecorded_frame .insulation leaves
    have first := stopRecorded_held .insulation ready
    rw [ownFaultTold_isolated isolated, recordIsolatedStop_eq]
    generalize stopRecorded .insulation s = u at *
    refine first.trans (isolatedStop_held (cause := .insulation) (by rw [psq]) (frame.line ready.settled.1)
      (by rw [psq]; exact isolated) fun energizes => ?_)
    rw [psq] at energizes
    exact first.mode.trans (ready.joins energizes)
  · rw [ownFaultTold_elsewhere precharging charging isolated]
    exact ⟨rfl, rfl, rfl, rfl, rfl⟩

/-! ## What stays as the self-check starts (R149) -/

section
variable (kept : TellKept x t)
include kept

theorem TellKept.relays (joined : s.psq.contactorCmd = true → s.imn.mode = .localMode) (h : RelaysOpened s x) :
    RelaysOpened s t := by
  obtain ⟨contactor, precharge, opened, watched⟩ := h
  unfold RelaysOpened
  rw [kept.psq]
  refine ⟨contactor, precharge, fun cmd => ?_, watched⟩
  obtain ⟨supervised, report, -⟩ := opened cmd
  exact ⟨supervised, kept.closed.trans report, fun away => absurd (joined cmd) away⟩

theorem TellKept.ended {cause : EndCause} {forced : Bool} (h : SessionEnded cause forced s x) :
    SessionEnded cause forced s t := by
  have ⟨closed, off, joint, share, _⟩ := h
  exact SessionEnded.later h (by rw [kept.mtr]; exact closed) (kept.gone ⟨off, joint, share⟩) kept.mst kept.events

theorem TellKept.isolatedStop {cause : EndCause} {forced : Bool}
    (joins : s.psq.seq.energizes = true → s.imn.mode = .localMode) (h : IsolatedStop cause forced s x) :
    IsolatedStop cause forced s t := by
  unfold IsolatedStop at h ⊢
  cases seq : s.psq.seq with
  | sweepIsolated p =>
    rw [seq] at h
    rw [kept.psq, kept.mtr]
    cases p with
    | isoRamp => exact h
    | isoOpen => exact h
    | isoWait =>
      obtain ⟨identified, pending, ended⟩ := h
      exact ⟨identified, kept.pending pending, kept.ended ended⟩
    | isoRejoin =>
      obtain ⟨opened, precharge, contactor, rest⟩ := h
      refine ⟨kept.relays (fun _ => joins (by rw [seq]; rfl)) opened, precharge, contactor, ?_⟩
      split
      next both =>
        rw [if_pos both] at rest
        obtain ⟨identified, pending, ended⟩ := rest
        exact ⟨identified, kept.pending pending, kept.ended ended⟩
      next waits =>
        rw [if_neg waits] at rest
        exact rest
  | _ =>
    rw [seq] at h
    rw [kept.psq, kept.mtr]
    exact h

end

/-- The sequencer has been told, and the self-check is judged (R21, R149). -/
theorem latchTold_of (ready : TellReady s) (kept : TellKept (ownFaultTold s) t)
    (check : if s.imn.mode = .localMode then SelfCheckStarted s t else t.imn.selfCheck = .pending) : LatchTold s t := by
  refine ⟨?_, check⟩
  cases seq : s.psq.seq with
  | precharge =>
    have local' := ready.joins (by rw [seq]; rfl)
    obtain ⟨psq, imn, mtr, -⟩ := withdrawn_identified ready seq
    have relays : RelaysOpened s (ownFaultTold s) :=
      RelaysOpened.cancelling local' (by rw [psq]; rfl) (by rw [psq]; rfl) (by rw [psq]; rfl) (by rw [psq]; rfl) imn
    have opened := kept.relays (fun _ => local') relays
    dsimp only
    rw [kept.psq, kept.mtr, psq, mtr]
    exact ⟨rfl, opened, rfl, rfl, rfl, rfl, rfl⟩
  | active =>
    have only := startStop_onlyChain .insulation ready.settled (.inl seq)
    rw [← ownFaultTold_charging (.inl seq)] at only
    exact ⟨kept.psq.trans (congrArg (·.psq) only), kept.target ⟨congrArg (·.imn.target) only,
      congrArg (·.imn.pendingRelease) only, congrArg (·.shu.sweepTarget) only⟩, kept.mtr.trans (congrArg (·.mtr) only)⟩
  | suspended =>
    have only := startStop_onlyChain .insulation ready.settled (.inr seq)
    rw [← ownFaultTold_charging (.inr seq)] at only
    exact ⟨kept.psq.trans (congrArg (·.psq) only), kept.target ⟨congrArg (·.imn.target) only,
      congrArg (·.imn.pendingRelease) only, congrArg (·.shu.sweepTarget) only⟩, kept.mtr.trans (congrArg (·.mtr) only)⟩
  | sweepIsolated p =>
    have isolated : s.psq.seq.isolated = true := by rw [seq]; rfl
    obtain ⟨stopped, target⟩ := recordIsolatedStop_taken .insulation (ready.leaves isolated) ready.joins ready.settled.1 isolated
    rw [← ownFaultTold_isolated isolated] at stopped target
    exact ⟨fun first => kept.target (target first), kept.isolatedStop ready.joins stopped⟩
  | _ =>
    have quiet : ownFaultTold s = s := ownFaultTold_elsewhere (by rw [seq]; decide) (by simp [seq]) (by rw [seq]; decide)
    exact kept.psq.trans (by rw [quiet])

/-! ## The latch set (R145, R149) -/

/-- The latch newly set, before the sequencer is told (R145). -/
abbrev latched (s : State) : State := raiseEvent .insulation { s with imn.ownFault := true }

theorem TellReady.latched (ready : TellReady s) : TellReady (latched s) :=
  ⟨ready.settled, ready.joins, ready.leaves, ready.closed, ready.quiet⟩

theorem setOwnFault_set (set : s.imn.ownFault = true) : setOwnFault s = s := if_pos set

theorem setOwnFault_clear (clear : s.imn.ownFault = false) : setOwnFault s =
    if (ownFaultTold (latched s)).imn.mode = .localMode then
      startSelfCheck { ownFaultTold (latched s) with imn.selfCheck := .pending }
    else { ownFaultTold (latched s) with imn.selfCheck := .pending } :=
  if_neg (by rw [clear]; decide)

/-- What follows the telling of the sequencer as the latch is set: the self-check starts in LOCAL and waits elsewhere
(R149). -/
theorem setOwnFault_kept (ready : TellReady s) (clear : s.imn.ownFault = false) :
    TellKept (ownFaultTold (latched s)) (setOwnFault s) ∧
      if s.imn.mode = .localMode then SelfCheckStarted s (setOwnFault s) else (setOwnFault s).imn.selfCheck = .pending := by
  have held := ownFaultTold_held ready.latched
  rw [setOwnFault_clear clear]
  generalize ownFaultTold (latched s) = x at *
  have mode : x.imn.mode = s.imn.mode := held.mode
  have pending : TellKept x { x with imn.selfCheck := .pending } :=
    ⟨rfl, rfl, rfl, id, fun _ mem => mem, rfl, id, id⟩
  by_cases local' : s.imn.mode = .localMode
  · rw [if_pos (mode.trans local'), if_pos local']
    refine ⟨pending.trans (startSelfCheck_tellKept _), ?_⟩
    have started := startSelfCheck_started (s := { x with imn.selfCheck := .pending }) rfl
    generalize startSelfCheck _ = t at *
    have available : heaterAvailable { x with imn.selfCheck := .pending } = heaterAvailable s :=
      held.stages.available
    have isolated : x.imn.heaterIsolated = s.imn.heaterIsolated := held.isolated
    unfold SelfCheckStarted at started ⊢
    rw [available] at started
    dsimp only at started
    rw [isolated] at started
    exact started
  · rw [if_neg fun h => local' (mode.symm.trans h), if_neg local']
    exact ⟨pending, rfl⟩

/-- The latch is set, and of what follows the monitor's self-check stays: the sequencer has been told (R21, R145). -/
theorem latchTold_later (ready : TellReady s) (clear : s.imn.ownFault = false) (kept : TellKept (setOwnFault s) t)
    (check : t.imn.selfCheck = (setOwnFault s).imn.selfCheck) (cycle : t.imn.cycle = (setOwnFault s).imn.cycle)
    (coupling : t.imn.coupling = (setOwnFault s).imn.coupling) (htr : t.htr = (setOwnFault s).htr) : LatchTold s t := by
  obtain ⟨told, started⟩ := setOwnFault_kept ready clear
  refine latchTold_of (s := latched s) ready.latched (told.trans kept) ?_
  unfold SelfCheckStarted at started ⊢
  rw [check, cycle, coupling, htr]
  exact started

theorem setOwnFault_told (ready : TellReady s) (clear : s.imn.ownFault = false) : LatchTold s (setOwnFault s) :=
  latchTold_later ready clear ⟨rfl, rfl, rfl, id, fun _ mem => mem, rfl, id, id⟩ rfl rfl rfl rfl

end Sys2Proof.Machine
end

section
/-! PROOF. What the judging of the own side writes, and that the sequencer, the line and the sweep leave it (R142, R143,
R145, R149, R150). -/

namespace Sys2Proof.Machine

variable {s t u : State}

/-! ## The own side -/

/-- The LOCAL result with its flag, the own state, both latches and the clearing. -/
def ownSide (s : State) : Option InsResult × Bool × Evaluation × Bool × Bool × Bool × Option Bool :=
  (s.imn.localResult, s.imn.localFlag, s.imn.own, s.imn.ownFault, s.imn.heaterIsolated, s.imn.clearing, s.imn.lastClearing)

/-- The own side stands as it was. -/
abbrev OwnHeld (s t : State) : Prop := ownSide t = ownSide s

theorem ownHeld_of_imn (imn : t.imn = s.imn) : OwnHeld s t := by
  unfold OwnHeld ownSide
  rw [imn]

theorem OwnHeld.onlyIf (c : Bool) {f : State → State} (h : OwnHeld s t) (k : OwnHeld t (f t)) : OwnHeld s (onlyIf c f t) :=
  onlyIf_ind (P := OwnHeld s) c h (k.trans h)

theorem enqueue_ownHeld (b : FrameBody) (s : State) : OwnHeld s (enqueue b s) := ownHeld_of_imn (by rw [enqueue_frame])

theorem setIsolate_ownHeld (b : Bool) (s : State) : OwnHeld s (setIsolate b s) :=
  ownHeld_of_imn (setIsolate_keeps b s).2.2.2.2.2.1

/-! ## The sweep and the monitor's changes of mode -/

theorem endLeading_ownHeld (r : LeaderRecord) (o : SweepOutcome) (hold : Bool) (s : State) : OwnHeld s (endLeading r o hold s) := by
  rw [endLeading_eq]
  rfl

theorem abandonSweep_ownHeld (s : State) : OwnHeld s (abandonSweep s) := by
  unfold abandonSweep
  split
  · exact endLeading_ownHeld ..
  · rfl

theorem setSeq_ownHeld (q : SeqState) (s : State) : OwnHeld s (setSeq q s) := by
  unfold setSeq
  split
  · rfl
  · exact ownHeld_of_imn (congrArg (·.imn) (evaluateAndHand_onlyChain _))

theorem takeRelease_ownHeld (s : State) : OwnHeld s (takeRelease s) := by
  unfold takeRelease
  split <;> rfl

theorem ownNotFound_ownHeld (r : LeaderRecord) (s : State) : OwnHeld s (ownNotFound r s) :=
  (takeRelease_ownHeld _).trans (endLeading_ownHeld ..)

theorem isolationReported_ownHeld (ret : ReturnState) (s : State) : OwnHeld s (reportTarget (enterIsolation ret s)) := by
  have entered := setSeq_ownHeld (.sweepIsolated .isoRamp) { s with
    psq.isoReturn := some ret, psq.stopTimer := true, psq.stopCause := none, psq.forced := false }
  unfold enterIsolation
  generalize setSeq _ _ = x at *
  exact (ownHeld_of_imn (by simp)).trans entered

theorem startStep_ownHeld (r : LeaderRecord) (s : State) : OwnHeld s (startStep r s) := by
  have announced (n : Nat) (l : LeaderRecord) : OwnHeld s (stepAnnounced n l s) := by
    rw [stepAnnounced_frame]
    rfl
  by_cases own : r.index + 1 = r.list.length
  · rw [startStep_own own]
    split
    · exact (isolationReported_ownHeld ..).trans (announced ..)
    · exact (ownNotFound_ownHeld ..).trans (announced ..)
  · rw [startStep_peer own]
    exact announced ..

theorem checkSweepStart_ownHeld (s : State) : OwnHeld s (checkSweepStart s) := by
  have alerted : OwnHeld s (sweepAlerted s) := by
    unfold sweepAlerted
    rw [enqueue_frame]
    rfl
  refine OwnHeld.onlyIf _ rfl ?_
  rw [startSweep_eq]
  exact (startStep_ownHeld ..).trans alerted

theorem leftSweep_ownHeld (s : State) : OwnHeld s (leftSweep s) := by
  unfold leftSweep
  split
  · split
    · exact (checkSweepStart_ownHeld _).trans (endLeading_ownHeld ..)
    · rfl
  · rfl

theorem leaveTarget_ownHeld (q : SeqState) (s : State) : OwnHeld s (leaveTarget q s) := by
  unfold leaveTarget
  split
  · rfl
  · rfl
  · exact leftSweep_ownHeld s
  · rfl

theorem yieldRole_ownHeld (s : State) : OwnHeld s (yieldRole s) := by
  unfold yieldRole
  split
  · exact (abandonSweep_ownHeld _).trans rfl
  · rfl

theorem startSelfCheck_ownHeld (s : State) : OwnHeld s (startSelfCheck s) := by
  unfold OwnHeld ownSide
  rw [startSelfCheck_imn]

theorem enterLocal_ownHeld (s : State) : OwnHeld s (enterLocal s) := by
  have forgot (z : State) : OwnHeld z (forgetNet z) := OwnHeld.onlyIf _ (t := { z with imn.net := .none }) rfl rfl
  have ended (z : State) : OwnHeld z (endUnmonitored z) :=
    OwnHeld.onlyIf _ (t := { z with imn.unmonitored := false, imn.unmonTimer := false }) rfl rfl
  refine (startSelfCheck_ownHeld _).trans ?_
  show ownSide (forgetNet _) = _
  exact (forgot _).trans ((ended _).trans rfl)

theorem contactorOpened_ownHeld (s : State) : OwnHeld s (contactorOpened s) := by
  unfold contactorOpened
  split
  · rfl
  · exact enterLocal_ownHeld _
  · have lost (z : State) : OwnHeld z (loseRole z) := by
      unfold loseRole
      split
      · split
        · rfl
        · exact abandonSweep_ownHeld z
      · rfl
    exact (lost _).trans (enterLocal_ownHeld _)

/-! ## The line and the sequencer's state -/

theorem changeLine_ownHeld (target : LineState) (s : State) : OwnHeld s (changeLine target s) := by
  have offline (z : State) : OwnHeld z (sweepOffline (emptyPeers z)) := by
    have emptied : OwnHeld z (emptyPeers z) :=
      OwnHeld.onlyIf _ (t := { z with shu.peers := [], shu.overflow := 0 }) rfl rfl
    exact emptied
  unfold changeLine
  dsimp only
  refine OwnHeld.onlyIf _ (OwnHeld.onlyIf _ (OwnHeld.onlyIf _ rfl rfl) (offline _)) (yieldRole_ownHeld _)

theorem refreshLine_ownHeld (s : State) : OwnHeld s (refreshLine s) := by
  have judged (z : State) : OwnHeld z (updateFallback z) := ownHeld_of_imn (by simp)
  unfold refreshLine
  refine (judged _).trans ?_
  split
  · rfl
  · exact changeLine_ownHeld ..

theorem enterSeq_ownHeld (q : SeqState) (s : State) : OwnHeld s (enterSeq q s) := by
  have ident : OwnHeld s (identOnEntry q s) := by
    rw [identOnEntry_frame]
    rfl
  exact (refreshLine_ownHeld _).trans ((setSeq_ownHeld q _).trans ident)

/-! ## Stops, and the sequencer told (R14, R21, R24) -/

theorem openRelays_ownHeld (s : State) : OwnHeld s (openRelays s) := by
  rw [openRelays_eq]
  split
  · exact contactorOpened_ownHeld _
  · rfl

theorem finishStop_ownHeld (s : State) : OwnHeld s (finishStop s) := by
  rw [finishStop_eq]
  have ready (cause : EndCause) : OwnHeld s (stopReady cause s) := by
    have imn : (stopReady cause s).imn = { s.imn with pendingRelease := false } :=
      (congrArg (·.imn) (stopReady_frame cause s)).trans (sessionStopped_parts cause s).2.2.1
    unfold OwnHeld ownSide
    rw [imn]
  generalize s.psq.stopCause.getD .hostStop = cause
  have entered := (enterSeq_ownHeld .identified (stopReady cause s)).trans (ready cause)
  generalize enterSeq .identified (stopReady cause s) = x at *
  exact OwnHeld.onlyIf _ entered (enqueue_ownHeld ..)

theorem recordIsolatedStop_ownHeld (cause : EndCause) (s : State) : OwnHeld s (recordIsolatedStop cause s) := by
  have phase (z : State) : OwnHeld z (isolatedStop z) := by
    unfold isolatedStop
    split
    · exact finishStop_ownHeld z
    · unfold rejoinStopped
      split
      · exact (finishStop_ownHeld _).trans (openRelays_ownHeld (stopTimers z))
      · exact openRelays_ownHeld (stopTimers z)
    · rfl
  rw [recordIsolatedStop_eq]
  exact (phase _).trans (OwnHeld.onlyIf _ rfl (leftSweep_ownHeld _))

theorem startStop_ownHeld (cause : EndCause) (s : State) : OwnHeld s (startStop cause s) :=
  (enterSeq_ownHeld ..).trans (leaveTarget_ownHeld s.psq.seq s)

theorem ownFaultTold_ownHeld (s : State) : OwnHeld s (ownFaultTold s) := by
  unfold ownFaultTold
  split
  · exact (enterSeq_ownHeld ..).trans (openRelays_ownHeld (stopTimers s))
  · exact startStop_ownHeld ..
  · exact startStop_ownHeld ..
  · exact recordIsolatedStop_ownHeld ..
  · rfl

end Sys2Proof.Machine
end

section
/-! PROOF. A LOCAL result judges the own side (R142, R143, R145, R149, R150, R162). -/

namespace Sys2Proof.Machine

variable {s t u : State} {r : InsResult}

/-! ## The sequencer told, with no own step to end (R21) -/

/-- Of the line nothing and of the monitor only the target's record and the contactor report have moved, and a target that
was none stays none. -/
structure SweepAside (s t : State) : Prop where
  fli : t.fli = s.fli
  imn : t.imn = { s.imn with
    target := t.imn.target, pendingRelease := t.imn.pendingRelease, contactorClosed := t.imn.contactorClosed }
  target : NoTarget s → NoTarget t

theorem SweepAside.refl (s : State) : SweepAside s s := ⟨rfl, rfl, id⟩

theorem SweepAside.trans (h : SweepAside s t) (k : SweepAside t u) : SweepAside s u :=
  ⟨k.fli.trans h.fli, by rw [k.imn, h.imn], fun none => k.target (h.target none)⟩

theorem ownFaultTold_aside (ready : TellReady s) (other : ∀ r, s.imn.sweep = .leading r → r.phase ≠ .ownStep) :
    SweepAside s (ownFaultTold s) := by
  by_cases precharging : s.psq.seq = .precharge
  · obtain ⟨-, imn, -, -, fli, report⟩ := withdrawn_identified ready precharging
    refine ⟨fli, ?_, fun ⟨gone, idle, off⟩ => ⟨?_, ?_, report.trans off⟩⟩
    · rw [imn]
    · rw [imn]
      exact gone
    · rw [imn]
      exact idle
  by_cases charging : s.psq.seq = .active ∨ s.psq.seq = .suspended
  · have only := startStop_onlyChain .insulation ready.settled charging
    rw [← ownFaultTold_charging charging] at only
    refine ⟨congrArg (·.fli) only, ?_, fun _ => ⟨congrArg (·.imn.target) only, congrArg (·.imn.pendingRelease) only,
      congrArg (·.shu.sweepTarget) only⟩⟩
    have imn : _ = (stopBegun .insulation s).imn := congrArg (·.imn) only
    rw [imn]
    rfl
  by_cases isolated : s.psq.seq.isolated = true
  · have leaves := ready.leaves isolated
    have psq := stopRecorded_psq .insulation leaves
    have frame := stopRecorded_frame .insulation leaves
    have first := stopRecorded_held .insulation ready
    have aside : SweepAside s (stopRecorded .insulation s) := by
      unfold stopRecorded
      refine onlyIf_ind (P := SweepAside s) _ ⟨rfl, rfl, id⟩ ?_
      rw [leftSweep_other (s := { s with psq := recordedPsq .insulation s.psq }) other]
      exact ⟨rfl, rfl, fun _ => ⟨rfl, rfl, rfl⟩⟩
    rw [ownFaultTold_isolated isolated, recordIsolatedStop_eq]
    generalize stopRecorded .insulation s = u at *
    obtain ⟨fli, imn, target, -⟩ := isolatedStop_leaves (s := u) (cause := .insulation) (by rw [psq]) (by decide)
      (frame.line ready.settled.1) (by rw [psq]; exact isolated) (fun energizes => by
        rw [psq] at energizes
        exact first.mode.trans (ready.joins energizes))
    refine aside.trans ⟨fli, ?_, target⟩
    rw [imn]
  · rw [ownFaultTold_elsewhere precharging charging isolated]
    exact .refl s

/-- The sweep stays as the latch is set, but for a target's part in it. -/
theorem setOwnFault_aside (ready : TellReady s) (other : ∀ r, s.imn.sweep = .leading r → r.phase ≠ .ownStep) :
    (setOwnFault s).fli = s.fli ∧ (setOwnFault s).imn.sweep = s.imn.sweep ∧
      (setOwnFault s).imn.outcome = s.imn.outcome ∧ (setOwnFault s).imn.hold = s.imn.hold ∧
      (setOwnFault s).imn.disagreement = s.imn.disagreement ∧
      (NoTarget s → NoTarget (setOwnFault s)) := by
  by_cases set : s.imn.ownFault = true
  · rw [setOwnFault_set set]
    exact ⟨rfl, rfl, rfl, rfl, rfl, id⟩
  · have aside := ownFaultTold_aside ready.latched other
    rw [setOwnFault_clear (eq_false_of_ne_true set)]
    generalize ownFaultTold (latched s) = x at *
    obtain ⟨fli, imn, target⟩ := aside
    split
    · have checked := startSelfCheck_imn { x with imn.selfCheck := .pending }
      have kept := startSelfCheck_tellKept { x with imn.selfCheck := .pending }
      obtain ⟨-, -, -, still, -⟩ := startSelfCheck_keeps { x with imn.selfCheck := .pending }
      generalize startSelfCheck _ = t at *
      rw [checked]
      refine ⟨still.trans fli, ?_, ?_, ?_, ?_, fun none => kept.target (target none)⟩
      · exact congrArg (·.sweep) imn
      · exact congrArg (·.outcome) imn
      · exact congrArg (·.hold) imn
      · exact congrArg (·.disagreement) imn
    · exact ⟨fli, congrArg (·.sweep) imn, congrArg (·.outcome) imn, congrArg (·.hold) imn, congrArg (·.disagreement) imn,
        target⟩

/-- Whatever the state, the latch stands after it, and nothing else of the own side has moved (R145). -/
theorem setOwnFault_ownSide (s : State) : ownSide (setOwnFault s) = ownSide { s with imn.ownFault := true } := by
  by_cases set : s.imn.ownFault = true
  · rw [setOwnFault_set set]
    unfold ownSide
    rw [set]
  · have told := ownFaultTold_ownHeld (latched s)
    rw [setOwnFault_clear (eq_false_of_ne_true set)]
    generalize ownFaultTold (latched s) = x at *
    split
    · exact (startSelfCheck_ownHeld _).trans told
    · exact told

theorem setOwnFault_raised (clear : s.imn.ownFault = false) : .insulation ∈ (setOwnFault s).cpt.events := by
  have raised : .insulation ∈ (ownFaultTold (latched s)).cpt.events := ownFaultTold_events _ (raised_mem ..)
  rw [setOwnFault_clear clear]
  generalize ownFaultTold (latched s) = x at *
  split
  · exact (startSelfCheck_tellKept _).events _ raised
  · exact raised

/-! ## A result taken and judged (R142, R143, R145, R159) -/

/-- The result taken, judged into the own state, and the target's verdict. -/
abbrev resultTaken (r : InsResult) (s : State) : State :=
  noteVerdict r.rf (judgeOwn r.rf { s with imn.localResult := some r, imn.localFlag := true })

/-- The own state after the result (R143). -/
abbrev ownJudged (r : InsResult) (s : State) : Evaluation := judge s.cfg r.rf s.imn.own

theorem resultTaken_frame (r : InsResult) (s : State) : resultTaken r s = { s with
    imn := { s.imn with
      localResult := some r, localFlag := true, own := ownJudged r s
      target := s.imn.target.map fun t => { t with verdict := some r.rf } }
    mtr := (changeMarked s.imn.own (ownJudged r s) s).mtr
    cpt.events := (resultTaken r s).cpt.events } := by
  have noted := noteChange_frame s.imn.own (ownJudged r s)
    { s with imn := { s.imn with localResult := some r, localFlag := true, own := ownJudged r s } }
  have marked : (changeMarked s.imn.own (ownJudged r s)
      { s with imn := { s.imn with localResult := some r, localFlag := true, own := ownJudged r s } }).mtr =
      (changeMarked s.imn.own (ownJudged r s) s).mtr := by
    unfold changeMarked
    split
    · rfl
    · cases (ownJudged r s).state.getD .ok != .ok <;> rfl
  rw [marked] at noted
  unfold resultTaken noteVerdict judgeOwn
  dsimp only
  rw [noted]

theorem resultTaken_raised (r : InsResult) (s : State) : ChangeRaised s.imn.own (ownJudged r s) (resultTaken r s) :=
  fun change => noteChange_raised (s := { s with
    imn := { s.imn with localResult := some r, localFlag := true, own := ownJudged r s } }) change

/-- An entry to ALARM marks the open session (R143). -/
theorem changeMarked_alarm {old new : Evaluation} (enters : new.state = some .alarm) (before : old.state ≠ some .alarm) :
    changeMarked old new s = Marked s := by
  unfold changeMarked
  rw [if_neg, enters]
  · rfl
  · rw [enters]
    cases state : old.state with
    | none => decide
    | some x =>
      rintro rfl
      exact before state

/-- What the own step or the own state's entry to ALARM has made of the result. -/
abbrev resultJudged (r : InsResult) (s : State) : State := ownConsequence s.imn.own (resultTaken r s)

/-- With the self-check that runs. -/
def resultChecked (r : InsResult) (s : State) : State :=
  match s.imn.selfCheck with
  | .running n => selfCheckResult r.rf n (resultJudged r s)
  | _ => resultJudged r s

theorem localResult_eq (r : InsResult) (s : State) :
    localResult r s = onlyIf s.imn.clearing (clearingResult r.rf) (resultChecked r s) := by
  unfold localResult resultChecked
  cases s.imn.selfCheck <;> rfl

theorem resultChecked_running {n : Nat} (runs : s.imn.selfCheck = .running n) :
    resultChecked r s = selfCheckResult r.rf n (resultJudged r s) := by
  unfold resultChecked
  rw [runs]

theorem resultChecked_quiet (quiet : s.imn.selfCheck.isRunning = false) : resultChecked r s = resultJudged r s := by
  unfold resultChecked
  split
  next runs =>
    rw [runs] at quiet
    cases quiet
  next => rfl

/-! ## The result stays (R142) -/

/-- The LOCAL result and its flag stand. -/
abbrev ResultHeld (s t : State) : Prop := t.imn.localResult = s.imn.localResult ∧ t.imn.localFlag = s.imn.localFlag

theorem OwnHeld.result (h : OwnHeld s t) : ResultHeld s t := ⟨congrArg (·.1) h, congrArg (·.2.1) h⟩

theorem ResultHeld.trans (h : ResultHeld s t) (k : ResultHeld t u) : ResultHeld s u := ⟨k.1.trans h.1, k.2.trans h.2⟩

theorem setOwnFault_result (s : State) : ResultHeld s (setOwnFault s) :=
  OwnHeld.result (s := { s with imn.ownFault := true }) (setOwnFault_ownSide s)

theorem ownConsequence_result (before : Evaluation) (s : State) : ResultHeld s (ownConsequence before s) := by
  unfold ownConsequence
  split
  · unfold ownStepResult
    split
    · exact (endLeading_ownHeld ..).result.trans (setOwnFault_result _)
    · split
      · exact (ownNotFound_ownHeld ..).result
      · exact ⟨rfl, rfl⟩
  · exact onlyIf_ind (P := ResultHeld s) _ ⟨rfl, rfl⟩ (setOwnFault_result s)

theorem selfCheckResult_result (rf n : Nat) (s : State) : ResultHeld s (selfCheckResult rf n s) := by
  unfold selfCheckResult
  split
  · have imn := (failSelfCheck_failed s).2.1
    exact ⟨congrArg (·.localResult) imn, congrArg (·.localFlag) imn⟩
  · split <;> exact ⟨rfl, rfl⟩

theorem clearingResult_result (rf : Nat) (s : State) : ResultHeld s (clearingResult rf s) := by
  unfold clearingResult
  split
  · have imn := (failClearing_failed s).2.1
    exact ⟨congrArg (·.localResult) imn, congrArg (·.localFlag) imn⟩
  · exact ⟨rfl, rfl⟩

theorem localResult_held (r : InsResult) (s : State) :
    (localResult r s).imn.localResult = some r ∧ (localResult r s).imn.localFlag = true := by
  have taken : (resultTaken r s).imn.localResult = some r ∧ (resultTaken r s).imn.localFlag = true := by
    rw [resultTaken_frame]
    exact ⟨rfl, rfl⟩
  have judged : ResultHeld (resultTaken r s) (resultJudged r s) := ownConsequence_result ..
  have checked : ResultHeld (resultTaken r s) (resultChecked r s) := by
    unfold resultChecked
    split
    · exact judged.trans (selfCheckResult_result ..)
    · exact judged
  have all : ResultHeld (resultTaken r s) (localResult r s) := by
    rw [localResult_eq]
    exact onlyIf_ind (P := ResultHeld (resultTaken r s)) _ checked (checked.trans (clearingResult_result ..))
  exact ⟨all.1.trans taken.1, all.2.trans taken.2⟩

end Sys2Proof.Machine
end

section
/-! PROOF. What a LOCAL result decides (R145, R149, R150, R162). -/

namespace Sys2Proof.Machine

variable {s t u : State} {r : InsResult}

/-! ## The state the result is taken in -/

theorem resultTaken_imn (r : InsResult) (s : State) : (resultTaken r s).imn = { s.imn with
    localResult := some r, localFlag := true, own := ownJudged r s
    target := s.imn.target.map fun t => { t with verdict := some r.rf } } :=
  congrArg (·.imn) (resultTaken_frame r s)

theorem resultTaken_ready (ready : TellReady s) : TellReady (resultTaken r s) := by
  have frame := resultTaken_frame r s
  have running : (resultTaken r s).mtr.session.map (·.running) = s.mtr.session.map (·.running) := by
    rw [frame]
    exact (changeMarked_mtr s.imn.own (ownJudged r s) s).2
  generalize resultTaken r s = t at *
  refine ⟨?_, ?_, ?_, fun seq => ?_, ?_⟩
  · rw [frame]
    exact ready.settled
  · rw [frame]
    exact ready.joins
  · rw [frame]
    exact ready.leaves
  · have closed := ready.closed (by rw [frame] at seq; exact seq)
    rw [closed] at running
    exact Option.map_eq_none_iff.1 running
  · rw [frame]
    exact ready.quiet

/-- A result that enters ALARM marks the session, and what is told after it is told of the marked one (R143). -/
theorem LatchTold.marked (enters : (ownJudged r s).state = some .alarm) (before : s.imn.own.state ≠ some .alarm)
    (h : LatchTold (resultTaken r s) t) : LatchTold (Marked s) t := by
  rw [resultTaken_frame, changeMarked_alarm enters before] at h
  exact h

/-- One in ALARM already does not. -/
theorem LatchTold.unmarked (enters : (ownJudged r s).state = some .alarm) (before : s.imn.own.state = some .alarm)
    (h : LatchTold (resultTaken r s) t) : LatchTold s t := by
  have same : changeMarked s.imn.own (ownJudged r s) s = s := by
    unfold changeMarked
    rw [if_pos (by rw [enters, before])]
  rw [resultTaken_frame, same] at h
  exact h

/-! ## The entry to ALARM (R145) -/

/-- The own state enters ALARM with the result. -/
abbrev entersAlarm (r : InsResult) (s : State) : Bool :=
  (ownJudged r s).state == some .alarm && s.imn.own.state != some .alarm

theorem resultJudged_none (none : ownStepMeasuring s = none) :
    resultJudged r s = onlyIf (entersAlarm r s) setOwnFault (resultTaken r s) := by
  have imn := resultTaken_imn r s
  have measuring : ownStepMeasuring (resultTaken r s) = Option.none := by
    unfold ownStepMeasuring at none ⊢
    rw [imn]
    exact none
  unfold resultJudged ownConsequence
  rw [measuring]
  dsimp only
  rw [imn]

theorem entersAlarm_iff : entersAlarm r s = true ↔ (ownJudged r s).state = some .alarm ∧ s.imn.own.state ≠ some .alarm := by
  simp

/-- The own side after the entry to ALARM has been judged. -/
theorem resultJudged_ownSide (none : ownStepMeasuring s = none) :
    ownSide (resultJudged r s) = (some r, true, ownJudged r s, s.imn.ownFault || entersAlarm r s, s.imn.heaterIsolated,
      s.imn.clearing, s.imn.lastClearing) := by
  have taken : ownSide (resultTaken r s) = (some r, true, ownJudged r s, s.imn.ownFault, s.imn.heaterIsolated,
      s.imn.clearing, s.imn.lastClearing) := by
    unfold ownSide
    rw [resultTaken_imn]
  have set := setOwnFault_ownSide (resultTaken r s)
  rw [resultJudged_none none]
  cases entersAlarm r s with
  | false => rw [onlyIf_false, taken, Bool.or_false]
  | true =>
    rw [onlyIf_true, set, Bool.or_true]
    unfold ownSide
    dsimp only
    rw [resultTaken_imn]

theorem resultJudged_events (none : ownStepMeasuring s = none) {e : EventKind} (mem : e ∈ (resultTaken r s).cpt.events) :
    e ∈ (resultJudged r s).cpt.events := by
  rw [resultJudged_none none]
  exact onlyIf_ind (P := fun x : State => e ∈ x.cpt.events) _ mem (setOwnFault_events _ mem)

/-- The latch stands already, or ALARM is not entered: the result is taken alone. -/
theorem resultJudged_taken (none : ownStepMeasuring s = none) (rests : entersAlarm r s = false ∨ s.imn.ownFault = true) :
    resultJudged r s = resultTaken r s := by
  rw [resultJudged_none none]
  obtain calm | set := rests
  · rw [calm, onlyIf_false]
  · have held : (resultTaken r s).imn.ownFault = true := by rw [resultTaken_imn]; exact set
    exact onlyIf_ind (P := (· = resultTaken r s)) _ rfl (setOwnFault_set held)

/-- A result with no step, self-check or clearing to decide (R143, R145). -/
theorem localResult_judged (quiet : s.imn.selfCheck.isRunning = false) (idle : s.imn.clearing = false) : localResult r s = resultJudged r s := by
  rw [localResult_eq, idle, onlyIf_false, resultChecked_quiet quiet]

/-! ## The leader's own step (R162) -/

theorem ownStepMeasuring_some {l : LeaderRecord} (measures : ownStepMeasuring s = some l) : s.imn.sweep = .leading l := by
  unfold ownStepMeasuring at measures
  split at measures
  next l' leads =>
    split at measures
    · rw [leads, Option.some.inj measures]
    · cases measures
  next => cases measures

theorem resultJudged_step {l : LeaderRecord} (measures : ownStepMeasuring s = some l) :
    resultJudged r s = ownStepResult l (resultTaken r s) := by
  have imn := resultTaken_imn r s
  have measuring : ownStepMeasuring (resultTaken r s) = some l := by
    unfold ownStepMeasuring at measures ⊢
    rw [imn]
    exact measures
  unfold resultJudged ownConsequence
  rw [measuring]

/-- An end of the own step leaves the sequencer ready to be told. -/
theorem endLeading_ready {l : LeaderRecord} {o : SweepOutcome} {hold : Bool} (ready : TellReady s)
    (local' : s.imn.mode = .localMode) : TellReady (endLeading l o hold s) := by
  rw [endLeading_eq]
  exact ⟨ready.settled, ready.joins, ready.leaves, ready.closed, .inl (by show s.imn.mode ≠ _; rw [local']; decide)⟩

theorem LatchTold.endLeading {l : LeaderRecord} {o : SweepOutcome} {hold : Bool} (h : LatchTold (endLeading l o hold s) t) :
    LatchTold s t := by
  rw [endLeading_eq] at h
  exact h

/-- ALARM in the own step is FOUND with the own station, and sets the latch (R145, R162). -/
theorem ownStep_found {l : LeaderRecord} (ready : TellReady s) (local' : s.imn.mode = .localMode)
    (alarm : s.imn.own.state = some .alarm) :
    SweepEnded (.found s.cfg.station) true s (ownStepResult l s) ∧ NoTarget (ownStepResult l s) ∧
      (ownStepResult l s).imn.ownFault = true ∧
      QueuedOwn (endingFrame l (.found s.cfg.station)) s (ownStepResult l s) ∧
      (ownStepResult l s).imn.own = s.imn.own ∧
      if s.imn.ownFault = true then (ownStepResult l s).psq = s.psq else LatchTold s (ownStepResult l s) := by
  have found : ownStepResult l s = setOwnFault (endLeading l (.found s.cfg.station) true s) := by
    unfold ownStepResult
    exact if_pos alarm
  have readyNow := endLeading_ready (l := l) (o := .found s.cfg.station) (hold := true) ready local'
  obtain ⟨⟨none, outcome, hold, event⟩, target, queued⟩ := endLeading_ended l (.found s.cfg.station) true s
  have frame := endLeading_eq l (.found s.cfg.station) true s
  have told (h : LatchTold (endLeading l (.found s.cfg.station) true s) (ownStepResult l s)) := LatchTold.endLeading h
  rw [found] at told ⊢
  generalize endLeading l (.found s.cfg.station) true s = e at *
  obtain ⟨fli, sweep, outcome', hold', -, target'⟩ := setOwnFault_aside readyNow fun r leads => by
    rw [none] at leads
    cases leads
  have side := setOwnFault_ownSide e
  have psq : e.psq = s.psq := by rw [frame]; rfl
  have latch : e.imn.ownFault = s.imn.ownFault := by rw [frame]; rfl
  have own : e.imn.own = s.imn.own := by rw [frame]; rfl
  refine ⟨⟨sweep.trans none, outcome'.trans outcome, hold'.trans hold, setOwnFault_events e event⟩, target' target,
    congrArg (·.2.2.2.1) side, ?_, (congrArg (·.2.2.1) side).trans own, ?_⟩
  · exact queued.congr rfl rfl rfl (by rw [fli])
  · split
    next set => rw [setOwnFault_set (latch.trans set), psq]
    next clear => exact told (setOwnFault_told readyNow (latch.trans (eq_false_of_ne_true clear)))

/-- The leader's own step is decided by its LOCAL result (R162). -/
theorem ownStep_decided {l : LeaderRecord} (measures : ownStepMeasuring s = some l) (local' : s.imn.mode = .localMode)
    (quiet : s.imn.selfCheck.isRunning = false) (idle : s.imn.clearing = false) (drive : DriveSafe s) (settled : LineSettled s) :
    OwnStepDecided l r s (localResult r s) := by
  have ready : TellReady s := drive.tellReady settled (.inl (by rw [local']; decide))
  have readyTaken := resultTaken_ready (r := r) ready
  have frame := resultTaken_frame r s
  have events : ∀ e ∈ s.cpt.events, e ∈ (resultTaken r s).cpt.events := fun e mem =>
    noteChange_events _ _ _ mem
  have marked (t : State) (enters : (ownJudged r s).state = some .alarm) (h : LatchTold (resultTaken r s) t) :
      LatchTold (if s.imn.own.state = some .alarm then s else Marked s) t := by
    split
    next before => exact LatchTold.unmarked enters before h
    next before => exact LatchTold.marked enters before h
  rw [localResult_judged quiet idle, resultJudged_step measures]
  unfold OwnStepDecided
  generalize resultTaken r s = x at *
  have own : x.imn.own = ownJudged r s := by rw [frame]
  have cfg : x.cfg = s.cfg := by rw [frame]
  have fli : x.fli = s.fli := by rw [frame]
  have psq : x.psq = s.psq := by rw [frame]
  have latch : x.imn.ownFault = s.imn.ownFault := by rw [frame]
  have hold : x.imn.hold = s.imn.hold := by rw [frame]
  by_cases alarm : (ownJudged r s).state = some .alarm
  · obtain ⟨⟨none, outcome, held, event⟩, target, set, queued, kept, told⟩ :=
      ownStep_found (l := l) readyTaken (by rw [frame]; exact local') (by rw [own]; exact alarm)
    rw [cfg] at outcome queued
    generalize ownStepResult l x = t at *
    have now : t.imn.own = ownJudged r s := kept.trans own
    rw [now, if_pos alarm]
    refine ⟨judge_judged .., ⟨none, outcome, by rw [held, hold], event⟩, target, set, ?_, ?_⟩
    · exact queued.congr (by rw [fli]) (by rw [cfg]) (by rw [psq]) rfl
    · rw [latch, psq] at told
      split
      next before =>
        rw [if_pos before] at told
        exact told
      next before =>
        rw [if_neg before] at told
        exact marked t alarm told
  have ended : ownStepResult l x = if 1 ≤ l.ownResults then ownNotFound l x
      else { x with imn.sweep := .leading { l with ownResults := l.ownResults + 1 } } := by
    unfold ownStepResult
    exact if_neg (by rw [own]; exact alarm)
  rw [ended]
  by_cases second : 1 ≤ l.ownResults
  · obtain ⟨⟨none, outcome, held, event⟩, target, sent, moved⟩ := ownNotFound_ends l x
    have side := ownNotFound_ownHeld l x
    rw [if_pos second]
    generalize ownNotFound l x = t at *
    have now : t.imn.own = ownJudged r s := (congrArg (·.2.2.1) side).trans own
    rw [now, if_neg alarm]
    refine ⟨judge_judged .., ?_⟩
    rw [if_pos second]
    refine ⟨⟨none, outcome, by rw [held, hold], event⟩, target, (congrArg (·.2.2.2.1) side).trans latch, ?_, ?_⟩
    · have queued : QueuedOwn (endingFrame l .notFound) x (enqueue (endingFrame l .notFound) x) := enqueue_queued rfl
      exact queued.congr (by rw [fli]) (by rw [cfg]) (by rw [psq]) (by rw [sent])
    · rw [moved, psq]
  · rw [if_neg second]
    dsimp only
    rw [own, if_neg alarm, if_neg second]
    exact ⟨judge_judged .., rfl, psq, fli, latch⟩

/-! ## Self-check and clearing (R149, R150) -/

theorem selfCheckResult_fails {n : Nat} (low : r.rf ≤ s.cfg.rWarn) : selfCheckResult r.rf n s = failSelfCheck s := if_pos low

theorem selfCheckResult_first (high : ¬ r.rf ≤ s.cfg.rWarn) :
    selfCheckResult r.rf 0 s = { s with imn.selfCheck := .running 1 } := if_neg high

theorem selfCheckResult_passes {n : Nat} (high : ¬ r.rf ≤ s.cfg.rWarn) (later : n ≠ 0) :
    selfCheckResult r.rf n s = passSelfCheck s := (if_neg high).trans (if_neg later)

theorem clearingResult_fails (low : r.rf ≤ s.cfg.rWarn) : clearingResult r.rf s = failClearing s := if_pos low

theorem clearingResult_passes (high : ¬ r.rf ≤ s.cfg.rWarn) : clearingResult r.rf s = passClearing s := if_neg high

theorem resultTaken_cfg (r : InsResult) (s : State) : (resultTaken r s).cfg = s.cfg := congrArg (·.cfg) (resultTaken_frame r s)

theorem resultChecked_cfg (r : InsResult) (s : State) : (resultChecked r s).cfg = s.cfg := by
  have judged : (resultJudged r s).cfg = s.cfg := (ownConsequence_keeps _ _).2.1.trans (resultTaken_cfg r s)
  unfold resultChecked
  split
  · exact (selfCheckResult_keeps _ _ _).2.1.trans judged
  · exact judged

/-- Whatever runs beside it, a clearing ends with the result (R150). -/
theorem localResult_clears (clears : s.imn.clearing = true) :
    (localResult r s).imn.clearing = false ∧
      (localResult r s).imn.lastClearing = some (decide (s.cfg.rWarn < r.rf)) ∧
      .insulation ∈ (localResult r s).cpt.events := by
  have cfg := resultChecked_cfg r s
  rw [localResult_eq, clears, onlyIf_true]
  generalize resultChecked r s = x at *
  by_cases low : r.rf ≤ s.cfg.rWarn
  · obtain ⟨⟨-, -, -, told⟩, imn, -⟩ := failClearing_failed x
    rw [clearingResult_fails (by rw [cfg]; exact low), imn]
    exact ⟨rfl, by rw [decide_eq_false (by omega)], told⟩
  · rw [clearingResult_passes (by rw [cfg]; exact low)]
    exact ⟨rfl, congrArg some (decide_eq_true (by omega)).symm, raised_mem ..⟩

/-- Settles O42: a LOCAL result is judged into the own side, and decides what waits for it. -/
theorem localResultsJudgeTheOwnSide : Obligations.LocalResultsJudgeTheOwnSide := by
  unfold Obligations.LocalResultsJudgeTheOwnSide
  intro s r
  obtain ⟨held, flag⟩ := localResult_held r s
  refine ⟨fun l measures local' quiet idle drive settled => ownStep_decided measures local' quiet idle drive settled,
    held, flag, fun none quiet idle => ?_, fun none idle set => ?_, fun none clears => ?_⟩
  · have side := resultJudged_ownSide (r := r) none
    have own : (resultJudged r s).imn.own = ownJudged r s := congrArg (·.2.2.1) side
    rw [localResult_judged quiet idle, own]
    refine ⟨judge_judged .., fun change => resultJudged_events none (resultTaken_raised r s change), fun enters before => ?_,
      fun rests => ?_⟩
    · have alarm : entersAlarm r s = true := entersAlarm_iff.2 ⟨enters, before⟩
      have latch : (resultJudged r s).imn.ownFault = true :=
        (congrArg (·.2.2.2.1) side).trans (by rw [alarm, Bool.or_true])
      refine ⟨latch, fun clear => ?_⟩
      have judged := resultJudged_none (r := r) none
      rw [alarm, onlyIf_true] at judged
      have clearNow : (resultTaken r s).imn.ownFault = false := by rw [resultTaken_imn]; exact clear
      rw [judged]
      exact ⟨setOwnFault_raised clearNow, fun local' drive settled => LatchTold.marked enters before
        (setOwnFault_told (resultTaken_ready (drive.tellReady settled (.inl (by rw [local']; decide)))) clearNow)⟩
    · have rest : entersAlarm r s = false ∨ s.imn.ownFault = true := by
        obtain calm | old | set := rests
        · exact .inl (eq_false_of_ne_true fun h => calm (entersAlarm_iff.1 h).1)
        · exact .inl (eq_false_of_ne_true fun h => (entersAlarm_iff.1 h).2 old)
        · exact .inr set
      have frame := resultTaken_frame r s
      rw [resultJudged_taken none rest]
      generalize resultTaken r s = x at *
      rw [frame]
  · split
    next k runs =>
      have cfg := resultTaken_cfg r s
      have imn := resultTaken_imn r s
      rw [localResult_eq, idle, onlyIf_false, resultChecked_running runs, resultJudged_taken none (.inr set)]
      generalize resultTaken r s = x at *
      by_cases low : r.rf ≤ s.cfg.rWarn
      · obtain ⟨⟨-, -, -, told⟩, failed, request⟩ := failSelfCheck_failed x
        rw [if_pos low, selfCheckResult_fails (by rw [cfg]; exact low), failed]
        exact ⟨rfl, by rw [imn]; exact set, request, told⟩
      · rw [if_neg low]
        by_cases first : k = 0
        · rw [if_pos first, first, selfCheckResult_first (by rw [cfg]; exact low)]
          exact ⟨rfl, by rw [imn]; exact set⟩
        · rw [if_neg first, selfCheckResult_passes (by rw [cfg]; exact low) first]
          exact ⟨rfl, rfl, rfl, rfl, raised_mem ..⟩
    next => trivial
  · obtain ⟨ended, last, told⟩ := localResult_clears (r := r) clears
    refine ⟨ended, last, told, fun quiet => ?_⟩
    have cfg := resultChecked_cfg r s
    have side := resultJudged_ownSide (r := r) none
    rw [localResult_eq, clears, onlyIf_true]
    rw [resultChecked_quiet quiet] at cfg ⊢
    generalize resultJudged r s = x at *
    by_cases low : r.rf ≤ s.cfg.rWarn
    · obtain ⟨-, imn, request⟩ := failClearing_failed x
      have isolated : x.imn.heaterIsolated = s.imn.heaterIsolated := congrArg (·.2.2.2.2.1) side
      have own : x.imn.own = ownJudged r s := congrArg (·.2.2.1) side
      rw [if_pos low, clearingResult_fails (by rw [cfg]; exact low), imn]
      refine ⟨isolated, ?_, fun heater => ?_⟩
      · show x.imn.ownFault = _
        rw [show x.imn.ownFault = _ from congrArg (·.2.2.2.1) side, own]
      · rw [request, if_pos (isolated.trans heater)]
    · rw [if_neg low, clearingResult_passes (by rw [cfg]; exact low)]
      exact ⟨rfl, rfl, rfl⟩

end Sys2Proof.Machine
end

section
/-! PROOF. The end of a sweep at a follower, and the start of the next one (R154, R158, R161, R163, R165, R167). -/

namespace Sys2Proof.Machine

variable {s t : State}

/-! ## A sweep's end with a start after it (R154, R163) -/

theorem outcomeOf_eq (o : Byte) (n : Nat) :
    outcomeOf o.toNat n = if o = 1 then .found n else if o = 2 then .notFound else .abandoned := by
  have one : o = 1 ↔ o.toNat = 1 := (BitVec.toNat_inj (y := 1)).symm
  have two : o = 2 ↔ o.toNat = 2 := (BitVec.toNat_inj (y := 2)).symm
  unfold outcomeOf
  simp only [one, two]
  split <;> simp_all

theorem noSweepStarts_iff : NoSweepStarts s ↔
    ¬ (s.imn.mode = .measurer ∧ s.imn.hold = false ∧ s.imn.net.state = some .alarm) := by
  unfold NoSweepStarts
  rw [not_and_or, not_and_or, Bool.not_eq_false]

/-- With a sweep ended without a hold, the next starts as R154 says. -/
theorem sweepReady_ended (o : SweepOutcome) : sweepReady (endSweep o false s) = true ↔ ¬ NoSweepStarts s := by
  rw [sweepReady_iff, noSweepStarts_iff, not_not]
  show SweepRole.none = _ ∧ s.imn.mode = _ ∧ (s.imn.hold || false) = false ∧ _ ↔ _
  rw [Bool.or_false]
  exact ⟨fun h => h.2, fun h => ⟨rfl, h⟩⟩

theorem sweepReady_held (o : SweepOutcome) : sweepReady (endSweep o true s) ≠ true := by
  rw [Ne, sweepReady_iff]
  rintro ⟨-, -, hold, -⟩
  have free : (s.imn.hold || true) = false := hold
  rw [Bool.or_true] at free
  cases free

/-- With the role held, the contactor is commanded closed, and so the sequencer does not wait in its isolation. -/
theorem DriveSafe.moves (drive : DriveSafe s) (measurer : s.imn.mode = .measurer) :
    s.psq.seq ≠ .sweepIsolated .isoWait := by
  intro waits
  have cmd := drive.home (by rw [measurer]; decide)
  obtain drives | energizes := drive.2.1.2.1 cmd
  · rw [waits] at drives
    cases drives
  · rw [waits] at energizes
    cases energizes

theorem releaseTarget_psq (moves : s.psq.seq ≠ .sweepIsolated .isoWait) : (releaseTarget s).psq = s.psq := by
  by_cases none : s.imn.target = none
  · rw [releaseTarget_none none]
  · rw [releaseTarget_some none, if_neg moves]
    split <;> rfl

/-- A sweep that starts after another's end starts from the state before it, but for the target. -/
theorem startSweep_afterEnd {o : SweepOutcome} (moves : s.psq.seq ≠ .sweepIsolated .isoWait) :
    SweepStarted s (startSweep (endSweep o false (releaseTarget s))) := by
  have psq := releaseTarget_psq moves
  have frame := releaseTarget_frame s
  have started := startSweep_started (endSweep o false (releaseTarget s))
  generalize startSweep _ = t at *
  generalize releaseTarget s = x at *
  refine started.congr ?_ ?_ ?_ ?_ ?_ psq.symm ?_
  · show s.imn.jointResult = x.imn.jointResult
    rw [frame]
  · show s.imn.hold = (x.imn.hold || false)
    rw [frame, Bool.or_false]
  · show s.shu.peers = x.shu.peers
    rw [frame]
  · show s.shu.identCopy = x.shu.identCopy
    rw [frame]
  · show s.cfg = x.cfg
    rw [frame]
  · show s.fli = x.fli
    rw [frame]

theorem SweepStarted.acked (h : SweepStarted (Acked s) t) : SweepStarted s t := by
  unfold SweepStarted at h ⊢
  rw [enqueue_eq] at h ⊢
  exact h

/-- A release stays with what follows it. -/
theorem Released.later {u : State} (h : Released s t) (target : u.imn.target = t.imn.target) (psq : u.psq = t.psq)
    (pending : u.imn.pendingRelease = t.imn.pendingRelease) (report : u.shu.sweepTarget = t.shu.sweepTarget)
    (events : ∀ e ∈ t.cpt.events, e ∈ u.cpt.events) : Released s u := by
  unfold Released at h ⊢
  rw [target, psq, pending, report]
  obtain ⟨gone, rest⟩ := h
  refine ⟨gone, ?_⟩
  by_cases none : s.imn.target = none
  · rw [if_pos none] at rest ⊢
    exact rest
  · rw [if_neg none] at rest ⊢
    obtain ⟨off, moved⟩ := rest
    refine ⟨off, ?_⟩
    cases seq : s.psq.seq with
    | sweepIsolated p =>
      rw [seq] at moved
      cases p with
      | isoWait =>
        obtain ⟨record, event⟩ := moved
        exact ⟨record, events _ event⟩
      | _ => exact moved
    | _ =>
      rw [seq] at moved
      exact moved

/-- A sweep ended at a follower with the target released, and no other started (R158, R163). -/
abbrev EndedReleased (o : SweepOutcome) (hold : Bool) (s t : State) : Prop :=
  SweepEnded o hold s t ∧ Released s t ∧ t.imn.ownFault = s.imn.ownFault ∧ t.fli = s.fli ∧
    t.mtr = s.mtr ∧ t.mst = s.mst ∧ t.cfg = s.cfg

theorem endSweep_released (o : SweepOutcome) (hold : Bool) (s : State) :
    EndedReleased o hold s (endSweep o hold (releaseTarget s)) := by
  have frame := releaseTarget_frame s
  have released := releaseTarget_released s
  have seqState : ∀ e ∈ (releaseTarget s).cpt.events, e ∈ (endSweep o hold (releaseTarget s)).cpt.events := fun e mem =>
    mem_raiseEvent _ mem
  generalize releaseTarget s = x at *
  have imn : x.imn = { s.imn with target := none, pendingRelease := x.imn.pendingRelease } := congrArg (·.imn) frame
  refine ⟨⟨rfl, rfl, ?_, raised_mem ..⟩, ?_, ?_, ?_, ?_, ?_, ?_⟩
  · show (x.imn.hold || hold) = _
    rw [imn]
  · exact Released.later released rfl rfl rfl rfl seqState
  · show x.imn.ownFault = _
    rw [imn]
  · exact congrArg (·.fli) frame
  · exact congrArg (·.mtr) frame
  · exact congrArg (·.mst) frame
  · exact congrArg (·.cfg) frame

/-- A follower's result with no FOUND here (R158, R163). -/
theorem takeResult_elsewhere {o x : Byte} (other : o ≠ 1 ∨ x.toNat ≠ s.cfg.station ∨ s.imn.target = none) :
    takeResult (outcomeOf o.toNat x.toNat) s = checkSweepStart
      (endSweep (if o = 1 then .found x.toNat else if o = 2 then .notFound else .abandoned) (o == 1 || o == 2)
        (releaseTarget s)) := by
  rw [outcomeOf_eq]
  by_cases found : o = 1
  · have elsewhere : ¬ (x.toNat = s.cfg.station ∧ s.imn.target.isSome = true) := by
      rintro ⟨here, target⟩
      obtain off | away | none := other
      · exact off found
      · exact away here
      · rw [none] at target
        cases target
    rw [if_pos found]
    unfold takeResult
    dsimp only
    rw [if_neg elsewhere, found]
    rfl
  · rw [if_neg found]
    by_cases missing : o = 2
    · rw [if_pos missing, missing]
      rfl
    · rw [if_neg missing, beq_false_of_ne found, beq_false_of_ne missing]
      rfl

/-! ## FOUND here (R161) -/

/-- FOUND here sets the latch, and where the own verdict does not confirm it, the disagreement (R161). -/
abbrev disagrees (s : State) : Bool :=
  match s.imn.target.bind (·.verdict) with
  | some v => decide (s.cfg.rWarn < v)
  | none => true

/-- The disagreement noted with INSULATION (R161). -/
abbrev disagreementNoted (s : State) : State := raiseEvent .insulation { s with imn.disagreement := true }

theorem foundHere_eq (o : SweepOutcome) (s : State) : foundHere o s =
    endSweep o true (clearTarget (onlyIf (disagrees s) disagreementNoted (setOwnFault s))) := by
  unfold foundHere disagrees
  cases s.imn.target.bind (·.verdict) <;> rfl

theorem disagrees_iff {g : TargetRecord} (target : s.imn.target = some g) :
    disagrees s = true ↔ g.verdict = none ∨ s.cfg.rWarn < g.verdict.getD 0 := by
  unfold disagrees
  rw [target, Option.bind_some]
  cases g.verdict with
  | none => simp
  | some v => simp

/-- What follows the latch as a FOUND ends the sweep: the disagreement, the target's end and SWEEP. -/
theorem foundEnd_frame (o : SweepOutcome) (d : Bool) (x : State) :
    endSweep o true (clearTarget (onlyIf d disagreementNoted x)) = { x with
      imn := { x.imn with
        target := none, pendingRelease := false, sweep := .none, outcome := o, hold := true
        disagreement := x.imn.disagreement || d }
      shu.sweepTarget := false
      cpt.events := (endSweep o true (clearTarget (onlyIf d disagreementNoted x))).cpt.events } := by
  cases d with
  | true =>
    rw [onlyIf_true]
    simp [endSweep, clearTarget, endTargetReport, raiseEvent]
  | false =>
    rw [onlyIf_false]
    simp [endSweep, clearTarget, endTargetReport, raiseEvent]

theorem foundEnd_events (o : SweepOutcome) (d : Bool) (x : State) :
    .sweep ∈ (endSweep o true (clearTarget (onlyIf d disagreementNoted x))).cpt.events ∧
      ∀ e ∈ x.cpt.events, e ∈ (endSweep o true (clearTarget (onlyIf d disagreementNoted x))).cpt.events := by
  refine ⟨raised_mem .., fun e mem => mem_raiseEvent _ ?_⟩
  exact onlyIf_ind (P := fun y : State => e ∈ y.cpt.events) d mem (mem_raiseEvent _ mem)

/-- What FOUND here leaves (R145, R149, R160, R161, R163). -/
theorem foundHere_found {n : Nat} (ready : TellReady s) (following : ∀ r, s.imn.sweep ≠ .leading r) :
    SweepEnded (.found n) true s (foundHere (.found n) s) ∧ (foundHere (.found n) s).imn.ownFault = true ∧
      (foundHere (.found n) s).imn.target = none ∧ (foundHere (.found n) s).shu.sweepTarget = false ∧
      (s.imn.ownFault = false →
        .insulation ∈ (foundHere (.found n) s).cpt.events ∧ LatchTold s (foundHere (.found n) s)) ∧
      (s.imn.ownFault = true → (foundHere (.found n) s).psq = s.psq ∧
        (foundHere (.found n) s).imn.selfCheck = s.imn.selfCheck ∧ (foundHere (.found n) s).mtr = s.mtr ∧
        (foundHere (.found n) s).mst = s.mst) ∧
      ∀ g, s.imn.target = some g → ((foundHere (.found n) s).imn.disagreement = true ↔
        s.imn.disagreement = true ∨ g.verdict = none ∨ s.cfg.rWarn < g.verdict.getD 0) := by
  have side := setOwnFault_ownSide s
  obtain ⟨-, -, -, -, disagreement, -⟩ := setOwnFault_aside ready fun r leads => absurd leads (following r)
  have frame := foundEnd_frame (.found n) (disagrees s) (setOwnFault s)
  obtain ⟨event, events⟩ := foundEnd_events (.found n) (disagrees s) (setOwnFault s)
  have told (clear : s.imn.ownFault = false) (t : State) := latchTold_later (t := t) ready clear
  have raised (clear : s.imn.ownFault = false) := setOwnFault_raised clear
  have rest (set : s.imn.ownFault = true) := setOwnFault_set set
  rw [foundHere_eq]
  generalize setOwnFault s = x at *
  generalize endSweep _ _ _ = t at *
  refine ⟨⟨?_, ?_, ?_, event⟩, ?_, ?_, ?_, fun clear => ⟨events _ (raised clear), ?_⟩, fun set => ?_, fun g target => ?_⟩
  · rw [frame]
  · rw [frame]
  · rw [frame, Bool.or_true]
  · rw [frame]
    exact congrArg (·.2.2.2.1) side
  · rw [frame]
  · rw [frame]
  · refine told clear t ⟨?_, ?_, ?_, ?_, events, ?_, ?_, ?_⟩ ?_ ?_ ?_ ?_ <;> rw [frame]
    · exact id
    · exact fun _ => ⟨rfl, rfl, rfl⟩
    · exact fun _ => rfl
  · obtain rfl := rest set
    rw [frame]
    exact ⟨rfl, rfl, rfl, rfl⟩
  · rw [frame]
    show (x.imn.disagreement || disagrees s) = true ↔ _
    rw [Bool.or_eq_true, disagreement, disagrees_iff target]

theorem TellReady.acked (ready : TellReady s) : TellReady (Acked s) :=
  ⟨ready.settled, ready.joins, ready.leaves, ready.closed, ready.quiet⟩

/-- A sweep's end without a start after it. -/
theorem checkSweepStart_ended {o : SweepOutcome} {hold : Bool} {x : State} (rests : hold = true ∨ NoSweepStarts x) :
    checkSweepStart (endSweep o hold x) = endSweep o hold x := by
  refine checkSweepStart_unready ?_
  cases hold with
  | true => exact sweepReady_held o
  | false => exact fun ready => (sweepReady_ended o).1 ready (rests.resolve_left (by decide))

theorem releaseTarget_quiet : NoSweepStarts (releaseTarget s) ↔ NoSweepStarts s := by
  unfold NoSweepStarts
  rw [releaseTarget_frame]

/-- The leader's silence ends the sweep before the target is released (R165). -/
theorem silence_ended (s : State) : EndedReleased .abandoned false s (releaseTarget (endSweep .abandoned false s)) := by
  have frame := releaseTarget_frame (endSweep .abandoned false s)
  have released := releaseTarget_released (endSweep .abandoned false s)
  have event := mem_releaseTarget (s := endSweep .abandoned false s) (e := .sweep) (raised_mem ..)
  generalize releaseTarget _ = x at *
  refine ⟨⟨?_, ?_, ?_, event⟩, released, ?_, ?_, ?_, ?_, ?_⟩ <;> rw [frame] <;> rfl

theorem silence_ready : sweepReady (releaseTarget (endSweep .abandoned false s)) = true ↔
    s.imn.mode = .measurer ∧ s.imn.hold = false ∧ s.imn.net.state = some .alarm := by
  have frame := releaseTarget_frame (endSweep .abandoned false s)
  generalize releaseTarget _ = x at *
  rw [sweepReady_iff, frame]
  show SweepRole.none = _ ∧ s.imn.mode = _ ∧ (s.imn.hold || false) = false ∧ _ ↔ _
  rw [Bool.or_false]
  exact ⟨fun h => h.2, fun h => ⟨rfl, h⟩⟩

theorem silence_started (moves : s.psq.seq ≠ .sweepIsolated .isoWait) :
    SweepStarted s (startSweep (releaseTarget (endSweep .abandoned false s))) := by
  have psq := releaseTarget_psq (s := endSweep .abandoned false s) moves
  have frame := releaseTarget_frame (endSweep .abandoned false s)
  have started := startSweep_started (releaseTarget (endSweep .abandoned false s))
  generalize startSweep _ = t at *
  generalize releaseTarget _ = x at *
  refine started.congr ?_ ?_ ?_ ?_ ?_ psq.symm ?_ <;> rw [frame]
  · rfl
  · exact (Bool.or_false _).symm
  all_goals rfl

/-- A sweep that goes on has not started the hold (R154, R167). -/
theorem startSweep_hold (free : s.imn.hold = false) (leads : (startSweep s).imn.sweep ≠ .none) :
    (startSweep s).imn.hold = false := by
  have imn := startStep_imn (sweepRecord s) (sweepAlerted s)
  rw [← startSweep_eq] at imn
  rw [imn] at leads ⊢
  have held : (sweepAlerted s).imn.hold = false := free
  split
  · exact held
  · split
    · exact held
    next apart home =>
      rw [if_neg apart, if_neg home] at leads
      exact absurd rfl leads

/-- Settles O46: SWEEP_RESULT, the leader's silence and the hold's end close a follower's sweep. -/
theorem resultsEndAFollowersSweep : Obligations.ResultsEndAFollowersSweep := by
  unfold Obligations.ResultsEndAFollowersSweep
  intro s n id o x u settled drive regulated
  have result (ready : Delivered ⟨n, id, .sweepResult o x u⟩ s) :
      exec (.sweepResultReceived n id o x u) s = .next (takeSweepResult n.toNat o.toNat x.toNat (Acked s)) :=
    (whenRunning_running ready.1).trans (congrArg _ (receive_delivered ready))
  have from_sweep (q : SweepRole) (sweep : s.imn.sweep = q) : (Acked s).imn.sweep = q := sweep
  refine ⟨fun ready on off => ?_, fun ready role => ?_, fun run => ?_, fun run => ?_⟩
  · rw [result ready]
    unfold takeSweepResult
    cases sweep : s.imn.sweep with
    | following l b =>
      refine congrArg _ (if_neg fun same => ?_)
      cases b with
      | true => exact on (by rw [sweep, same])
      | false => exact off (by rw [sweep, same])
    | _ => rfl
  · obtain ⟨b, sweep⟩ : ∃ b, s.imn.sweep = .following n.toNat b := by
      obtain on | off := role
      exacts [⟨_, on⟩, ⟨_, off⟩]
    have taken : takeSweepResult n.toNat o.toNat x.toNat (Acked s) = takeResult (outcomeOf o.toNat x.toNat) (Acked s) := by
      unfold takeSweepResult
      rw [from_sweep _ sweep]
      exact if_pos rfl
    rw [result ready, taken]
    refine ⟨fun found here target => ?_, fun other quiet => ?_, fun found missing starts => ?_⟩
    · have following : ∀ r, (Acked s).imn.sweep ≠ .leading r := fun r leads => nomatch sweep.symm.trans leads
      have told := (drive.tellReady settled (.inr fun r leads => absurd leads (following r))).acked
      have isFound : takeResult (outcomeOf o.toNat x.toNat) (Acked s) =
          checkSweepStart (foundHere (.found x.toNat) (Acked s)) := by
        rw [outcomeOf_eq, if_pos found]
        unfold takeResult
        dsimp only
        rw [if_pos ⟨here, Option.isSome_iff_ne_none.2 target⟩]
      rw [isFound, foundHere_eq, checkSweepStart_ended (.inl rfl), ← foundHere_eq]
      exact ⟨_, rfl, foundHere_found told following⟩
    · rw [takeResult_elsewhere (s := Acked s) other, checkSweepStart_ended]
      · obtain ⟨ended, released, latch, fli, mtr, mst, cfg⟩ := endSweep_released
          (if o = 1 then .found x.toNat else if o = 2 then .notFound else .abandoned) (o == 1 || o == 2) (Acked s)
        exact ⟨_, rfl, ended, released, latch, fli, mtr, mst, cfg⟩
      · by_cases found : o = 1
        · exact .inl (by rw [found]; rfl)
        · by_cases missing : o = 2
          · exact .inl (by rw [missing]; rfl)
          · exact .inr (releaseTarget_quiet.2 (quiet found missing))
    · have measurer := (not_not.1 (mt noSweepStarts_iff.2 starts)).1
      rw [takeResult_elsewhere (s := Acked s) (.inl found), beq_false_of_ne found, beq_false_of_ne missing, Bool.or_false,
        checkSweepStart_ready ((sweepReady_ended _).2 (mt (releaseTarget_quiet (s := Acked s)).1 starts))]
      exact ⟨_, rfl, SweepStarted.acked (startSweep_afterEnd (s := Acked s) (drive.moves measurer))⟩
  · have row : exec .leaderSilenceExpiry s = .next (leaderSilenceExpiry s) := whenRunning_running run
    rw [row]
    unfold leaderSilenceExpiry
    cases sweep : s.imn.sweep with
    | following l b =>
      cases b with
      | false => rfl
      | true =>
        dsimp only
        split
        next starts =>
          rw [checkSweepStart_ready (silence_ready.2 starts)]
          exact ⟨_, rfl, silence_started (drive.moves starts.1)⟩
        next rests =>
          rw [checkSweepStart_unready fun ready => rests (silence_ready.1 ready)]
          exact ⟨_, rfl, silence_ended s⟩
    | _ => rfl
  · have row : exec .sweepHoldExpiry s = .next (sweepHoldExpiry s) := whenRunning_running run
    rw [row]
    unfold sweepHoldExpiry
    cases hold : s.imn.hold with
    | false => rfl
    | true =>
      rw [if_neg (by decide), if_pos rfl]
      by_cases starts : s.imn.mode = .measurer ∧ s.imn.net.state = some .alarm ∧ s.imn.sweep = .none
      · obtain ⟨measurer, alarm, none⟩ := starts
        rw [if_pos ⟨measurer, alarm, none⟩, checkSweepStart_ready (s := { s with imn.hold := false }) (sweepReady_iff.2 ⟨none, measurer, rfl, alarm⟩)]
        obtain ⟨-, cfg, -, -, mst, -⟩ := startSweep_keeps { s with imn.hold := false }
        refine ⟨_, rfl, startSweep_started _, ?_, startSweep_hold rfl, mst, cfg⟩
        rw [startSweep_imn]
        exact measurer
      · rw [if_neg starts, checkSweepStart_unready fun ready => ?_]
        obtain ⟨none, measurer, -, alarm⟩ := sweepReady_iff.1 ready
        exact starts ⟨measurer, alarm, none⟩

end Sys2Proof.Machine
end

section
/-! PROOF. The operations that leave the sequencer, the relays, the monitor and the session as they are: events, the
store, the meter, the queues, the chain, the heater and the scans. -/

namespace Sys2Proof.Machine

variable {r s t : State}

/-- What the drive's and the injection's invariants look at (R4, R5, R97 to R99, R137, R147, R183). -/
def outer (s : State) :=
  (s.power, s.cfg, s.psq, s.imn, s.shu.peers, s.shu.identCopy, s.shu.session, s.ptu.enable, s.ptu.trip,
    s.cpt.configured, s.mtr.session.isSome)

/-- `s` agrees with `r` in all of it. -/
def Same (r s : State) : Prop := outer s = outer r

theorem Same.refl (s : State) : Same s s := rfl

theorem Same.plain (h : Same r s) (e : outer t = outer s) : Same r t := e.trans h

theorem Same.onlyIf (c : Bool) {f : State → State} (h : Same r s) (k : Same r (f s)) :
    Same r (onlyIf c f s) := onlyIf_ind (P := Same r) c h k

/-! ## Events, replies and the store -/

theorem Same.raiseEvent (h : Same r s) (k : EventKind) : Same r (raiseEvent k s) := h

theorem Same.answer (h : Same r s) (x : Status) (b : ReplyBody) : Same r (answer x b s) := h

theorem Same.answerEmpty (h : Same r s) (x : Status) : Same r (answerEmpty x s) := h

theorem Same.queueWrite (h : Same r s) (w : PageWrite) : Same r (queueWrite w s) :=
  Same.onlyIf _ h h

theorem Same.queueCounters (h : Same r s) : Same r (queueCounters s) := h.queueWrite _

theorem Same.queueSnapshot (h : Same r s) (c : Checkpoint) : Same r (queueSnapshot c s) := by
  refine Same.queueWrite ?_ _
  exact h

theorem Same.takeCheckpoint (h : Same r s) : Same r (takeCheckpoint s) := by
  unfold Machine.takeCheckpoint
  dsimp only
  split
  · exact (h.queueCounters.queueSnapshot _).plain rfl
  · exact h.queueCounters.plain rfl

theorem Same.checkpointIfDue (h : Same r s) : Same r (checkpointIfDue s) := h.onlyIf _ h.takeCheckpoint

theorem Same.raiseSessionCounter (h : Same r s) : Same r (raiseSessionCounter s) := by
  refine Same.queueCounters ?_
  exact h

theorem Same.joinQueue (h : Same r s) (p : Place) (x : SessionRecord) : Same r (joinQueue p x s) := h

theorem Same.placeRecord (h : Same r s) (b : SessionBase) (cause : EndCause) (stored : Bool) :
    Same r (placeRecord b cause stored s) := by
  unfold Machine.placeRecord
  dsimp only
  split
  · exact ((h.joinQueue _ _).queueCounters).queueWrite _
  · split
    · refine Same.queueWrite (Same.queueCounters ?_) _
      exact h
    · have k : Same r (Machine.queueCounters { s with mst.waiting := some (recordOf b cause) }) :=
        Same.queueCounters (s := { s with mst.waiting := some (recordOf b cause) }) h
      exact k.onlyIf _ (k.queueSnapshot _)

theorem Same.completeWrite (h : Same r s) : Same r (completeWrite s) := by
  unfold Machine.completeWrite
  split
  · exact h
  · dsimp only
    split
    · refine Same.queueWrite ?_ _
      exact h
    · exact h

theorem Same.removeOldest (h : Same r s) (oldest : Report) (rest : List Report) :
    Same r (removeOldest oldest rest s) := by
  unfold Machine.removeOldest
  dsimp only
  refine Same.queueWrite (Same.queueWrite ?_ _) _
  unfold moveStacked
  split
  · exact h
  · exact h

/-! ## The meter (R169 to R181) -/

/-- The session stays open or closed. -/
theorem Same.meter (h : Same r s) (m : Mtr) (session : m.session.isSome = s.mtr.session.isSome) :
    Same r { s with mtr := m } :=
  h.plain (by unfold outer; rw [session])

theorem Same.markSession (h : Same r s) (f : SessionFlags → SessionFlags) : Same r (markSession f s) :=
  h.meter _ (by simp)

theorem Same.nearEndCheck (h : Same r s) : Same r (nearEndCheck s) := by
  unfold Machine.nearEndCheck
  split
  next base x was =>
    dsimp only
    refine Same.onlyIf _ ?_ ?_
    · exact h.meter _ (by rw [was]; rfl)
    · exact h.meter _ (by rw [was]; rfl)
  · exact h

theorem Same.endChain (h : Same r s) : Same r (endChain s) := h.meter _ (by simp)

theorem Same.chainEnd (h : Same r s) (cause : EndCause) (suspend : Bool) :
    Same r (chainEnd cause suspend s).1 := by
  unfold Machine.chainEnd chainEndEvent
  dsimp only
  split
  · exact h.endChain.raiseEvent _
  · exact h.endChain

theorem Same.activate (h : Same r s) (c : DescCopy) : Same r (activate c s).1 := by
  unfold Machine.activate
  split
  · exact h
  next ss was =>
    dsimp only
    split
    · exact h.chainEnd _ _
    · refine Same.nearEndCheck (Same.takeCheckpoint ?_)
      exact h.meter _ (by rw [was]; rfl)

theorem Same.activatePrefetched (h : Same r s) : Same r (activatePrefetched s).1 := by
  unfold Machine.activatePrefetched
  split
  · exact h.activate _
  · exact h

theorem Same.onLastItem (h : Same r s) (f : LineItem → LineItem) : Same r (onLastItem f s) :=
  h.meter _ (by simp)

theorem Same.applyPair (fuel : Nat) (first : Bool) (e c : Nat) (h : Same r s) :
    Same r (applyPair fuel first e c s).1 := by
  induction fuel generalizing first e c s with
  | zero => exact h
  | succ n ih =>
    unfold Machine.applyPair
    split
    next => exact h
    next => exact h.onLastItem _
    next base x was =>
      dsimp only
      have k : Same r (Machine.onLastItem (.add (x.take first e c).2.1 (x.take first e c).2.2)
          { s with mtr.session := some ⟨base, some (x.take first e c).1⟩ }) :=
        Same.onLastItem (h.meter _ (by rw [was]; rfl)) _
      split
      next =>
        split
        next =>
          split
          next => exact (k.chainEnd _ _).onLastItem _
          next d _ =>
            have a := k.activate d
            split
            next t q asks =>
              rw [asks] at a
              exact a.onLastItem _
            next t goes =>
              rw [goes] at a
              split
              · exact a
              · exact ih false _ _ a
        next => exact (k.chainEnd _ _).onLastItem _
      next => exact k.nearEndCheck

theorem Same.meterInterval (h : Same r s) : Same r (meterInterval s).1 := by
  unfold Machine.meterInterval formEnergies
  dsimp only
  refine Same.checkpointIfDue (Same.applyPair _ _ _ _ ?_)
  have k := h.onlyIf (decide ((s.mtr.importCarry : Int) + s.mtr.powerSum < -(samplesPerMwh : Int)))
    (h.markSession fun f => { f with reverseFlow := true })
  refine Same.meter ?_ _ (by simp)
  exact k.plain rfl

theorem Same.extend (h : Same r s) (next : Byte) : Same r (extend next s) := by
  unfold Machine.extend
  split
  · exact h
  next ss was =>
    split
    · exact h
    · split
      · exact h
      · split
        · exact h
        · split
          · exact h
          · refine Same.answerEmpty ?_ _
            exact h.meter _ (by rw [was]; rfl)

/-! ## The transmit queue (R39, R40) -/

theorem Same.enqueue (h : Same r s) (b : FrameBody) : Same r (enqueue b s) := by
  unfold Machine.enqueue
  split
  · exact h
  · exact h

theorem Same.startAttempt (h : Same r s) : Same r (startAttempt s) := by
  unfold Machine.startAttempt
  split
  · exact h
  · exact h

/-! ## The chain, the share and fallback (R53, R60 to R64, R73, R77) -/

theorem Same.onlyChain (h : Same r s) (chain : OnlyChain s t) : Same r t := by
  rw [chain]
  exact h

theorem Same.evaluate (h : Same r s) : Same r (evaluate s) := h.onlyChain (evaluate_onlyChain s)

theorem Same.evaluateAndHand (h : Same r s) : Same r (evaluateAndHand s) :=
  h.onlyChain (evaluateAndHand_onlyChain s)

theorem Same.extraAndEvaluate (h : Same r s) : Same r (extraAndEvaluate s) :=
  h.onlyChain (extraAndEvaluate_onlyChain s)

theorem Same.reportTarget (h : Same r s) : Same r (reportTarget s) := by
  refine Same.extraAndEvaluate ?_
  exact h

theorem Same.updateFallback (h : Same r s) : Same r (updateFallback s) := by
  unfold Machine.updateFallback
  dsimp only
  split
  · unfold enterFallback
    refine Same.evaluate (Same.onlyChain ?_ (keepFallback_onlyChain _))
    refine Same.markSession (Same.raiseEvent ?_ _) _
    exact h
  · refine Same.evaluate (Same.raiseEvent ?_ _)
    exact h
  · exact h

/-- A full computation leaves everything but SHU's results (R57). -/
theorem Same.fullComputation (h : Same r s) : Same r (fullComputation s) := by
  rw [fullComputation_shu]
  exact h

/-! ## The grid, the ramp and the loops (R72, R81 to R85) -/

theorem Same.newRms (h : Same r s) (k : Phase) : Same r (newRms k s) := by
  unfold Machine.newRms
  dsimp only
  split
  · refine Same.evaluate (Same.onlyIf _ ?_ ?_) <;> exact h
  · refine Same.evaluateAndHand (Same.onlyIf _ ?_ ?_) <;> exact h

theorem Same.takeOutOfRange (h : Same r s) (b : Bool) : Same r (takeOutOfRange b s) := by
  unfold Machine.takeOutOfRange
  dsimp only
  split
  · exact h
  · refine Same.evaluateAndHand ?_
    exact h

theorem Same.rampEvent (h : Same r s) : Same r (rampEvent s) := by
  unfold Machine.rampEvent
  dsimp only
  split
  · exact h.evaluate.plain rfl
  · exact h.evaluate

theorem Same.loopEvent (h : Same r s) : Same r (loopEvent s) := by
  unfold Machine.loopEvent
  split
  · refine Same.onlyIf _ ?_ ?_ <;> exact h
  · exact h

theorem Same.freshnessExpiry (h : Same r s) : Same r (freshnessExpiry s) := by
  unfold Machine.freshnessExpiry
  split
  · refine Same.evaluateAndHand (Same.raiseEvent ?_ _)
    exact h
  · exact h

/-! ## The heater (R122 to R134) -/

theorem Same.formBudget (h : Same r s) : Same r (formBudget s) := by
  unfold Machine.formBudget
  dsimp only
  refine Same.onlyIf _ ?_ ?_ <;> exact h

theorem Same.followRelay (h : Same r s) : Same r (followRelay s) := by
  unfold Machine.followRelay
  split <;> exact h

theorem Same.formRequest (h : Same r s) : Same r (formRequest s) := by
  refine Same.formBudget ?_
  exact h

theorem Same.handHeatRequest (h : Same r s) : Same r (handHeatRequest s) := by
  refine Same.evaluateAndHand ?_
  exact h

theorem Same.heaterTripped (h : Same r s) : Same r (heaterTripped s) := h

theorem Same.selectHeater (h : Same r s) : Same r (selectHeater s) := by
  unfold Machine.selectHeater
  dsimp only
  have k (c : HeaterState) : Same r (Machine.formRequest (Machine.followRelay { s with htr.state := c })) := by
    refine Same.formRequest (Same.followRelay ?_)
    exact h
  split
  · exact k _
  · exact (k _).handHeatRequest

theorem Same.setIsolate (h : Same r s) (b : Bool) : Same r (setIsolate b s) := by
  unfold Machine.setIsolate
  split
  · exact h
  · refine Same.selectHeater ?_
    exact h

theorem Same.takeTemperature (h : Same r s) : Same r (takeTemperature s) := by
  refine Same.handHeatRequest ?_
  refine Same.plain (s := Machine.selectHeater { s with htr.tBat := batteryTemperature s }) ?_ rfl
  refine Same.selectHeater ?_
  exact h

theorem Same.heaterOvercurrent (h : Same r s) : Same r (heaterOvercurrent s) := by
  have k : Same r (Machine.selectHeater { s with htr.overcurrent := true }) := by
    refine Same.selectHeater ?_
    exact h
  exact k.onlyIf _ k

theorem Same.heaterOpenDetect (h : Same r s) : Same r (heaterOpenDetect s) := by
  unfold Machine.heaterOpenDetect
  split
  · refine Same.raiseEvent (Same.selectHeater ?_) _
    exact h
  · exact h

theorem Same.heaterEvent (h : Same r s) : Same r (heaterEvent s) := h.heaterOpenDetect.plain rfl

/-! ## Scans and crossings (R108 to R119) -/

theorem Same.spanLapse (h : Same r s) (k : Phase) : Same r (spanLapse k s) := by
  unfold Machine.spanLapse
  split
  · refine Same.newRms ?_ _
    exact h
  · exact h

theorem Same.setOutOfRange (h : Same r s) (b : Bool) : Same r (setOutOfRange b s) :=
  (h.onlyIf _ (h.raiseEvent _)).takeOutOfRange _

theorem Same.phaseResult (h : Same r s) (k : Phase) : Same r (phaseResult k s) := by
  unfold Machine.phaseResult lineCrossing
  dsimp only
  split
  · have t : Same r { s with msq.phases := s.msq.phases.set k ((s.msq.phases.get k).cross
        (slotValue (voltageSlot k) s) (slotValue (currentSlot k) s)) } := h
    have u := t.onlyIf (s.msq.phases.get k).seen (t.newRms k)
    split
    · split
      · refine Same.setOutOfRange ?_ _
        exact u.plain rfl
      · exact u.plain rfl
    · exact u
  · exact h

theorem Same.linePeriodLapse (h : Same r s) : Same r (linePeriodLapse s) := by
  unfold Machine.linePeriodLapse
  split
  · exact h.setOutOfRange _
  · exact h

theorem Same.startFastScan (h : Same r s) : Same r (startFastScan s) := by
  unfold Machine.startFastScan
  split <;> exact h

theorem Same.slowScanExpiry (h : Same r s) : Same r (slowScanExpiry s) := by
  unfold Machine.slowScanExpiry
  split <;> exact h

theorem Same.troughCounters (h : Same r s) : Same r (troughCounters s) := by
  unfold Machine.troughCounters
  split
  · dsimp only
    split
    · exact h
    · refine Same.takeOutOfRange ?_ _
      exact h
  · exact h

theorem Same.carrierTrough (h : Same r s) : Same r (carrierTrough s) := by
  refine Same.startFastScan ?_
  exact h.loopEvent.linePeriodLapse.troughCounters.plain rfl

theorem Same.readMeasure (h : Same r s) (slot clear : Byte) : Same r (readMeasure slot clear s) := by
  unfold Machine.readMeasure
  split
  · split
    · exact h
    · exact Same.onlyIf _ h h
  · exact h

end Sys2Proof.Machine
end

section
/-! PROOF. The drive as the invariant sees it: a bound on the sequencer's record, the latch, the output enable, the
monitor's mode and the session, and what each operation does to it (R4, R5, R19, R97 to R99, R138, R174, R183). -/

namespace Sys2Proof.Machine

/-! ## The bound -/

/-- The sequencer's record with what may hold beside it (`running` to `unset`) and what surely holds (`alone` to
`closed`): the part runs, its output enable is set, its latch is set, the monitor has left LOCAL, the own-side fault is
latched, CONFIGURE is still to come; no peer is known, SESSION is clear, no session is open. -/
structure Drive where
  psq : Psq
  running : Prop
  enable : Prop
  trip : Prop
  away : Prop
  fault : Prop
  unset : Prop
  alone : Prop
  idle : Prop
  closed : Prop

/-- The state stays within the bound. -/
structure At (d : Drive) (s : State) : Prop where
  psq : s.psq = d.psq
  running : s.power = .running → d.running
  enable : s.ptu.enable = true → d.enable
  trip : tripped s = true → d.trip
  away : s.imn.mode ≠ .localMode → d.away
  fault : s.imn.ownFault = true → d.fault
  unset : s.cpt.configured = false → d.unset
  alone : d.alone → s.shu.peers = []
  idle : d.idle → s.shu.session = false
  closed : d.closed → s.mtr.session = none

/-- The bound of a state itself. -/
def driveOf (s : State) : Drive where
  psq := s.psq
  running := s.power = .running
  enable := s.ptu.enable = true
  trip := tripped s = true
  away := s.imn.mode ≠ .localMode
  fault := s.imn.ownFault = true
  unset := s.cpt.configured = false
  alone := s.shu.peers = []
  idle := s.shu.session = false
  closed := s.mtr.session = none

/-- `DriveSafe` of a bound. With `weld` false nothing is said of a contactor that reads closed (R5): so it is while a
weld is still to be found. -/
structure Drive.Safe (weld : Prop) (d : Drive) : Prop where
  cuts : d.trip → ¬ d.enable
  drives : d.enable → d.psq.contactorCmd = true ∧ d.psq.seq.drives = true
  contactor : d.psq.contactorCmd = true → d.psq.seq.drives = true ∨ d.psq.seq.energizes = true
  precharge : d.psq.prechargeCmd = true → d.psq.seq.energizes = true
  trips : d.trip → d.psq.seq.tripsToFault = false
  welds : weld → d.running → d.psq.contactorFb = true →
    d.psq.contactorCmd = true ∨ d.psq.contactorSup = true ∨ d.psq.seq = .fault
  closing : d.psq.contactorTimer = true → d.psq.contactorCmd = true ∧ d.psq.seq.energizes = true
  charging : d.psq.prechargeTimer = true → d.psq.contactorTimer = false ∧ d.psq.seq.energizes = true
  asking : d.psq.identTimer = true ∨ d.psq.query = true → d.psq.seq = .identifying
  cancel : d.psq.cancelPending = true →
    d.psq.seq = .precharge ∧ d.psq.prechargeTimer = false ∧ d.psq.contactorTimer = false ∧
      d.psq.contactorCmd = false ∧ d.psq.prechargeCmd = false
  waits : d.psq.seq = .sweepIsolated .isoWait → d.psq.stopCause = none
  rejoins : d.psq.seq = .sweepIsolated .isoRejoin ∧ d.psq.stopCause ≠ none →
    d.psq.prechargeTimer = false ∧ d.psq.contactorTimer = false ∧ d.psq.contactorCmd = false ∧
      d.psq.prechargeCmd = false
  joined : d.away → d.psq.contactorCmd = true
  home : d.psq.seq.energizes = true → ¬ d.away
  faulty : d.fault → d.psq.seq ≠ .precharge ∧ d.psq.seq ≠ .active ∧ d.psq.seq ≠ .suspended ∧
    (d.psq.seq.isolated = true → d.psq.stopCause ≠ none)
  early : d.unset →
    (d.psq.seq = .unplugged ∨ d.psq.seq = .plugSettle ∨ d.psq.seq = .plugged ∨ d.psq.seq = .fault) ∧
      d.psq.ident = none ∧ d.alone ∧ d.idle
  session : d.closed ∨ d.psq.seq.holdsSession = true

variable {d : Drive} {s t : State} {weld : Prop}

theorem At.of (s : State) : At (driveOf s) s := ⟨rfl, id, id, id, id, id, id, id, id, id⟩

theorem DriveSafe.drive (h : DriveSafe s) : (driveOf s).Safe True := by
  obtain ⟨cuts, ⟨a, b, c, e, f⟩, ⟨g, i, j, k, l, m, n, o⟩, p, q, r⟩ := h
  exact
    { cuts := fun x => by simpa [driveOf] using cuts x
      drives := a, contactor := b, precharge := c, trips := e
      welds := fun _ x y => f ⟨x, y⟩
      closing := g, charging := i, asking := j, cancel := k, waits := l, rejoins := m, joined := n
      home := fun x y => y (o x)
      faulty := p, early := q
      session := by
        by_cases closed : s.mtr.session = none
        · exact .inl closed
        · exact .inr (r closed) }

/-- A state within a safe bound is safe. -/
theorem At.safe (h : At d s) (k : d.Safe True) : DriveSafe s := by
  obtain ⟨psq, running, enable, trip, away, fault, unset, alone, idle, closed⟩ := h
  unfold DriveSafe TripCutsOutputs RelaysSafe TimersSafe OwnFaultSafe UnconfiguredSafe SessionSafe
  rw [psq]
  refine ⟨fun x => ?_, ⟨fun x => k.drives (enable x), k.contactor, k.precharge, fun x => k.trips (trip x),
    fun ⟨x, y⟩ => k.welds trivial (running x) y⟩, ⟨k.closing, k.charging, k.asking, k.cancel, k.waits, k.rejoins,
    fun x => k.joined (away x), fun x => ?_⟩, fun x => k.faulty (fault x), fun x => ?_, fun x => ?_⟩
  · exact Bool.eq_false_iff.2 fun y => k.cuts (trip x) (enable y)
  · by_contra y
    exact k.home x (away y)
  · obtain ⟨a, b, c, e⟩ := k.early (unset x)
    exact ⟨a, b, alone c, idle e⟩
  · exact k.session.resolve_left fun y => x (closed y)

/-! ## Operations that leave the bound -/

theorem At.same (h : At d s) (k : Same s t) : At d t := by
  unfold Same outer at k
  simp only [Prod.mk.injEq] at k
  obtain ⟨power, -, psq, imn, peers, -, session, enable, trip, configured, opened⟩ := k
  obtain ⟨a, b, c, e, f, g, i, j, l, m⟩ := h
  refine ⟨psq.trans a, ?_, ?_, ?_, ?_, ?_, ?_, ?_, ?_, ?_⟩
  · rw [power]; exact b
  · rw [enable]; exact c
  · unfold tripped; rw [trip]; exact e
  · rw [imn]; exact f
  · rw [imn]; exact g
  · rw [configured]; exact i
  · rw [peers]; exact j
  · rw [session]; exact l
  · intro x
    rw [m x] at opened
    simpa using opened

theorem At.plain (h : At d s) (e : outer t = outer s) : At d t := h.same e

theorem At.onlyIf (c : Bool) {f : State → State} (h : At d s) (k : At d (f s)) : At d (onlyIf c f s) :=
  onlyIf_ind (P := At d) c h k

/-- The bound may be loosened. -/
theorem At.loosen {e : Drive} (h : At d s) (psq : e.psq = d.psq) (running : d.running → e.running)
    (enable : d.enable → e.enable) (trip : d.trip → e.trip) (away : d.away → e.away)
    (fault : d.fault → e.fault) (unset : d.unset → e.unset) (alone : e.alone → d.alone)
    (idle : e.idle → d.idle) (closed : e.closed → d.closed) : At e s :=
  ⟨h.psq.trans psq.symm, running ∘ h.running, enable ∘ h.enable, trip ∘ h.trip, away ∘ h.away, fault ∘ h.fault,
    unset ∘ h.unset, h.alone ∘ alone, h.idle ∘ idle, h.closed ∘ closed⟩

/-- The monitor's record changes, but neither leaves LOCAL nor latches the fault. -/
theorem At.monitor (h : At d s) (m : Imn) (away : m.mode ≠ .localMode → s.imn.mode ≠ .localMode)
    (fault : m.ownFault = true → s.imn.ownFault = true) : At d { s with imn := m } :=
  { h with away := h.away ∘ away, fault := h.fault ∘ fault }

/-- The sequencer's record changes. -/
theorem At.sequencer (h : At d s) (p : Psq) : At { d with psq := p } { s with psq := p } :=
  { h with psq := rfl }

theorem At.raiseEvent (h : At d s) (k : EventKind) : At d (raiseEvent k s) := h.same rfl

theorem At.enqueue (h : At d s) (b : FrameBody) : At d (enqueue b s) := h.same (Same.refl s |>.enqueue b)

theorem At.markSession (h : At d s) (f : SessionFlags → SessionFlags) : At d (markSession f s) :=
  h.same ((Same.refl s).markSession f)

theorem At.setIsolate (h : At d s) (b : Bool) : At d (setIsolate b s) := h.same ((Same.refl s).setIsolate b)

theorem At.evaluateAndHand (h : At d s) : At d (evaluateAndHand s) := h.same (Same.refl s).evaluateAndHand

theorem At.updateFallback (h : At d s) : At d (updateFallback s) := h.same (Same.refl s).updateFallback

/-! ## The monitor (R137 to R166) -/

theorem At.noteChange (h : At d s) (old new : Evaluation) : At d (noteChange old new s) := by
  unfold Machine.noteChange
  dsimp only
  split
  · exact h
  · exact (h.onlyIf _ (h.markSession _)).raiseEvent _

theorem At.judgeOwn (h : At d s) (x : Nat) : At d (judgeOwn x s) := by
  refine At.noteChange ?_ _ _
  exact h.monitor _ id id

theorem At.judgeNet (h : At d s) (x : Nat) : At d (judgeNet x s) := by
  refine At.noteChange ?_ _ _
  exact h.monitor _ id id

theorem At.startCycle (h : At d s) : At d (startCycle s) := h.monitor _ id id

theorem At.endUnmonitored (h : At d s) : At d (endUnmonitored s) := by
  have k : At d { s with imn.unmonitored := false, imn.unmonTimer := false } := h.monitor _ id id
  exact k.onlyIf _ (k.raiseEvent _)

theorem At.startSelfCheck (h : At d s) : At d (startSelfCheck s) := by
  unfold Machine.startSelfCheck
  split
  · split
    · exact h.monitor _ id id
    · refine At.startCycle (At.setIsolate ?_ _)
      exact h.monitor _ id id
  · exact h

theorem At.failSelfCheck (h : At d s) : At d (failSelfCheck s) := by
  refine At.raiseEvent (At.setIsolate ?_ _) _
  exact h.monitor _ id id

theorem At.failClearing (h : At d s) : At d (failClearing s) := by
  have k : At d { s with imn.clearing := false, imn.lastClearing := some false } := h.monitor _ id id
  exact (k.onlyIf _ (k.setIsolate _)).raiseEvent _

theorem At.endLocalChecks (h : At d s) : At d (endLocalChecks s) := by
  have k := h.onlyIf s.imn.selfCheck.isRunning h.failSelfCheck
  exact k.onlyIf _ k.failClearing

theorem At.clearTarget (h : At d s) : At d (clearTarget s) := by
  refine At.plain (s := { s with imn.target := none, imn.pendingRelease := false }) ?_ rfl
  exact h.monitor _ id id

theorem At.endSweep (h : At d s) (o : SweepOutcome) (hold : Bool) : At d (endSweep o hold s) := by
  refine At.raiseEvent ?_ _
  exact h.monitor _ id id

theorem At.endLeading (h : At d s) (l : LeaderRecord) (o : SweepOutcome) (hold : Bool) :
    At d (endLeading l o hold s) := ((h.enqueue _).endSweep o hold).clearTarget

theorem At.sweepOffline (h : At d s) : At d (sweepOffline s) := by
  refine At.clearTarget ?_
  exact h.monitor _ id id

theorem At.abandonSweep (h : At d s) : At d (abandonSweep s) := by
  unfold Machine.abandonSweep
  split
  · exact h.endLeading _ _ _
  · exact h

theorem At.yieldRole (h : At d s) : At d (yieldRole s) := by
  unfold Machine.yieldRole
  split
  next role =>
    refine At.abandonSweep (At.plain (s := Machine.stopInjection
      { s with imn.mode := .passive, imn.clearCount := 0, imn.unmonTimer := true }) ?_ rfl)
    exact h.monitor _ (fun _ => by rw [role]; simp) id
  · exact h

theorem At.interference (h : At d s) : At d (interference s) := by
  refine At.raiseEvent ?_ _
  exact h.yieldRole.monitor _ id id

theorem At.forgetNet (h : At d s) : At d (forgetNet s) := by
  have k : At d { s with imn.net := .none } := h.monitor _ id id
  exact k.onlyIf _ (k.raiseEvent _)

theorem At.enterLocal (h : At d s) : At d (enterLocal s) := by
  refine At.startSelfCheck (At.startCycle (At.forgetNet (At.endUnmonitored ?_)))
  exact h.monitor _ (fun x => absurd rfl x) id

theorem At.loseRole (h : At d s) : At d (loseRole s) := by
  unfold Machine.loseRole
  split
  · split
    · exact h
    · exact h.abandonSweep
  · exact h

/-- The monitor is in LOCAL once the contactor has opened (R138). -/
theorem At.contactorOpened (h : At d s) : At { d with away := False } (contactorOpened s) := by
  have t : At d (Machine.contactorOpened s) := by
    have k : At d { s with imn.contactorClosed := false } := h.monitor _ id id
    unfold Machine.contactorOpened
    dsimp only
    split
    · exact k
    · exact k.enterLocal
    · exact ((k.plain rfl : At d (Machine.removeMeasureFrames _))).enterLocal.loseRole
  exact { t with away := fun x => x (contactorOpened_mode s) }

/-- The contactor's closing takes the monitor out of LOCAL (R138). -/
theorem At.contactorClosed (h : At d s) : At { d with away := True } (contactorClosed s) := by
  have k : At { d with away := True } { s with imn.contactorClosed := true } :=
    { h with away := fun _ => trivial }
  unfold Machine.contactorClosed
  dsimp only
  split
  · have e := k.endLocalChecks
    exact { e with away := fun _ => trivial }
  · exact k

/-! ## The line (R36, R37, R51) -/

theorem At.changeLine (h : At d s) (target : LineState) : At d (changeLine target s) := by
  have k : At d { s with fli := enterLine target s.cfg.station s.fli } := h.plain rfl
  have k := k.onlyIf (target == .online && s.fli.line == .silent) (k.raiseEvent .lineResumed)
  unfold Machine.changeLine
  dsimp only
  have empty {u : State} (x : At d u) : At d (emptyPeers u) := by
    have y : At d { u with shu.peers := [], shu.overflow := 0 } := { x with alone := fun _ => rfl }
    exact y.onlyIf _ (y.raiseEvent _)
  have k := k.onlyIf (target == .offline) (f := fun x => Machine.sweepOffline (Machine.emptyPeers x))
    (empty k).sweepOffline
  exact k.onlyIf _ k.yieldRole

theorem At.refreshLine (h : At d s) : At d (refreshLine s) := by
  unfold Machine.refreshLine
  refine At.updateFallback ?_
  split
  · exact h
  · exact h.changeLine _

/-! ## The sequencer's state (R1, R8) -/

/-- The sequencer's record after an entry to a state (R6, R8, R13). -/
def entered (q : SeqState) (p : Psq) : Psq :=
  if p.seq = q then { p with ident := if q = .plugged ∨ q = .unplugged then none else p.ident }
  else leaveState q { p with ident := if q = .plugged ∨ q = .unplugged then none else p.ident }

theorem At.setSeq (h : At d s) (q : SeqState) :
    At { d with psq := if d.psq.seq = q then d.psq else leaveState q d.psq } (setSeq q s) := by
  unfold Machine.setSeq
  rw [h.psq]
  split
  · exact h
  · refine At.evaluateAndHand (At.raiseEvent ?_ _)
    exact h.sequencer _

theorem At.enterSeq (h : At d s) (q : SeqState) :
    At { d with psq := entered q d.psq } (enterSeq q s) := by
  refine At.refreshLine ?_
  have k : At { d with psq := { d.psq with
      ident := if q = .plugged ∨ q = .unplugged then none else d.psq.ident } } (identOnEntry q s) := by
    obtain ⟨a, b⟩ := h
    refine ⟨by rw [identOnEntry_psq, a], ?_, ?_, ?_, ?_, ?_, ?_, ?_, ?_, ?_⟩ <;> cases q <;> assumption
  exact k.setSeq q

/-- What an entry to a state writes. -/
theorem entered_eq (q : SeqState) (p : Psq) :
    entered q p = { p with
      seq := q, ident := if q = .plugged ∨ q = .unplugged then none else p.ident
      query := (entered q p).query, identTimer := (entered q p).identTimer
      assembly := (entered q p).assembly, prevCode := (entered q p).prevCode
      batteryLow := (entered q p).batteryLow } := by
  unfold entered
  split
  next same => rw [← same]
  next => rw [leaveState_eq]

@[simp] theorem entered_fields (q : SeqState) (p : Psq) :
    (entered q p).seq = q ∧
    (entered q p).ident = (if q = .plugged ∨ q = .unplugged then none else p.ident) ∧
    (entered q p).contactorCmd = p.contactorCmd ∧ (entered q p).prechargeCmd = p.prechargeCmd ∧
    (entered q p).contactorFb = p.contactorFb ∧ (entered q p).contactorSup = p.contactorSup ∧
    (entered q p).contactorTimer = p.contactorTimer ∧ (entered q p).prechargeTimer = p.prechargeTimer ∧
    (entered q p).cancelPending = p.cancelPending ∧ (entered q p).stopCause = p.stopCause := by
  rw [entered_eq]
  exact ⟨rfl, rfl, rfl, rfl, rfl, rfl, rfl, rfl, rfl, rfl⟩

/-- The query ends with IDENTIFYING (R6). -/
theorem entered_asking {q : SeqState} {p : Psq} (h : p.identTimer = true ∨ p.query = true → p.seq = .identifying) :
    (entered q p).identTimer = true ∨ (entered q p).query = true → q = .identifying := by
  unfold entered leaveState
  split
  next same => rw [← same]; exact h
  next =>
    cases seq : p.seq <;> simp_all

theorem At.setPhase (h : At d s) (p : IsoPhase) :
    At { d with psq := { d.psq with seq := .sweepIsolated p } } (setPhase p s) := by
  refine At.raiseEvent ?_ _
  rw [← h.psq]
  exact h.sequencer _

/-! ## Relays, the output enable and the session (R4, R5, R97, R98, R174, R183) -/

theorem At.clearEnable (h : At d s) : At { d with enable := False } (clearEnable s) := by
  obtain ⟨power, -, psq, -, shu, -, -, imn, mtr, -, cpt, -⟩ := clearEnable_keeps s
  refine ⟨psq.trans h.psq, ?_, ?_, ?_, ?_, ?_, ?_, ?_, ?_, ?_⟩
  · rw [power]; exact h.running
  · rw [clearEnable_enable]; nofun
  · unfold tripped; rw [clearEnable_trip]; exact h.trip
  · rw [imn]; exact h.away
  · rw [imn]; exact h.fault
  · rw [cpt]; exact h.unset
  · rw [shu]; exact h.alone
  · rw [shu]; exact h.idle
  · rw [mtr]; exact h.closed

theorem At.armEnable (h : At d s) : At { d with enable := True } (armEnable s) := by
  have k : At { d with enable := True } s := { h with enable := fun _ => trivial }
  unfold Machine.armEnable
  split
  · exact k
  · exact { k with enable := fun _ => trivial }

/-- The sequencer's record with the contactor commanded open. -/
abbrev Psq.contactorOff (p : Psq) : Psq :=
  { p with contactorCmd := false, contactorSup := p.contactorCmd || p.contactorSup }

/-- The sequencer's record with the precharge relay commanded open. -/
abbrev Psq.prechargeOff (p : Psq) : Psq :=
  { p with prechargeCmd := false, prechargeSup := p.prechargeCmd || p.prechargeSup }

theorem At.openContactor (h : At d s) (joined : d.away → d.psq.contactorCmd = true) :
    At { d with psq := d.psq.contactorOff, away := False } (openContactor s) := by
  have psq := openContactor_psq s
  unfold Machine.openContactor at psq ⊢
  split
  · refine At.contactorOpened (d := { d with psq := d.psq.contactorOff }) ?_
    rename_i on
    have k := h.sequencer { s.psq with contactorCmd := false, contactorSup := true }
    have e : d.psq.contactorOff = { s.psq with contactorCmd := false, contactorSup := true } := by
      rw [← h.psq]; simp [on]
    rw [e]
    exact { k with }
  next off =>
    rw [if_neg off] at psq
    refine { h with psq := ?_, away := fun x => ?_ }
    · rw [psq, h.psq]
    · have on := joined (h.away x)
      rw [← h.psq] at on
      exact off on

theorem At.openPrecharge (h : At d s) : At { d with psq := d.psq.prechargeOff } (openPrecharge s) := by
  have psq := openPrecharge_psq s
  rw [h.psq] at psq
  unfold Machine.openPrecharge at psq ⊢
  split
  next on =>
    rw [if_pos on] at psq
    exact { h with psq := psq }
  next off =>
    rw [if_neg off] at psq
    exact { h with psq := psq }

theorem At.openRelays (h : At d s) (joined : d.away → d.psq.contactorCmd = true) :
    At { d with psq := d.psq.prechargeOff.contactorOff, away := False } (openRelays s) :=
  h.openPrecharge.openContactor joined

theorem At.stopTimers (h : At d s) :
    At { d with psq := { d.psq with prechargeTimer := false, contactorTimer := false, stopTimer := false } }
      (stopTimers s) := by
  rw [← h.psq]
  exact h.sequencer _

theorem At.forgetStop (h : At d s) :
    At { d with psq := { d.psq with
      stopCause := none, forced := false, start := none, isoReturn := none, cancelPending := false
      cancelContactor := false } } (forgetStop s) := by
  rw [← h.psq]
  exact h.sequencer _

theorem At.dropPrefetched (h : At d s) : At d (dropPrefetched s) := h.plain rfl

theorem At.closeSession (h : At d s) (cause : EndCause) (forced : Bool) :
    At { d with closed := True } (closeSession cause forced s) := by
  have k : At d (Machine.closeSession cause forced s) := by
    unfold Machine.closeSession
    split
    · exact h
    · refine At.raiseEvent (At.same ?_ (Same.placeRecord (Same.refl _) _ _ _)) _
      exact { h with closed := fun _ => rfl }
  exact { k with closed := fun _ => closeSession_session cause forced s }

theorem At.endSession (h : At d s) (cause : EndCause) :
    At { d with idle := True, closed := True } (endSession cause s) := by
  have k := h.closeSession cause s.psq.forced
  unfold Machine.endSession Machine.clearSession
  refine At.same (s := { Machine.closeSession cause s.psq.forced s with
    shu := { (Machine.closeSession cause s.psq.forced s).shu with
      session := false, joint := false, sEff := 0, pendingRise := none, joining := 0 } }) ?_
    (Same.refl _).evaluate
  exact { k with idle := fun _ => rfl }

theorem At.openSession (h : At d s) (stamp : Word32) (c : Option DescCopy) :
    At { d with closed := False } (openSession stamp c s).1 := by
  have k : At { d with closed := False } (Machine.raiseSessionCounter s) :=
    { h.same (Same.refl s).raiseSessionCounter with closed := nofun }
  have k : At { d with closed := False } { Machine.raiseSessionCounter s with
      mtr.session := some (newSession (Machine.raiseSessionCounter s).mst.working.sessions stamp
        (Machine.raiseSessionCounter s)) } := { k with closed := nofun }
  unfold Machine.openSession
  dsimp only
  split
  · exact k.same ((Same.refl _).activate _)
  · exact k

theorem At.setSession (h : At d s) : At { d with idle := False } (setSession s) :=
  { h with idle := nofun }

end Sys2Proof.Machine
end

section
/-! PROOF. The drive's invariant as each operation of the monitor and the sequencer keeps it (R4, R5, R19 to R24). -/

namespace Sys2Proof.Machine

variable {d e : Drive} {s t : State} {weld : Prop}

/-! ## A safe bound holds of the state -/

/-- What every step keeps of a state; with `weld` false a weld may still have to be found (R5). -/
abbrev Kept (weld : Prop) (s : State) : Prop := (driveOf s).Safe weld

/-- A bound that is within a safe one is safe. -/
theorem At.kept (h : At d s) (k : d.Safe weld) : Kept weld s := by
  obtain ⟨p, r1, r2, r3, r4, r5, r6, r7, r8, r9⟩ := d
  obtain ⟨rfl, running, enable, trip, away, fault, unset, alone, idle, closed⟩ := h
  constructor
  · exact fun x y => k.cuts (trip x) (enable y)
  · exact fun x => k.drives (enable x)
  · exact k.contactor
  · exact k.precharge
  · exact fun x => k.trips (trip x)
  · exact fun w x => k.welds w (running x)
  · exact k.closing
  · exact k.charging
  · exact k.asking
  · exact k.cancel
  · exact k.waits
  · exact k.rejoins
  · exact fun x => k.joined (away x)
  · exact fun x y => k.home x (away y)
  · exact fun x => k.faulty (fault x)
  · intro x
    obtain ⟨a, b, c, e⟩ := k.early (unset x)
    exact ⟨a, b, alone c, idle e⟩
  · exact k.session.imp closed id

theorem Kept.safe (h : Kept True s) : DriveSafe s := (At.of s).safe h

theorem Kept.same (h : Kept weld s) (k : Same s t) : Kept weld t := ((At.of s).same k).kept h

theorem Kept.plain (h : Kept weld s) (k : outer t = outer s) : Kept weld t := h.same k

theorem Kept.onlyIf (c : Bool) {f : State → State} (h : Kept weld s) (k : Kept weld (f s)) : Kept weld (onlyIf c f s) :=
  onlyIf_ind (P := Kept weld) c h k

/-- Less is asked while a weld is still to be found. -/
theorem Drive.Safe.unwelded (h : d.Safe weld) : d.Safe False := { h with welds := nofun }

theorem Drive.Safe.welded (h : d.Safe True) (weld : Prop) : d.Safe weld := { h with welds := fun _ => h.welds trivial }

/-- A state at rest: no relay commanded closed, no timer of an energizing, no session, the monitor in LOCAL. -/
structure Drive.Rests (d : Drive) : Prop where
  states : d.psq.seq.drives = false ∧ d.psq.seq.energizes = false ∧ d.psq.seq.tripsToFault = false ∧
    d.psq.seq.isolated = false
  contactor : d.psq.contactorCmd = false
  precharge : d.psq.prechargeCmd = false
  closing : d.psq.contactorTimer = false
  charging : d.psq.prechargeTimer = false
  cancel : d.psq.cancelPending = false
  enable : ¬ d.enable
  home : ¬ d.away
  closed : d.closed
  asking : d.psq.identTimer = true ∨ d.psq.query = true → d.psq.seq = .identifying

theorem Drive.Rests.safe (h : d.Rests)
    (welds : weld → d.running → d.psq.contactorFb = true → d.psq.contactorSup = true ∨ d.psq.seq = .fault)
    (early : d.unset →
      (d.psq.seq = .unplugged ∨ d.psq.seq = .plugSettle ∨ d.psq.seq = .plugged ∨ d.psq.seq = .fault) ∧
        d.psq.ident = none ∧ d.alone ∧ d.idle) : d.Safe weld := by
  obtain ⟨⟨drives, energizes, trips, isolated⟩, contactor, precharge, closing, charging, cancel, enable, home, closed, asking⟩ := h
  have phase (p : IsoPhase) : d.psq.seq ≠ .sweepIsolated p := by
    intro is
    rw [is] at isolated
    cases isolated
  exact
    { cuts := fun _ => enable
      drives := fun x => absurd x enable
      contactor := fun x => absurd (x.symm.trans contactor) (by decide)
      precharge := fun x => absurd (x.symm.trans precharge) (by decide)
      trips := fun _ => trips
      welds := fun w x y => .inr (welds w x y)
      closing := fun x => absurd (x.symm.trans closing) (by decide)
      charging := fun x => absurd (x.symm.trans charging) (by decide)
      asking := asking
      cancel := fun x => absurd (x.symm.trans cancel) (by decide)
      waits := fun x => absurd x (phase _)
      rejoins := fun x => absurd x.1 (phase _)
      joined := fun x => absurd x home
      home := fun x => absurd (x.symm.trans energizes) (by decide)
      faulty := fun _ => by
        refine ⟨?_, ?_, ?_, fun x => absurd (x.symm.trans isolated) (by decide)⟩ <;>
        · intro is
          rw [is] at trips
          cases trips
      early := early
      session := .inl closed }

/-- The sequencer's record changes. -/
theorem At.record (h : At d s) (f : Psq → Psq) : At { d with psq := f d.psq } { s with psq := f s.psq } := by
  rw [← h.psq]
  exact h.sequencer _

/-! ## Sweeps (R154, R160, R162) -/

/-- The queue, the monitor's sweep and the report to SHU change. -/
theorem At.sweepFrame (h : At d s) (frame : SweepFrame s t) (mode : t.imn.mode = s.imn.mode)
    (fault : t.imn.ownFault = s.imn.ownFault) : At d t := by
  have k := h.monitor t.imn (by rw [mode]; exact id) (by rw [fault]; exact id)
  refine k.plain ?_
  rw [frame]
  rfl

theorem At.leftSweep (h : At d s) (leaves : d.away → Unmoved d.psq.seq) : At d (leftSweep s) := by
  have leaves' : Leaves s := fun measurer => by
    rw [h.psq]
    exact leaves (h.away (by rw [measurer]; decide))
  refine h.sweepFrame (leftSweep_frame leaves').1 ?_ (congrArg (·.2.2.2.1) (leftSweep_ownHeld s))
  unfold Machine.leftSweep
  split
  · split
    · rw [checkSweepStart_mode, endLeading_eq]
      rfl
    · rfl
  · rfl

theorem At.leaveTarget (h : At d s) (q : SeqState) (leaves : d.away → Unmoved d.psq.seq ∨ q = .active ∨ q = .suspended) :
    At d (leaveTarget q s) := by
  unfold Machine.leaveTarget
  split
  · exact h.clearTarget
  · exact h.clearTarget
  · exact h.leftSweep fun away => (leaves away).resolve_right (by simp)
  · exact h

/-! ## FAULT (R20) -/

/-- The sequencer's record in FAULT. -/
abbrev faultRecord (cause : FaultCause) (p : Psq) : Psq :=
  entered .fault { p.prechargeOff.contactorOff with
    prechargeTimer := false, contactorTimer := false, stopTimer := false
    stopCause := none, forced := false, start := none, isoReturn := none, cancelPending := false
    cancelContactor := false, faultCause := some cause }

/-- The bound of FAULT. -/
abbrev faultDrive (cause : FaultCause) (d : Drive) : Drive :=
  { d with psq := faultRecord cause d.psq, enable := False, away := False, idle := True, closed := True }

theorem At.enterFault (h : At d s) (joined : d.away → d.psq.contactorCmd = true) (cause : FaultCause) :
    At (faultDrive cause d) (enterFault cause s) :=
  (((((h.clearEnable.openRelays joined).stopTimers.endSession (faultEndCause cause)).leaveTarget s.psq.seq
    (fun away => away.elim)).dropPrefetched.forgetStop).record fun p => { p with faultCause := some cause }).enterSeq .fault

theorem Drive.fault_safe (cause : FaultCause)
    (asks : d.psq.identTimer = true ∨ d.psq.query = true → d.psq.seq = .identifying)
    (early : d.unset → d.psq.ident = none ∧ d.alone) : (faultDrive cause d).Safe True := by
  refine Drive.Rests.safe ⟨by simp [SeqState.drives, SeqState.energizes, SeqState.tripsToFault, SeqState.isolated],
    by simp, by simp, by simp, by simp, by simp, id, id, trivial, fun x => ?_⟩ (fun _ _ _ => .inr (by simp)) fun unset => ?_
  · refine (entered_fields ..).1.trans (entered_asking ?_ x)
    exact asks
  · obtain ⟨ident, alone⟩ := early unset
    exact ⟨by simp, by simp [ident], alone, trivial⟩

theorem Kept.enterFault (h : Kept weld s) (cause : FaultCause) : Kept True (enterFault cause s) := by
  refine ((At.of s).enterFault h.joined cause).kept (Drive.fault_safe cause h.asking fun unset => ?_)
  obtain ⟨-, ident, alone, -⟩ := h.early unset
  exact ⟨ident, alone⟩

end Sys2Proof.Machine
end

section
/-! PROOF. The drive's configurations: it drives, it waits in a sweep isolation, its contactor is being closed, or it
rests. What the sequencer's operations do leads from one to another (R4, R10 to R16, R21 to R24). -/

namespace Sys2Proof.Machine

variable {d : Drive} {s : State} {weld : Prop}

/-! ## The states (R1) -/

theorem SeqState.drives_cases {q : SeqState} (h : q.drives = true) :
    q = .active ∨ q = .suspended ∨ q = .stopping ∨ q = .sweepIsolated .isoRamp := by
  unfold SeqState.drives at h
  split at h <;> simp_all

theorem SeqState.energizes_cases {q : SeqState} (h : q.energizes = true) :
    q = .precharge ∨ q = .sweepIsolated .isoRejoin := by
  unfold SeqState.energizes at h
  split at h <;> simp_all

theorem SeqState.isolated_phase {q : SeqState} (h : q.isolated = true) : ∃ p, q = .sweepIsolated p := by
  unfold SeqState.isolated at h
  split at h
  · exact ⟨_, rfl⟩
  · cases h

/-- Of a driving state. -/
theorem SeqState.of_drives {q : SeqState} (h : q.drives = true) :
    q.energizes = false ∧ q.tripsToFault = true ∧ q.holdsSession = true ∧ q ≠ .precharge ∧
      q ≠ .sweepIsolated .isoWait ∧ q ≠ .sweepIsolated .isoRejoin := by
  obtain rfl | rfl | rfl | rfl := SeqState.drives_cases h <;> decide

/-- Nothing is early in a state that a trip takes to FAULT (R6, R19). -/
theorem Drive.Safe.set (h : d.Safe weld) (later : d.psq.seq.tripsToFault = true) : ¬ d.unset := fun unset => by
  obtain ⟨is | is | is | is, -⟩ := h.early unset <;> rw [is] at later <;> cases later

/-- The latch is clear in a state that a trip takes to FAULT (R19). -/
theorem Drive.Safe.unlatched (h : d.Safe weld) (later : d.psq.seq.tripsToFault = true) : ¬ d.trip := fun trip =>
  absurd (later.symm.trans (h.trips trip)) (by decide)

/-- A contactor that reads closed is accounted for (R5). -/
abbrev Drive.Accounted (weld : Prop) (d : Drive) : Prop :=
  weld → d.running → d.psq.contactorFb = true →
    d.psq.contactorCmd = true ∨ d.psq.contactorSup = true ∨ d.psq.seq = .fault

/-- Only IDENTIFYING asks (R6). -/
abbrev Drive.Asks (d : Drive) : Prop := d.psq.identTimer = true ∨ d.psq.query = true → d.psq.seq = .identifying

/-- In a state that a trip takes to FAULT nothing asks (R6, R19). -/
theorem Drive.Safe.silent (h : d.Safe weld) (later : d.psq.seq.tripsToFault = true) :
    ¬ (d.psq.identTimer = true ∨ d.psq.query = true) := fun asks => by
  rw [h.asking asks] at later
  cases later

/-- In a state that a trip takes to FAULT a contactor that reads closed is commanded closed or supervised (R5, R19). -/
theorem Drive.Safe.held (h : d.Safe weld) (later : d.psq.seq.tripsToFault = true) (w : weld) (running : d.running)
    (reads : d.psq.contactorFb = true) : d.psq.contactorCmd = true ∨ d.psq.contactorSup = true := by
  refine (or_assoc.2 (h.welds w running reads)).resolve_right fun is => ?_
  rw [is] at later
  cases later

/-! ## Driving (R97, R98) -/

/-- From ACTIVE to a stop's end, and the ramp of a sweep isolation. -/
structure Drive.Runs (d : Drive) : Prop where
  drives : d.psq.seq.drives = true
  unlatched : ¬ d.trip
  set : ¬ d.unset
  contactor : d.enable ∨ d.away → d.psq.contactorCmd = true
  precharge : d.psq.prechargeCmd = false
  closing : d.psq.contactorTimer = false
  charging : d.psq.prechargeTimer = false
  cancel : d.psq.cancelPending = false

/-- With the own-side fault latched a stop is under way (R21, R24). -/
abbrev Drive.Healthy (d : Drive) : Prop :=
  d.fault → d.psq.seq ≠ .active ∧ d.psq.seq ≠ .suspended ∧ (d.psq.seq.isolated = true → d.psq.stopCause ≠ none)

theorem Drive.Runs.safe (h : d.Runs) (healthy : d.Healthy) (asks : d.Asks) (welds : d.Accounted weld) : d.Safe weld := by
  obtain ⟨energizes, -, session, precharge, waits, rejoins⟩ := SeqState.of_drives h.drives
  exact
    { cuts := fun x => absurd x h.unlatched
      drives := fun x => ⟨h.contactor (.inl x), h.drives⟩
      contactor := fun _ => .inl h.drives
      precharge := fun x => absurd (x.symm.trans h.precharge) (by decide)
      trips := fun x => absurd x h.unlatched
      welds := welds
      closing := fun x => absurd (x.symm.trans h.closing) (by decide)
      charging := fun x => absurd (x.symm.trans h.charging) (by decide)
      asking := asks
      cancel := fun x => absurd (x.symm.trans h.cancel) (by decide)
      waits := fun x => absurd x waits
      rejoins := fun x => absurd x.1 rejoins
      joined := fun x => h.contactor (.inr x)
      home := fun x => absurd (x.symm.trans energizes) (by decide)
      faulty := fun x => ⟨precharge, healthy x⟩
      early := fun x => absurd x h.set
      session := .inr session }

theorem Drive.Safe.runs (h : d.Safe weld) (drives : d.psq.seq.drives = true) : d.Runs := by
  obtain ⟨energizes, trips, -, precharge, -, -⟩ := SeqState.of_drives drives
  have off (x : d.psq.seq.energizes = true) : False := by
    rw [energizes] at x
    cases x
  exact
    { drives := drives
      unlatched := h.unlatched trips
      set := h.set trips
      contactor := fun x => x.elim (fun x => (h.drives x).1) h.joined
      precharge := Bool.eq_false_iff.2 fun x => off (h.precharge x)
      closing := Bool.eq_false_iff.2 fun x => off (h.closing x).2
      charging := Bool.eq_false_iff.2 fun x => off (h.charging x).2
      cancel := Bool.eq_false_iff.2 fun x => precharge (h.cancel x).1 }

theorem Drive.Safe.healthy (h : d.Safe weld) : d.Healthy := fun x => (h.faulty x).2

/-- From one driving state to another. -/
theorem Drive.Runs.enter (h : d.Runs) (q : SeqState) (drives : q.drives = true) :
    { d with psq := entered q d.psq }.Runs where
  drives := by simpa using drives
  unlatched := h.unlatched
  set := h.set
  contactor := by simpa using h.contactor
  precharge := by simpa using h.precharge
  closing := by simpa using h.closing
  charging := by simpa using h.charging
  cancel := by simpa using h.cancel

/-- An entry to a state keeps what is asked and what is held (R5, R6). -/
theorem Drive.Asks.enter (h : d.Asks) (q : SeqState) : { d with psq := entered q d.psq }.Asks := fun x =>
  (entered_fields ..).1.trans (entered_asking h x)

theorem Drive.accounted_entered (q : SeqState) (held : weld → d.running → d.psq.contactorFb = true →
    d.psq.contactorCmd = true ∨ d.psq.contactorSup = true) : { d with psq := entered q d.psq }.Accounted weld := by
  intro w r fb
  simpa using (held w r (by simpa using fb)).imp id .inl

/-! ## Isolated (R22, R159) -/

/-- ISO_OPEN and ISO_WAIT: both relays are open. -/
structure Drive.Waits (d : Drive) : Prop where
  phase : d.psq.seq = .sweepIsolated .isoOpen ∨ d.psq.seq = .sweepIsolated .isoWait
  quiet : ¬ d.trip ∧ ¬ d.unset ∧ ¬ d.enable ∧ ¬ d.away
  relays : d.psq.contactorCmd = false ∧ d.psq.prechargeCmd = false
  timers : d.psq.contactorTimer = false ∧ d.psq.prechargeTimer = false
  cancel : d.psq.cancelPending = false
  waits : d.psq.seq = .sweepIsolated .isoWait → d.psq.stopCause = none
  healthy : d.fault → d.psq.stopCause ≠ none

theorem Drive.Waits.safe (h : d.Waits) (asks : d.Asks) (welds : d.Accounted weld) : d.Safe weld := by
  obtain ⟨phase, ⟨trip, set, enable, away⟩, ⟨contactor, precharge⟩, ⟨closing, charging⟩, cancel, waits, healthy⟩ := h
  have other : d.psq.seq.energizes = false ∧ d.psq.seq.holdsSession = true ∧ d.psq.seq ≠ .precharge ∧ d.psq.seq ≠ .active ∧
      d.psq.seq ≠ .suspended ∧ d.psq.seq ≠ .sweepIsolated .isoRejoin := by
    obtain is | is := phase <;> rw [is] <;> decide
  obtain ⟨energizes, session, pre, active, suspended, rejoins⟩ := other
  exact
    { cuts := fun x => absurd x trip
      drives := fun x => absurd x enable
      contactor := fun x => absurd (x.symm.trans contactor) (by decide)
      precharge := fun x => absurd (x.symm.trans precharge) (by decide)
      trips := fun x => absurd x trip
      welds := welds
      closing := fun x => absurd (x.symm.trans closing) (by decide)
      charging := fun x => absurd (x.symm.trans charging) (by decide)
      asking := asks
      cancel := fun x => absurd (x.symm.trans cancel) (by decide)
      waits := waits
      rejoins := fun x => absurd x.1 rejoins
      joined := fun x => absurd x away
      home := fun x => absurd (x.symm.trans energizes) (by decide)
      faulty := fun x => ⟨pre, active, suspended, fun _ => healthy x⟩
      early := fun x => absurd x set
      session := .inr session }

theorem Drive.Safe.idles (h : d.Safe weld)
    (phase : d.psq.seq = .sweepIsolated .isoOpen ∨ d.psq.seq = .sweepIsolated .isoWait) : d.Waits := by
  have other : d.psq.seq.energizes = false ∧ d.psq.seq.drives = false ∧ d.psq.seq.tripsToFault = true ∧
      d.psq.seq ≠ .precharge ∧ d.psq.seq.isolated = true := by
    obtain is | is := phase <;> rw [is] <;> decide
  obtain ⟨energizes, drives, trips, pre, isolated⟩ := other
  have off (x : d.psq.seq.energizes = true) : False := by
    rw [energizes] at x
    cases x
  have still (x : d.psq.seq.drives = true) : False := by
    rw [drives] at x
    cases x
  have contactor : d.psq.contactorCmd = false := Bool.eq_false_iff.2 fun x => (h.contactor x).elim still off
  exact
    { phase := phase
      quiet := ⟨h.unlatched trips, h.set trips, fun x => still (h.drives x).2,
        fun x => absurd ((h.joined x).symm.trans contactor) (by decide)⟩
      relays := ⟨contactor, Bool.eq_false_iff.2 fun x => off (h.precharge x)⟩
      timers := ⟨Bool.eq_false_iff.2 fun x => off (h.closing x).2, Bool.eq_false_iff.2 fun x => off (h.charging x).2⟩
      cancel := Bool.eq_false_iff.2 fun x => pre (h.cancel x).1
      waits := h.waits
      healthy := fun x => (h.faulty x).2.2.2 isolated }

/-! ## Being closed (R10, R23) -/

/-- PRECHARGE and ISO_REJOIN. -/
structure Drive.Closes (d : Drive) : Prop where
  energizes : d.psq.seq.energizes = true
  quiet : ¬ d.trip ∧ ¬ d.unset ∧ ¬ d.enable ∧ ¬ d.away
  closing : d.psq.contactorTimer = true → d.psq.contactorCmd = true
  charging : d.psq.prechargeTimer = true → d.psq.contactorTimer = false
  cancel : d.psq.cancelPending = true → d.psq.seq = .precharge ∧ d.psq.prechargeTimer = false ∧
    d.psq.contactorTimer = false ∧ d.psq.contactorCmd = false ∧ d.psq.prechargeCmd = false
  rejoins : d.psq.seq = .sweepIsolated .isoRejoin ∧ d.psq.stopCause ≠ none →
    d.psq.prechargeTimer = false ∧ d.psq.contactorTimer = false ∧ d.psq.contactorCmd = false ∧ d.psq.prechargeCmd = false
  healthy : d.fault → d.psq.seq ≠ .precharge ∧ d.psq.stopCause ≠ none
  session : d.closed ∨ d.psq.seq = .sweepIsolated .isoRejoin

theorem Drive.Closes.safe (h : d.Closes) (asks : d.Asks) (welds : d.Accounted weld) : d.Safe weld := by
  obtain ⟨energizes, ⟨trip, set, enable, away⟩, closing, charging, cancel, rejoins, healthy, session⟩ := h
  have other : d.psq.seq ≠ .active ∧ d.psq.seq ≠ .suspended ∧ d.psq.seq ≠ .sweepIsolated .isoWait := by
    obtain is | is := SeqState.energizes_cases energizes <;> rw [is] <;> decide
  obtain ⟨active, suspended, waits⟩ := other
  exact
    { cuts := fun x => absurd x trip
      drives := fun x => absurd x enable
      contactor := fun _ => .inr energizes
      precharge := fun _ => energizes
      trips := fun x => absurd x trip
      welds := welds
      closing := fun x => ⟨closing x, energizes⟩
      charging := fun x => ⟨charging x, energizes⟩
      asking := asks
      cancel := cancel
      waits := fun x => absurd x waits
      rejoins := rejoins
      joined := fun x => absurd x away
      home := fun _ => away
      faulty := fun x => ⟨(healthy x).1, active, suspended, fun _ => (healthy x).2⟩
      early := fun x => absurd x set
      session := session.imp id fun is => by rw [is]; rfl }

theorem Drive.Safe.closes (h : d.Safe weld) (energizes : d.psq.seq.energizes = true) : d.Closes := by
  have away := h.home energizes
  have trips : d.psq.seq.tripsToFault = true := by
    obtain is | is := SeqState.energizes_cases energizes <;> rw [is] <;> rfl
  have drives : ¬ d.psq.seq.drives = true := by
    obtain is | is := SeqState.energizes_cases energizes <;> rw [is] <;> decide
  exact
    { energizes := energizes
      quiet := ⟨h.unlatched trips, h.set trips, fun x => drives (h.drives x).2, away⟩
      closing := fun x => (h.closing x).1
      charging := fun x => (h.charging x).1
      cancel := h.cancel
      rejoins := h.rejoins
      healthy := fun x => ⟨(h.faulty x).1, by
        refine (h.faulty x).2.2.2 ?_
        have isolated := (SeqState.energizes_cases energizes).resolve_left (h.faulty x).1
        rw [isolated]
        rfl⟩
      session := h.session.imp id fun holds => by
        refine (SeqState.energizes_cases energizes).resolve_left fun is => ?_
        rw [is] at holds
        cases holds }

/-! ## At rest (R3, R6, R20) -/

/-- Of a state that no trip leaves. -/
theorem SeqState.of_calm {q : SeqState} (h : q.tripsToFault = false) :
    q.drives = false ∧ q.energizes = false ∧ q.isolated = false ∧ q.holdsSession = false := by
  cases q <;> simp_all [SeqState.tripsToFault, SeqState.drives, SeqState.energizes, SeqState.isolated, SeqState.holdsSession]

theorem Drive.Safe.rests (h : d.Safe weld) (calm : d.psq.seq.tripsToFault = false) : d.Rests := by
  obtain ⟨drives, energizes, isolated, holds⟩ := SeqState.of_calm calm
  have off (x : d.psq.seq.energizes = true) : False := absurd (x.symm.trans energizes) (by decide)
  have still (x : d.psq.seq.drives = true) : False := absurd (x.symm.trans drives) (by decide)
  have contactor : d.psq.contactorCmd = false := Bool.eq_false_iff.2 fun x => (h.contactor x).elim still off
  exact
    { states := ⟨drives, energizes, calm, isolated⟩
      contactor := contactor
      precharge := Bool.eq_false_iff.2 fun x => off (h.precharge x)
      closing := Bool.eq_false_iff.2 fun x => off (h.closing x).2
      charging := Bool.eq_false_iff.2 fun x => off (h.charging x).2
      cancel := Bool.eq_false_iff.2 fun x => off (by rw [(h.cancel x).1]; rfl)
      enable := fun x => still (h.drives x).2
      home := fun x => absurd ((h.joined x).symm.trans contactor) (by decide)
      closed := h.session.resolve_right fun x => absurd (x.symm.trans holds) (by decide)
      asking := h.asking }

/-- A state at rest is entered with everything off. -/
theorem Drive.rests_entered {q : SeqState} (calm : q.tripsToFault = false)
    (relays : d.psq.contactorCmd = false ∧ d.psq.prechargeCmd = false)
    (timers : d.psq.contactorTimer = false ∧ d.psq.prechargeTimer = false ∧ d.psq.cancelPending = false)
    (quiet : ¬ d.enable ∧ ¬ d.away) (closed : d.closed) (asks : q = .identifying ∨ d.Asks) :
    { d with psq := entered q d.psq }.Rests := by
  obtain ⟨drives, energizes, isolated, -⟩ := SeqState.of_calm calm
  exact
    { states := by simp [drives, energizes, isolated, calm]
      contactor := by simpa using relays.1
      precharge := by simpa using relays.2
      closing := by simpa using timers.1
      charging := by simpa using timers.2.1
      cancel := by simpa using timers.2.2
      enable := quiet.1
      home := quiet.2
      closed := closed
      asking := fun x => asks.elim (fun is => (entered_fields ..).1.trans is) fun asks => asks.enter q x }

/-- From one state at rest to another. -/
theorem Drive.Rests.enter (h : d.Rests) {q : SeqState} (calm : q.tripsToFault = false) :
    { d with psq := entered q d.psq }.Rests :=
  Drive.rests_entered calm ⟨h.contactor, h.precharge⟩ ⟨h.closing, h.charging, h.cancel⟩ ⟨h.enable, h.home⟩ h.closed (.inr h.asking)

end Sys2Proof.Machine
end

section
/-! PROOF. The Plug Sequencer's operations keep what the drive's invariant says of a state: trips, stops, sweep
isolation, energizing and the loss of plug (R4, R5, R10 to R24, R99). -/

namespace Sys2Proof.Machine

variable {d : Drive} {s t : State} {weld : Prop}

/-! ## Welds and trips (R5, R19, R99) -/

theorem Kept.weldAtOnce (h : Kept False s) : Kept True (weldAtOnce s) := by
  unfold Machine.weldAtOnce
  split
  · exact h.enterFault _
  next fine =>
    refine { h with welds := fun _ _ reads => ?_ }
    by_contra other
    obtain ⟨off, rest⟩ := not_or.1 other
    obtain ⟨unsupervised, elsewhere⟩ := not_or.1 rest
    exact fine ⟨reads, off, unsupervised, elsewhere⟩

/-- The latch's first cause (R19, R99). -/
theorem Kept.setTrip (h : Kept weld s) (c : TripCause) : Kept weld (setTrip c s) := by
  have k : At { driveOf s with trip := True } { s with ptu.trip := some ⟨c, []⟩ } := { At.of s with trip := fun _ => trivial }
  have k := k.clearEnable.raiseEvent .trip
  have told : Kept weld (tripTold (Machine.raiseEvent .trip (Machine.clearEnable { s with ptu.trip := some ⟨c, []⟩ }))) := by
    generalize Machine.raiseEvent .trip (Machine.clearEnable { s with ptu.trip := some ⟨c, []⟩ }) = t at k ⊢
    unfold tripTold Machine.onlyIf
    rw [k.psq]
    split
    · refine ((k.enterFault h.joined .trip).kept (Drive.fault_safe .trip h.asking fun unset => ?_)).welded _
      obtain ⟨-, ident, alone, -⟩ := h.early unset
      exact ⟨ident, alone⟩
    next calm => exact k.kept { h with cuts := fun _ => id, drives := nofun, trips := fun _ => Bool.eq_false_iff.2 calm }
  exact told.same (Same.refl _).heaterTripped

theorem Kept.raiseTrip (h : Kept weld s) (c : TripCause) : Kept weld (raiseTrip c s) := by
  unfold Machine.raiseTrip
  split
  · exact h.setTrip c
  next l latched =>
    have k : At (driveOf s) { s with ptu.trip := some (l.add c) } :=
      { At.of s with trip := fun _ => by show tripped s = true; unfold tripped; rw [latched]; rfl }
    exact k.kept h

/-! ## Stops (R13, R14, R22, R24) -/

/-- The sequencer's record with nothing left of a stop. -/
abbrev Psq.forgotten (p : Psq) : Psq :=
  { p with
    prechargeTimer := false, contactorTimer := false, stopTimer := false
    stopCause := none, forced := false, start := none, isoReturn := none, cancelPending := false
    cancelContactor := false }

theorem At.finishStop (h : At d s) :
    At { d with psq := entered .identified d.psq.forgotten, idle := True, closed := True } (finishStop s) := by
  have k : At d { s with imn.pendingRelease := false } := h.monitor _ id id
  have t := (k.endSession (s.psq.stopCause.getD .hostStop)).stopTimers.forgetStop.enterSeq .identified
  exact At.onlyIf _ t (t.enqueue _)

/-- A stop completes with both relays open. -/
theorem At.stopFinished (h : At d s) (asks : d.Asks)
    (held : weld → d.running → d.psq.contactorFb = true → d.psq.contactorCmd = true ∨ d.psq.contactorSup = true)
    (relays : d.psq.contactorCmd = false ∧ d.psq.prechargeCmd = false)
    (quiet : ¬ d.enable ∧ ¬ d.away ∧ ¬ d.unset) : Kept weld (Machine.finishStop s) := by
  refine h.finishStop.kept (Drive.Rests.safe (Drive.rests_entered (d := { d with
    psq := d.psq.forgotten, idle := True, closed := True }) rfl relays ⟨rfl, rfl, rfl⟩ ⟨quiet.1, quiet.2.1⟩
    trivial (.inr asks)) ?_ fun x => absurd x quiet.2.2)
  intro w r fb
  obtain cmd | sup := held w r (by simpa using fb)
  · exact absurd (cmd.symm.trans relays.1) (by decide)
  · exact .inl (by simpa using sup)

/-- A stop completes in a state that is left with both relays open. -/
theorem Kept.finishStop (h : Kept weld s) (later : s.psq.seq.tripsToFault = true)
    (contactor : s.psq.contactorCmd = false) (precharge : s.psq.prechargeCmd = false) : Kept weld (finishStop s) := by
  exact (At.of s).stopFinished h.asking (h.held later) ⟨contactor, precharge⟩
    ⟨fun x => absurd ((h.drives x).1.symm.trans contactor) (by decide),
      fun x => absurd ((h.joined x).symm.trans contactor) (by decide), h.set later⟩

/-! ## The release and ISO_WAIT (R22, R23, R158, R159) -/

theorem Kept.takeRelease (h : Kept weld s) : Kept weld (takeRelease s) := by
  unfold Machine.takeRelease
  split
  next waits =>
    have later : s.psq.seq.tripsToFault = true := by rw [waits]; rfl
    obtain ⟨-, quiet, ⟨contactor, -⟩, ⟨closing, -⟩, cancel, uncaused, healthy⟩ := h.idles (.inr waits)
    refine (((At.of s).record fun p => { p with prechargeCmd := true, prechargeTimer := true }).setPhase .isoRejoin).kept
      (Drive.Closes.safe ?_ (fun asks => absurd asks (h.silent later)) fun w r fb => (h.held later w r fb).imp id .inl)
    · exact
        { energizes := rfl
          quiet := quiet
          closing := fun x => absurd (x.symm.trans closing) (by decide)
          charging := fun _ => closing
          cancel := fun x => absurd (x.symm.trans cancel) (by decide)
          rejoins := fun x => absurd (uncaused waits) x.2
          healthy := fun x => absurd (uncaused waits) (healthy x)
          session := .inr rfl }
  · exact h

/-- The monitor's record changes, but neither leaves LOCAL nor latches the fault. -/
theorem Kept.monitor (h : Kept weld s) (m : Imn) (away : m.mode ≠ .localMode → s.imn.mode ≠ .localMode)
    (fault : m.ownFault = true → s.imn.ownFault = true) : Kept weld { s with imn := m } :=
  ((At.of s).monitor m away fault).kept h

theorem Kept.startCycle (h : Kept weld s) : Kept weld (startCycle s) := (At.of s).startCycle.kept h

theorem Kept.enqueue (h : Kept weld s) (b : FrameBody) : Kept weld (enqueue b s) := ((At.of s).enqueue b).kept h

theorem Kept.answerEmpty (h : Kept weld s) (x : Status) : Kept weld (answerEmpty x s) := h.same ((Same.refl s).answerEmpty x)

theorem Kept.raiseEvent (h : Kept weld s) (k : EventKind) : Kept weld (raiseEvent k s) := ((At.of s).raiseEvent k).kept h

theorem Kept.isolationReached (h : Kept weld s) : Kept weld (isolationReached s) := by
  unfold Machine.isolationReached
  split
  · refine Kept.takeRelease ?_
    exact h.monitor _ id id
  · split
    · refine Kept.startCycle ?_
      exact h.monitor _ id id
    · refine Kept.startCycle (Kept.enqueue ?_ _)
      exact h.monitor _ id id
    · exact h

/-! ## The contactor's opening (R14, R22, R24) -/

theorem Kept.isolationOpen (h : Kept weld s) (is : s.psq.seq = .sweepIsolated .isoOpen) : Kept weld (isolationOpen s) := by
  obtain ⟨-, quiet, ⟨contactor, precharge⟩, timers, cancel, -, healthy⟩ := h.idles (.inl is)
  have later : s.psq.seq.tripsToFault = true := by rw [is]; rfl
  unfold Machine.isolationOpen
  split
  · exact h.finishStop later contactor precharge
  next uncaused =>
    have none : s.psq.stopCause = none := by simpa using uncaused
    refine Kept.isolationReached (((At.of s).setPhase .isoWait).kept (Drive.Waits.safe ?_ (fun asks => absurd asks (h.silent later))
      fun w r fb => (h.held later w r fb).imp id .inl))
    · exact
        { phase := .inr rfl
          quiet := quiet
          relays := ⟨contactor, precharge⟩
          timers := timers
          cancel := cancel
          waits := fun _ => none
          healthy := healthy }

theorem Kept.contactorReadsOpen (h : Kept weld s) : Kept weld (contactorReadsOpen s) := by
  unfold Machine.contactorReadsOpen
  split
  · exact h
  next opened =>
    have off : s.psq.contactorCmd = false := Bool.eq_false_iff.2 (not_or.1 opened).1
    split
    next is => exact h.finishStop (by rw [is]; rfl) off (h.runs (show s.psq.seq.drives = true by rw [is]; rfl)).precharge
    next is => exact h.isolationOpen is
    · exact h

end Sys2Proof.Machine
end

section
/-! PROOF. Stops, energizing and the loss of plug keep what the drive's invariant says of a state (R10 to R18, R21 to
R24). -/

namespace Sys2Proof.Machine

variable {d : Drive} {s t : State} {weld : Prop}

/-! ## The ramp (R14, R22) -/

theorem Kept.rampDown (h : Kept weld s) (expired : Bool) : Kept weld (rampDown expired s) := by
  unfold Machine.rampDown
  split
  next is =>
    split
    · have runs := h.runs (show s.psq.seq.drives = true by rw [is]; rfl)
      have later : s.psq.seq.tripsToFault = true := by rw [is]; rfl
      refine Kept.contactorReadsOpen ((((At.of s).record fun p => { p with
        stopTimer := false, forced := p.forced || expired }).clearEnable.openContactor h.joined).kept (Drive.Runs.safe
          { runs with contactor := (Or.elim · False.elim False.elim) } h.healthy h.asking fun w r fb => ?_))
      exact .inr (.inl (by simpa using h.held later w r fb))
    · exact h
  next is =>
    dsimp only
    have runs := h.runs (show s.psq.seq.drives = true by rw [is]; rfl)
    have later : s.psq.seq.tripsToFault = true := by rw [is]; rfl
    refine Kept.contactorReadsOpen (((((At.of s).record fun p => { p with
      stopTimer := false, forced := p.forced || (expired && p.stopCause.isSome) }).clearEnable.openContactor h.joined).setPhase
        .isoOpen).kept (Drive.Waits.safe
        { phase := .inl rfl
          quiet := ⟨runs.unlatched, runs.set, id, id⟩
          relays := ⟨rfl, runs.precharge⟩
          timers := ⟨runs.closing, runs.charging⟩
          cancel := runs.cancel
          waits := nofun
          healthy := fun x => (h.healthy x).2.2 (by rw [show (driveOf s).psq.seq = _ from is]; rfl) }
        (fun asks => absurd asks (h.silent later)) fun w r fb => ?_))
    exact .inr (.inl (by simpa using h.held later w r fb))
  · exact h

/-! ## A stop in a sweep isolation (R24) -/

theorem Kept.rejoinStopped (h : Kept weld s) : Kept weld (rejoinStopped s) := by
  unfold Machine.rejoinStopped
  split
  next done =>
    obtain ⟨is, stops, -⟩ := done
    obtain ⟨-, -, contactor, precharge⟩ := h.rejoins ⟨is, Option.isSome_iff_ne_none.1 stops⟩
    exact h.finishStop (by rw [is]; rfl) contactor precharge
  · exact h

/-- The bound with the own-side fault not yet told to the sequencer (R21, R145). -/
abbrev Drive.untold (d : Drive) : Drive := { d with fault := False }

theorem Drive.Safe.untold (h : d.Safe weld) : d.untold.Safe weld := { h with faulty := nofun }

/-- The bound with a stop recorded in a sweep isolation (R24). -/
abbrev Drive.recorded (cause : EndCause) (forced : Bool) (d : Drive) : Drive :=
  { d with psq := { d.psq with stopCause := some cause, forced := forced } }

theorem At.isolatedStop {cause : EndCause} {forced : Bool} (k : At (d.recorded cause forced) s) (h : d.untold.Safe weld)
    (iso : d.psq.seq.isolated = true) : Kept weld (isolatedStop s) := by
  obtain ⟨p, is⟩ := SeqState.isolated_phase iso
  have later : d.untold.psq.seq.tripsToFault = true := by rw [is]; rfl
  have is' : s.psq.seq = .sweepIsolated p := (congrArg Psq.seq k.psq).trans is
  have asks : (d.recorded cause forced).Asks := h.asking
  have welds : (d.recorded cause forced).Accounted weld := h.welds
  unfold Machine.isolatedStop
  rw [is']
  cases p with
  | isoRamp =>
    have runs := h.runs (show d.psq.seq.drives = true by rw [is]; rfl)
    have active : d.psq.seq ≠ .active ∧ d.psq.seq ≠ .suspended := by rw [is]; decide
    exact k.kept (Drive.Runs.safe (d := d.recorded cause forced) { runs with }
      (fun _ => ⟨active.1, active.2, fun _ => by simp⟩) asks welds)
  | isoOpen =>
    have waits := h.idles (.inl is)
    exact k.kept (Drive.Waits.safe (d := d.recorded cause forced)
      { waits with waits := fun x => absurd (is.symm.trans x) (by simp), healthy := fun _ => by simp } asks welds)
  | isoWait =>
    obtain ⟨-, ⟨-, set, enable, away⟩, relays, -⟩ := h.idles (.inr is)
    exact k.stopFinished asks (h.held later) relays ⟨enable, away, set⟩
  | isoRejoin =>
    have closes := h.closes (show d.psq.seq.energizes = true by rw [is]; rfl)
    refine Kept.rejoinStopped ((k.stopTimers.openRelays fun x => absurd x closes.quiet.2.2.2).kept (Drive.Closes.safe
      { energizes := closes.energizes
        quiet := ⟨closes.quiet.1, closes.quiet.2.1, closes.quiet.2.2.1, id⟩
        closing := nofun
        charging := nofun
        cancel := fun x => ⟨(closes.cancel x).1, rfl, rfl, rfl, rfl⟩
        rejoins := fun _ => ⟨rfl, rfl, rfl, rfl⟩
        healthy := fun _ => ⟨fun x => absurd (is.symm.trans x) (by simp), by simp⟩
        session := closes.session } asks fun w r fb => ?_))
    exact .inr (.inl (by simpa using h.held later w r fb))

theorem Kept.recordIsolatedStop (h : (driveOf s).untold.Safe weld) (iso : s.psq.seq.isolated = true) (cause : EndCause) :
    Kept weld (recordIsolatedStop cause s) := by
  have leaves : (driveOf s).away → Unmoved s.psq.seq := fun away => by
    have cmd := h.joined away
    obtain ⟨p, is⟩ := SeqState.isolated_phase iso
    rw [is]
    refine ⟨by simp, by simp, fun waits => ?_⟩
    have off := (h.idles (.inr (is.trans waits))).relays.1
    exact absurd (cmd.symm.trans off) (by decide)
  unfold Machine.recordIsolatedStop
  have k := (At.of s).record fun p => { p with
    stopCause := some cause, forced := p.forced && !s.psq.stopCause.isNone }
  exact At.isolatedStop (d := driveOf s) (k.onlyIf _ (k.leftSweep leaves)) h iso

/-! ## Stop and suspend requests (R12 to R14, R24) -/

/-- The bound with a stop's first step (R14). -/
abbrev Drive.stops (cause : EndCause) (d : Drive) : Drive :=
  { d with psq := { d.psq with stopCause := some cause, forced := false, stopTimer := true } }

theorem Kept.startStop (h : (driveOf s).untold.Safe weld) (is : s.psq.seq = .active ∨ s.psq.seq = .suspended)
    (cause : EndCause) : Kept weld (startStop cause s) := by
  have drives : s.psq.seq.drives = true := by obtain is | is := is <;> rw [is] <;> rfl
  have later : s.psq.seq.tripsToFault = true := (SeqState.of_drives drives).2.1
  have runs := h.runs drives
  have k : At (driveOf s) (leaveTarget s.psq.seq s) := by
    refine At.leaveTarget (At.of s) _ fun _ => .inr is
  exact ((k.record fun p => { p with stopCause := some cause, forced := false, stopTimer := true }).enterSeq .stopping).kept
    (Drive.Runs.safe (Drive.Runs.enter (d := (driveOf s).stops cause) { runs with } .stopping rfl)
      (fun _ => by simp [SeqState.isolated]) (Drive.Asks.enter (d := (driveOf s).stops cause) h.asking .stopping)
      (Drive.accounted_entered (d := (driveOf s).stops cause) .stopping (h.held later)))

theorem Kept.stopRequest (h : Kept weld s) (cause : EndCause) : Kept weld (stopRequest cause s) := by
  unfold Machine.stopRequest
  split
  next is => exact Kept.startStop h.untold (.inl is) _
  next is => exact Kept.startStop h.untold (.inr is) _
  next is =>
    split
    · exact h
    · exact Kept.recordIsolatedStop h.untold (by rw [is]; rfl) _
  · exact h

theorem Kept.suspendRequest (h : Kept weld s) : Kept weld (suspendRequest s) := by
  unfold Machine.suspendRequest
  split
  next is =>
    have drives : s.psq.seq.drives = true := by rw [is]; rfl
    have later : s.psq.seq.tripsToFault = true := by rw [is]; rfl
    exact ((At.of s).enterSeq .suspended).kept (Drive.Runs.safe ((h.runs drives).enter .suspended rfl)
      (fun x => absurd is (h.healthy x).1) (Drive.Asks.enter h.asking .suspended)
      (Drive.accounted_entered .suspended (h.held later)))
  next is => exact ((At.of s).record fun p => { p with isoReturn := some .suspended }).kept { h with }
  · exact h

theorem Kept.takeRequest (h : Kept weld s) (q : Option MeterRequest) : Kept weld (takeRequest q s) := by
  unfold Machine.takeRequest
  split
  · exact h
  · exact h.suspendRequest
  · exact h.stopRequest _

/-! ## Energizing (R10, R11, R23) -/

theorem At.joinNetwork (h : At d s) : At { d with enable := True, away := True } (joinNetwork s) := by
  have k : At d { s with shu.joint := true } := h.plain rfl
  exact k.armEnable.contactorClosed

/-- What energizing closes has no fault told and no stop recorded. -/
theorem Drive.Closes.joins (h : d.Closes) (closing : d.psq.contactorTimer = true) : ¬ d.fault := fun x => by
  obtain ⟨elsewhere, stops⟩ := h.healthy x
  have is := (SeqState.energizes_cases h.energizes).resolve_left elsewhere
  obtain ⟨-, -, off, -⟩ := h.rejoins ⟨is, stops⟩
  exact absurd ((h.closing closing).symm.trans off) (by decide)

/-- The contactor has been closed, and the sequencer joins the network in `q` (R11, R23). -/
theorem Drive.joined_safe {p : Psq} {q : SeqState} (is : q = .active ∨ q = .suspended)
    (quiet : ¬ d.trip ∧ ¬ d.unset ∧ ¬ d.fault) (relays : p.contactorCmd = true ∧ p.prechargeCmd = false)
    (timers : p.contactorTimer = false ∧ p.prechargeTimer = false ∧ p.cancelPending = false)
    (silent : ¬ (p.identTimer = true ∨ p.query = true)) :
    { d with psq := entered q p, enable := True, away := True }.Safe weld := by
  have drives : q.drives = true := by obtain rfl | rfl := is <;> rfl
  exact Drive.Runs.safe
    { drives := by simpa using drives
      unlatched := quiet.1
      set := quiet.2.1
      contactor := fun _ => by simpa using relays.1
      precharge := by simpa using relays.2
      closing := by simpa using timers.1
      charging := by simpa using timers.2.1
      cancel := by simpa using timers.2.2 }
    (fun x => absurd x quiet.2.2) (Drive.Asks.enter (d := { d with psq := p }) (fun x => absurd x silent) q)
    fun _ _ _ => .inl (by simpa using relays.1)

/-- The contactor of an energizing or a rejoin has been closed. -/
theorem Drive.Safe.joins (h : d.Safe weld) (closing : d.psq.contactorTimer = true) :
    (¬ d.trip ∧ ¬ d.unset ∧ ¬ d.fault) ∧ d.psq.contactorCmd = true ∧ d.psq.prechargeTimer = false ∧
      d.psq.cancelPending = false ∧ ¬ (d.psq.identTimer = true ∨ d.psq.query = true) := by
  obtain ⟨contactor, energizes⟩ := h.closing closing
  have closes := h.closes energizes
  have later : d.psq.seq.tripsToFault = true := by
    obtain is | is := SeqState.energizes_cases energizes <;> rw [is] <;> rfl
  refine ⟨⟨closes.quiet.1, closes.quiet.2.1, closes.joins closing⟩, contactor, ?_, ?_, h.silent later⟩
  · exact Bool.eq_false_iff.2 fun x => absurd (closing.symm.trans (closes.charging x)) (by decide)
  · exact Bool.eq_false_iff.2 fun x => absurd (closing.symm.trans (closes.cancel x).2.2.1) (by decide)

theorem Kept.becomeActive (h : Kept weld s) (closing : s.psq.contactorTimer = true) : Kept weld (becomeActive s) := by
  obtain ⟨quiet, contactor, charging, cancel, silent⟩ := h.joins closing
  unfold Machine.becomeActive
  dsimp only
  have k := ((At.of s).record fun p => { p with contactorTimer := false }).openPrecharge
  have k := ((k.openSession (startStamp (Machine.openPrecharge { s with psq.contactorTimer := false }))
    (Machine.openPrecharge { s with psq.contactorTimer := false }).mtr.prefetched).record fun p => { p with
      start := none }).setSession.enterSeq .active
  exact (At.joinNetwork k).kept (Drive.joined_safe (.inl rfl) quiet ⟨contactor, rfl⟩ ⟨rfl, charging, cancel⟩ silent)

theorem Kept.rejoin (h : Kept weld s) (closing : s.psq.contactorTimer = true) : Kept weld (rejoin s) := by
  obtain ⟨quiet, contactor, charging, cancel, silent⟩ := h.joins closing
  unfold Machine.rejoin
  dsimp only
  have k := ((At.of s).record fun p => { p with contactorTimer := false, isoReturn := none }).openPrecharge
  refine (At.joinNetwork (k.enterSeq _)).kept (Drive.joined_safe ?_ quiet ⟨contactor, rfl⟩ ⟨rfl, charging, cancel⟩ silent)
  split
  · exact .inr rfl
  · exact .inl rfl

theorem Kept.contactorReadsClosed (h : Kept weld s) : Kept weld (contactorReadsClosed s) := by
  unfold Machine.contactorReadsClosed
  split
  next closed =>
    split
    · exact h.becomeActive closed.1
    · exact h.rejoin closed.1
    · exact h
  · exact h

theorem Kept.prechargeResult (h : Kept weld s) : Kept weld (prechargeResult s) := by
  unfold Machine.prechargeResult
  split
  next reached =>
    obtain ⟨charging, -⟩ := reached
    have energizes := (h.charging charging).2
    have closes := h.closes energizes
    refine Kept.contactorReadsClosed (((At.of s).record fun p => { p with
      contactorCmd := true, prechargeTimer := false, contactorTimer := true }).kept (Drive.Closes.safe
        { energizes := energizes
          quiet := closes.quiet
          closing := fun _ => rfl
          charging := nofun
          cancel := fun x => absurd (charging.symm.trans (closes.cancel x).2.1) (by decide)
          rejoins := fun x => absurd (charging.symm.trans (closes.rejoins x).1) (by decide)
          healthy := closes.healthy
          session := closes.session } h.asking fun _ _ _ => .inl rfl))
  · exact h

/-! ## Withdrawing (R16, R21) -/

theorem At.withdraw (h : At d s) (joined : d.away → d.psq.contactorCmd = true) :
    At { d with
      psq := { d.psq.prechargeOff.contactorOff with prechargeTimer := false, contactorTimer := false, stopTimer := false }
      away := False } (withdraw s) := (h.stopTimers.openRelays joined).dropPrefetched

/-- A state at rest is entered with everything off. -/
theorem Drive.calm_safe {q : SeqState} (calm : q.tripsToFault = false)
    (relays : d.psq.contactorCmd = false ∧ d.psq.prechargeCmd = false)
    (timers : d.psq.contactorTimer = false ∧ d.psq.prechargeTimer = false ∧ d.psq.cancelPending = false)
    (quiet : ¬ d.enable ∧ ¬ d.away) (closed : d.closed) (asks : q = .identifying ∨ d.Asks)
    (held : weld → d.running → d.psq.contactorFb = true → d.psq.contactorCmd = true ∨ d.psq.contactorSup = true)
    (early : d.unset → (q = .unplugged ∨ q = .plugSettle ∨ q = .plugged ∨ q = .fault) ∧
      (q = .plugged ∨ q = .unplugged ∨ d.psq.ident = none) ∧ d.alone ∧ d.idle) :
    { d with psq := entered q d.psq }.Safe weld := by
  refine (Drive.rests_entered calm relays timers quiet closed asks).safe ?_ fun unset => ?_
  · intro w r fb
    simpa [relays.1] using (held w r (by simpa using fb)).imp id (.inl (b := q = .fault))
  · obtain ⟨states, forgotten, rest⟩ := early unset
    refine ⟨by simpa using states, ?_, rest⟩
    simp only [entered_fields]
    split
    · rfl
    next kept => exact (or_assoc.2 forgotten).resolve_left kept

theorem Kept.withdrawn (h : (driveOf s).untold.Safe weld) (is : s.psq.seq = .precharge) :
    Kept weld (enterSeq .identified (forgetStop (withdraw s))) := by
  have later : (driveOf s).untold.psq.seq.tripsToFault = true := by rw [show (driveOf s).untold.psq.seq = _ from is]; rfl
  have closes := h.closes (show s.psq.seq.energizes = true by rw [is]; rfl)
  refine (((At.of s).withdraw h.joined).forgetStop.enterSeq .identified).kept (Drive.calm_safe rfl ⟨rfl, rfl⟩
    ⟨rfl, rfl, rfl⟩ ⟨closes.quiet.2.2.1, id⟩ ?_ (.inr h.asking) (fun w r fb => .inr (by simpa using h.held later w r fb))
    fun x => absurd x closes.quiet.2.1)
  exact closes.session.resolve_right fun rejoins => absurd (is.symm.trans rejoins) (by simp)

theorem Kept.cancelComplete (h : Kept weld s) : Kept weld (cancelComplete s) := by
  unfold Machine.cancelComplete Machine.onlyIf
  split
  next done =>
    have pending : s.psq.cancelPending = true := (Bool.and_eq_true _ _ ▸ done).1
    obtain ⟨is, charging, closing, contactor, precharge⟩ := h.cancel pending
    have later : s.psq.seq.tripsToFault = true := by rw [show s.psq.seq = _ from is]; rfl
    have closes := h.closes (show s.psq.seq.energizes = true by rw [show s.psq.seq = _ from is]; rfl)
    refine ((At.of s).forgetStop.enterSeq .identified).kept (Drive.calm_safe rfl ⟨contactor, precharge⟩
      ⟨closing, charging, rfl⟩ ⟨closes.quiet.2.2.1, closes.quiet.2.2.2⟩ ?_ (.inr h.asking) (h.held later)
      fun x => absurd x closes.quiet.2.1)
    exact closes.session.resolve_right fun rejoins => absurd (is.symm.trans rejoins) (by simp)
  · exact h

/-! ## The own-side fault (R21, R145) -/

theorem Kept.ownFaultTold (h : (driveOf s).untold.Safe weld) : Kept weld (ownFaultTold s) := by
  unfold Machine.ownFaultTold
  split
  next is => exact Kept.withdrawn h is
  next is => exact Kept.startStop h (.inl is) _
  next is => exact Kept.startStop h (.inr is) _
  next is => exact Kept.recordIsolatedStop h (by rw [is]; rfl) _
  next precharge active suspended isolated =>
    exact { h with faulty := fun _ => ⟨precharge, active, suspended, fun iso => by
      obtain ⟨p, is⟩ := SeqState.isolated_phase iso
      exact absurd is (isolated p)⟩ }

theorem Kept.setOwnFault (h : Kept weld s) : Kept weld (setOwnFault s) := by
  unfold Machine.setOwnFault
  split
  · exact h
  · dsimp only
    have k : Kept weld (Machine.ownFaultTold (Machine.raiseEvent .insulation { s with imn.ownFault := true })) :=
      Kept.ownFaultTold h.untold
    have k := k.monitor { (Machine.ownFaultTold (Machine.raiseEvent .insulation { s with imn.ownFault := true })).imn with
      selfCheck := .pending } id id
    split
    · exact (At.of _).startSelfCheck.kept k
    · exact k

end Sys2Proof.Machine
end

section
/-! PROOF. The plug, the sweep and the monitor's results keep what the drive's invariant says of a state (R2, R3, R17,
R18, R138 to R168). -/

namespace Sys2Proof.Machine

variable {s t : State} {weld : Prop}

/-! ## The plug (R2, R3, R17, R18) -/

theorem Kept.refreshLine (h : Kept weld s) : Kept weld (refreshLine s) := (At.of s).refreshLine.kept h

theorem Kept.evaluateAndHand (h : Kept weld s) : Kept weld (evaluateAndHand s) := h.same (Same.refl s).evaluateAndHand

/-- From one state at rest to another. -/
theorem Kept.enterCalm (h : Kept weld s) {q : SeqState} (calm : s.psq.seq.tripsToFault = false)
    (elsewhere : s.psq.seq ≠ .fault) (next : q.tripsToFault = false)
    (early : s.cpt.configured = false → (q = .unplugged ∨ q = .plugSettle ∨ q = .plugged ∨ q = .fault)) :
    Kept weld (enterSeq q s) := by
  have rests := h.rests calm
  refine ((At.of s).enterSeq q).kept (Drive.calm_safe next ⟨rests.contactor, rests.precharge⟩
    ⟨rests.closing, rests.charging, rests.cancel⟩ ⟨rests.enable, rests.home⟩ rests.closed (.inr h.asking)
    (fun w r fb => (or_assoc.2 (h.welds w r fb)).resolve_right elsewhere) fun unset => ?_)
  obtain ⟨-, ident, rest⟩ := h.early unset
  exact ⟨early unset, .inr (.inr ident), rest⟩

theorem Kept.plugSettled (h : Kept weld s) : Kept weld (plugSettled s) := by
  unfold Machine.plugSettled
  split
  next due =>
    have is : s.psq.seq = .plugSettle := by
      unfold settleDue at due
      simp only [Bool.and_eq_true, beq_iff_eq] at due
      exact due.1.1
    exact (h.enterCalm (by rw [is]; rfl) (by rw [is]; simp) rfl fun _ => .inr (.inr (.inl rfl))).raiseEvent _
  · exact h

theorem Kept.releaseButton (h : Kept weld s) : Kept weld (releaseButton s) := by
  unfold Machine.releaseButton
  split
  · exact h.stopRequest _
  · exact h.stopRequest _
  · exact h.stopRequest _
  · exact h
  · exact h
  · exact h.enqueue _

/-- A loss of plug with both relays commanded open (R18). -/
theorem Kept.deadLoss (h : Kept weld s) (contactor : s.psq.contactorCmd = false) (precharge : s.psq.prechargeCmd = false)
    (elsewhere : s.psq.seq ≠ .fault) : Kept weld (deadLoss s) := by
  have enable : ¬ s.ptu.enable = true := fun x => absurd ((h.drives x).1.symm.trans contactor) (by decide)
  have away : ¬ s.imn.mode ≠ .localMode := fun x => absurd ((h.joined x).symm.trans contactor) (by decide)
  refine (((((At.of s).endSession .unplugged).dropPrefetched.stopTimers.forgetStop).enterSeq .unplugged)).kept
    (Drive.calm_safe rfl ⟨contactor, precharge⟩ ⟨rfl, rfl, rfl⟩ ⟨enable, away⟩ trivial (.inr h.asking)
    (fun w r fb => (or_assoc.2 (h.welds w r fb)).resolve_right elsewhere) fun unset => ?_)
  obtain ⟨-, -, alone, -⟩ := h.early unset
  exact ⟨.inl rfl, .inr (.inl rfl), alone, trivial⟩

/-- The identification is forgotten. -/
theorem Kept.forgetIdent (h : Kept weld s) : Kept weld (forgetIdent s) := by
  have k : At { driveOf s with psq := { s.psq with ident := none } } (Machine.forgetIdent s) :=
    { At.of s with psq := rfl }
  refine k.kept { h with early := fun unset => ?_ }
  obtain ⟨states, -, rest⟩ := h.early unset
  exact ⟨states, rfl, rest⟩

theorem Kept.plugLost (h : Kept weld s) : Kept weld (plugLost s) := by
  unfold Machine.plugLost
  split
  · exact h.raiseTrip _
  next off =>
    obtain ⟨contactor, precharge⟩ := not_or.1 off
    split
    · exact h.forgetIdent
    · exact h
    next elsewhere _ => exact h.deadLoss (Bool.eq_false_iff.2 contactor) (Bool.eq_false_iff.2 precharge) elsewhere

theorem Kept.lossOfPlug (h : Kept weld s) : Kept weld (lossOfPlug s) := by
  have k : Kept False (endSupervisions s) :=
    ((At.of s).record fun p => { p with contactorSup := false, prechargeSup := false }).kept { h with welds := nofun }
  exact k.plugLost.weldAtOnce.welded _

theorem Kept.detectPlug (h : Kept weld s) (old new : ProxLevel) : Kept weld (detectPlug old new s) := by
  have settle (n : Nat) : Kept weld { s with psq.settleMs := n } :=
    ((At.of s).record fun p => { p with settleMs := n }).kept { h with }
  unfold Machine.detectPlug
  split
  next is =>
    split
    · exact h
    · exact (settle 0).enterCalm (by rw [is]; rfl) (by rw [is]; simp) rfl fun _ => .inr (.inl rfl)
  · exact settle _
  · exact settle _
  · exact h

theorem Kept.takeProximity (h : Kept weld s) (v : Int) : Kept weld (takeProximity v s) := by
  unfold Machine.takeProximity
  dsimp only
  have k : Kept weld { Machine.plugSettled s with psq.prox := classify v } :=
    ((At.of _).record fun p => { p with prox := classify v }).kept { h.plugSettled with }
  have t := k.detectPlug (Machine.plugSettled s).psq.prox (classify v)
  split
  · exact t
  · refine Kept.refreshLine ?_
    split
    · exact t.releaseButton
    · exact t.lossOfPlug
    · exact t

/-! ## Results the sequencer takes (R13, R14, R102) -/

theorem Kept.batteryResult (h : Kept weld s) : Kept weld (batteryResult s) :=
  ((At.of s).record fun p => { p with batteryLow := s.psq.seq == .active && decide (vBat s < 2000) }).kept { h with }

theorem Kept.currentResult (h : Kept weld s) : Kept weld (currentResult s) := h.onlyIf _ (h.rampDown _)

theorem Kept.linkResult (h : Kept weld s) : Kept weld (linkResult s) := h.onlyIf _ (h.raiseTrip _)

/-! ## The steps of a sweep (R154, R156, R162) -/

theorem Kept.endLeading (h : Kept weld s) (r : LeaderRecord) (o : SweepOutcome) (hold : Bool) :
    Kept weld (endLeading r o hold s) := ((At.of s).endLeading r o hold).kept h

theorem Kept.ownNotFound (h : Kept weld s) (r : LeaderRecord) : Kept weld (ownNotFound r s) :=
  (h.endLeading r _ _).takeRelease

/-- An entry to a state that keeps the identification, as the line is left alone. -/
theorem At.moveSeq {d : Drive} (h : At d s) (q : SeqState) (keeps : q ≠ .plugged ∧ q ≠ .unplugged) :
    At { d with psq := entered q d.psq } (Machine.setSeq q s) := by
  have k := h.setSeq q
  unfold entered
  rw [if_neg (not_or.2 keeps)]
  exact k

/-- The bound with the sweep-target report taken (R22). -/
abbrev Drive.isolates (ret : ReturnState) (d : Drive) : Drive :=
  { d with psq := { d.psq with isoReturn := some ret, stopTimer := true, stopCause := none, forced := false } }

theorem Kept.enterIsolation (h : Kept weld s) {ret : ReturnState} (takes : returnStateOf s.psq.seq = some ret) :
    Kept weld (enterIsolation ret s) := by
  have is : s.psq.seq = .active ∨ s.psq.seq = .suspended := by
    unfold returnStateOf at takes
    split at takes
    next is => exact .inl is
    next is => exact .inr is
    · cases takes
  have drives : s.psq.seq.drives = true := by obtain is | is := is <;> rw [is] <;> rfl
  have later : s.psq.seq.tripsToFault = true := (SeqState.of_drives drives).2.1
  have k := ((At.of s).record fun p => { p with
    isoReturn := some ret, stopTimer := true, stopCause := none, forced := false }).moveSeq (.sweepIsolated .isoRamp) ⟨by simp, by simp⟩
  refine k.kept (Drive.Runs.safe (Drive.Runs.enter (d := (driveOf s).isolates ret) { h.runs drives with } _ rfl)
    (fun x => ?_) (Drive.Asks.enter (d := (driveOf s).isolates ret) h.asking _)
    (Drive.accounted_entered (d := (driveOf s).isolates ret) _ (h.held later)))
  obtain ⟨active, suspended, -⟩ := h.healthy x
  exact absurd is (not_or.2 ⟨active, suspended⟩)

theorem Kept.reportTarget (h : Kept weld s) : Kept weld (reportTarget s) := h.same (Same.refl s).reportTarget

theorem Kept.startOwnStep (h : Kept weld s) (r : LeaderRecord) : Kept weld (startOwnStep r s) := by
  unfold Machine.startOwnStep
  dsimp only
  have k := ((h.monitor { s.imn with sweep := .leading { r with
    phase := .ownStep, answerTimer := false, cycleTimer := false, ownResults := 0 } } id id).enqueue
    (.sweepStep (BitVec.ofNat 8 s.cfg.station) (BitVec.ofNat 8 r.index))).raiseEvent .sweep
  split
  next ret takes =>
    refine Kept.reportTarget (Kept.enterIsolation ?_ (by simpa using takes))
    exact k.monitor _ id id
  · exact k.ownNotFound _

theorem Kept.startStep (h : Kept weld s) (r : LeaderRecord) : Kept weld (startStep r s) := by
  unfold Machine.startStep
  split
  · exact h.startOwnStep r
  · refine Kept.raiseEvent (Kept.enqueue ?_ _) _
    exact h.monitor _ id id

theorem Kept.nextStep (h : Kept weld s) (r : LeaderRecord) : Kept weld (nextStep r s) := h.startStep _

theorem Kept.checkSweepStart (h : Kept weld s) : Kept weld (checkSweepStart s) := by
  refine h.onlyIf _ (Kept.startStep (Kept.raiseEvent (Kept.enqueue ?_ _) _) _)
  exact h.monitor _ id id

/-! ## The target and the role (R146 to R148, R158, R160) -/

theorem Kept.releaseTarget (h : Kept weld s) : Kept weld (releaseTarget s) := by
  unfold Machine.releaseTarget
  split
  · exact h
  · dsimp only
    have k : Kept weld (endTargetReport { s with imn.target := none }) :=
      (h.monitor { s.imn with target := none } id id).plain rfl
    split
    · exact k.takeRelease
    · exact k.monitor _ id id
    · exact k.monitor _ id id
    · exact k

theorem Kept.clearTarget (h : Kept weld s) : Kept weld (clearTarget s) := (At.of s).clearTarget.kept h

theorem Kept.endSweep (h : Kept weld s) (o : SweepOutcome) (hold : Bool) : Kept weld (endSweep o hold s) :=
  ((At.of s).endSweep o hold).kept h

theorem Kept.yieldRole (h : Kept weld s) : Kept weld (yieldRole s) := (At.of s).yieldRole.kept h

theorem Kept.interference (h : Kept weld s) : Kept weld (interference s) := (At.of s).interference.kept h

theorem Kept.endUnmonitored (h : Kept weld s) : Kept weld (endUnmonitored s) := (At.of s).endUnmonitored.kept h

/-- The role is taken out of JOINT-passive (R146). -/
theorem Kept.takeRole (h : Kept weld s) (passive : s.imn.mode = .passive) : Kept weld (takeRole s) := by
  refine Kept.checkSweepStart (Kept.startCycle (Kept.endUnmonitored ?_))
  exact h.monitor _ (fun _ => by rw [passive]; simp) id

theorem Kept.measuringRoleTake (h : Kept weld s) : Kept weld (measuringRoleTake s) := by
  unfold Machine.measuringRoleTake
  split
  next due =>
    have passive : s.imn.mode = .passive := by
      unfold roleDue at due
      simp only [Bool.and_eq_true, beq_iff_eq] at due
      exact due.1
    split
    · exact h.takeRole passive
    · exact h.monitor _ id id
  · exact h

/-! ## Results of the monitor (R142 to R150, R157, R162) -/

theorem Kept.noFault (h : Kept weld s) (m : Imn) (away : m.mode = s.imn.mode) (fault : m.ownFault = false) :
    Kept weld { s with imn := m } :=
  h.monitor m (by rw [away]; exact id) (fun x => absurd (x.symm.trans fault) (by decide))

theorem Kept.passSelfCheck (h : Kept weld s) : Kept weld (passSelfCheck s) := by
  refine Kept.raiseEvent ?_ _
  exact h.noFault _ rfl rfl

theorem Kept.selfCheckResult (h : Kept weld s) (rf passed : Nat) : Kept weld (selfCheckResult rf passed s) := by
  unfold Machine.selfCheckResult
  split
  · exact (At.of s).failSelfCheck.kept h
  · split
    · exact h.monitor _ id id
    · exact h.passSelfCheck

theorem Kept.passClearing (h : Kept weld s) : Kept weld (passClearing s) := by
  refine Kept.raiseEvent ?_ _
  exact h.noFault _ rfl rfl

theorem Kept.clearingResult (h : Kept weld s) (rf : Nat) : Kept weld (clearingResult rf s) := by
  unfold Machine.clearingResult
  split
  · exact (At.of s).failClearing.kept h
  · exact h.passClearing

theorem Kept.ownStepResult (h : Kept weld s) (r : LeaderRecord) : Kept weld (ownStepResult r s) := by
  unfold Machine.ownStepResult
  split
  · exact (h.endLeading _ _ _).setOwnFault
  · split
    · exact h.ownNotFound _
    · exact h.monitor _ id id

theorem Kept.ownConsequence (h : Kept weld s) (before : Evaluation) : Kept weld (ownConsequence before s) := by
  unfold Machine.ownConsequence
  split
  · exact h.ownStepResult _
  · exact h.onlyIf _ h.setOwnFault

theorem Kept.localResult (h : Kept weld s) (x : InsResult) : Kept weld (localResult x s) := by
  unfold Machine.localResult
  dsimp only
  have k := (At.of s).monitor { s.imn with localResult := some x, localFlag := true } id id
  have t : Kept weld (Machine.noteVerdict x.rf (Machine.judgeOwn x.rf
      { s with imn.localResult := some x, imn.localFlag := true })) := ((k.judgeOwn x.rf).monitor _ id id).kept h
  have u := t.ownConsequence s.imn.own
  split
  · exact (u.selfCheckResult x.rf _).onlyIf _ ((u.selfCheckResult x.rf _).clearingResult _)
  · exact u.onlyIf _ (u.clearingResult _)

theorem Kept.measureFault (h : Kept weld s) : Kept weld (measureFault s) := by
  refine Kept.raiseEvent ?_ _
  exact h.monitor _ id id

theorem Kept.decideStep (h : Kept weld s) (rf : Nat) (r : LeaderRecord) : Kept weld (decideStep rf r s) := by
  unfold Machine.decideStep
  split
  · exact h.endLeading _ _ _
  · exact h.nextStep _

theorem Kept.alarmChange (h : Kept weld s) (before : Evaluation) : Kept weld (alarmChange before s) :=
  h.onlyIf _ h.checkSweepStart

theorem Kept.jointResult (h : Kept weld s) (x : InsResult) : Kept weld (jointResult x s) := by
  unfold Machine.jointResult
  dsimp only
  have k := (At.of s).monitor { s.imn with jointResult := some x, resultInRole := true } id id
  have u := Kept.enqueue ((k.judgeNet x.rf).kept h) (.measureResult (BitVec.ofNat 16 x.rf) (if x.estimate then 1 else 0))
  split
  · exact u.decideStep _ _
  · exact u.alarmChange _

theorem Kept.cycleOutcome (h : Kept weld s) (uPlus uMinus : Int) (estimate : Bool) :
    Kept weld (cycleOutcome uPlus uMinus estimate s) := by
  unfold Machine.cycleOutcome
  dsimp only
  split
  · split
    · exact h.measureFault
    · exact h.localResult _
  · split
    · exact h.interference
    · exact h.jointResult _
  · exact h

/-! ## The halves of a cycle (R139, R140) -/

theorem Kept.announceHalf (h : Kept weld s) (x : CycleHalf) : Kept weld (announceHalf x s) := by
  unfold Machine.announceHalf
  split
  · exact (h.enqueue _).monitor _ id id
  · exact h

theorem Kept.endCycle (h : Kept weld s) (v : Int) (c : Cycle) : Kept weld (endCycle v c s) := by
  unfold Machine.endCycle
  dsimp only
  have k := h.monitor { s.imn with cycle := some .following, driver := .plus } id id
  have u := k.cycleOutcome (c.uPlus.getD 0) v c.estimateAtEnd
  split
  · exact u.announceHalf _
  · exact u

theorem Kept.takeViso (h : Kept weld s) (v : Int) : Kept weld (takeViso v s) := by
  unfold Machine.takeViso sampleHalf
  dsimp only
  split
  · exact h
  · split
    · refine Kept.announceHalf ?_ _
      exact h.monitor _ id id
    · split
      · split
        · exact h.endCycle _ _
        · refine Kept.announceHalf ?_ _
          exact h.monitor _ id id
      · exact h.monitor _ id id

end Sys2Proof.Machine
end

section
/-! PROOF. Frames, the monitor's timers, the beacon period and the line keep what the drive's invariant says of a state
(R30 to R63, R144 to R168). -/

namespace Sys2Proof.Machine

variable {s t : State} {weld : Prop}

/-! ## Frames delivered to the monitor (R144, R148, R155 to R163) -/

theorem Kept.hearMeasurer (h : Kept weld s) : Kept weld (hearMeasurer s) := h.monitor _ id id

theorem Kept.takeMeasureStart (h : Kept weld s) : Kept weld (takeMeasureStart s) := by
  unfold Machine.takeMeasureStart
  dsimp only
  split
  · exact h.hearMeasurer.interference
  · exact h.hearMeasurer

theorem Kept.takeMeasureResult (h : Kept weld s) (rf : Nat) (estimate : Bool) :
    Kept weld (takeMeasureResult rf estimate s) := by
  unfold Machine.takeMeasureResult
  dsimp only
  split
  · have k : Kept weld { Machine.hearMeasurer s with
        imn.jointResult := some ⟨rf, estimate, none, none⟩ } := h.hearMeasurer.monitor _ id id
    exact (((At.of _).judgeNet rf).kept k).endUnmonitored.monitor _ id id
  · exact h.hearMeasurer

theorem Kept.follow (h : Kept weld s) (leader : Nat) : Kept weld (follow leader s) := by
  refine Kept.raiseEvent ?_ _
  exact h.monitor _ id id

theorem Kept.takeAlert (h : Kept weld s) (sender : Nat) :
    Kept weld (takeAlert sender s) := by
  unfold Machine.takeAlert
  split
  · exact h.follow _
  · split
    · exact h.monitor _ id id
    · exact h
  · exact h

theorem Kept.answerSweep (h : Kept weld s) (code : Byte) :
    Kept weld (answerSweep code s) := h.enqueue _

theorem Kept.becomeTarget (h : Kept weld s) (index : Nat) :
    Kept weld (becomeTarget index s) := by
  unfold Machine.becomeTarget
  have k : Kept weld { s with imn.target := some ⟨index, none⟩ } := h.monitor _ id id
  split
  · exact h
  · split
    next ret taken => exact (k.enterIsolation taken).reportTarget.raiseEvent _
    next =>
      split
      · exact h.answerSweep _
      · exact (k.raiseEvent _).answerSweep _

theorem Kept.serveStep (h : Kept weld s) (target index : Nat) :
    Kept weld (serveStep target index s) := by
  unfold Machine.serveStep
  split
  · exact h.becomeTarget _
  · exact h.releaseTarget

theorem Kept.takeSweepStep (h : Kept weld s) (sender target index : Nat) :
    Kept weld (takeSweepStep sender target index s) := by
  unfold Machine.takeSweepStep
  split
  · exact (h.follow _).serveStep _ _
  · split
    · refine Kept.serveStep ?_ _ _
      exact h.monitor _ id id
    · exact h
  · exact h

theorem Kept.takeSweepAnswer (h : Kept weld s) (sender code : Nat) :
    Kept weld (takeSweepAnswer sender code s) := by
  unfold Machine.takeSweepAnswer
  split
  · split
    · dsimp only
      split
      · exact h.nextStep _
      · exact Kept.startCycle (h.monitor _ id id)
    · exact h
  · exact h

theorem Kept.foundHere (h : Kept weld s) (o : SweepOutcome) :
    Kept weld (foundHere o s) := by
  unfold Machine.foundHere
  dsimp only
  have k := h.setOwnFault
  have d : Kept weld { Machine.setOwnFault s with imn.disagreement := true } := k.monitor _ id id
  refine Kept.endSweep (Kept.clearTarget (Kept.onlyIf _ k ?_)) _ _
  exact d.raiseEvent _

theorem Kept.takeResult (h : Kept weld s) (o : SweepOutcome) :
    Kept weld (takeResult o s) := by
  unfold Machine.takeResult
  dsimp only
  refine Kept.checkSweepStart ?_
  split
  · split
    · exact h.foundHere _
    · exact h.releaseTarget.endSweep _ _
  · exact h.releaseTarget.endSweep _ _
  · exact h.releaseTarget.endSweep _ _

theorem Kept.takeSweepResult (h : Kept weld s) (sender code found : Nat) :
    Kept weld (takeSweepResult sender code found s) := by
  unfold Machine.takeSweepResult
  split
  · split
    · exact h.takeResult _
    · exact h
  · exact h

/-! ## The monitor's timers and commands (R144, R150, R152, R156, R157, R165, R167) -/

theorem Kept.unmonitoredExpiry (h : Kept weld s) : Kept weld (unmonitoredExpiry s) := by
  unfold Machine.unmonitoredExpiry
  split
  · refine Kept.raiseEvent ?_ _
    exact h.monitor _ id id
  · exact h

theorem Kept.sweepAnswerTimeout (h : Kept weld s) : Kept weld (sweepAnswerTimeout s) := by
  unfold Machine.sweepAnswerTimeout
  split
  · split
    · exact h.nextStep _
    · exact h
  · exact h

theorem Kept.sweepCycleTimeout (h : Kept weld s) : Kept weld (sweepCycleTimeout s) := by
  unfold Machine.sweepCycleTimeout
  split
  · split
    · split
      · exact h.ownNotFound _
      · exact h.nextStep _
    · exact h
  · exact h

theorem Kept.leaderSilenceExpiry (h : Kept weld s) : Kept weld (leaderSilenceExpiry s) := by
  unfold Machine.leaderSilenceExpiry
  split
  · exact (h.endSweep _ _).releaseTarget.checkSweepStart
  · exact h

theorem Kept.sweepHoldExpiry (h : Kept weld s) : Kept weld (sweepHoldExpiry s) := by
  unfold Machine.sweepHoldExpiry
  split
  · exact Kept.checkSweepStart (h.monitor _ id id)
  · exact h

theorem Kept.startClearing (h : Kept weld s) : Kept weld (startClearing s) := by
  have k : Kept weld { s with imn.clearing := true } := h.monitor _ id id
  exact (k.onlyIf _ (k.same ((Same.refl _).setIsolate _))).startCycle

theorem Kept.clearInsulation (h : Kept weld s) : Kept weld (clearInsulation s) := by
  unfold Machine.clearInsulation
  repeat' split
  · exact h.plain rfl
  · exact h.plain rfl
  · exact h.plain rfl
  · exact h.startClearing.answerEmpty _

theorem Kept.readInsulation (h : Kept weld s) : Kept weld (readInsulation s) := h.plain rfl


/-! ## The peer table (R45 to R51) -/

theorem Kept.updateFallback (h : Kept weld s) : Kept weld (updateFallback s) := h.same (Same.refl s).updateFallback

theorem Kept.evaluate (h : Kept weld s) : Kept weld (evaluate s) := h.same (Same.refl s).evaluate

/-- The peer table and the overflow count are new; before CONFIGURE no peer is known (R36). -/
theorem Kept.peers (h : Kept weld s) (ps : List PeerEntry) (o : Nat)
    (early : s.cpt.configured = false → s.shu.peers = [] → ps = []) :
    Kept weld { s with shu.peers := ps, shu.overflow := o } := by
  have k : At { driveOf s with alone := ps = [] } { s with shu.peers := ps, shu.overflow := o } := { At.of s with alone := id }
  refine k.kept { h with early := fun unset => ?_ }
  obtain ⟨states, ident, alone, idle⟩ := h.early unset
  exact ⟨states, ident, early unset alone, idle⟩

theorem Kept.putEntry (h : Kept weld s) (set : s.cpt.configured = true) (e : PeerEntry) (extra : Bool) :
    Kept weld (putEntry e extra s) := by
  have k := (h.peers (putPeer e s.shu.peers) s.shu.overflow fun unset =>
    absurd (set.symm.trans unset) (by decide)).updateFallback
  unfold Machine.putEntry
  dsimp only
  split
  · exact k.same (Same.refl _).extraAndEvaluate
  · exact k

theorem Kept.takeBeacon (h : Kept weld s) (set : s.cpt.configured = true) (station feeder : Nat) (demand draw : Word16)
    (flags : Byte) (resistance : Word16) (leader : Byte) :
    Kept weld (takeBeacon station feeder demand draw flags resistance leader s) := by
  unfold Machine.takeBeacon
  split
  · exact h
  · split
    · exact h.putEntry set _ _
    · split
      · exact (h.putEntry set _ _).raiseEvent _
      · exact (h.peers s.shu.peers 4 fun _ alone => alone).updateFallback

theorem Kept.removePeers (h : Kept weld s) (p : PeerEntry → Bool) :
    Kept weld (Machine.updateFallback { s with shu.peers := s.shu.peers.filter p }) :=
  (h.peers _ s.shu.overflow fun _ alone => by rw [alone]; rfl).updateFallback

theorem Kept.takeLeave (h : Kept weld s) (station : Nat) : Kept weld (takeLeave station s) := by
  unfold Machine.takeLeave
  split
  · exact (h.removePeers _).raiseEvent _
  · exact h

theorem Kept.removeAged (h : Kept weld s) : Kept weld (removeAged s) :=
  (h.removePeers _).onlyIf _ ((h.removePeers _).raiseEvent _)

/-! ## Delivery (R33 to R35) -/

theorem Kept.electionAtBeacon (h : Kept weld s) (station : Nat) (measurer : Bool) :
    Kept weld (electionAtBeacon station measurer s) := by
  have t := h.onlyIf measurer h.hearMeasurer
  exact t.onlyIf _ t.yieldRole

theorem Kept.deliver (h : Kept weld s) (set : s.cpt.configured = true) (f : Frame) : Kept weld (deliver f s) := by
  unfold Machine.deliver
  dsimp only
  split
  · exact (h.takeBeacon set _ _ _ _ _ _ _).electionAtBeacon _ _
  · exact h.takeLeave _
  · exact h.takeAlert _
  · exact h.takeSweepStep _ _ _
  · exact h.takeSweepAnswer _ _
  · exact h.takeSweepResult _ _ _
  · exact h.takeMeasureStart
  · exact h.takeMeasureResult _ _

/-- What goes by a feeder has been configured (R6, R8). -/
theorem Kept.configured (h : Kept weld s) (held : heldFeeder s ≠ 0) : s.cpt.configured = true := by
  refine Bool.of_not_eq_false fun unset => held ?_
  obtain ⟨-, ident, -⟩ := h.early unset
  have ident : s.psq.ident = none := ident
  unfold heldFeeder
  rw [ident]
  rfl

theorem Kept.route (h : Kept weld s) (f : Frame) : Kept weld (route f s) := by
  unfold Machine.route
  split
  · exact h
  next held =>
    split
    · exact h.deliver (h.configured held) _
    · split
      · exact h
      · refine Kept.raiseEvent ?_ _
        exact h.plain rfl

theorem Kept.detectDuplicate (h : Kept weld s) (station : BitVec 6) :
    Kept weld (detectDuplicate station s) := by
  unfold Machine.detectDuplicate
  split
  · dsimp only
    have k : Kept weld { s with fli.duplicate := true } := h.plain rfl
    have t := (k.raiseEvent .duplicate).refreshLine
    exact t.onlyIf _ (t.plain rfl)
  · exact h

theorem Kept.driveAck (h : Kept weld s) : Kept weld (driveAck s) := h.plain rfl

theorem Kept.takeGood (h : Kept weld s) (station : BitVec 6) (f : Option Frame) :
    Kept weld (takeGood station f s) := by
  have t := h.driveAck.detectDuplicate station
  unfold Machine.takeGood
  dsimp only
  split
  · exact t.route _
  · exact t

theorem Kept.receive (h : Kept weld s) (f : Frame) : Kept weld (receive f s) := by
  unfold Machine.receive
  split
  · exact h
  · exact h.takeGood _ _

theorem Kept.frameBits (h : Kept weld s) (bits : List Bool) :
    Kept weld (frameBits bits s) := by
  unfold Machine.frameBits
  split
  · exact h
  · split
    · exact h.plain rfl
    · exact h.driveAck
    · exact h.takeGood _ _

/-! ## Attempts (R30 to R32, R38, R40, R41) -/

theorem Kept.bitError (h : Kept weld s) : Kept weld (bitError s) := by
  unfold Machine.bitError
  split
  · exact h
  · dsimp only
    split
    · refine Kept.refreshLine (Kept.raiseEvent ?_ _)
      exact h.plain rfl
    · exact h.plain rfl

theorem Kept.txComplete (h : Kept weld s) (heard : Bool) : Kept weld (txComplete heard s) := by
  unfold Machine.txComplete
  split
  · exact h
  · unfold attemptOutcome
    split
    · exact h.plain rfl
    · refine Kept.updateFallback ?_
      exact h.plain rfl
    · exact h.plain rfl

theorem Kept.silentExpiry (h : Kept weld s) : Kept weld (silentExpiry s) := by
  unfold Machine.silentExpiry
  split
  · refine Kept.refreshLine ?_
    exact h.plain rfl
  · exact h

/-! ## The beacon period event (R50, R57, R146, R148) -/

theorem Kept.ageTable (h : Kept weld s) : Kept weld (ageTable s) := by
  have k : Kept weld { s with shu.peers := agePeers s.shu.peers } :=
    h.peers (agePeers s.shu.peers) s.shu.overflow fun _ alone => by rw [alone]; rfl
  exact k.onlyIf _ (k.raiseEvent _)

theorem Kept.sharePeriod (h : Kept weld s) : Kept weld (sharePeriod s) := by
  unfold Machine.sharePeriod lowerOverflow
  dsimp only
  refine Kept.enqueue (Kept.evaluate ?_) _
  refine Kept.same ?_ (Same.refl _).fullComputation
  refine Kept.same (s := Machine.evaluate (Machine.updateFallback
    { Machine.ageTable s with shu.overflow := (Machine.ageTable s).shu.overflow - 1 })) (Kept.evaluate (Kept.updateFallback ?_))
    (Same.onlyChain ?_ (keepFallback_onlyChain _))
  · exact h.ageTable.plain rfl
  · exact Same.refl _

theorem Kept.beaconPeriod (h : Kept weld s) : Kept weld (beaconPeriod s) := by
  unfold Machine.beaconPeriod electionCounts
  split
  · exact h
  · dsimp only
    have k : Kept weld { s with fli.beaconTimer := some 250 } := h.plain rfl
    exact k.measuringRoleTake.sharePeriod.monitor _ id id

end Sys2Proof.Machine
end

section
/-! PROOF. Scans, the Plug Sequencer's rows and the trip rows keep what the drive's invariant says of a state (R5 to
R24, R95 to R101, R108 to R112, R170). -/

namespace Sys2Proof.Machine

variable {s t : State} {weld : Prop}

/-! ## Scans (R108 to R112) -/

theorem Kept.limitAction (h : Kept weld s) (i : Fin 16) : Kept weld (limitAction i s) := by
  unfold Machine.limitAction
  split
  · split
    · exact h
    · exact h.raiseEvent _
    · exact h.raiseTrip _
  · exact h

theorem Kept.limitActions (is : List (Fin 16)) (h : Kept weld s) :
    Kept weld (is.foldl (fun t i => Machine.limitAction i t) s) := by
  induction is generalizing s with
  | nil => exact h
  | cons i is ih => exact ih (h.limitAction i)

theorem Kept.publishScan (h : Kept weld s) (k : ScanKind) (pairs : List (Word16 × Word16)) :
    Kept weld (publishScan k pairs s) := by
  refine Kept.limitActions _ ?_
  exact h.plain rfl

theorem Kept.publishFast (h : Kept weld s) (pairs : List (Word16 × Word16)) : Kept weld (publishFast pairs s) := by
  unfold Machine.publishFast
  dsimp only
  have t := h.same ((((Same.refl s).linePeriodLapse.spanLapse .u).spanLapse .v).spanLapse .w)
  have u := (t.publishScan .fast pairs).prechargeResult.linkResult.batteryResult.currentResult
  generalize Machine.currentResult _ = c at u ⊢
  have v : Kept weld (accumulateHeat c) := u.plain rfl
  have x := v.onlyIf (heaterOver (accumulateHeat c)) (v.same (Same.refl _).heaterOvercurrent)
  exact x.same ((((Same.refl _).phaseResult .u).phaseResult .v).phaseResult .w)

theorem Kept.publishSlow (h : Kept weld s) (pairs : List (Word16 × Word16)) : Kept weld (publishSlow pairs s) := by
  have k := h.publishScan .slow pairs
  unfold Machine.publishSlow
  dsimp only
  generalize Machine.publishScan .slow pairs s = t at k ⊢
  have k : Kept weld (judgeSensors t) := k.plain rfl
  have k := k.same (Same.refl _).takeTemperature
  generalize Machine.takeTemperature (judgeSensors t) = u at k ⊢
  exact (k.takeViso _).takeProximity _

theorem Kept.pairDone (h : Kept weld s) (a b : Word16) : Kept weld (pairDone a b s) := by
  unfold Machine.pairDone
  split
  · exact h
  · unfold fastPair
    dsimp only
    split
    · exact h.plain rfl
    · refine Kept.publishFast ?_ _
      exact h.plain rfl
  · unfold slowPair
    dsimp only
    split
    · exact h.plain rfl
    · refine Kept.publishSlow ?_ _
      exact h.plain rfl

/-! ## Identification (R6 to R8) -/

theorem Kept.goIdentify (h : Kept weld s) : Kept weld (goIdentify s) := by
  unfold Machine.goIdentify
  split
  · exact h.plain rfl
  next configured =>
    split
    · exact h.plain rfl
    · split
      · exact h.plain rfl
      next elsewhere =>
        have is : s.psq.seq = .plugged := not_not.1 elsewhere
        have set : s.cpt.configured = true := not_not.1 configured
        have rests := h.rests (show s.psq.seq.tripsToFault = false by rw [is]; rfl)
        refine Kept.answerEmpty ((((At.of s).record fun p => { p with
          query := true, identTimer := true, assembly := .waiting, prevCode := none }).enterSeq .identifying).kept
          (Drive.calm_safe rfl ⟨rests.contactor, rests.precharge⟩ ⟨rests.closing, rests.charging, rests.cancel⟩
          ⟨rests.enable, rests.home⟩ rests.closed (.inl rfl) (fun w r fb => (or_assoc.2 (h.welds w r fb)).resolve_right
          fun fault => absurd (is.symm.trans fault) (by simp)) fun unset => absurd (set.symm.trans unset) (by decide))) _

theorem Kept.identify (h : Kept weld s) (is : s.psq.seq = .identifying) (i : Identification) : Kept weld (identify i s) := by
  have set : s.cpt.configured ≠ false := fun unset => by
    obtain ⟨states, -⟩ := h.early unset
    rw [show (driveOf s).psq.seq = _ from is] at states
    simp at states
  have k : Kept weld { s with psq.ident := some i } :=
    ((At.of s).record fun p => { p with ident := some i }).kept { h with early := fun unset => absurd unset set }
  exact (k.enterCalm (q := .identified) (by rw [is]; rfl) (by rw [is]; simp) rfl fun unset => absurd unset set).raiseEvent _

/-- Only the pilot's assembly changes (R7). -/
theorem Kept.pilot (h : Kept weld s) (p : Psq)
    (only : p = { s.psq with assembly := p.assembly, prevCode := p.prevCode }) : Kept weld { s with psq := p } := by
  rw [only]
  exact ((At.of s).record fun q => { q with assembly := p.assembly, prevCode := p.prevCode }).kept { h with }

theorem Kept.pilotCodeComplete (h : Kept weld s) : Kept weld (pilotCodeComplete s) := by
  unfold Machine.pilotCodeComplete
  split
  · split
    next complete =>
      unfold takeCode
      split
      · exact h.identify (h.asking (.inr complete.2)) _
      · exact h.pilot _ rfl
    · exact h
  · exact h

theorem Kept.pilotEdge (h : Kept weld s) (span : PilotSpan) (w : Nat) : Kept weld (pilotEdge span w s) := by
  have k := h.pilotCodeComplete
  unfold Machine.pilotEdge
  dsimp only
  split
  · split
    · exact k.pilot _ (takePulse_eq ..)
    · exact k.pilot _ (takeRest_eq ..)
  · exact k

theorem Kept.identTimeout (h : Kept True s) : Kept True (identTimeout s) := by
  unfold Machine.identTimeout
  split
  next runs =>
    split
    · exact h.enterFault _
    · exact h.identify (h.asking (.inl runs)) _
  · exact h

/-! ## GO_ENERGIZE (R9 to R11) -/

/-- What passes R9's checks. -/
theorem energizeCheck_passed {slot : Byte} {c : DescCopy} (check : energizeCheck slot s = .inr c) :
    s.cpt.configured = true ∧ s.psq.cancelPending = false ∧ (s.psq.seq = .identified ∨ s.psq.seq = .suspended) ∧
      tripped s = false ∧ s.imn.ownFault = false := by
  rw [energizeCheck_eq] at check
  split at check
  · cases check
  next configured =>
    split at check
    · cases check
    next cancels =>
      split at check
      · cases check
      next state =>
        split at check
        · cases check
        next latched =>
          split at check
          · cases check
          next fault =>
            exact ⟨by simpa using configured, by simpa using cancels, or_iff_not_imp_left.2 (by simpa using state),
              by simpa [tripped] using latched, by simpa using fault⟩

theorem Kept.resume (h : Kept weld s) (is : s.psq.seq = .suspended) (fine : s.imn.ownFault = false) :
    Kept weld (resume s) := by
  have drives : s.psq.seq.drives = true := by rw [is]; rfl
  have later : s.psq.seq.tripsToFault = true := by rw [is]; rfl
  have k : Kept weld { s with psq.start := none } := ((At.of s).record fun p => { p with start := none }).kept { h with }
  have k : Kept weld (enterSeq .active { s with psq.start := none }) :=
    ((At.of _).enterSeq .active).kept (Drive.Runs.safe ((k.runs drives).enter .active rfl)
      (fun x => absurd (x.symm.trans fine) (by decide)) (Drive.Asks.enter k.asking .active)
      (Drive.accounted_entered .active (k.held later)))
  exact (k.same (Same.refl _).activatePrefetched).takeRequest _

theorem Kept.startPrecharge (h : Kept weld s) (is : s.psq.seq = .identified) (fine : s.imn.ownFault = false)
    (unlatched : tripped s = false) : Kept weld (startPrecharge s) := by
  have rests := h.rests (show s.psq.seq.tripsToFault = false by rw [is]; rfl)
  have set : ¬ (driveOf s).unset := fun unset => by
    obtain ⟨states, -⟩ := h.early unset
    rw [show (driveOf s).psq.seq = _ from is] at states
    simp at states
  have pre {q : Psq} : (entered .precharge q).seq ≠ .sweepIsolated .isoRejoin := by simp
  refine (((At.of s).record fun p => { p with prechargeCmd := true, prechargeTimer := true }).enterSeq .precharge).kept
    (Drive.Closes.safe
      { energizes := by simp [SeqState.energizes]
        quiet := ⟨fun x => absurd (x.symm.trans unlatched) (by decide), set, rests.enable, rests.home⟩
        closing := by simp [rests.closing]
        charging := by simp [rests.closing]
        cancel := by simp [rests.cancel]
        rejoins := fun x => absurd x.1 pre
        healthy := fun x => absurd (x.symm.trans fine) (by decide)
        session := .inl rests.closed } ?_ ?_)
  · exact Drive.Asks.enter (d := { driveOf s with psq := { s.psq with prechargeCmd := true, prechargeTimer := true } })
      h.asking .precharge
  · exact Drive.accounted_entered (d := { driveOf s with psq := { s.psq with
      prechargeCmd := true, prechargeTimer := true } }) .precharge fun w r fb =>
        (or_assoc.2 (h.welds w r fb)).resolve_right fun fault => absurd (is.symm.trans fault) (by simp)

theorem Kept.goEnergize (h : Kept weld s) (slot : Byte) (stamp : Word32) : Kept weld (goEnergize slot stamp s) := by
  unfold Machine.goEnergize
  split
  · exact h.plain rfl
  next c check =>
    obtain ⟨-, -, states, unlatched, fine⟩ := energizeCheck_passed check
    dsimp only
    have k : Kept weld { s with psq.start := some (c.slot, stamp) } :=
      ((At.of s).record fun p => { p with start := some (c.slot, stamp) }).kept { h with }
    have k : Kept weld { s with mtr.prefetched := some c, psq.start := some (c.slot, stamp) } := k.plain rfl
    split
    next suspended => exact (k.resume suspended fine).answerEmpty _
    next other => exact (k.startPrecharge (states.resolve_right other) fine unlatched).answerEmpty _

end Sys2Proof.Machine
end

section
/-! PROOF. The host's commands, the timers and the relay contacts of the Plug Sequencer keep what the drive's invariant
says of a state (R4, R5, R10 to R24). -/

namespace Sys2Proof.Machine

variable {s t : State} {weld : Prop}

/-! ## GO_STOP, GO_IDLE and CANCEL (R13, R15, R16, R20) -/

theorem Kept.goStop (h : Kept weld s) : Kept weld (goStop s) := by
  unfold Machine.goStop
  repeat' split
  · exact h.plain rfl
  · exact (h.stopRequest _).answerEmpty _
  · exact h.plain rfl

theorem Kept.idle (h : Kept weld s) (elsewhere : s.psq.seq ≠ .fault) :
    Kept weld (idle s) := by
  have t := ((At.of s).clearEnable.openRelays h.joined).stopTimers
  have t := t.onlyIf (((Machine.stopTimers (Machine.openRelays (Machine.clearEnable s))).psq.seq) == .precharge)
    t.dropPrefetched
  refine (((((t.endSession .hostIdle).leaveTarget s.psq.seq fun away => away.elim).enqueue .leave).forgetStop).enterSeq
    .plugged).kept (Drive.calm_safe rfl ⟨rfl, rfl⟩ ⟨rfl, rfl, rfl⟩ ⟨id, id⟩ trivial (.inr h.asking)
    (fun w r fb => .inr ?_) fun unset => ?_)
  · simpa using (or_assoc.2 (h.welds w r fb)).resolve_right elsewhere
  · obtain ⟨-, -, alone, -⟩ := h.early unset
    exact ⟨.inr (.inr (.inl rfl)), .inl rfl, alone, trivial⟩

/-- FAULT is left for a state of plug detection, with the contactor open (R20). -/
theorem Kept.leaveFault (h : Kept weld s) (is : s.psq.seq = .fault) (opened : s.psq.contactorFb = false) {q : SeqState}
    (next : q = .unplugged ∨ q = .plugged) : Kept weld (enterSeq q s) := by
  have rests := h.rests (show s.psq.seq.tripsToFault = false by rw [is]; rfl)
  refine ((At.of s).enterSeq q).kept (Drive.calm_safe ?_ ⟨rests.contactor, rests.precharge⟩
    ⟨rests.closing, rests.charging, rests.cancel⟩ ⟨rests.enable, rests.home⟩ rests.closed (.inr h.asking)
    (fun _ _ fb => absurd (fb.symm.trans opened) (by decide)) fun unset => ?_)
  · obtain rfl | rfl := next <;> rfl
  · obtain ⟨-, ident, rest⟩ := h.early unset
    exact ⟨next.imp id fun is => .inr (.inl is), .inr (.inr ident), rest⟩

theorem Kept.idleFromFault (h : Kept weld s) (is : s.psq.seq = .fault) : Kept weld (idleFromFault s) := by
  unfold Machine.idleFromFault
  split
  · exact h.plain rfl
  · split
    · exact h.plain rfl
    next opened =>
      have k := h.enqueue .leave
      have psq : (Machine.enqueue .leave s).psq = s.psq := by simp
      generalize Machine.enqueue .leave s = t at k psq ⊢
      have k : Kept weld { t with psq.faultCause := none } :=
        ((At.of t).record fun p => { p with faultCause := none }).kept { k with }
      have fb : t.psq.contactorFb = false := by rw [psq]; exact Bool.eq_false_iff.2 opened
      have k := k.leaveFault (q := if s.psq.prox = .none then .unplugged else .plugged) (by rw [← is, ← psq]) fb
        (by split <;> simp)
      exact k.answerEmpty _

theorem Kept.goIdle (h : Kept weld s) : Kept weld (goIdle s) := by
  unfold Machine.goIdle
  split
  · exact h.plain rfl
  · split
    · exact h.plain rfl
    · exact h.plain rfl
    · exact h.plain rfl
    next is => exact h.idleFromFault is
    next elsewhere => exact (h.idle elsewhere).answerEmpty _

theorem Kept.startCancel (h : Kept weld s) (is : s.psq.seq = .precharge) : Kept weld (startCancel s) := by
  have closes := h.closes (show s.psq.seq.energizes = true by rw [is]; rfl)
  have later : s.psq.seq.tripsToFault = true := by rw [is]; rfl
  refine Kept.cancelComplete ((((At.of s).record fun p => { p with
    cancelPending := true, cancelContactor := p.contactorCmd }).withdraw h.joined).kept (Drive.Closes.safe
      { energizes := closes.energizes
        quiet := ⟨closes.quiet.1, closes.quiet.2.1, closes.quiet.2.2.1, id⟩
        closing := nofun
        charging := nofun
        cancel := fun _ => ⟨is, rfl, rfl, rfl, rfl⟩
        rejoins := fun _ => ⟨rfl, rfl, rfl, rfl⟩
        healthy := closes.healthy
        session := closes.session } h.asking fun w r fb => ?_))
  exact .inr (.inl (by simpa using h.held later w r fb))

theorem Kept.cancel (h : Kept weld s) : Kept weld (cancel s) := by
  unfold Machine.cancel
  split
  next is =>
    have k : Kept weld (enterSeq .plugged s) :=
      h.enterCalm (by rw [is]; rfl) (by rw [is]; simp) rfl fun _ => .inr (.inr (.inl rfl))
    exact k.answerEmpty _
  next is =>
    split
    · exact h.plain rfl
    · exact (h.startCancel is).answerEmpty _
  all_goals exact h.plain rfl

/-! ## Timers and relay contacts (R5, R10, R13, R14, R16, R22 to R24) -/

theorem Kept.prechargeTimeout (h : Kept weld s) : Kept weld (prechargeTimeout s) := by
  unfold Machine.prechargeTimeout
  split
  · exact (h.enterFault _).welded _
  · exact h

theorem Kept.contactorTimeout (h : Kept weld s) : Kept weld (contactorTimeout s) := by
  unfold Machine.contactorTimeout
  split
  · exact (h.enterFault _).welded _
  · exact h

theorem Kept.batteryLowTimeout (h : Kept weld s) : Kept weld (batteryLowTimeout s) := by
  unfold Machine.batteryLowTimeout
  split
  · refine Kept.stopRequest ?_ _
    exact ((At.of s).record fun p => { p with batteryLow := false }).kept { h with }
  · exact h

theorem Kept.stopTimerExpiry (h : Kept weld s) : Kept weld (stopTimerExpiry s) := by
  unfold Machine.stopTimerExpiry
  split
  · exact h.rampDown _
  · exact h

/-- The contact closes on command, or is found a weld (R5, R10, R23). -/
theorem Kept.contactorCloses (h : Kept False s) : Kept True (contactorCloses s) := by
  unfold Machine.contactorCloses
  split
  next commanded =>
    have k : Kept True s := { h with welds := fun _ _ _ => .inl commanded }
    exact k.contactorReadsClosed
  · exact h.weldAtOnce

theorem Kept.relayFeedback (h : Kept True s) (relay : PlugRelay) (closed : Bool) :
    Kept True (relayFeedback relay closed s) := by
  unfold Machine.relayFeedback
  split
  · split
    · exact h
    · exact Kept.contactorCloses (((At.of s).record fun p => { p with contactorFb := true }).kept { h with welds := nofun })
  · split
    · refine Kept.cancelComplete (Kept.rejoinStopped (Kept.contactorReadsOpen ?_))
      exact ((At.of s).record fun p => { p with contactorFb := false, contactorSup := false }).kept { h with welds := nofun }
    · exact h
  · exact ((At.of s).record fun p => { p with prechargeFb := true }).kept { h with }
  · split
    · refine Kept.cancelComplete (Kept.rejoinStopped ?_)
      exact ((At.of s).record fun p => { p with prechargeFb := false, prechargeSup := false }).kept { h with }
    · exact h

/-- A part held in reset judges no weld (R5, R200). -/
theorem Kept.readContact (h : Kept True s) (off : s.power ≠ .running) (relay : PlugRelay) (closed : Bool) :
    Kept True (readContact relay closed s) := by
  unfold Machine.readContact
  split
  · exact ((At.of s).record fun p => { p with contactorFb := closed }).kept
      { h with welds := fun _ running => absurd running off }
  · exact ((At.of s).record fun p => { p with prechargeFb := closed }).kept { h with }

theorem Kept.supervisionExpiry (h : Kept True s) (relay : PlugRelay) : Kept True (supervisionExpiry relay s) := by
  have off : Kept False { s with psq.contactorSup := false } :=
    ((At.of s).record fun p => { p with contactorSup := false }).kept { h with welds := nofun }
  have precharge : Kept True { s with psq.prechargeSup := false } :=
    ((At.of s).record fun p => { p with prechargeSup := false }).kept { h with }
  unfold Machine.supervisionExpiry
  split
  · split
    · unfold Machine.onlyIf
      split
      · exact off.enterFault _
      next fine =>
        refine { off with welds := fun _ _ fb => ?_ }
        by_contra other
        refine fine ?_
        have elsewhere : s.psq.seq ≠ .fault := fun is => other (.inr (.inr is))
        simp [show s.psq.contactorFb = true from fb, elsewhere]
    · exact h
  · split
    · exact precharge.onlyIf _ (precharge.enterFault _)
    · exact h

end Sys2Proof.Machine
end

section
/-! PROOF. What the sequencer, the latch, the relays and the session keep is kept by every step: sessions, the port, the
trips, the starts and the table of rows (R5, R89 to R101, R174 to R183, R187, R193 to R200). -/

namespace Sys2Proof.Machine

variable {s t : State} {weld : Prop}

/-! ## Sessions (R174, R179, R183) -/

theorem Kept.sessionSplit (h : Kept weld s) (slot : Byte) (stamp : Word32) : Kept weld (sessionSplit slot stamp s) := by
  unfold Machine.sessionSplit
  split
  · exact h.plain rfl
  next opened =>
    have holds : s.psq.seq.holdsSession = true := h.session.resolve_left fun closed => by
      have closed : s.mtr.session = none := closed
      simp [sessionOpen, closed] at opened
    split
    · exact h.plain rfl
    · split
      · exact h.plain rfl
      · split
        · exact h.plain rfl
        next c _ =>
          have k := (((At.of s).closeSession .split false).openSession stamp (some c)).kept
            { h with session := .inr holds }
          exact k.same ((Same.refl _).answerEmpty _)

/-! ## The port and the settings (R193 to R199) -/

theorem Kept.endTransaction (h : Kept weld s) (received : List Byte) : Kept weld (endTransaction received s) := by
  unfold Machine.endTransaction
  repeat' split
  all_goals exact h.plain rfl

theorem Kept.readReport (h : Kept weld s) : Kept weld (readReport s) := by
  unfold Machine.readReport
  split
  · exact h.plain rfl
  · exact h.plain rfl

theorem Kept.removeReport (h : Kept weld s) : Kept weld (removeReport s) := by
  unfold Machine.removeReport
  split
  · exact h.plain rfl
  · exact (h.same ((Same.refl s).removeOldest _ _)).answerEmpty _

theorem Kept.configure (h : Kept weld s) (p : ConfigPayload) : Kept weld (configure p s) := by
  unfold Machine.configure
  split
  · exact h.plain rfl
  · split
    · exact h.plain rfl
    · have k : At (driveOf s) (takeSettings p s) := { At.of s with unset := nofun }
      have k : At (driveOf s) (watchConflicts (Machine.raiseEvent .configDone (takeSettings p s))) :=
        (k.raiseEvent _).plain rfl
      have k := (k.onlyIf (watchConflicts (Machine.raiseEvent .configDone (takeSettings p s))).imn.cycle.isSome
        k.startCycle).refreshLine
      exact ((k.kept h).same (Same.refl _).selectHeater).same ((Same.refl _).answer _ _)

theorem Kept.setCharge (h : Kept weld s) (i v : Word16) : Kept weld (setCharge i v s) := by
  unfold Machine.setCharge
  split
  · exact h.plain rfl
  · refine Kept.answerEmpty (Kept.evaluateAndHand ?_) _
    exact h.plain rfl

theorem Kept.setBatteryLimit (h : Kept weld s) (i : Word16) : Kept weld (setBatteryLimit i s) := by
  unfold Machine.setBatteryLimit
  split
  · exact h.plain rfl
  · refine Kept.answerEmpty (Kept.evaluateAndHand ?_) _
    exact h.plain rfl

theorem Kept.setHeating (h : Kept weld s) (a b m : Word16) (p : Byte) (x : Word16) (clear : Byte) :
    Kept weld (setHeating a b m p x clear s) := by
  unfold Machine.setHeating
  split
  · exact h.plain rfl
  · split
    · exact h.plain rfl
    next q _ =>
      split
      · split
        · refine Kept.same (s := applyHeating a.toInt b.toInt m.toNat q x.toNat (clear == 1) s) ?_ ((Same.refl _).answer _ _)
          refine Kept.same ?_ (Same.refl _).selectHeater
          exact h.plain rfl
        · exact h.plain rfl
      · exact h.plain rfl

theorem Kept.writeDescriptor (h : Kept weld s) (slot flags : Byte) (quota duration chg cond : Word16) (next : Byte) :
    Kept weld (writeDescriptor slot flags quota duration chg cond next s) := by
  unfold Machine.writeDescriptor
  repeat' split
  all_goals exact h.plain rfl

/-! ## Trips and the output stage (R89 to R101, R128) -/

theorem Kept.tripClear (h : Kept weld s) : Kept weld (tripClear s) := by
  unfold Machine.tripClear
  split
  · exact h.plain rfl
  · split
    · exact h.plain rfl
    · have k : At (driveOf s) (watchConflicts { s with ptu.trip := none }) := { At.of s with trip := nofun }
      exact (k.kept h).answerEmpty _

theorem Kept.readFeedback (h : Kept weld s) (k : Leg) (d : Device) (reads : Bool) :
    Kept weld (readFeedback k d reads s) := by
  rw [readFeedback_eq]
  exact h.plain rfl

theorem Kept.deadTimeEnd (h : Kept weld s) (k : Leg) : Kept weld (deadTimeEnd k s) := by
  unfold Machine.deadTimeEnd
  split
  · exact h
  · dsimp only
    have t : Kept weld { s with ptu.legs := (s.ptu.legs.set k { s.ptu.legs.get k with deadTime := none }) } := h.plain rfl
    exact (t.onlyIf _ (t.raiseTrip _)).plain rfl

theorem Kept.conflictExpiry (h : Kept weld s) (k : Leg) : Kept weld (conflictExpiry k s) := by
  unfold Machine.conflictExpiry
  split
  · refine Kept.raiseTrip ?_ _
    exact h.plain rfl
  · exact h.plain rfl
  · exact h

theorem Kept.extLineChange (h : Kept weld s) (active : Bool) : Kept weld (extLineChange active s) := by
  unfold Machine.extLineChange
  split
  · exact h
  · exact h.plain rfl

theorem Kept.extInactiveExpiry (h : Kept weld s) : Kept weld (extInactiveExpiry s) := by
  unfold Machine.extInactiveExpiry
  split
  · exact h
  · exact h.plain rfl

theorem Kept.extFilterExpiry (h : Kept weld s) : Kept weld (extFilterExpiry s) := by
  unfold Machine.extFilterExpiry
  split
  · refine Kept.raiseTrip ?_ _
    exact h.plain rfl
  · exact h

theorem Kept.gridExpiry (h : Kept weld s) : Kept weld (gridExpiry s) := by
  unfold Machine.gridExpiry
  split
  · refine Kept.raiseTrip ?_ _
    exact h.plain rfl
  · exact h

theorem Kept.meteringInterval (h : Kept weld s) : Kept weld (meteringInterval s) := by
  unfold Machine.meteringInterval
  split
  · exact (h.same (Same.refl s).meterInterval).takeRequest _
  · exact h

/-! ## Every step (O52) -/

theorem Same.startupSnapshot {r : State} (h : Same r s) : Same r (startupSnapshot s) := by
  unfold Machine.startupSnapshot
  split
  · exact h
  · split
    · exact h
    · exact h.placeRecord _ _ _
  · split
    · exact h
    · exact h.placeRecord _ _ _

/-- The reset state, with what the relays' contacts read (R25). -/
theorem blank_rests (cause : ResetCause) (g : Page) (s : State) :
    (driveOf (.blank cause g s.psq s.ptu s.fresh s.pending)).Rests where
  states := ⟨rfl, rfl, rfl, rfl⟩
  contactor := rfl
  precharge := rfl
  closing := rfl
  charging := rfl
  cancel := rfl
  enable := nofun
  home := fun x => x rfl
  closed := rfl
  asking := (Or.elim · nofun nofun)

/-- A start leaves the relays open, under supervision where they were not (R5, R25, R200). -/
theorem restart_kept (cause : ResetCause) (g : Page) (s : State) : Kept True (restart cause g s) := by
  have start : At (driveOf (.blank cause g s.psq s.ptu s.fresh s.pending)) (startState cause g s) :=
    { At.of (.blank cause g s.psq s.ptu s.fresh s.pending) with }
  have torn := start.onlyIf (startState cause g s).mst.torn (start.raiseEvent .storeTorn)
  have read := torn.same (Same.refl _).startupSnapshot
  have told : At _ (startupRead (.blank cause g s.psq s.ptu s.fresh s.pending)) := read.onlyIf _ (read.raiseEvent _)
  have k := told.record fun p => { p with
    contactorSup := s.psq.contactorCmd || s.psq.contactorFb, prechargeSup := s.psq.prechargeCmd }
  refine At.kept (s := restart cause g s) k (Drive.Rests.safe { blank_rests cause g s with } (fun _ _ fb => .inl ?_)
    fun _ => ⟨.inl rfl, rfl, rfl, rfl⟩)
  have reads : s.psq.contactorFb = true := fb
  simp [reads]

/-- A part held in reset rests (R187). -/
theorem powerLoss_kept (s : State) : Kept True (powerLoss s) :=
  Drive.Rests.safe (d := driveOf (powerLoss s)) { blank_rests s.cpt.resetCause (pageAfterPowerLoss s.mst) s with }
    (fun _ running => nomatch running) fun _ => ⟨.inl rfl, rfl, rfl, rfl⟩

theorem Kept.row {f : State → State} (held : Kept True s) (run : Kept True (f s)) :
    Completes (whenRunning f s) (Kept True) := whenRunning_completes held run

theorem Kept.rowOr {g f : State → State} (held : Kept True (g s)) (run : Kept True (f s)) :
    Completes (whenRunningOr g f s) (Kept True) := whenRunningOr_completes held run

/-- Every row but a start and a power loss. -/
theorem exec_kept (c : Instr) (h : Kept True s) (live : isReset c = false) : Completes (exec c s) (Kept True) := by
  cases c with
  | powerOn => cases live
  | brownOut => cases live
  | resetLine => cases live
  | powerLoss => cases live
  | setCharge _ _ => exact h.row (h.setCharge _ _)
  | setBatteryLimit _ => exact h.row (h.setBatteryLimit _)
  | setHeating _ _ _ _ _ _ => exact h.row (h.setHeating _ _ _ _ _ _)
  | writeDescriptor _ _ _ _ _ _ _ => exact h.row (h.writeDescriptor _ _ _ _ _ _ _)
  | configure _ => exact h.row (h.configure _)
  | heaterEvent => exact h.row (h.same (Same.refl s).heaterEvent)
  | chipSelectAssert => exact h.row (f := chipSelect) (h.plain rfl)
  | readOnlyTransaction _ => exact h.row (h.endTransaction _)
  | requestRejected _ => exact h.row (h.endTransaction _)
  | getStatus => exact h.row (h.plain rfl)
  | readEvents => exact h.row (f := readEvents) (h.plain rfl)
  | goIdentify => exact h.row h.goIdentify
  | goEnergize _ _ => exact h.row (h.goEnergize _ _)
  | goStop => exact h.row h.goStop
  | goIdle => exact h.row h.goIdle
  | cancel => exact h.row h.cancel
  | tripClear => exact h.row h.tripClear
  | extend _ => exact h.row (h.same ((Same.refl s).extend _))
  | sessionSplit _ _ => exact h.row (h.sessionSplit _ _)
  | readReport => exact h.row h.readReport
  | removeReport => exact h.row h.removeReport
  | readMeter => exact h.row (h.plain rfl)
  | readPeers => exact h.row (h.plain rfl)
  | readShare => exact h.row (h.plain rfl)
  | readMeasure _ _ => exact h.row (h.same ((Same.refl s).readMeasure _ _))
  | readInsulation => exact h.row h.readInsulation
  | clearInsulation => exact h.row h.clearInsulation
  | carrierTrough => exact h.row (h.same (Same.refl s).carrierTrough)
  | loopComputationEvent => exact h.row (h.same (Same.refl s).loopEvent)
  | linePeriodLapse => exact h.row (h.same (Same.refl s).linePeriodLapse)
  | legCommandChange _ _ => exact h.row (f := legCommandChange _ _) (h.plain rfl)
  | deadTimeEnd _ => exact h.row (h.deadTimeEnd _)
  | gateFeedbackChange _ _ _ => exact Kept.rowOr (h.readFeedback _ _ _) (h.readFeedback _ _ _)
  | legConflictTimerExpiry _ => exact h.row (h.conflictExpiry _)
  | heaterPeriodStart => exact h.row (f := heaterPeriodStart) (h.plain rfl)
  | heaterDutyEnd => exact h.row (f := heaterDutyEnd) (h.plain rfl)
  | extTripLineChange b => exact Kept.rowOr (g := fun s => { s with ptu.extActive := b }) (h.plain rfl) (h.extLineChange _)
  | extTripFilterExpiry => exact h.row h.extFilterExpiry
  | extInactiveTimerExpiry => exact h.row h.extInactiveExpiry
  | gridSupervisionExpiry => exact h.row h.gridExpiry
  | slowScanTimerExpiry => exact h.row (h.same (Same.refl s).slowScanExpiry)
  | pairConversionDone _ _ => exact h.row (h.pairDone _ _)
  | spanLapse _ => exact h.row (h.same ((Same.refl s).spanLapse _))
  | plugSettleComplete => exact h.row h.plugSettled
  | pilotCodeComplete => exact h.row h.pilotCodeComplete
  | identTimeout => exact h.row h.identTimeout
  | prechargeTimeout => exact h.row h.prechargeTimeout
  | contactorTimeout => exact h.row h.contactorTimeout
  | relayFeedbackChange relay closed =>
    show Completes (whenRunningOr _ _ s) _
    unfold whenRunningOr
    split
    · exact ⟨_, rfl, h.relayFeedback _ _⟩
    next off => exact ⟨_, rfl, h.readContact (by simp [off]) _ _⟩
  | openSupervisionExpiry _ => exact h.row (h.supervisionExpiry _)
  | batteryLowTimeout => exact h.row h.batteryLowTimeout
  | stopTimerExpiry => exact h.row h.stopTimerExpiry
  | txAttemptStart => exact h.row (h.same (Same.refl s).startAttempt)
  | txArbitrationLost => exact h.row (f := dropAttempt) (h.plain rfl)
  | txBitError => exact h.row h.bitError
  | txComplete _ => exact h.row (h.txComplete _)
  | silentTimerExpiry => exact h.row h.silentExpiry
  | frameDropped _ => exact h.row (h.frameBits _)
  | beaconReceived _ _ _ _ _ _ _ => exact h.row (h.receive _)
  | leaveReceived _ _ => exact h.row (h.receive _)
  | alertReceived _ _ _ => exact h.row (h.receive _)
  | sweepStepReceived _ _ _ _ => exact h.row (h.receive _)
  | sweepAnswerReceived _ _ _ _ => exact h.row (h.receive _)
  | sweepResultReceived _ _ _ _ _ => exact h.row (h.receive _)
  | measureStartReceived _ _ _ _ => exact h.row (h.receive _)
  | measureResultReceived _ _ _ _ => exact h.row (h.receive _)
  | beaconPeriodEvent => exact h.row h.beaconPeriod
  | peerAgedOut => exact h.row h.removeAged
  | overflowEnd => exact h.row h.updateFallback
  | measuringRoleTake => exact h.row h.measuringRoleTake
  | backoffEnd => exact h.row (f := id) h
  | rampEvent => exact h.row (h.same (Same.refl s).rampEvent)
  | freshnessTimerExpiry => exact h.row (h.same (Same.refl s).freshnessExpiry)
  | relaySettleExpiry => exact h.row (f := relaySettleExpiry) (h.plain rfl)
  | heaterOpenDetect => exact h.row (h.same (Same.refl s).heaterOpenDetect)
  | unmonitoredTimerExpiry => exact h.row h.unmonitoredExpiry
  | sweepAnswerTimeout => exact h.row h.sweepAnswerTimeout
  | sweepCycleTimeout => exact h.row h.sweepCycleTimeout
  | leaderSilenceExpiry => exact h.row h.leaderSilenceExpiry
  | sweepHoldExpiry => exact h.row h.sweepHoldExpiry
  | meterSample => exact h.row (f := meterSample) (h.meteringInterval.plain rfl)
  | meteringInterval => exact h.row h.meteringInterval
  | storeWriteComplete => exact h.row (h.same (Same.refl s).completeWrite)
  | pilotSenseEdge _ _ => exact h.row (h.pilotEdge _ _)

/-- Settles O52: the sequencer, the latch, the relays, their timers and the session stay safe in every row. -/
theorem stepKeepsTheDriveSafe : Obligations.StepKeepsTheDriveSafe := by
  unfold Obligations.StepKeepsTheDriveSafe
  intro s h
  refine step_completes h fun c rest => ?_
  have k : Kept True { s with pending := rest } := h.drive
  refine Completes.mono (P := Kept True) ?_ fun t k => k.safe
  cases live : isReset c with
  | true => exact (exec_reset c _ live).mono fun t reset => reset.keeps k (fun cause g => restart_kept cause g _) (powerLoss_kept _)
  | false => exact exec_kept c k live

end Sys2Proof.Machine
end

section
/-! PROOF. The injection as the invariant sees it, and what the monitor's operations do to it (R137 to R168). -/

namespace Sys2Proof.Machine

variable {s t : State} {elects leads joins : Prop}

/-! ## The injection (R137, R147, R162, R164) -/

/-- `InjectionSafe`, with the contactor closed outside LOCAL and open in ISO_WAIT (R22, R138). With `elects`, `leads` or `joins` false an operation
has still to give up the role, the lead or the network. -/
structure Inject (elects leads joins : Prop) (s : State) : Prop where
  drives : s.imn.driver ≠ .zero → s.imn.cycle.isSome = true
  couples : s.imn.cycle.isSome = true → s.imn.coupling = true ∧ s.imn.mode ≠ .passive
  elected : elects → s.imn.mode = .measurer → lowerEligible s = false
  own : ∀ r, s.imn.sweep = .leading r → r.phase = .ownStep → r.answerTimer = false
  leading : leads → ∀ r, s.imn.sweep = .leading r → r.phase = .ownStep ∨ s.imn.mode = .measurer
  joined : joins → s.imn.mode ≠ .localMode → s.psq.contactorCmd = true
  waits : s.psq.seq = .sweepIsolated .isoWait → s.psq.contactorCmd = false

/-- What every step keeps of a state. -/
abbrev Injects (s : State) : Prop := Inject True True True s

/-- In ISO_WAIT the monitor is in LOCAL (R22, R138). -/
theorem Inject.waitsHome (h : Injects s) (waits : s.psq.seq = .sweepIsolated .isoWait) : s.imn.mode = .localMode := by
  by_contra away
  exact absurd ((h.joined trivial away).symm.trans (h.waits waits)) (by decide)

theorem Injects.safe (h : Injects s) : InjectionSafe s :=
  ⟨h.drives, h.couples, h.elected trivial, fun r leads => ⟨h.own r leads, h.leading trivial r leads⟩⟩

theorem InjectionSafe.injects (h : InjectionSafe s) (drive : DriveSafe s) : Injects s := by
  obtain ⟨drives, couples, elected, leads⟩ := h
  exact ⟨drives, couples, fun _ => elected, fun r x => (leads r x).1, fun _ r x => (leads r x).2, fun _ => drive.drive.joined,
    fun waits => (drive.drive.idles (.inr waits)).relays.1⟩

/-- What the invariant looks at. -/
def injection (s : State) :=
  (s.cfg.station, s.psq.contactorCmd, s.psq.seq, s.imn.mode, s.imn.driver, s.imn.cycle, s.imn.coupling, s.imn.sweep, s.shu.peers,
    s.shu.identCopy)

/-- The eligible peers are judged by the table, the own number and the identification (R146). -/
theorem lowerEligible_congr (peers : t.shu.peers = s.shu.peers) (ident : t.shu.identCopy = s.shu.identCopy)
    (station : t.cfg.station = s.cfg.station) : lowerEligible t = lowerEligible s := by
  unfold lowerEligible eligiblePeer sameFeeder
  rw [peers, ident, station]

theorem Inject.plain (h : Inject elects leads joins s) (e : injection t = injection s) : Inject elects leads joins t := by
  unfold injection at e
  simp only [Prod.mk.injEq] at e
  obtain ⟨station, cmd, seq, mode, driver, cycle, coupling, sweep, peers, ident⟩ := e
  constructor
  · rw [driver, cycle]; exact h.drives
  · rw [cycle, coupling, mode]; exact h.couples
  · rw [mode, lowerEligible_congr peers ident station]; exact h.elected
  · rw [sweep]; exact h.own
  · rw [sweep, mode]; exact h.leading
  · rw [mode, cmd]; exact h.joined
  · rw [seq, cmd]; exact h.waits

theorem Inject.same (h : Inject elects leads joins s) (k : Same s t) : Inject elects leads joins t := by
  unfold Same outer at k
  simp only [Prod.mk.injEq] at k
  obtain ⟨-, cfg, psq, imn, peers, ident, -⟩ := k
  exact h.plain (by unfold injection; rw [cfg, psq, imn, peers, ident])

theorem Inject.onlyIf (c : Bool) {f : State → State} (h : Inject elects leads joins s) (k : Inject elects leads joins (f s)) :
    Inject elects leads joins (onlyIf c f s) := onlyIf_ind (P := Inject elects leads joins) c h k

/-- Less is asked while an operation has still something to give up. -/
theorem Inject.loosen {elects' leads' joins' : Prop} (h : Inject elects leads joins s) (e : elects' → elects)
    (l : leads' → leads) (j : joins' → joins) : Inject elects' leads' joins' s :=
  { h with elected := h.elected ∘ e, leading := h.leading ∘ l, joined := h.joined ∘ j }

/-- In LOCAL the role is not held and the network not joined. -/
theorem Inject.atHome (h : Inject elects leads joins s) (home : s.imn.mode = .localMode) (elects' joins' : Prop) :
    Inject elects' leads joins' s :=
  { h with
    elected := fun _ x => by rw [home] at x; cases x
    joined := fun _ x => absurd home x }

theorem Inject.raiseEvent (h : Inject elects leads joins s) (k : EventKind) : Inject elects leads joins (raiseEvent k s) :=
  h.plain rfl

theorem Inject.enqueue (h : Inject elects leads joins s) (b : FrameBody) : Inject elects leads joins (enqueue b s) :=
  h.same ((Same.refl s).enqueue b)

theorem Inject.setIsolate (h : Inject elects leads joins s) (b : Bool) : Inject elects leads joins (setIsolate b s) :=
  h.same ((Same.refl s).setIsolate b)

/-! ## The cycle and the evaluations (R137, R139, R143) -/

theorem Inject.startCycle (h : Inject elects leads joins s) (active : s.imn.mode ≠ .passive) :
    Inject elects leads joins (startCycle s) :=
  { h with drives := fun _ => rfl, couples := fun _ => ⟨rfl, active⟩ }

theorem Inject.noteChange (h : Inject elects leads joins s) (old new : Evaluation) :
    Inject elects leads joins (noteChange old new s) := by
  unfold Machine.noteChange
  dsimp only
  split
  · exact h
  · exact (h.onlyIf _ (h.same ((Same.refl s).markSession _))).raiseEvent _

theorem Inject.judgeOwn (h : Inject elects leads joins s) (x : Nat) : Inject elects leads joins (judgeOwn x s) := by
  refine Inject.noteChange ?_ _ _
  exact h.plain rfl

theorem Inject.judgeNet (h : Inject elects leads joins s) (x : Nat) : Inject elects leads joins (judgeNet x s) := by
  refine Inject.noteChange ?_ _ _
  exact h.plain rfl

theorem Inject.endUnmonitored (h : Inject elects leads joins s) : Inject elects leads joins (endUnmonitored s) := by
  have k : Inject elects leads joins { s with imn.unmonitored := false, imn.unmonTimer := false } := h.plain rfl
  exact k.onlyIf _ (k.raiseEvent _)

/-! ## Self-check and clearing (R149, R150) -/

theorem Inject.startSelfCheck (h : Inject elects leads joins s) (active : s.imn.mode ≠ .passive) :
    Inject elects leads joins (startSelfCheck s) := by
  unfold Machine.startSelfCheck
  split
  · split
    · exact h.plain rfl
    · refine Inject.startCycle (Inject.setIsolate ?_ _) ?_
      · exact h.plain rfl
      · simpa using active
  · exact h

theorem Inject.failSelfCheck (h : Inject elects leads joins s) : Inject elects leads joins (failSelfCheck s) := by
  refine Inject.raiseEvent (Inject.setIsolate ?_ _) _
  exact h.plain rfl

theorem Inject.failClearing (h : Inject elects leads joins s) : Inject elects leads joins (failClearing s) := by
  have k : Inject elects leads joins { s with imn.clearing := false, imn.lastClearing := some false } := h.plain rfl
  exact (k.onlyIf _ (k.setIsolate _)).raiseEvent _

theorem Inject.endLocalChecks (h : Inject elects leads joins s) : Inject elects leads joins (endLocalChecks s) := by
  have k := h.onlyIf s.imn.selfCheck.isRunning h.failSelfCheck
  exact k.onlyIf _ k.failClearing

/-! ## The end of a sweep and of the role (R147, R162 to R166) -/

theorem Inject.clearTarget (h : Inject elects leads joins s) : Inject elects leads joins (clearTarget s) := h.plain rfl

/-- Without a sweep nothing is led. -/
theorem Inject.noSweep (h : Inject elects leads joins s) (leads' : Prop) :
    Inject elects leads' joins { s with imn.sweep := .none } :=
  { h with elected := h.elected, own := nofun, leading := fun _ => nofun }

theorem Inject.endSweep (h : Inject elects leads joins s) (o : SweepOutcome) (hold : Bool) (leads' : Prop) :
    Inject elects leads' joins (endSweep o hold s) := (h.noSweep leads').plain rfl

theorem Inject.endLeading (h : Inject elects leads joins s) (r : LeaderRecord) (o : SweepOutcome) (hold : Bool)
    (leads' : Prop) : Inject elects leads' joins (endLeading r o hold s) :=
  ((h.enqueue _).endSweep o hold leads').clearTarget

theorem Inject.sweepOffline (h : Inject elects leads joins s) : Inject elects leads joins (sweepOffline s) :=
  (h.noSweep leads).plain rfl

theorem Inject.abandonSweep (h : Inject elects leads joins s) (leads' : Prop) :
    Inject elects leads' joins (abandonSweep s) := by
  unfold Machine.abandonSweep
  split
  · exact h.endLeading _ _ _ _
  next other => exact { h with leading := fun _ r x => absurd x (other r) }

/-- The role is given up, and whatever spoke against it with it (R147). -/
theorem Inject.yieldRole (h : Inject False leads joins s) (elects : Prop) : Inject elects leads joins (yieldRole s) := by
  unfold Machine.yieldRole
  split
  next role =>
    refine Inject.abandonSweep (s := removeMeasureFrames _) (leads := False) (Inject.plain (s := Machine.stopInjection
      { s with imn.mode := .passive, imn.clearCount := 0, imn.unmonTimer := true }) ?_ rfl) leads
    exact
      { drives := fun x => absurd rfl x
        couples := nofun
        elected := fun _ => nofun
        own := h.own
        leading := nofun
        joined := fun j _ => h.joined j (by rw [role]; simp)
        waits := h.waits }
  next other => exact { h with elected := fun _ role => absurd role other }

theorem Inject.interference (h : Inject False leads joins s) (elects : Prop) :
    Inject elects leads joins (interference s) := by
  refine Inject.raiseEvent ?_ _
  exact (h.yieldRole elects).plain rfl

/-! ## Changes of mode (R138, R144, R162, R164) -/

theorem Inject.forgetNet (h : Inject elects leads joins s) : Inject elects leads joins (forgetNet s) := by
  have k : Inject elects leads joins { s with imn.net := .none } := h.plain rfl
  exact k.onlyIf _ (k.raiseEvent _)

theorem Inject.enterLocal (h : Inject elects leads joins s) (elects' leads' joins' : Prop)
    (own : leads' → ∀ r, s.imn.sweep = .leading r → r.phase = .ownStep) :
    Inject elects' leads' joins' (enterLocal s) := by
  have k : Inject elects' leads' joins' { s with imn.mode := .localMode, imn.clearCount := 0 } :=
    { drives := h.drives
      couples := fun x => ⟨(h.couples x).1, nofun⟩
      elected := fun _ => nofun
      own := h.own
      leading := fun l r x => .inl (own l r x)
      joined := fun _ x => absurd rfl x
      waits := h.waits }
  have home : (Machine.forgetNet (Machine.endUnmonitored
      { s with imn.mode := .localMode, imn.clearCount := 0 })).imn.mode = .localMode := by
    simp [Machine.forgetNet, Machine.endUnmonitored, Machine.onlyIf, apply_ite State.imn]
  refine Inject.startSelfCheck (Inject.startCycle k.endUnmonitored.forgetNet ?_) ?_
  · rw [home]; simp
  · show (Machine.forgetNet (Machine.endUnmonitored _)).imn.mode ≠ _
    rw [home]; simp

/-- A lead before the own step is lost with the role (R164). -/
theorem Inject.loseRole (h : Inject elects False joins s) : Inject elects True joins (loseRole s) := by
  unfold Machine.loseRole
  split
  next r leads =>
    split
    next own => exact { h with leading := fun _ q x => .inl (by rw [leads] at x; cases x; exact own) }
    next => exact h.abandonSweep _
  next other => exact { h with leading := fun _ r x => absurd x (other r) }

/-- The contactor's opening leads to LOCAL (R138). -/
theorem Inject.contactorOpened (h : Inject elects True joins s) : Injects (contactorOpened s) := by
  have k : Inject elects True joins { s with imn.contactorClosed := false } := h.plain rfl
  unfold Machine.contactorOpened
  dsimp only
  split
  next home => exact k.atHome home _ _
  next passive =>
    refine k.enterLocal _ _ _ fun _ r x => (h.leading trivial r x).resolve_right ?_
    rw [passive]
    simp
  next =>
    have k : Inject elects True joins (removeMeasureFrames { s with imn.contactorClosed := false }) := k.plain rfl
    exact (k.enterLocal True False True nofun).loseRole

/-- The contactor's closing leads out of LOCAL (R138). -/
theorem Inject.contactorClosed (h : Injects s) (closed : s.psq.contactorCmd = true) : Injects (contactorClosed s) := by
  have k : Injects { s with imn.contactorClosed := true } := h.plain rfl
  unfold Machine.contactorClosed
  dsimp only
  split
  next home =>
    have e := k.endLocalChecks
    obtain ⟨-, -, -, -, imn, -⟩ := endLocalChecks_ended { s with imn.contactorClosed := true }
    have mode : (Machine.endLocalChecks { s with imn.contactorClosed := true }).imn.mode = .localMode := by rw [imn]; exact home
    have psq : (Machine.endLocalChecks { s with imn.contactorClosed := true }).psq = s.psq := by simp
    exact
      { drives := fun x => absurd rfl x
        couples := nofun
        elected := fun _ => nofun
        own := e.own
        leading := fun _ r x => .inl ((e.leading trivial r x).resolve_right (by rw [mode]; simp))
        joined := fun _ _ => (congrArg Psq.contactorCmd psq).trans closed
        waits := e.waits }
  · exact k

end Sys2Proof.Machine
end

section
/-! PROOF. The sequencer's operations keep what the injection's invariant says of a state (R4, R8, R13 to R24, R36). -/

namespace Sys2Proof.Machine

variable {s t : State} {elects leads joins : Prop}

/-! ## The output enable and the relays (R4, R97, R98, R138) -/

theorem Inject.clearEnable (h : Inject elects leads joins s) : Inject elects leads joins (clearEnable s) := by
  obtain ⟨-, cfg, psq, -, shu, -, -, imn, -⟩ := clearEnable_keeps s
  exact h.plain (by unfold injection; rw [cfg, psq, shu, imn])

theorem Inject.armEnable (h : Inject elects leads joins s) : Inject elects leads joins (armEnable s) := by
  obtain ⟨-, cfg, psq, -, shu, -, -, -, imn, -⟩ := armEnable_keeps s
  exact h.plain (by unfold injection; rw [cfg, psq, shu, imn])

/-- After the contactor's opening the monitor is in LOCAL (R138). -/
theorem Inject.openContactor_home (h : Injects s) : (openContactor s).imn.mode = .localMode := by
  unfold Machine.openContactor
  split
  · exact contactorOpened_mode _
  next off =>
    by_contra away
    exact off (h.joined trivial away)

theorem Inject.openContactor (h : Injects s) : Injects (openContactor s) := by
  unfold Machine.openContactor
  split
  · refine Inject.contactorOpened (elects := True) (joins := False) ?_
    exact { h with elected := h.elected, joined := nofun, waits := fun _ => rfl }
  · exact h

theorem Inject.openPrecharge (h : Inject elects leads joins s) : Inject elects leads joins (openPrecharge s) := by
  unfold Machine.openPrecharge
  split
  · exact h.plain rfl
  · exact h

theorem Inject.openRelays (h : Injects s) : Injects (openRelays s) := h.openPrecharge.openContactor

theorem Inject.openRelays_home (h : Injects s) : (Machine.openRelays s).imn.mode = .localMode := h.openPrecharge.openContactor_home

theorem Inject.stopTimers (h : Inject elects leads joins s) : Inject elects leads joins (stopTimers s) := h.plain rfl

theorem Inject.forgetStop (h : Inject elects leads joins s) : Inject elects leads joins (forgetStop s) := h.plain rfl

theorem Inject.dropPrefetched (h : Inject elects leads joins s) : Inject elects leads joins (dropPrefetched s) := h.plain rfl

/-! ## Sessions (R52, R174, R183) -/

theorem Inject.closeSession (h : Inject elects leads joins s) (cause : EndCause) (forced : Bool) :
    Inject elects leads joins (closeSession cause forced s) := by
  unfold Machine.closeSession
  split
  · exact h
  · refine Inject.raiseEvent (Inject.same ?_ (Same.placeRecord (Same.refl _) _ _ _)) _
    exact h.plain rfl

theorem Inject.endSession (h : Inject elects leads joins s) (cause : EndCause) :
    Inject elects leads joins (endSession cause s) := by
  have k := h.closeSession cause s.psq.forced
  unfold Machine.endSession Machine.clearSession
  refine Inject.same ?_ (Same.refl _).evaluate
  exact k.plain rfl

theorem Inject.openSession (h : Inject elects leads joins s) (stamp : Word32) (c : Option DescCopy) :
    Inject elects leads joins (openSession stamp c s).1 := by
  have k := h.same (Same.refl s).raiseSessionCounter
  have k : Inject elects leads joins { Machine.raiseSessionCounter s with
      mtr.session := some (newSession (Machine.raiseSessionCounter s).mst.working.sessions stamp
        (Machine.raiseSessionCounter s)) } := k.plain rfl
  unfold Machine.openSession
  dsimp only
  split
  · exact k.same ((Same.refl _).activate _)
  · exact k

/-! ## The line (R36, R51, R147, R166) -/

/-- Nobody is eligible whom the table does not hold. -/
theorem lowerEligible_mono (peers : t.shu.peers ⊆ s.shu.peers) (ident : t.shu.identCopy = s.shu.identCopy)
    (station : t.cfg.station = s.cfg.station) (none : lowerEligible s = false) : lowerEligible t = false := by
  unfold lowerEligible eligiblePeer sameFeeder at *
  rw [ident, station]
  rw [List.any_eq_false] at none ⊢
  exact fun e mem => none e (peers mem)

/-- Peers leave the table. -/
theorem Inject.peers (h : Inject elects leads joins s) (ps : List PeerEntry) (o : Nat) (sub : ps ⊆ s.shu.peers) :
    Inject elects leads joins { s with shu.peers := ps, shu.overflow := o } :=
  { h with elected := fun e role => lowerEligible_mono sub rfl rfl (h.elected e role) }

theorem Inject.changeLine (h : Inject elects leads joins s) (target : LineState) :
    Inject elects leads joins (changeLine target s) := by
  have k : Inject elects leads joins { s with fli := enterLine target s.cfg.station s.fli } := h.plain rfl
  have k := k.onlyIf (target == .online && s.fli.line == .silent) (k.raiseEvent .lineResumed)
  unfold Machine.changeLine
  dsimp only
  have empty {u : State} (x : Inject elects leads joins u) : Inject elects leads joins (emptyPeers u) := by
    have y := x.peers [] 0 (List.nil_subset _)
    exact y.onlyIf _ (y.raiseEvent _)
  have k := k.onlyIf (target == .offline) (f := fun x => Machine.sweepOffline (Machine.emptyPeers x))
    (empty k).sweepOffline
  exact k.onlyIf _ ((k.loosen (elects' := False) False.elim id id).yieldRole elects)

theorem Inject.updateFallback (h : Inject elects leads joins s) : Inject elects leads joins (updateFallback s) :=
  h.same (Same.refl s).updateFallback

theorem Inject.evaluateAndHand (h : Inject elects leads joins s) : Inject elects leads joins (evaluateAndHand s) :=
  h.same (Same.refl s).evaluateAndHand

theorem Inject.refreshLine (h : Inject elects leads joins s) : Inject elects leads joins (refreshLine s) := by
  unfold Machine.refreshLine
  refine Inject.updateFallback ?_
  split
  · exact h
  · exact h.changeLine _

/-! ## The sequencer's state (R1, R8, R44) -/

/-- The sequencer's record changes, but neither the contactor's command nor the state to ISO_WAIT. -/
theorem Inject.sequencer (h : Inject elects leads joins s) (p : Psq) (cmd : p.contactorCmd = s.psq.contactorCmd)
    (seq : p.seq = s.psq.seq ∨ p.seq ≠ .sweepIsolated .isoWait) : Inject elects leads joins { s with psq := p } :=
  { h with
    elected := h.elected
    joined := fun j away => cmd.trans (h.joined j away)
    waits := fun waits => cmd.trans (h.waits (seq.elim (fun same => same.symm.trans waits) (absurd waits))) }

theorem Inject.setSeq (h : Inject elects leads joins s) (q : SeqState) (moves : q ≠ .sweepIsolated .isoWait) :
    Inject elects leads joins (setSeq q s) := by
  unfold Machine.setSeq
  split
  · exact h
  · refine Inject.evaluateAndHand (Inject.raiseEvent ?_ _)
    rw [leaveState_eq]
    exact h.sequencer _ rfl (.inr moves)

/-- The identification is forgotten, or taken over in LOCAL (R44). -/
theorem Inject.identOnEntry (h : Inject elects leads joins s) (q : SeqState)
    (home : q = .identified → s.imn.mode = .localMode) : Inject elects leads joins (identOnEntry q s) := by
  have forgotten : Inject elects leads joins (forgetIdent s) :=
    { h with elected := fun _ _ => by simp [lowerEligible, eligiblePeer, sameFeeder, forgetIdent] }
  unfold Machine.identOnEntry
  split
  · exact forgotten
  · exact forgotten
  · exact { h with elected := fun _ role => absurd ((home rfl).symm.trans role) (by simp) }
  · exact h

theorem Inject.enterSeq (h : Inject elects leads joins s) (q : SeqState)
    (home : q = .identified → s.imn.mode = .localMode) (moves : q ≠ .sweepIsolated .isoWait := by simp) :
    Inject elects leads joins (enterSeq q s) :=
  ((h.identOnEntry q home).setSeq q moves).refreshLine

theorem Inject.setPhase (h : Inject elects leads joins s) (p : IsoPhase) (opened : p = .isoWait → s.psq.contactorCmd = false) :
    Inject elects leads joins (setPhase p s) :=
  { h with
    elected := h.elected
    waits := fun waits => opened (by simpa [Machine.setPhase, Machine.raiseEvent] using waits) }

theorem Inject.takeRelease (h : Inject elects leads joins s) : Inject elects leads joins (takeRelease s) := by
  unfold Machine.takeRelease
  split
  · refine Inject.setPhase ?_ _ nofun
    exact h.plain rfl
  · exact h

/-! ## The steps of a sweep (R154, R156, R162) -/

theorem Inject.enterIsolation (h : Inject elects leads joins s) (ret : ReturnState) :
    Inject elects leads joins (enterIsolation ret s) := by
  refine Inject.setSeq ?_ _ (by simp)
  exact h.plain rfl

theorem Inject.reportTarget (h : Inject elects leads joins s) : Inject elects leads joins (reportTarget s) :=
  h.same (Same.refl s).reportTarget

theorem Inject.ownNotFound (h : Inject elects leads joins s) (r : LeaderRecord) (leads' : Prop) :
    Inject elects leads' joins (ownNotFound r s) := (h.endLeading r _ _ leads').takeRelease

/-- A sweep is led on: in the own step, or by the role's holder (R162, R164). -/
theorem Inject.leadOn (h : Inject elects leads joins s) (r : LeaderRecord)
    (quiet : r.phase = .ownStep → r.answerTimer = false) (leads' : Prop)
    (holds : leads' → r.phase = .ownStep ∨ s.imn.mode = .measurer) :
    Inject elects leads' joins { s with imn.sweep := .leading r } :=
  { h with
    elected := h.elected
    own := fun q x => by cases x; exact quiet
    leading := fun l q x => by cases x; exact holds l }

theorem Inject.startOwnStep (h : Inject elects leads joins s) (r : LeaderRecord) (leads' : Prop) :
    Inject elects leads' joins (startOwnStep r s) := by
  unfold Machine.startOwnStep
  dsimp only
  have k := ((h.leadOn { r with phase := .ownStep, answerTimer := false, cycleTimer := false, ownResults := 0 }
    (fun _ => rfl) leads' fun _ => .inl rfl).enqueue
    (.sweepStep (BitVec.ofNat 8 s.cfg.station) (BitVec.ofNat 8 r.index))).raiseEvent .sweep
  split
  · refine Inject.reportTarget (Inject.enterIsolation ?_ _)
    exact k.plain rfl
  · exact k.ownNotFound _ _

theorem Inject.startStep (h : Inject elects leads joins s) (r : LeaderRecord) (leads' : Prop)
    (role : leads' → s.imn.mode = .measurer) : Inject elects leads' joins (startStep r s) := by
  unfold Machine.startStep
  split
  · exact h.startOwnStep r _
  · exact ((h.leadOn { r with phase := .awaitingAnswer, answerTimer := true, cycleTimer := false } nofun leads'
      fun l => .inr (role l)).enqueue _).raiseEvent _

theorem Inject.nextStep (h : Inject elects leads joins s) (r : LeaderRecord) (leads' : Prop)
    (role : leads' → s.imn.mode = .measurer) : Inject elects leads' joins (nextStep r s) := h.startStep _ _ role

theorem Inject.checkSweepStart (h : Inject elects leads joins s) : Inject elects leads joins (checkSweepStart s) := by
  unfold Machine.checkSweepStart Machine.onlyIf
  split
  next ready =>
    have role : s.imn.mode = .measurer := by
      unfold sweepReady at ready
      simp only [Bool.and_eq_true, beq_iff_eq] at ready
      exact ready.1.1.2
    have k : Inject elects leads joins { s with imn.outcome := .none, imn.disagreement := false } := h.plain rfl
    refine ((k.enqueue _).raiseEvent .sweep).startStep _ _ fun _ => ?_
    simpa using role
  · exact h

theorem Inject.leftSweep (h : Inject elects leads joins s) : Inject elects leads joins (leftSweep s) := by
  unfold Machine.leftSweep
  split
  · split
    · exact (h.endLeading _ _ _ leads).checkSweepStart
    · exact h.clearTarget
  · exact h.clearTarget

theorem Inject.leaveTarget (h : Inject elects leads joins s) (q : SeqState) :
    Inject elects leads joins (leaveTarget q s) := by
  unfold Machine.leaveTarget
  split
  · exact h.clearTarget
  · exact h.clearTarget
  · exact h.leftSweep
  · exact h

/-! ## FAULT and trips (R5, R19, R20, R99) -/

theorem Inject.enterFault (h : Injects s) (cause : FaultCause) : Injects (enterFault cause s) := by
  have k := (((h.clearEnable.openRelays.stopTimers.endSession (faultEndCause cause)).leaveTarget
    s.psq.seq).dropPrefetched).forgetStop
  refine Inject.enterSeq ?_ .fault nofun
  exact k.plain rfl

theorem Inject.weldAtOnce (h : Injects s) : Injects (weldAtOnce s) := by
  unfold Machine.weldAtOnce
  split
  · exact h.enterFault _
  · exact h

theorem Inject.tripTold (h : Injects s) : Injects (tripTold s) := h.onlyIf _ (h.enterFault _)

theorem Inject.raiseTrip (h : Injects s) (c : TripCause) : Injects (raiseTrip c s) := by
  unfold Machine.raiseTrip
  split
  · have k : Injects { s with ptu.trip := some ⟨c, []⟩ } := h.plain rfl
    exact (k.clearEnable.raiseEvent .trip).tripTold.same (Same.refl _).heaterTripped
  · exact h.plain rfl

/-! ## Stops (R13, R14, R22, R24) -/

theorem Inject.finishStop (h : Injects s) (home : s.imn.mode = .localMode) : Injects (finishStop s) := by
  have k : Injects { s with imn.pendingRelease := false } := h.plain rfl
  have k := (k.endSession (s.psq.stopCause.getD .hostStop)).stopTimers.forgetStop.enterSeq .identified
    fun _ => by simpa using home
  exact Inject.onlyIf _ k (k.enqueue _)

theorem Inject.isolationReached (h : Injects s) (home : s.imn.mode = .localMode) : Injects (isolationReached s) := by
  unfold Machine.isolationReached
  split
  · refine Inject.takeRelease ?_
    exact h.plain rfl
  · split
    next _ _ r leads =>
      refine Inject.startCycle ?_ ?_
      · exact h.leadOn { r with cycleTimer := true, ownResults := 0 } (h.own r leads) True fun _ => h.leading trivial r leads
      · show s.imn.mode ≠ _
        rw [home]
        simp
    · refine Inject.startCycle (Inject.enqueue ?_ _) ?_
      · exact h.plain rfl
      · simp [home]
    · exact h

theorem Inject.contactorReadsOpen (h : Injects s) : Injects (contactorReadsOpen s) := by
  unfold Machine.contactorReadsOpen
  split
  · exact h
  next opened =>
    have off : s.psq.contactorCmd = false := Bool.eq_false_iff.2 (not_or.1 opened).1
    have home : s.imn.mode = .localMode := by
      by_contra away
      exact absurd ((h.joined trivial away).symm.trans off) (by decide)
    split
    · exact h.finishStop home
    · unfold isolationOpen
      split
      · exact h.finishStop home
      · exact (h.setPhase _ fun _ => off).isolationReached home
    · exact h

theorem Inject.rampDown (h : Injects s) (expired : Bool) : Injects (rampDown expired s) := by
  unfold Machine.rampDown
  split
  · split
    · refine Inject.contactorReadsOpen (Inject.openContactor (Inject.clearEnable ?_))
      exact h.plain rfl
    · exact h
  · dsimp only
    refine Inject.contactorReadsOpen (Inject.setPhase (Inject.openContactor (Inject.clearEnable ?_)) _ nofun)
    exact h.plain rfl
  · exact h

theorem Inject.rejoinStopped (h : Injects s) (home : s.psq.seq = .sweepIsolated .isoRejoin → s.imn.mode = .localMode) :
    Injects (rejoinStopped s) := by
  unfold Machine.rejoinStopped
  split
  next done => exact h.finishStop (home done.1)
  · exact h

end Sys2Proof.Machine
end

section
/-! PROOF. Stops, energizing, the plug and the monitor's results keep what the injection's invariant says of a state
(R10 to R18, R21 to R24, R137 to R165). -/

namespace Sys2Proof.Machine

variable {s t : State} {elects leads joins : Prop}

/-! ## Stop and suspend requests (R12 to R14, R24) -/

theorem Inject.isolatedStop (h : Injects s) : Injects (isolatedStop s) := by
  unfold Machine.isolatedStop
  split
  next waits => exact h.finishStop (h.waitsHome waits)
  · exact (h.stopTimers.openRelays).rejoinStopped fun _ => h.stopTimers.openRelays_home
  · exact h

theorem Inject.recordIsolatedStop (h : Injects s) (cause : EndCause) : Injects (recordIsolatedStop cause s) := by
  have k : Injects { s with
      psq.stopCause := some cause, psq.forced := s.psq.forced && !s.psq.stopCause.isNone } := h.plain rfl
  exact (k.onlyIf _ k.leftSweep).isolatedStop

theorem Inject.startStop (h : Injects s) (cause : EndCause) : Injects (startStop cause s) := by
  refine Inject.enterSeq ?_ .stopping nofun
  exact (h.leaveTarget s.psq.seq).plain rfl

theorem Inject.stopRequest (h : Injects s) (cause : EndCause) : Injects (stopRequest cause s) := by
  unfold Machine.stopRequest
  split
  · exact h.startStop _
  · exact h.startStop _
  · split
    · exact h
    · exact h.recordIsolatedStop _
  · exact h

theorem Inject.suspendRequest (h : Injects s) : Injects (suspendRequest s) := by
  unfold Machine.suspendRequest
  split
  · exact h.enterSeq .suspended nofun
  · exact h.plain rfl
  · exact h

theorem Inject.takeRequest (h : Injects s) (q : Option MeterRequest) : Injects (takeRequest q s) := by
  unfold Machine.takeRequest
  split
  · exact h
  · exact h.suspendRequest
  · exact h.stopRequest _

/-! ## Energizing and withdrawing (R10, R11, R16, R21, R23) -/

theorem Inject.startPrecharge (h : Injects s) : Injects (startPrecharge s) := by
  refine Inject.enterSeq ?_ .precharge nofun
  exact h.plain rfl

theorem enterSeq_contactorCmd (q : SeqState) (s : State) : (enterSeq q s).psq.contactorCmd = s.psq.contactorCmd := by
  rw [((At.of s).enterSeq q).psq]
  simp [driveOf]

theorem Inject.joinNetwork (h : Injects s) (closed : s.psq.contactorCmd = true) : Injects (joinNetwork s) := by
  have k : Injects { s with shu.joint := true } := h.plain rfl
  refine k.armEnable.contactorClosed ?_
  simpa using closed

theorem Inject.becomeActive (h : Injects s) (closed : s.psq.contactorCmd = true) : Injects (becomeActive s) := by
  unfold Machine.becomeActive
  dsimp only
  have k : Injects { s with psq.contactorTimer := false } := h.plain rfl
  have k := k.openPrecharge.openSession (startStamp (Machine.openPrecharge { s with psq.contactorTimer := false }))
    (Machine.openPrecharge { s with psq.contactorTimer := false }).mtr.prefetched
  refine Inject.joinNetwork (Inject.enterSeq ?_ .active nofun) ?_
  · exact k.plain rfl
  · rw [enterSeq_contactorCmd]
    simpa [setSession, openPrecharge_psq] using closed

theorem Inject.rejoin (h : Injects s) (closed : s.psq.contactorCmd = true) : Injects (rejoin s) := by
  unfold Machine.rejoin
  dsimp only
  have k : Injects { s with psq.contactorTimer := false, psq.isoReturn := none } := h.plain rfl
  refine Inject.joinNetwork (Inject.enterSeq k.openPrecharge _ ?_ ?_) ?_
  · split <;> nofun
  · split <;> simp
  · rw [enterSeq_contactorCmd]
    simpa [openPrecharge_psq] using closed

theorem Inject.contactorReadsClosed (h : Injects s) (closed : s.psq.contactorCmd = true) :
    Injects (contactorReadsClosed s) := by
  unfold Machine.contactorReadsClosed
  split
  · split
    · exact h.becomeActive closed
    · exact h.rejoin closed
    · exact h
  · exact h

theorem Inject.prechargeResult (h : Injects s) (drive : Kept True s) : Injects (prechargeResult s) := by
  unfold Machine.prechargeResult
  split
  next reached =>
    have energizes := (drive.charging reached.1).2
    refine Inject.contactorReadsClosed ?_ rfl
    exact { h with
      elected := h.elected, joined := fun _ _ => rfl
      waits := fun waits => by
        have waits : s.psq.seq = .sweepIsolated .isoWait := waits
        rw [show (driveOf s).psq.seq = _ from waits] at energizes
        cases energizes }
  · exact h

theorem Inject.cancelComplete (h : Injects s) (home : s.psq.cancelPending = true → s.imn.mode = .localMode) :
    Injects (cancelComplete s) := by
  unfold Machine.cancelComplete Machine.onlyIf
  split
  next done =>
    refine h.forgetStop.enterSeq .identified fun _ => home ?_
    simp only [Bool.and_eq_true] at done
    exact done.1
  · exact h

theorem Inject.withdraw (h : Injects s) : Injects (withdraw s) := h.stopTimers.openRelays.dropPrefetched

theorem Inject.withdraw_home (h : Injects s) : (Machine.withdraw s).imn.mode = .localMode := h.stopTimers.openRelays_home

theorem Inject.ownFaultTold (h : Injects s) : Injects (ownFaultTold s) := by
  unfold Machine.ownFaultTold
  split
  · exact h.withdraw.forgetStop.enterSeq .identified fun _ => h.withdraw_home
  · exact h.startStop _
  · exact h.startStop _
  · exact h.recordIsolatedStop _
  · exact h

theorem Inject.setOwnFault (h : Injects s) : Injects (setOwnFault s) := by
  unfold Machine.setOwnFault
  split
  · exact h
  · dsimp only
    have k : Injects (Machine.raiseEvent .insulation { s with imn.ownFault := true }) := h.plain rfl
    have k := k.ownFaultTold
    generalize Machine.ownFaultTold _ = t at k ⊢
    have k : Injects { t with imn.selfCheck := .pending } := k.plain rfl
    split
    next home => exact k.startSelfCheck (by rw [home]; simp)
    · exact k

/-! ## The plug (R2, R3, R17, R18) -/

theorem Inject.plugSettled (h : Injects s) : Injects (plugSettled s) := by
  unfold Machine.plugSettled
  split
  · exact (h.enterSeq .plugged nofun).raiseEvent _
  · exact h

theorem Inject.releaseButton (h : Injects s) : Injects (releaseButton s) := by
  unfold Machine.releaseButton
  split
  · exact h.stopRequest _
  · exact h.stopRequest _
  · exact h.stopRequest _
  · exact h
  · exact h
  · exact h.enqueue _

theorem Inject.plugLost (h : Injects s) : Injects (plugLost s) := by
  unfold Machine.plugLost
  split
  · exact h.raiseTrip _
  · split
    · exact h.identOnEntry .unplugged nofun
    · exact h
    · exact (((h.endSession .unplugged).dropPrefetched.stopTimers.forgetStop).enterSeq .unplugged nofun)

theorem Inject.lossOfPlug (h : Injects s) : Injects (lossOfPlug s) := by
  have k : Injects (endSupervisions s) := h.plain rfl
  exact k.plugLost.weldAtOnce

theorem Inject.detectPlug (h : Injects s) (old new : ProxLevel) : Injects (detectPlug old new s) := by
  unfold Machine.detectPlug
  split
  · split
    · exact h
    · refine Inject.enterSeq ?_ .plugSettle nofun
      exact h.plain rfl
  · exact h.plain rfl
  · exact h.plain rfl
  · exact h

theorem Inject.takeProximity (h : Injects s) (v : Int) : Injects (takeProximity v s) := by
  unfold Machine.takeProximity
  dsimp only
  have k : Injects { Machine.plugSettled s with psq.prox := classify v } := h.plugSettled.plain rfl
  have t := k.detectPlug (Machine.plugSettled s).psq.prox (classify v)
  split
  · exact t
  · refine Inject.refreshLine ?_
    split
    · exact t.releaseButton
    · exact t.lossOfPlug
    · exact t

/-! ## Results of the monitor (R142 to R150, R157, R162) -/

theorem Inject.selfCheckResult (h : Injects s) (rf passed : Nat) : Injects (selfCheckResult rf passed s) := by
  unfold Machine.selfCheckResult
  split
  · exact h.failSelfCheck
  · split
    · exact h.plain rfl
    · exact h.plain rfl

theorem Inject.clearingResult (h : Injects s) (rf : Nat) : Injects (clearingResult rf s) := by
  unfold Machine.clearingResult
  split
  · exact h.failClearing
  · exact h.plain rfl

theorem ownStepMeasuring_leads {r : LeaderRecord} (own : ownStepMeasuring s = some r) :
    s.imn.sweep = .leading r ∧ r.phase = .ownStep := by
  unfold ownStepMeasuring at own
  split at own
  next q leads =>
    split at own
    next both => cases own; exact ⟨leads, both.1⟩
    · cases own
  · cases own

theorem Inject.ownConsequence (h : Injects s) (before : Evaluation) : Injects (ownConsequence before s) := by
  unfold Machine.ownConsequence
  split
  next r measuring =>
    obtain ⟨leads, own⟩ := ownStepMeasuring_leads measuring
    unfold ownStepResult
    split
    · exact (h.endLeading _ _ _ True).setOwnFault
    · split
      · exact h.ownNotFound _ _
      · exact h.leadOn { r with ownResults := r.ownResults + 1 } (h.own r leads) True fun _ => .inl own
  · exact h.onlyIf _ h.setOwnFault

theorem Inject.localResult (h : Injects s) (x : InsResult) : Injects (localResult x s) := by
  unfold Machine.localResult
  dsimp only
  have k : Injects { s with imn.localResult := some x, imn.localFlag := true } := h.plain rfl
  have t : Injects (Machine.noteVerdict x.rf (Machine.judgeOwn x.rf
      { s with imn.localResult := some x, imn.localFlag := true })) := (k.judgeOwn x.rf).plain rfl
  have u := t.ownConsequence s.imn.own
  split
  · exact (u.selfCheckResult x.rf _).onlyIf _ ((u.selfCheckResult x.rf _).clearingResult _)
  · exact u.onlyIf _ (u.clearingResult _)

theorem stepMeasuring_leads {r : LeaderRecord} (measuring : stepMeasuring s = some r) :
    s.imn.sweep = .leading r ∧ r.phase = .measuring := by
  unfold stepMeasuring at measuring
  split at measuring
  next q leads =>
    split at measuring
    next phase => cases measuring; exact ⟨leads, phase⟩
    · cases measuring
  · cases measuring

/-- A lead before the own step is the role holder's (R164). -/
theorem Inject.role (h : Injects s) {r : LeaderRecord} (leads : s.imn.sweep = .leading r) (phase : r.phase ≠ .ownStep) :
    s.imn.mode = .measurer := (h.leading trivial r leads).resolve_left phase

theorem Inject.decideStep (h : Injects s) (role : s.imn.mode = .measurer) (rf : Nat) (r : LeaderRecord) :
    Injects (decideStep rf r s) := by
  unfold Machine.decideStep
  split
  · exact h.endLeading _ _ _ _
  · exact h.nextStep _ _ fun _ => role

theorem Inject.jointResult (h : Injects s) (x : InsResult) : Injects (jointResult x s) := by
  unfold Machine.jointResult
  dsimp only
  have k : Injects { s with imn.jointResult := some x, imn.resultInRole := true } := h.plain rfl
  have u := (k.judgeNet x.rf).enqueue (.measureResult (BitVec.ofNat 16 x.rf) (if x.estimate then 1 else 0))
  split
  next r measuring =>
    obtain ⟨leads, phase⟩ := stepMeasuring_leads measuring
    have role := h.role leads (by rw [phase]; simp)
    refine u.decideStep ?_ _ _
    simp only [enqueue_keeps]
    rw [judgeNet_frame]
    exact role
  · exact u.onlyIf _ u.checkSweepStart

theorem Inject.cycleOutcome (h : Injects s) (uPlus uMinus : Int) (estimate : Bool) :
    Injects (cycleOutcome uPlus uMinus estimate s) := by
  unfold Machine.cycleOutcome
  dsimp only
  split
  · split
    · exact h.plain rfl
    · exact h.localResult _
  · split
    · exact (h.loosen (elects' := False) False.elim id id).interference _
    · exact h.jointResult _
  · exact h

/-! ## The halves of a cycle (R139, R140) -/

theorem Inject.announceHalf (h : Injects s) (x : CycleHalf) : Injects (announceHalf x s) := by
  unfold Machine.announceHalf
  split
  · exact (h.enqueue _).plain rfl
  · exact h

/-- The cycle goes on with the driver at a level (R137). -/
theorem Inject.cycle (h : Injects s) (c : Cycle) (level : DriverLevel) (runs : s.imn.cycle.isSome = true) :
    Injects { s with imn.cycle := some c, imn.driver := level } :=
  { h with elected := h.elected, drives := fun _ => rfl, couples := fun _ => h.couples runs }

theorem Inject.endCycle (h : Injects s) (v : Int) (c : Cycle) (runs : s.imn.cycle.isSome = true) :
    Injects (endCycle v c s) := by
  unfold Machine.endCycle
  dsimp only
  have u := (h.cycle .following .plus runs).cycleOutcome (c.uPlus.getD 0) v c.estimateAtEnd
  split
  · exact u.announceHalf _
  · exact u

theorem Inject.takeViso (h : Injects s) (v : Int) : Injects (takeViso v s) := by
  unfold Machine.takeViso sampleHalf
  dsimp only
  split
  · exact h
  next c is =>
    have runs : s.imn.cycle.isSome = true := by rw [is]; rfl
    split
    · exact (h.cycle _ _ runs).announceHalf _
    · split
      · split
        · exact h.endCycle _ _ runs
        · exact (h.cycle _ _ runs).announceHalf _
      · exact h.cycle _ s.imn.driver runs

end Sys2Proof.Machine
end

section
/-! PROOF. No step lets the part inject where it must not: frames, the monitor's timers, the beacon period, the scans,
the Plug Sequencer's rows and the starts (R137 to R168). -/

namespace Sys2Proof.Machine

variable {s t : State} {elects leads joins : Prop}

/-! ## Frames delivered to the monitor (R144, R148, R155 to R163) -/

theorem Inject.releaseTarget (h : Injects s) : Injects (releaseTarget s) := by
  unfold Machine.releaseTarget
  split
  · exact h
  · dsimp only
    have k : Injects (endTargetReport { s with imn.target := none }) := h.plain rfl
    split
    · exact k.takeRelease
    · exact k.plain rfl
    · exact k.plain rfl
    · exact k

/-- A station follows a leader. -/
theorem Inject.follows (h : Injects s) (leader : Nat) (timer : Bool) :
    Injects { s with imn.sweep := .following leader timer } :=
  { h with elected := h.elected, own := nofun, leading := fun _ => nofun }

theorem Inject.follow (h : Injects s) (leader : Nat) : Injects (follow leader s) := (h.follows leader true).plain rfl

theorem Inject.takeAlert (h : Injects s) (sender : Nat) : Injects (takeAlert sender s) := by
  unfold Machine.takeAlert
  split
  · exact h.follow _
  · split
    · exact h.follows _ _
    · exact h
  · exact h

theorem Inject.serveStep (h : Injects s) (target index : Nat) : Injects (serveStep target index s) := by
  unfold Machine.serveStep
  split
  · unfold becomeTarget
    have k : Injects { s with imn.target := some ⟨index, none⟩ } := h.plain rfl
    split
    · exact h
    · split
      · exact (k.enterIsolation _).reportTarget.raiseEvent _
      · split
        · exact h.enqueue _
        · exact (k.raiseEvent _).enqueue _
  · exact h.releaseTarget

theorem Inject.takeSweepStep (h : Injects s) (sender target index : Nat) :
    Injects (takeSweepStep sender target index s) := by
  unfold Machine.takeSweepStep
  split
  · exact (h.follow _).serveStep _ _
  · split
    · exact (h.follows _ _).serveStep _ _
    · exact h
  · exact h

theorem Inject.takeSweepAnswer (h : Injects s) (sender code : Nat) : Injects (takeSweepAnswer sender code s) := by
  unfold Machine.takeSweepAnswer
  split
  next r leads =>
    split
    next awaited =>
      have role := h.role leads (by rw [awaited.1]; simp)
      dsimp only
      split
      · exact h.nextStep _ _ fun _ => role
      · refine Inject.startCycle (h.leadOn { r with answerTimer := false, phase := .measuring, cycleTimer := true } nofun True
          fun _ => .inr role) ?_
        show s.imn.mode ≠ _
        rw [role]
        simp
    · exact h
  · exact h

theorem Inject.takeResult (h : Injects s) (o : SweepOutcome) : Injects (takeResult o s) := by
  unfold Machine.takeResult
  refine Inject.checkSweepStart ?_
  split
  · split
    · unfold foundHere
      dsimp only
      have k := h.setOwnFault
      generalize Machine.setOwnFault s = t at k ⊢
      have d : Injects { t with imn.disagreement := true } := k.plain rfl
      refine Inject.endSweep (leads := True) (Inject.clearTarget (Inject.onlyIf _ k ?_)) _ _ _
      exact d.raiseEvent _
    · exact h.releaseTarget.endSweep _ _ _
  · exact h.releaseTarget.endSweep _ _ _
  · exact h.releaseTarget.endSweep _ _ _

theorem Inject.takeSweepResult (h : Injects s) (sender code found : Nat) :
    Injects (takeSweepResult sender code found s) := by
  unfold Machine.takeSweepResult
  split
  · split
    · exact h.takeResult _
    · exact h
  · exact h

theorem Inject.takeMeasureStart (h : Injects s) : Injects (takeMeasureStart s) := by
  have k : Injects (hearMeasurer s) := h.plain rfl
  unfold Machine.takeMeasureStart
  dsimp only
  split
  · exact (k.loosen (elects' := False) False.elim id id).interference _
  · exact k

theorem Inject.takeMeasureResult (h : Injects s) (rf : Nat) (estimate : Bool) :
    Injects (takeMeasureResult rf estimate s) := by
  have k : Injects (hearMeasurer s) := h.plain rfl
  unfold Machine.takeMeasureResult
  dsimp only
  split
  · have j : Injects { Machine.hearMeasurer s with imn.jointResult := some ⟨rf, estimate, none, none⟩ } := k.plain rfl
    exact (j.judgeNet rf).endUnmonitored.plain rfl
  · exact k

/-! ## The peer table and the election (R45 to R51, R146, R147) -/

/-- A beacon may bring an eligible peer of a lower number. -/
theorem Inject.putEntry (h : Injects s) (e : PeerEntry) (extra : Bool) : Inject False True True (putEntry e extra s) := by
  have k : Inject False True True { s with shu.peers := putPeer e s.shu.peers } := { h with elected := nofun }
  unfold Machine.putEntry
  dsimp only
  split
  · exact k.updateFallback.same (Same.refl _).extraAndEvaluate
  · exact k.updateFallback

theorem Inject.takeBeacon (h : Injects s) (station feeder : Nat) (demand draw : Word16) (flags : Byte) (resistance : Word16)
    (leader : Byte) : Inject False True True (takeBeacon station feeder demand draw flags resistance leader s) := by
  have plain : Inject False True True s := h.loosen False.elim id id
  unfold Machine.takeBeacon
  split
  · exact plain
  · split
    · exact h.putEntry _ _
    · split
      · exact (h.putEntry _ _).raiseEvent _
      · refine Inject.updateFallback ?_
        exact plain.plain rfl

/-- The role is yielded to an eligible peer of a lower number (R147). -/
theorem Inject.electionAtBeacon (h : Inject False True True s) (station : Nat) (measurer : Bool) :
    Injects (electionAtBeacon station measurer s) := by
  unfold Machine.electionAtBeacon
  dsimp only
  have k : Inject False True True (Machine.onlyIf measurer hearMeasurer s) := by
    refine h.onlyIf _ ?_
    exact h.plain rfl
  generalize Machine.onlyIf measurer hearMeasurer s = t at k ⊢
  unfold Machine.onlyIf
  split
  · exact k.yieldRole True
  next alone =>
    refine { k with elected := fun _ _ => ?_ }
    simp only [Bool.or_eq_true, not_or] at alone
    exact Bool.eq_false_iff.2 alone.1

theorem Inject.removePeers (h : Injects s) (p : PeerEntry → Bool) :
    Injects (Machine.updateFallback { s with shu.peers := s.shu.peers.filter p }) :=
  (h.peers _ s.shu.overflow (List.filter_subset_self _)).updateFallback

theorem Inject.deliver (h : Injects s) (f : Frame) : Injects (deliver f s) := by
  unfold Machine.deliver
  dsimp only
  split
  · exact (h.takeBeacon _ _ _ _ _ _ _).electionAtBeacon _ _
  · unfold takeLeave
    split
    · exact (h.removePeers _).raiseEvent _
    · exact h
  · exact h.takeAlert _
  · exact h.takeSweepStep _ _ _
  · exact h.takeSweepAnswer _ _
  · exact h.takeSweepResult _ _ _
  · exact h.takeMeasureStart
  · exact h.takeMeasureResult _ _

theorem Inject.route (h : Injects s) (f : Frame) : Injects (route f s) := by
  unfold Machine.route
  repeat' split
  · exact h
  · exact h.deliver _
  · exact h
  · exact h.plain rfl

theorem Inject.detectDuplicate (h : Injects s) (station : BitVec 6) : Injects (detectDuplicate station s) := by
  unfold Machine.detectDuplicate
  split
  · dsimp only
    have k : Injects { s with fli.duplicate := true } := h.plain rfl
    have t := (k.raiseEvent .duplicate).refreshLine
    exact t.onlyIf _ (t.plain rfl)
  · exact h

theorem Inject.takeGood (h : Injects s) (station : BitVec 6) (f : Option Frame) : Injects (takeGood station f s) := by
  have k : Injects (driveAck s) := h.plain rfl
  have t := k.detectDuplicate station
  unfold Machine.takeGood
  dsimp only
  split
  · exact t.route _
  · exact t

theorem Inject.receive (h : Injects s) (f : Frame) : Injects (receive f s) := by
  unfold Machine.receive
  split
  · exact h
  · exact h.takeGood _ _

theorem Inject.frameBits (h : Injects s) (bits : List Bool) : Injects (frameBits bits s) := by
  unfold Machine.frameBits
  split
  · exact h
  · split
    · exact h.plain rfl
    · exact h.plain rfl
    · exact h.takeGood _ _

/-! ## Attempts and the beacon period (R30 to R32, R38, R50, R57, R146) -/

theorem Inject.bitError (h : Injects s) : Injects (bitError s) := by
  unfold Machine.bitError
  split
  · exact h
  · dsimp only
    split
    · refine Inject.refreshLine (Inject.raiseEvent ?_ _)
      exact h.plain rfl
    · exact h.plain rfl

theorem Inject.txComplete (h : Injects s) (heard : Bool) : Injects (txComplete heard s) := by
  unfold Machine.txComplete
  split
  · exact h
  · unfold attemptOutcome
    split
    · exact h.plain rfl
    · refine Inject.updateFallback ?_
      exact h.plain rfl
    · exact h.plain rfl

theorem Inject.silentExpiry (h : Injects s) : Injects (silentExpiry s) := by
  unfold Machine.silentExpiry
  split
  · refine Inject.refreshLine ?_
    exact h.plain rfl
  · exact h

/-- Nobody becomes eligible by aging (R50, R146). -/
theorem lowerEligible_aged (none : lowerEligible s = false) :
    lowerEligible { s with shu.peers := agePeers s.shu.peers } = false := by
  unfold lowerEligible at none ⊢
  rw [List.any_eq_false] at none ⊢
  intro e mem both
  obtain ⟨x, was, rfl⟩ := List.mem_map.1 (List.mem_of_mem_filter mem)
  refine none x was ?_
  simp only [eligiblePeer, sameFeeder, Bool.and_eq_true, decide_eq_true_eq] at both ⊢
  obtain ⟨⟨⟨same, joint⟩, young⟩, lower⟩ := both
  exact ⟨⟨⟨same, joint⟩, by omega⟩, lower⟩

theorem Inject.ageTable (h : Injects s) : Injects (ageTable s) := by
  have k : Injects { s with shu.peers := agePeers s.shu.peers } := by
    exact { h with elected := fun e role => lowerEligible_aged (h.elected e role) }
  exact k.onlyIf _ (k.raiseEvent _)

theorem Inject.sharePeriod (h : Injects s) : Injects (sharePeriod s) := by
  unfold Machine.sharePeriod lowerOverflow
  dsimp only
  refine Inject.enqueue (Inject.same (Inject.same ?_ (Same.refl _).fullComputation) (Same.refl _).evaluate) _
  refine Inject.same (s := Machine.evaluate (Machine.updateFallback
    { Machine.ageTable s with shu.overflow := (Machine.ageTable s).shu.overflow - 1 })) ?_
    (Same.onlyChain ?_ (keepFallback_onlyChain _))
  · refine Inject.same (Inject.updateFallback ?_) (Same.refl _).evaluate
    exact h.ageTable.plain rfl
  · exact Same.refl _

theorem Inject.measuringRoleTake (h : Injects s) : Injects (measuringRoleTake s) := by
  unfold Machine.measuringRoleTake
  split
  next due =>
    have passive : s.imn.mode = .passive := by
      unfold roleDue at due
      simp only [Bool.and_eq_true, beq_iff_eq] at due
      exact due.1
    split
    next eligible =>
      have k : Injects { s with imn.mode := .measurer, imn.clearCount := 0, imn.resultInRole := false } :=
        { h with
          couples := fun x => absurd passive (h.couples x).2
          elected := fun _ _ => Bool.eq_false_iff.2 eligible.2
          leading := fun _ r x => .inl ((h.leading trivial r x).resolve_right (by rw [passive]; simp))
          joined := fun _ _ => h.joined trivial (by rw [passive]; simp) }
      refine Inject.checkSweepStart (k.endUnmonitored.startCycle ?_)
      simp [Machine.endUnmonitored, Machine.onlyIf, apply_ite State.imn]
    · exact h.plain rfl
  · exact h

theorem Inject.beaconPeriod (h : Injects s) : Injects (beaconPeriod s) := by
  unfold Machine.beaconPeriod
  split
  · exact h
  · have k : Injects { s with fli.beaconTimer := some 250 } := h.plain rfl
    have k := k.measuringRoleTake.sharePeriod
    generalize Machine.sharePeriod _ = t at k ⊢
    exact k.plain rfl

/-! ## The monitor's timers and commands (R144, R150, R156, R157, R162, R165, R167) -/

theorem Inject.sweepAnswerTimeout (h : Injects s) : Injects (sweepAnswerTimeout s) := by
  unfold Machine.sweepAnswerTimeout
  split
  next r leads =>
    split
    next waits =>
      exact h.nextStep _ _ fun _ => h.role leads fun own => absurd (waits.symm.trans (h.own r leads own)) (by decide)
    · exact h
  · exact h

theorem Inject.sweepCycleTimeout (h : Injects s) : Injects (sweepCycleTimeout s) := by
  unfold Machine.sweepCycleTimeout
  split
  next r leads =>
    split
    · split
      · exact h.ownNotFound _ _
      next early => exact h.nextStep _ _ fun _ => h.role leads early
    · exact h
  · exact h

theorem Inject.leaderSilenceExpiry (h : Injects s) : Injects (leaderSilenceExpiry s) := by
  unfold Machine.leaderSilenceExpiry
  split
  · exact (h.endSweep _ _ True).releaseTarget.checkSweepStart
  · exact h

theorem Inject.sweepHoldExpiry (h : Injects s) : Injects (sweepHoldExpiry s) := by
  unfold Machine.sweepHoldExpiry
  split
  · refine Inject.checkSweepStart ?_
    exact h.plain rfl
  · exact h

theorem Inject.unmonitoredExpiry (h : Injects s) : Injects (unmonitoredExpiry s) := by
  unfold Machine.unmonitoredExpiry
  split
  · exact h.plain rfl
  · exact h

theorem Inject.answerEmpty (h : Injects s) (x : Status) : Injects (answerEmpty x s) := h.plain rfl

theorem Inject.clearInsulation (h : Injects s) : Injects (clearInsulation s) := by
  unfold Machine.clearInsulation
  split
  · exact h.plain rfl
  next home =>
    split
    · exact h.plain rfl
    · split
      · exact h.plain rfl
      · have k : Injects { s with imn.clearing := true } := h.plain rfl
        refine Inject.answerEmpty (Inject.startCycle (k.onlyIf _ (k.setIsolate _)) ?_) _
        have home : s.imn.mode = .localMode := not_not.1 home
        simp [Machine.onlyIf, apply_ite State.imn, home]

end Sys2Proof.Machine
end

section
/-! PROOF. No step lets the part inject where it must not: the scans, the Plug Sequencer's rows, the port, the trips and
the starts (R5 to R24, R89 to R112, R137, R147, R164, R187 to R200). -/

namespace Sys2Proof.Machine

variable {s t : State} {elects leads joins : Prop}

/-! ## Scans (R108 to R112) -/

theorem Inject.limitAction (h : Injects s) (i : Fin 16) : Injects (limitAction i s) := by
  unfold Machine.limitAction
  split
  · split
    · exact h
    · exact h.raiseEvent _
    · exact h.raiseTrip _
  · exact h

theorem Inject.limitActions (is : List (Fin 16)) (h : Injects s) :
    Injects (is.foldl (fun t i => Machine.limitAction i t) s) := by
  induction is generalizing s with
  | nil => exact h
  | cons i is ih => exact ih (h.limitAction i)

theorem Inject.publishScan (h : Injects s) (k : ScanKind) (pairs : List (Word16 × Word16)) :
    Injects (publishScan k pairs s) := by
  refine Inject.limitActions _ ?_
  exact h.plain rfl

theorem Inject.publishFast (h : Injects s) (drive : Kept True s) (pairs : List (Word16 × Word16)) :
    Injects (publishFast pairs s) := by
  unfold Machine.publishFast
  dsimp only
  have lapsed := (((Same.refl s).linePeriodLapse.spanLapse .u).spanLapse .v).spanLapse .w
  have t := ((h.same lapsed).publishScan .fast pairs).prechargeResult ((drive.same lapsed).publishScan .fast pairs)
  generalize Machine.prechargeResult _ = c at t ⊢
  have u : Injects (linkResult c) := t.onlyIf _ (t.raiseTrip _)
  have u : Injects (batteryResult (linkResult c)) := u.plain rfl
  have u : Injects (currentResult (batteryResult (linkResult c))) := u.onlyIf _ (u.rampDown _)
  generalize Machine.currentResult _ = d at u ⊢
  have v : Injects (accumulateHeat d) := u.plain rfl
  have x := v.onlyIf (heaterOver (accumulateHeat d)) (v.same (Same.refl _).heaterOvercurrent)
  exact x.same ((((Same.refl _).phaseResult .u).phaseResult .v).phaseResult .w)

theorem Inject.publishSlow (h : Injects s) (pairs : List (Word16 × Word16)) : Injects (publishSlow pairs s) := by
  have k := h.publishScan .slow pairs
  unfold Machine.publishSlow
  dsimp only
  generalize Machine.publishScan .slow pairs s = t at k ⊢
  have k : Injects (judgeSensors t) := k.plain rfl
  have k := k.same (Same.refl _).takeTemperature
  generalize Machine.takeTemperature (judgeSensors t) = u at k ⊢
  exact (k.takeViso _).takeProximity _

theorem Inject.pairDone (h : Injects s) (drive : Kept True s) (a b : Word16) : Injects (pairDone a b s) := by
  have k (m : Msq) : Injects { s with msq := m } := h.plain rfl
  have d (m : Msq) : Kept True { s with msq := m } := drive.plain rfl
  unfold Machine.pairDone
  split
  · exact h
  · unfold fastPair
    dsimp only
    split
    · exact k _
    · exact (k _).publishFast (d _) _
  · unfold slowPair
    dsimp only
    split
    · exact k _
    · exact (k _).publishSlow _

/-! ## Identification (R6 to R8) -/

theorem Inject.goIdentify (h : Injects s) : Injects (goIdentify s) := by
  unfold Machine.goIdentify
  split
  · exact h.plain rfl
  · split
    · exact h.plain rfl
    · split
      · exact h.plain rfl
      · refine Inject.answerEmpty (Inject.enterSeq ?_ .identifying nofun) _
        exact h.plain rfl

/-- The contactor is open in IDENTIFYING, and the monitor in LOCAL (R4, R138). -/
theorem Kept.identifyingHome {weld : Prop} (drive : Kept weld s) (is : s.psq.seq = .identifying) : s.imn.mode = .localMode :=
  not_not.1 (drive.rests (show s.psq.seq.tripsToFault = false by rw [is]; rfl)).home

theorem Inject.identify (h : Injects s) (home : s.imn.mode = .localMode) (i : Identification) : Injects (identify i s) := by
  have k : Injects { s with psq.ident := some i } := h.plain rfl
  exact (k.enterSeq .identified fun _ => home).raiseEvent _

theorem Inject.pilotCodeComplete (h : Injects s) (drive : Kept True s) : Injects (pilotCodeComplete s) := by
  unfold Machine.pilotCodeComplete
  split
  · split
    next complete =>
      unfold takeCode
      split
      · exact h.identify (drive.identifyingHome (drive.asking (.inr complete.2))) _
      · exact h.plain rfl
    · exact h
  · exact h

theorem Inject.pilotEdge (h : Injects s) (drive : Kept True s) (span : PilotSpan) (w : Nat) :
    Injects (pilotEdge span w s) := by
  have k := h.pilotCodeComplete drive
  unfold Machine.pilotEdge
  dsimp only
  generalize Machine.pilotCodeComplete s = t at k ⊢
  split
  · split
    · rw [takePulse_eq]; exact k.plain rfl
    · rw [takeRest_eq]; exact k.plain rfl
  · exact k

theorem Inject.identTimeout (h : Injects s) (drive : Kept True s) : Injects (identTimeout s) := by
  unfold Machine.identTimeout
  split
  next runs =>
    split
    · exact h.enterFault _
    · exact h.identify (drive.identifyingHome (drive.asking (.inl runs))) _
  · exact h

/-! ## The host's commands (R9, R11, R13, R15, R16, R20) -/

theorem Inject.goEnergize (h : Injects s) (slot : Byte) (stamp : Word32) : Injects (goEnergize slot stamp s) := by
  unfold Machine.goEnergize
  split
  · exact h.plain rfl
  next c _ =>
    dsimp only
    have k : Injects { s with mtr.prefetched := some c, psq.start := some (c.slot, stamp) } := h.plain rfl
    split
    · unfold resume
      dsimp only
      refine Inject.answerEmpty (Inject.takeRequest (Inject.same (Inject.enterSeq ?_ .active nofun)
        (Same.refl _).activatePrefetched) _) _
      exact h.plain rfl
    · exact k.startPrecharge.answerEmpty _

theorem Inject.goStop (h : Injects s) : Injects (goStop s) := by
  unfold Machine.goStop
  repeat' split
  · exact h.plain rfl
  · exact (h.stopRequest _).answerEmpty _
  · exact h.plain rfl

theorem Inject.idle (h : Injects s) : Injects (idle s) := by
  unfold Machine.idle
  dsimp only
  have t := h.clearEnable.openRelays.stopTimers
  have t := t.onlyIf (((Machine.stopTimers (Machine.openRelays (Machine.clearEnable s))).psq.seq) == .precharge)
    t.dropPrefetched
  exact ((((t.endSession .hostIdle).leaveTarget s.psq.seq).enqueue .leave).forgetStop).enterSeq .plugged nofun

theorem Inject.idleFromFault (h : Injects s) : Injects (idleFromFault s) := by
  unfold Machine.idleFromFault
  split
  · exact h.plain rfl
  · split
    · exact h.plain rfl
    · refine Inject.answerEmpty (Inject.enterSeq ?_ _ ?_ ?_) _
      · exact (h.enqueue .leave).plain rfl
      · split <;> nofun
      · split <;> simp

theorem Inject.goIdle (h : Injects s) : Injects (goIdle s) := by
  unfold Machine.goIdle
  split
  · exact h.plain rfl
  · split
    · exact h.plain rfl
    · exact h.plain rfl
    · exact h.plain rfl
    · exact h.idleFromFault
    · exact h.idle.answerEmpty _

theorem Inject.startCancel (h : Injects s) : Injects (startCancel s) := by
  have k : Injects { s with psq.cancelPending := true, psq.cancelContactor := s.psq.contactorCmd } := h.plain rfl
  exact k.withdraw.cancelComplete fun _ => k.withdraw_home

theorem Inject.cancel (h : Injects s) : Injects (cancel s) := by
  unfold Machine.cancel
  split
  · exact (h.enterSeq .plugged nofun).answerEmpty _
  · split
    · exact h.plain rfl
    · exact h.startCancel.answerEmpty _
  all_goals exact h.plain rfl

/-! ## Timers and relay contacts (R5, R10, R13, R14, R16, R22 to R24) -/

theorem Inject.prechargeTimeout (h : Injects s) : Injects (prechargeTimeout s) := by
  unfold Machine.prechargeTimeout
  split
  · exact h.enterFault _
  · exact h

theorem Inject.contactorTimeout (h : Injects s) : Injects (contactorTimeout s) := by
  unfold Machine.contactorTimeout
  split
  · exact h.enterFault _
  · exact h

theorem Inject.batteryLowTimeout (h : Injects s) : Injects (batteryLowTimeout s) := by
  unfold Machine.batteryLowTimeout
  split
  · refine Inject.stopRequest ?_ _
    exact h.plain rfl
  · exact h

theorem Inject.stopTimerExpiry (h : Injects s) : Injects (stopTimerExpiry s) := by
  unfold Machine.stopTimerExpiry
  split
  · exact h.rampDown _
  · exact h

/-- A contact's opening completes a stop or a cancel, with the monitor in LOCAL (R16, R24). -/
theorem Inject.contactOpened (h : Injects s) (drive : Kept True s) :
    Injects (Machine.cancelComplete (Machine.rejoinStopped s)) := by
  refine (h.rejoinStopped fun is => ?_).cancelComplete fun pending => ?_
  · exact not_not.1 (drive.home (show s.psq.seq.energizes = true by rw [is]; rfl))
  · have k := drive.rejoinStopped
    obtain ⟨is, -⟩ := Drive.Safe.cancel k pending
    refine not_not.1 (k.home ?_)
    rw [is]
    rfl

theorem Inject.relayFeedback (h : Injects s) (drive : Kept True s) (relay : PlugRelay) (closed : Bool) :
    Injects (relayFeedback relay closed s) := by
  unfold Machine.relayFeedback
  split
  · split
    · exact h
    · have k : Injects { s with psq.contactorFb := true } := h.plain rfl
      unfold contactorCloses
      split
      next commanded => exact k.contactorReadsClosed commanded
      · exact k.weldAtOnce
  · split
    · have k : Injects { s with psq.contactorFb := false, psq.contactorSup := false } := h.plain rfl
      refine Inject.contactOpened k.contactorReadsOpen (Kept.contactorReadsOpen ?_)
      exact ((At.of s).record fun p => { p with contactorFb := false, contactorSup := false }).kept { drive with welds := nofun }
    · exact h
  · exact h.plain rfl
  · split
    · refine Inject.contactOpened ?_ ?_
      · exact h.plain rfl
      · exact ((At.of s).record fun p => { p with prechargeFb := false, prechargeSup := false }).kept { drive with }
    · exact h

theorem Inject.readContact (h : Injects s) (relay : PlugRelay) (closed : Bool) : Injects (readContact relay closed s) := by
  unfold Machine.readContact
  split <;> exact h.plain rfl

theorem Inject.supervisionExpiry (h : Injects s) (relay : PlugRelay) : Injects (supervisionExpiry relay s) := by
  have contactor : Injects { s with psq.contactorSup := false } := h.plain rfl
  have precharge : Injects { s with psq.prechargeSup := false } := h.plain rfl
  unfold Machine.supervisionExpiry
  split
  · split
    · exact contactor.onlyIf _ (contactor.enterFault _)
    · exact h
  · split
    · exact precharge.onlyIf _ (precharge.enterFault _)
    · exact h

/-! ## Sessions, the port and the settings (R174, R179, R183, R193 to R199) -/

theorem Inject.sessionSplit (h : Injects s) (slot : Byte) (stamp : Word32) : Injects (sessionSplit slot stamp s) := by
  unfold Machine.sessionSplit
  repeat' split
  · exact h.plain rfl
  · exact h.plain rfl
  · exact h.plain rfl
  · exact h.plain rfl
  · exact ((h.closeSession _ _).openSession _ _).answerEmpty _

theorem Inject.endTransaction (h : Injects s) (received : List Byte) : Injects (endTransaction received s) := by
  unfold Machine.endTransaction
  repeat' split
  all_goals exact h.plain rfl

theorem Inject.readReport (h : Injects s) : Injects (readReport s) := by
  unfold Machine.readReport
  split
  · exact h.plain rfl
  · exact h.plain rfl

theorem Inject.removeReport (h : Injects s) : Injects (removeReport s) := by
  unfold Machine.removeReport
  split
  · exact h.plain rfl
  · exact (h.same ((Same.refl s).removeOldest _ _)).answerEmpty _

/-- Nobody is known before CONFIGURE, and the cycle in progress starts anew (R136, R199). -/
theorem Inject.configure (h : Injects s) (drive : Kept True s) (p : ConfigPayload) : Injects (configure p s) := by
  unfold Machine.configure
  split
  · exact h.plain rfl
  next fresh =>
    split
    · exact h.plain rfl
    · have alone : s.shu.peers = [] := (drive.early (Bool.eq_false_iff.2 fresh)).2.2.1
      have k : Injects (takeSettings p s) :=
        { h with elected := fun _ _ => by simp [lowerEligible, takeSettings, alone] }
      have k : Injects (watchConflicts (Machine.raiseEvent .configDone (takeSettings p s))) := k.plain rfl
      unfold applyConfig
      generalize watchConflicts (Machine.raiseEvent .configDone (takeSettings p s)) = t at k ⊢
      have k : Injects (restartCycle t) := by
        unfold restartCycle Machine.onlyIf
        split
        next runs => exact k.startCycle (k.couples runs).2
        · exact k
      exact (k.refreshLine.same (Same.refl _).selectHeater).same ((Same.refl _).answer _ _)

theorem Inject.setCharge (h : Injects s) (i v : Word16) : Injects (setCharge i v s) := by
  unfold Machine.setCharge
  split
  · exact h.plain rfl
  · refine Inject.answerEmpty (Inject.evaluateAndHand ?_) _
    exact h.plain rfl

theorem Inject.setBatteryLimit (h : Injects s) (i : Word16) : Injects (setBatteryLimit i s) := by
  unfold Machine.setBatteryLimit
  split
  · exact h.plain rfl
  · refine Inject.answerEmpty (Inject.evaluateAndHand ?_) _
    exact h.plain rfl

theorem Inject.setHeating (h : Injects s) (a b m : Word16) (p : Byte) (x : Word16) (clear : Byte) :
    Injects (setHeating a b m p x clear s) := by
  unfold Machine.setHeating
  split
  · exact h.plain rfl
  · split
    · exact h.plain rfl
    next q _ =>
      split
      · split
        · refine Inject.same (s := applyHeating a.toInt b.toInt m.toNat q x.toNat (clear == 1) s) ?_ ((Same.refl _).answer _ _)
          refine Inject.same ?_ (Same.refl _).selectHeater
          exact h.plain rfl
        · exact h.plain rfl
      · exact h.plain rfl

theorem Inject.writeDescriptor (h : Injects s) (slot flags : Byte) (quota duration chg cond : Word16) (next : Byte) :
    Injects (writeDescriptor slot flags quota duration chg cond next s) := by
  unfold Machine.writeDescriptor
  repeat' split
  all_goals exact h.plain rfl

/-! ## Trips and the output stage (R89 to R101) -/

theorem Inject.tripClear (h : Injects s) : Injects (tripClear s) := by
  unfold Machine.tripClear
  repeat' split
  all_goals exact h.plain rfl

theorem Inject.readFeedback (h : Injects s) (k : Leg) (d : Device) (reads : Bool) : Injects (readFeedback k d reads s) := by
  rw [readFeedback_eq]
  exact h.plain rfl

theorem Inject.deadTimeEnd (h : Injects s) (k : Leg) : Injects (deadTimeEnd k s) := by
  unfold Machine.deadTimeEnd
  split
  · exact h
  · dsimp only
    have t : Injects { s with ptu.legs := (s.ptu.legs.set k { s.ptu.legs.get k with deadTime := none }) } := h.plain rfl
    exact (t.onlyIf _ (t.raiseTrip _)).plain rfl

theorem Inject.conflictExpiry (h : Injects s) (k : Leg) : Injects (conflictExpiry k s) := by
  unfold Machine.conflictExpiry
  split
  · refine Inject.raiseTrip ?_ _
    exact h.plain rfl
  · exact h.plain rfl
  · exact h

theorem Inject.extLineChange (h : Injects s) (active : Bool) : Injects (extLineChange active s) := by
  unfold Machine.extLineChange
  split
  · exact h
  · exact h.plain rfl

theorem Inject.extInactiveExpiry (h : Injects s) : Injects (extInactiveExpiry s) := by
  unfold Machine.extInactiveExpiry
  split
  · exact h
  · exact h.plain rfl

theorem Inject.extFilterExpiry (h : Injects s) : Injects (extFilterExpiry s) := by
  unfold Machine.extFilterExpiry
  split
  · refine Inject.raiseTrip ?_ _
    exact h.plain rfl
  · exact h

theorem Inject.gridExpiry (h : Injects s) : Injects (gridExpiry s) := by
  unfold Machine.gridExpiry
  split
  · refine Inject.raiseTrip ?_ _
    exact h.plain rfl
  · exact h

theorem Inject.meteringInterval (h : Injects s) : Injects (meteringInterval s) := by
  unfold Machine.meteringInterval
  split
  · exact (h.same (Same.refl s).meterInterval).takeRequest _
  · exact h

theorem Inject.removeAged (h : Injects s) : Injects (removeAged s) :=
  (h.removePeers _).onlyIf _ ((h.removePeers _).raiseEvent _)

/-! ## Every step (O57) -/

/-- At a start the driver is at 0 V (R153). -/
theorem blank_injects (cause : ResetCause) (g : Page) (s : State) :
    Injects (.blank cause g s.psq s.ptu s.fresh s.pending) where
  drives := fun x => absurd rfl x
  couples := fun _ => ⟨rfl, nofun⟩
  elected := fun _ => nofun
  own := nofun
  leading := fun _ => nofun
  joined := fun _ x => absurd rfl x
  waits := fun _ => rfl

theorem restart_injects (cause : ResetCause) (g : Page) (s : State) : Injects (restart cause g s) := by
  have start : Injects (startState cause g s) := (blank_injects cause g s).plain rfl
  have torn := start.onlyIf (startState cause g s).mst.torn (start.raiseEvent .storeTorn)
  have read := torn.same (Same.refl _).startupSnapshot
  have told : Injects (startupRead (.blank cause g s.psq s.ptu s.fresh s.pending)) := read.onlyIf _ (read.raiseEvent _)
  exact told.plain rfl

theorem powerLoss_injects (s : State) : Injects (powerLoss s) :=
  (blank_injects s.cpt.resetCause (pageAfterPowerLoss s.mst) s).plain rfl

theorem Inject.row {f : State → State} (held : Injects s) (run : Injects (f s)) :
    Completes (whenRunning f s) Injects := whenRunning_completes held run

theorem Inject.rowOr {g f : State → State} (held : Injects (g s)) (run : Injects (f s)) :
    Completes (whenRunningOr g f s) Injects := whenRunningOr_completes held run

/-- Every row but a start and a power loss. -/
theorem exec_injects (c : Instr) (h : Injects s) (drive : Kept True s) (live : isReset c = false) : Completes (exec c s) Injects := by
  cases c with
  | powerOn => cases live
  | brownOut => cases live
  | resetLine => cases live
  | powerLoss => cases live
  | setCharge _ _ => exact h.row (h.setCharge _ _)
  | setBatteryLimit _ => exact h.row (h.setBatteryLimit _)
  | setHeating _ _ _ _ _ _ => exact h.row (h.setHeating _ _ _ _ _ _)
  | writeDescriptor _ _ _ _ _ _ _ => exact h.row (h.writeDescriptor _ _ _ _ _ _ _)
  | configure _ => exact h.row (h.configure drive _)
  | heaterEvent => exact h.row (h.same (Same.refl s).heaterEvent)
  | chipSelectAssert => exact h.row (f := chipSelect) (h.plain rfl)
  | readOnlyTransaction _ => exact h.row (h.endTransaction _)
  | requestRejected _ => exact h.row (h.endTransaction _)
  | getStatus => exact h.row (h.plain rfl)
  | readEvents => exact h.row (f := readEvents) (h.plain rfl)
  | goIdentify => exact h.row h.goIdentify
  | goEnergize _ _ => exact h.row (h.goEnergize _ _)
  | goStop => exact h.row h.goStop
  | goIdle => exact h.row h.goIdle
  | cancel => exact h.row h.cancel
  | tripClear => exact h.row h.tripClear
  | extend _ => exact h.row (h.same ((Same.refl s).extend _))
  | sessionSplit _ _ => exact h.row (h.sessionSplit _ _)
  | readReport => exact h.row h.readReport
  | removeReport => exact h.row h.removeReport
  | readMeter => exact h.row (h.plain rfl)
  | readPeers => exact h.row (h.plain rfl)
  | readShare => exact h.row (h.plain rfl)
  | readMeasure _ _ => exact h.row (h.same ((Same.refl s).readMeasure _ _))
  | readInsulation => exact h.row (f := readInsulation) (h.plain rfl)
  | clearInsulation => exact h.row h.clearInsulation
  | carrierTrough => exact h.row (h.same (Same.refl s).carrierTrough)
  | loopComputationEvent => exact h.row (h.same (Same.refl s).loopEvent)
  | linePeriodLapse => exact h.row (h.same (Same.refl s).linePeriodLapse)
  | legCommandChange _ _ => exact h.row (f := legCommandChange _ _) (h.plain rfl)
  | deadTimeEnd _ => exact h.row (h.deadTimeEnd _)
  | gateFeedbackChange _ _ _ => exact Inject.rowOr (h.readFeedback _ _ _) ((h.readFeedback _ _ _).plain rfl)
  | legConflictTimerExpiry _ => exact h.row (h.conflictExpiry _)
  | heaterPeriodStart => exact h.row (f := heaterPeriodStart) (h.plain rfl)
  | heaterDutyEnd => exact h.row (f := heaterDutyEnd) (h.plain rfl)
  | extTripLineChange b => exact Inject.rowOr (g := fun s => { s with ptu.extActive := b }) (h.plain rfl) (h.extLineChange _)
  | extTripFilterExpiry => exact h.row h.extFilterExpiry
  | extInactiveTimerExpiry => exact h.row h.extInactiveExpiry
  | gridSupervisionExpiry => exact h.row h.gridExpiry
  | slowScanTimerExpiry => exact h.row (h.same (Same.refl s).slowScanExpiry)
  | pairConversionDone _ _ => exact h.row (h.pairDone drive _ _)
  | spanLapse _ => exact h.row (h.same ((Same.refl s).spanLapse _))
  | plugSettleComplete => exact h.row h.plugSettled
  | pilotCodeComplete => exact h.row (h.pilotCodeComplete drive)
  | identTimeout => exact h.row (h.identTimeout drive)
  | prechargeTimeout => exact h.row h.prechargeTimeout
  | contactorTimeout => exact h.row h.contactorTimeout
  | relayFeedbackChange relay closed =>
    show Completes (whenRunningOr _ _ s) _
    unfold whenRunningOr
    split
    · exact ⟨_, rfl, h.relayFeedback drive _ _⟩
    · exact ⟨_, rfl, h.readContact _ _⟩
  | openSupervisionExpiry _ => exact h.row (h.supervisionExpiry _)
  | batteryLowTimeout => exact h.row h.batteryLowTimeout
  | stopTimerExpiry => exact h.row h.stopTimerExpiry
  | txAttemptStart => exact h.row (h.same (Same.refl s).startAttempt)
  | txArbitrationLost => exact h.row (f := dropAttempt) (h.plain rfl)
  | txBitError => exact h.row h.bitError
  | txComplete _ => exact h.row (h.txComplete _)
  | silentTimerExpiry => exact h.row h.silentExpiry
  | frameDropped _ => exact h.row (h.frameBits _)
  | beaconReceived _ _ _ _ _ _ _ => exact h.row (h.receive _)
  | leaveReceived _ _ => exact h.row (h.receive _)
  | alertReceived _ _ _ => exact h.row (h.receive _)
  | sweepStepReceived _ _ _ _ => exact h.row (h.receive _)
  | sweepAnswerReceived _ _ _ _ => exact h.row (h.receive _)
  | sweepResultReceived _ _ _ _ _ => exact h.row (h.receive _)
  | measureStartReceived _ _ _ _ => exact h.row (h.receive _)
  | measureResultReceived _ _ _ _ => exact h.row (h.receive _)
  | beaconPeriodEvent => exact h.row h.beaconPeriod
  | peerAgedOut => exact h.row h.removeAged
  | overflowEnd => exact h.row h.updateFallback
  | measuringRoleTake => exact h.row h.measuringRoleTake
  | backoffEnd => exact h.row (f := id) h
  | rampEvent => exact h.row (h.same (Same.refl s).rampEvent)
  | freshnessTimerExpiry => exact h.row (h.same (Same.refl s).freshnessExpiry)
  | relaySettleExpiry => exact h.row (f := relaySettleExpiry) (h.plain rfl)
  | heaterOpenDetect => exact h.row (h.same (Same.refl s).heaterOpenDetect)
  | unmonitoredTimerExpiry => exact h.row h.unmonitoredExpiry
  | sweepAnswerTimeout => exact h.row h.sweepAnswerTimeout
  | sweepCycleTimeout => exact h.row h.sweepCycleTimeout
  | leaderSilenceExpiry => exact h.row h.leaderSilenceExpiry
  | sweepHoldExpiry => exact h.row h.sweepHoldExpiry
  | meterSample => exact h.row (f := meterSample) (h.meteringInterval.plain rfl)
  | meteringInterval => exact h.row h.meteringInterval
  | storeWriteComplete => exact h.row (h.same (Same.refl s).completeWrite)
  | pilotSenseEdge _ _ => exact h.row (h.pilotEdge drive _ _)

/-- Settles O57: the part injects only with its relay closed, in LOCAL or with the measuring role, which it holds only
with no eligible peer of a lower number. -/
theorem stepKeepsInjectionSafe : Obligations.StepKeepsInjectionSafe := by
  unfold Obligations.StepKeepsInjectionSafe
  intro s drive safe
  refine step_completes safe fun c rest => ?_
  have kept : Kept True { s with pending := rest } := drive.drive
  have k : Injects { s with pending := rest } := (safe.injects drive).plain rfl
  refine Completes.mono (P := Injects) ?_ fun t k => k.safe
  cases live : isReset c with
  | true => exact (exec_reset c _ live).mono fun t reset => reset.keeps k (fun cause g => restart_injects cause g _) (powerLoss_injects _)
  | false => exact exec_injects c k kept live

end Sys2Proof.Machine
end

section
/-! PROOF. A LOCAL result is taken in LOCAL to its end: the monitor does not leave it (R138, R142, R145, R149, R150). -/

namespace Sys2Proof.Machine

variable {s t : State}

/-- The monitor is in LOCAL. -/
abbrev AtHome (s : State) : Prop := s.imn.mode = .localMode

theorem AtHome.onlyIf (c : Bool) {f : State → State} (h : AtHome s) (k : AtHome (f s)) : AtHome (onlyIf c f s) :=
  onlyIf_ind (P := AtHome) c h k

theorem AtHome.enterSeq (h : AtHome s) (q : SeqState) : AtHome (enterSeq q s) := (enterSeq_home q h).mode.trans h

theorem leftSweep_mode (s : State) : (leftSweep s).imn.mode = s.imn.mode := by
  unfold leftSweep
  split
  · split
    · rw [checkSweepStart_mode, endLeading_mode]
    · rfl
  · rfl

theorem leaveTarget_mode (q : SeqState) (s : State) : (leaveTarget q s).imn.mode = s.imn.mode := by
  unfold leaveTarget
  split
  · rfl
  · rfl
  · exact leftSweep_mode s
  · rfl

theorem AtHome.openRelays (h : AtHome s) : AtHome (openRelays s) := by
  unfold Machine.openRelays Machine.openContactor
  split
  · exact contactorOpened_mode _
  · simpa [AtHome] using h

theorem AtHome.finishStop (h : AtHome s) : AtHome (finishStop s) := by
  have k : AtHome (Machine.enterSeq .identified (forgetStop (stopTimers (endSession (s.psq.stopCause.getD .hostStop)
      { s with imn.pendingRelease := false })))) := AtHome.enterSeq (by simpa [AtHome] using h) _
  exact AtHome.onlyIf _ k (by simpa [AtHome] using k)

theorem AtHome.isolatedStop (h : AtHome s) : AtHome (isolatedStop s) := by
  unfold Machine.isolatedStop
  split
  · exact h.finishStop
  · have k : AtHome (Machine.openRelays (stopTimers s)) := AtHome.openRelays (s := stopTimers s) h
    unfold rejoinStopped
    split
    · exact k.finishStop
    · exact k
  · exact h

theorem AtHome.recordIsolatedStop (h : AtHome s) (cause : EndCause) : AtHome (recordIsolatedStop cause s) := by
  refine AtHome.isolatedStop (AtHome.onlyIf _ ?_ ?_)
  · exact h
  · exact (leftSweep_mode _).trans h

theorem AtHome.startStop (h : AtHome s) (cause : EndCause) : AtHome (startStop cause s) := by
  refine AtHome.enterSeq ?_ _
  exact (leaveTarget_mode s.psq.seq s).trans h

theorem AtHome.ownFaultTold (h : AtHome s) : AtHome (ownFaultTold s) := by
  unfold Machine.ownFaultTold
  split
  · refine AtHome.enterSeq ?_ _
    exact AtHome.openRelays (s := stopTimers s) h
  · exact h.startStop _
  · exact h.startStop _
  · exact h.recordIsolatedStop _
  · exact h

theorem startSelfCheck_mode (s : State) : (startSelfCheck s).imn.mode = s.imn.mode := by
  unfold startSelfCheck startCycle
  split
  · split
    · rfl
    · simp
  · rfl

theorem AtHome.setOwnFault (h : AtHome s) : AtHome (setOwnFault s) := by
  unfold Machine.setOwnFault
  split
  · exact h
  · dsimp only
    have k : AtHome (Machine.ownFaultTold (raiseEvent .insulation { s with imn.ownFault := true })) :=
      AtHome.ownFaultTold h
    rw [if_pos (show AtHome _ from k)]
    exact (startSelfCheck_mode _).trans k

theorem AtHome.ownConsequence (h : AtHome s) (before : Evaluation) : AtHome (ownConsequence before s) := by
  unfold Machine.ownConsequence
  split
  · unfold ownStepResult
    split
    · exact AtHome.setOwnFault ((endLeading_mode ..).trans h)
    · split
      · unfold ownNotFound
        rw [AtHome, takeRelease_frame]
        exact (endLeading_mode ..).trans h
      · exact h
  · exact h.onlyIf _ h.setOwnFault

theorem AtHome.selfCheckResult (h : AtHome s) (rf n : Nat) : AtHome (selfCheckResult rf n s) := by
  unfold Machine.selfCheckResult
  split
  · exact (congrArg Imn.mode (failSelfCheck_failed s).2.1).trans h
  · split
    · exact h
    · exact h

theorem AtHome.clearingResult (h : AtHome s) (rf : Nat) : AtHome (clearingResult rf s) := by
  unfold Machine.clearingResult
  split
  · exact (congrArg Imn.mode (failClearing_failed s).2.1).trans h
  · exact h

theorem AtHome.localResult (h : AtHome s) (r : InsResult) : AtHome (localResult r s) := by
  have taken : AtHome (resultTaken r s) := by rw [AtHome, resultTaken_frame]; exact h
  have judged : AtHome (resultJudged r s) := taken.ownConsequence _
  have checked : AtHome (resultChecked r s) := by
    unfold resultChecked
    split
    · exact judged.selfCheckResult _ _
    · exact judged
  rw [localResult_eq]
  exact checked.onlyIf _ (checked.clearingResult _)

end Sys2Proof.Machine
end

section
/-! PROOF. VISO samples run the halves of a cycle, and a cycle's end gives its result (R139 to R142, R148, R154, R157). -/

namespace Sys2Proof.Machine

variable {s t u : State}

/-! ## Samples (R140) -/

theorem addSample_eq (v : Int) (c : Cycle) : c.addSample v = sampled v c := by
  obtain ⟨half, count, run, prev, uPlus, estimate⟩ := c
  cases prev <;> simp [Cycle.addSample, settledDifference]

/-- A sample that does not end its half (R140). -/
theorem sampled_runs (cfg : Settings) (v : Int) (c : Cycle) : (c.addSample v).ended cfg = false ↔
    ¬ (20 ≤ c.count + 1 ∧ 8 ≤ (sampled v c).run) ∧ c.count + 1 < cfg.tHalfMax * 100 := by
  rw [addSample_eq]
  simp [Cycle.ended, Cycle.settled, imp_iff_not_or]

/-- ESTIMATE at a half's end (R140). -/
theorem sampled_estimate (v : Int) (c : Cycle) : (c.addSample v).estimateAtEnd =
    (c.estimate || decide (c.count + 1 < 20 ∨ (sampled v c).run < 8)) := by
  rw [addSample_eq]
  unfold Cycle.estimateAtEnd Cycle.settled
  congr 1
  simp only [Bool.not_and, ← decide_not, not_le]
  exact (Bool.decide_or _ _).symm

/-! ## The start of a half (R139) -/

/-- The half is announced where the role is held (R139). -/
theorem announceHalf_started (h : CycleHalf) (s : State) : HalfStarted (polarityCode h) s (announceHalf h s) := by
  unfold HalfStarted announceHalf
  split
  · exact ⟨by rw [enqueue_eq], (enqueue_queued rfl).congr rfl rfl rfl rfl⟩
  · exact ⟨rfl, rfl⟩

theorem announceHalf_frame (h : CycleHalf) (s : State) : announceHalf h s = { s with
    imn.halfIndex := (announceHalf h s).imn.halfIndex, fli := (announceHalf h s).fli } := by
  unfold announceHalf
  split
  · rw [enqueue_eq]
  · rfl

/-- The driver's side changes with the cycle's half. -/
theorem halfStarted_of (h : CycleHalf) (c : Cycle) (level : DriverLevel) (s : State) :
    ∀ t, t = announceHalf h { s with imn.cycle := some c, imn.driver := level } →
      t.imn.cycle = some c ∧ t.imn.driver = level ∧ HalfStarted (polarityCode h) s t ∧ t.psq = s.psq := by
  rintro t rfl
  have frame := announceHalf_frame h { s with imn.cycle := some c, imn.driver := level }
  have started := announceHalf_started h { s with imn.cycle := some c, imn.driver := level }
  generalize announceHalf h { s with imn.cycle := some c, imn.driver := level } = t at frame started ⊢
  refine ⟨?_, ?_, started, ?_⟩ <;> rw [frame]

end Sys2Proof.Machine
end

section
/-! PROOF. What a sweep does after a JOINT result has been sent: the result and the half that follows it keep their places
in the queue (R39, R142, R154, R157). -/

namespace Sys2Proof.Machine

variable {s t u v w : State} {n m : Nat}

/-! ## Frames of a sweep behind a measurer's (R28, R39) -/

/-- At most `n` frames of a sweep have been queued: those of a measurer stay where there is room for them. -/
structure Sent (n : Nat) (s t : State) : Prop where
  line : t.fli.line = s.fli.line
  length : t.fli.queue.length ≤ s.fli.queue.length + n
  keeps : ∀ q ∈ s.fli.queue, q.frame.body.isMeasure = true → s.fli.queue.length + n ≤ 4 → q ∈ t.fli.queue

theorem Sent.of_fli (fli : t.fli = s.fli) : Sent 0 s t := by
  refine ⟨?_, ?_, fun q mem _ _ => ?_⟩ <;> rw [fli]
  · exact le_rfl
  · exact mem

theorem Sent.trans (h : Sent n s t) (k : Sent m t u) : Sent (n + m) s u where
  line := k.line.trans h.line
  length := by have := h.length; have := k.length; omega
  keeps q mem measure room := by
    have length := h.length
    exact k.keeps q (h.keeps q mem measure (by omega)) measure (by omega)

theorem Sent.mono (h : Sent n s t) (le : n ≤ m) : Sent m s t where
  line := h.line
  length := h.length.trans (by omega)
  keeps q mem measure room := h.keeps q mem measure (by omega)

theorem isMeasure_code {b : FrameBody} (measure : b.isMeasure = true) : b.code = 5 ∨ b.code = 6 := by
  cases b <;> simp_all [FrameBody.isMeasure, FrameBody.code]

/-- A frame of another kind joins. -/
theorem Sent.enqueue {b : FrameBody} (other : b.code ≠ 5 ∧ b.code ≠ 6) (s : State) : Sent 1 s (enqueue b s) where
  line := by rw [enqueue_eq]
  length := enqueue_length b s
  keeps q mem measure room := by
    refine mem_enqueue_other mem ?_ (.inl (by omega))
    obtain is | is := isMeasure_code measure <;> rw [is]
    · exact other.1.symm
    · exact other.2.symm

/-! ## A step after a result (R154, R156, R157, R162) -/

/-- What a sweep's end, step or start leaves of the rest. -/
structure Swept (v w : State) : Prop where
  imn : w.imn = { v.imn with
    sweep := w.imn.sweep, target := w.imn.target, hold := w.imn.hold, pendingRelease := w.imn.pendingRelease
    outcome := w.imn.outcome, disagreement := w.imn.disagreement }
  cfg : w.cfg = v.cfg
  mst : w.mst = v.mst
  ident : w.psq.ident = v.psq.ident
  events : ∀ e ∈ v.cpt.events, e ∈ w.cpt.events
  sent : Sent 3 v w

theorem Swept.refl (v : State) : Swept v v := ⟨rfl, rfl, rfl, rfl, fun _ mem => mem, (Sent.of_fli rfl).mono (by omega)⟩

theorem endLeading_sent (r : LeaderRecord) (o : SweepOutcome) (hold : Bool) (v : State) : Sent 1 v (endLeading r o hold v) := by
  have sent := Sent.enqueue (b := endingFrame r o) ⟨show (4 : Nat) ≠ 5 by decide, show (4 : Nat) ≠ 6 by decide⟩ v
  rw [endLeading_eq]
  exact ⟨rfl, sent.length, sent.keeps⟩

theorem endLeading_swept (r : LeaderRecord) (o : SweepOutcome) (hold : Bool) (v : State) : Swept v (endLeading r o hold v) := by
  refine ⟨?_, ?_, ?_, ?_, fun _ => endLeading_events r o hold v, (endLeading_sent r o hold v).mono (by omega)⟩ <;> rw [endLeading_eq] <;> rfl

theorem stepAnnounced_sent (station : Nat) (r : LeaderRecord) (v : State) : Sent 1 v (stepAnnounced station r v) := by
  have sent := Sent.enqueue (b := .sweepStep (BitVec.ofNat 8 station) (BitVec.ofNat 8 r.index))
    ⟨show (2 : Nat) ≠ 5 by decide, show (2 : Nat) ≠ 6 by decide⟩ v
  rw [stepAnnounced_frame]
  exact ⟨rfl, sent.length, sent.keeps⟩

/-- A step's frames: its own, and a result where it ends the sweep. -/
theorem startStep_sent (r : LeaderRecord) (v : State) : Sent 2 v (startStep r v) ∧ (startStep r v).psq.ident = v.psq.ident := by
  by_cases own : r.index + 1 = r.list.length
  · rw [startStep_own own]
    have announced := stepAnnounced_sent v.cfg.station (ownStep r) v
    have frame := stepAnnounced_frame v.cfg.station (ownStep r) v
    generalize stepAnnounced v.cfg.station (ownStep r) v = x at announced frame ⊢
    have psq : x.psq = v.psq := by rw [frame]; rfl
    split
    next away =>
      have only := isolation_onlyChain (s := { x with imn.target := some ⟨r.index, none⟩ })
        (ret := if v.psq.seq = .active then .active else .suspended) (by rw [psq]; exact away) (by rw [psq])
      generalize reportTarget _ = t at only ⊢
      have fli : t.fli = x.fli := congrArg (·.fli) only
      have ident : t.psq.ident = x.psq.ident := congrArg (·.psq.ident) only
      exact ⟨(announced.trans (Sent.of_fli fli)).mono (by omega), ident.trans (by rw [psq])⟩
    next =>
      obtain ⟨-, -, fli, moved⟩ := ownNotFound_ends { ownStep r with unresponsive := r.unresponsive + 1 } x
      have sent := Sent.enqueue (b := endingFrame { ownStep r with unresponsive := r.unresponsive + 1 } .notFound)
        ⟨show (4 : Nat) ≠ 5 by decide, show (4 : Nat) ≠ 6 by decide⟩ x
      refine ⟨(announced.trans (sent.trans (Sent.of_fli fli))).mono (by omega), ?_⟩
      rw [moved]
      split <;> rw [psq]
  · rw [startStep_peer own]
    refine ⟨(stepAnnounced_sent ..).mono (by omega), ?_⟩
    rw [stepAnnounced_frame]
    rfl

theorem startStep_swept (r : LeaderRecord) (v : State) : Swept v (startStep r v) := by
  obtain ⟨sent, ident⟩ := startStep_sent r v
  obtain ⟨-, cfg, -, -, mst, -⟩ := startStep_keeps r v
  refine ⟨?_, cfg, mst, ident, fun e => startStep_events r v, sent.mono (by omega)⟩
  rw [startStep_imn]
  split
  · rfl
  · split <;> rfl

theorem startSweep_swept (v : State) : Swept v (startSweep v) := by
  have started := startStep_swept (sweepRecord v) (sweepAlerted v)
  have sent := (startStep_sent (sweepRecord v) (sweepAlerted v)).1
  have alerted : Sent 1 v (sweepAlerted v) := by
    have sent := Sent.enqueue (b := .alert (BitVec.ofNat 16 (jointRf v)))
      ⟨show (1 : Nat) ≠ 5 by decide, show (1 : Nat) ≠ 6 by decide⟩ v
    exact ⟨sent.line, sent.length, sent.keeps⟩
  have psq := sweepAlerted_psq v
  have events : ∀ e ∈ v.cpt.events, e ∈ (sweepAlerted v).cpt.events := fun e mem => by
    unfold sweepAlerted
    rw [enqueue_eq]
    exact mem_raiseEvent _ mem
  rw [startSweep_eq]
  refine ⟨?_, started.cfg.trans (by simp), started.mst.trans (by simp), started.ident.trans (by rw [psq]),
    fun e mem => started.events e (events e mem), alerted.trans sent⟩
  exact started.imn

end Sys2Proof.Machine
end

section
/-! PROOF. A cycle's end: a JOINT result is judged, sent and followed by the next half (O41; R139, R142, R154, R157). -/

namespace Sys2Proof.Machine

variable {s s' t v w : State} {r : InsResult} {l : LeaderRecord}

/-! ## The next half's frame (R39, R139) -/

/-- The next positive half has been announced. -/
abbrev halfSent (w : State) : State :=
  { w with
    imn.halfIndex := w.imn.halfIndex + 1
    fli.queue := (enqueue (.measureStart 0 w.imn.halfIndex) w).fli.queue }

theorem announceHalf_measurer (measurer : w.imn.mode = .measurer) : announceHalf .positive w = halfSent w := by
  unfold announceHalf halfSent
  rw [if_pos measurer, enqueue_eq, enqueue_eq]
  rfl

/-- Frames of a sweep, and a result, stay before it. -/
theorem QueuedRoom.halfSent {n : Nat} {b : FrameBody} (h : QueuedRoom n b s w) (kind : b.code ≠ 5) (before : b.cls ≤ 1) :
    QueuedRoom n b s (halfSent w) :=
  (QueuedRoom.enqueue (c := .measureStart 0 w.imn.halfIndex) h kind le_rfl (.inr before)).congr rfl rfl rfl rfl

theorem StepStarted.halfSent (h : StepStarted l s w) : StepStarted l s (halfSent w) := by
  obtain ⟨event, queued, step⟩ := h
  refine ⟨event, queued.halfSent (show (2 : Nat) ≠ 5 by decide) (Nat.zero_le _), ?_⟩
  split at step
  next peer => rw [if_pos peer]; exact step
  next own =>
    rw [if_neg own]
    split at step
    next away => rw [if_pos away]; exact step
    next other =>
      obtain ⟨ended, none, result⟩ := step
      rw [if_neg other]
      exact ⟨ended, none, result.halfSent (show (4 : Nat) ≠ 5 by decide) (Nat.zero_le _)⟩

theorem SweepStarted.halfSent (h : SweepStarted s w) : SweepStarted s (halfSent w) := by
  obtain ⟨disagreement, outcome, alert, step⟩ := h
  exact ⟨disagreement, outcome, alert.halfSent (show (1 : Nat) ≠ 5 by decide) (Nat.zero_le _), step.halfSent⟩

/-- The start of a step reads the station, the queue and the sequencer. -/
theorem StepStarted.earlier (h : StepStarted l s t) (cfg : s'.cfg = s.cfg) (psq : s'.psq = s.psq) (fli : s'.fli = s.fli) :
    StepStarted l s' t := by
  unfold StepStarted SweepEnded QueuedOwn QueuedRoom Isolating heldFeeder at h ⊢
  simp only [cfg, psq, fli, Bool.or_true] at h ⊢
  exact h

/-! ## The result (R142, R144) -/

/-- The frame of a JOINT result (R28, R142). -/
abbrev resultFrame (r : InsResult) : FrameBody :=
  .measureResult (BitVec.ofNat 16 r.rf) (if r.estimate = true then 1 else 0)

/-- The result has been taken, judged and sent. -/
def jointSent (r : InsResult) (s : State) : State :=
  enqueue (resultFrame r) (judgeNet r.rf { s with imn.jointResult := some r, imn.resultInRole := true })

theorem jointSent_frame (r : InsResult) (s : State) : jointSent r s = { s with
    imn := { s.imn with
      jointResult := some r, resultInRole := true, net := judge s.cfg r.rf s.imn.net
      hold := judgedHold s.imn (judge s.cfg r.rf s.imn.net) }
    mtr := (jointSent r s).mtr
    cpt.events := (jointSent r s).cpt.events
    fli.queue := (enqueue (resultFrame r) s).fli.queue } := by
  unfold jointSent
  rw [judgeNet_frame, enqueue_eq, enqueue_eq]
  rfl

theorem jointResult_measuring (measuring : stepMeasuring s = some l) :
    jointResult r s = decideStep r.rf l (jointSent r s) := by
  unfold jointResult
  rw [measuring]
  rfl

theorem jointResult_other (other : stepMeasuring s = none) :
    jointResult r s = alarmChange s.imn.net (jointSent r s) := by
  unfold jointResult
  rw [other]
  rfl

theorem stepMeasuring_of (leads : s.imn.sweep = .leading l) (phase : l.phase = .measuring) : stepMeasuring s = some l := by
  unfold stepMeasuring
  rw [leads]
  exact if_pos phase

theorem stepMeasuring_none (other : ∀ l, s.imn.sweep = .leading l → l.phase ≠ .measuring) : stepMeasuring s = none := by
  unfold stepMeasuring
  split
  next l leads => exact if_neg (other l leads)
  · rfl

/-- The state at a cycle's end, with the next cycle begun (R139). -/
abbrev cycleBegun (s : State) : State :=
  { s with imn.cycle := some ⟨.positive, 0, 0, none, none, false⟩, imn.driver := .plus }

theorem jointSent_events (r : InsResult) (s : State) :
    ChangeRaised s.imn.net (judge s.cfg r.rf s.imn.net) (jointSent r s) := by
  unfold jointSent
  rw [enqueue_eq]
  exact judgeNet_raised r.rf { s with imn.jointResult := some r, imn.resultInRole := true }

/-- The result's frame stands in the queue. -/
theorem jointSent_queued (r : InsResult) (s : State) : QueuedOwn (resultFrame r) s (jointSent r (cycleBegun s)) := by
  refine QueuedRoom.congr (enqueue_queued (b := resultFrame r) (s := s) rfl) rfl rfl rfl ?_
  rw [jointSent_frame, enqueue_eq, enqueue_eq]
  rfl

/-- Whatever a sweep does after the result, the result and the next half have their places (R39). -/
theorem swept_sent (measurer : s.imn.mode = .measurer) (swept : Swept (jointSent r (cycleBegun s)) w) :
    ∀ t, t = halfSent w →
      t.imn.mode = .measurer ∧ t.imn.cycle = some ⟨.positive, 0, 0, none, none, false⟩ ∧ t.imn.driver = .plus ∧
      t.imn.jointResult = some r ∧ t.imn.resultInRole = true ∧ Judged s.cfg r.rf s.imn.net t.imn.net ∧
      ChangeRaised s.imn.net t.imn.net t ∧ t.imn.halfIndex = s.imn.halfIndex + 1 ∧ t.imn.ownFault = s.imn.ownFault ∧
      t.mst = s.mst ∧ QueuedRoom 4 (resultFrame r) s t := by
  rintro t rfl
  obtain ⟨imn, cfg, mst, ident, events, sent⟩ := swept
  have queued := jointSent_queued r s
  have raised := jointSent_events r (cycleBegun s)
  have frame := jointSent_frame r (cycleBegun s)
  have length : (jointSent r (cycleBegun s)).fli.queue.length ≤ s.fli.queue.length + 1 := by
    rw [frame]
    exact enqueue_length _ (cycleBegun s)
  generalize jointSent r (cycleBegun s) = v at *
  have index : w.imn.halfIndex = s.imn.halfIndex := by rw [imn, frame]
  have net : w.imn.net = judge s.cfg r.rf s.imn.net := by rw [imn, frame]
  have line : v.fli.line = s.fli.line := by rw [frame]
  refine ⟨?_, ?_, ?_, ?_, ?_, ?_, ?_, ?_, ?_, ?_, ?_⟩
  · show w.imn.mode = _
    rw [imn, frame]
    exact measurer
  · show w.imn.cycle = _
    rw [imn, frame]
  · show w.imn.driver = _
    rw [imn, frame]
  · show w.imn.jointResult = _
    rw [imn, frame]
  · show w.imn.resultInRole = _
    rw [imn, frame]
  · show Judged s.cfg r.rf s.imn.net w.imn.net
    rw [net]
    exact judge_judged _ _ _
  · intro change
    refine events _ (raised ?_)
    have change : s.imn.net.state.getD .ok ≠ w.imn.net.state.getD .ok := change
    rw [net] at change
    exact change
  · show w.imn.halfIndex + 1 = _
    rw [index]
  · show w.imn.ownFault = _
    rw [imn, frame]
  · exact mst.trans (by rw [frame])
  · refine QueuedRoom.halfSent (fun online room => ?_) (show (6 : Nat) ≠ 5 by decide) le_rfl
    obtain ⟨q, mem, is⟩ := queued online (by omega)
    exact ⟨q, sent.keeps q mem (by rw [is]; rfl) (by omega), is⟩

/-- The next half's frame joins where the sweep has left room (R39, R139). -/
theorem half_queued {n : Nat} (swept : Swept (jointSent r (cycleBegun s)) w) (sent : Sent n (jointSent r (cycleBegun s)) w) :
    QueuedRoom (n + 2) (.measureStart 0 s.imn.halfIndex) s (halfSent w) := by
  obtain ⟨imn, cfg, -, ident, -, -⟩ := swept
  have frame := jointSent_frame r (cycleBegun s)
  have length : (jointSent r (cycleBegun s)).fli.queue.length ≤ s.fli.queue.length + 1 := by
    rw [frame]
    exact enqueue_length _ (cycleBegun s)
  generalize jointSent r (cycleBegun s) = v at *
  intro online room
  have line : v.fli.line = s.fli.line := by rw [frame]
  have short := sent.length
  obtain ⟨q, mem, is⟩ := enqueue_room (s := w) (.measureStart 0 w.imn.halfIndex) (sent.line.trans (line.trans online)) nofun
    (by omega)
  have index : w.imn.halfIndex = s.imn.halfIndex := by rw [imn, frame]
  have station : w.cfg = s.cfg := cfg.trans (by rw [frame])
  have feeder : w.psq.ident = s.psq.ident := ident.trans (by rw [frame])
  refine ⟨q, mem, is.trans ?_⟩
  unfold frameOf heldFeeder
  rw [index, station, feeder]

/-! ## Deciding the sweep (R154, R157) -/

theorem decideStep_eq (rf : Nat) (l : LeaderRecord) (v : State) : decideStep rf l v =
    if v.cfg.rWarn ≤ rf then endLeading l (.found (l.list.getD l.index 0)) true v
    else startStep { l with index := l.index + 1 } v := rfl

/-- R154's check as the network state turns ALARM. -/
theorem alarmChange_eq (before : Evaluation) (measurer : v.imn.mode = .measurer) : alarmChange before v =
    if v.imn.sweep = .none ∧ v.imn.hold = false ∧ v.imn.net.state = some .alarm ∧ before.state ≠ some .alarm then
      startSweep v
    else v := by
  unfold alarmChange
  split
  next starts =>
    obtain ⟨sweep, hold, alarm, change⟩ := starts
    rw [← checkSweepStart_ready (sweepReady_iff.2 ⟨sweep, measurer, hold, alarm⟩)]
    simp [onlyIf, alarm, change]
  next quiet =>
    unfold onlyIf
    split
    next change =>
      simp only [Bool.and_eq_true, bne_iff_ne, beq_iff_eq] at change
      refine checkSweepStart_unready fun ready => quiet ?_
      obtain ⟨sweep, -, hold, alarm⟩ := sweepReady_iff.1 ready
      exact ⟨sweep, hold, alarm, change.1⟩
    · rfl

/-- The half that follows a cycle's end is announced on top of what the result did (R139). -/
theorem JointTaken.of_swept (measurer : s.imn.mode = .measurer) (swept : Swept (jointSent r (cycleBegun s)) w) :
    w.imn.mode = .measurer ∧ w.imn.cycle = some .following := by
  have frame := jointSent_frame r (cycleBegun s)
  obtain ⟨imn, -⟩ := swept
  generalize jointSent r (cycleBegun s) = v at frame imn
  rw [imn, frame]
  exact ⟨measurer, rfl⟩

/-- What the result leaves of the rest (R142). -/
theorem jointSent_keeps (r : InsResult) (s : State) :
    (jointSent r (cycleBegun s)).cfg = s.cfg ∧ (jointSent r (cycleBegun s)).psq = s.psq ∧
      (jointSent r (cycleBegun s)).fli = (enqueue (resultFrame r) s).fli ∧
      (jointSent r (cycleBegun s)).imn.mode = s.imn.mode ∧ (jointSent r (cycleBegun s)).imn.sweep = s.imn.sweep ∧
      (jointSent r (cycleBegun s)).imn.net = judge s.cfg r.rf s.imn.net ∧
      (jointSent r (cycleBegun s)).imn.hold = judgedHold s.imn (judge s.cfg r.rf s.imn.net) ∧
      (jointSent r (cycleBegun s)).imn.jointResult = some r ∧ (jointSent r (cycleBegun s)).shu = s.shu := by
  rw [jointSent_frame, enqueue_eq, enqueue_eq]
  exact ⟨rfl, rfl, rfl, rfl, rfl, rfl, rfl, rfl, rfl⟩

/-- A step that awaited its fresh cycle is decided (R157). -/
theorem jointTaken_measuring (r : InsResult) (measurer : s.imn.mode = .measurer) (leads : s.imn.sweep = .leading l)
    (phase : l.phase = .measuring) :
    Swept (jointSent r (cycleBegun s)) (jointResult r (cycleBegun s)) ∧ JointTaken r s (halfSent (jointResult r (cycleBegun s))) := by
  obtain ⟨cfg, psq, fli, -⟩ := jointSent_keeps r s
  rw [jointResult_measuring (s := cycleBegun s) (stepMeasuring_of leads phase), decideStep_eq, cfg]
  by_cases warn : s.cfg.rWarn ≤ r.rf
  · rw [if_pos warn]
    have swept := endLeading_swept l (.found (l.list.getD l.index 0)) true (jointSent r (cycleBegun s))
    have sent := endLeading_sent l (.found (l.list.getD l.index 0)) true (jointSent r (cycleBegun s))
    have half := half_queued swept (sent.mono (m := 2) (by omega))
    obtain ⟨⟨none, outcome, hold, event⟩, target, result⟩ :=
      endLeading_ended l (.found (l.list.getD l.index 0)) true (jointSent r (cycleBegun s))
    have still := endLeading_psq l (.found (l.list.getD l.index 0)) true (jointSent r (cycleBegun s))
    have length : (jointSent r (cycleBegun s)).fli.queue.length ≤ s.fli.queue.length + 1 := by
      rw [fli]
      exact enqueue_length _ _
    have line : (jointSent r (cycleBegun s)).fli.line = s.fli.line := by rw [fli, enqueue_eq]
    refine ⟨swept, ?_⟩
    obtain ⟨a, b, c, d, e, f, g, h, i, j, k⟩ := swept_sent measurer swept _ rfl
    generalize endLeading _ _ _ _ = w at *
    refine ⟨a, b, c, d, e, f, g, h, i, j, k, ?_⟩
    rw [leads]
    dsimp only
    rw [if_pos phase, if_pos warn]
    have own : QueuedRoom 2 (.sweepResult 1 (BitVec.ofNat 8 (l.list.getD l.index 0)) (BitVec.ofNat 8 l.unresponsive)) s w := by
      intro online room
      obtain ⟨q, mem, is⟩ := result (line.trans online) (by omega)
      refine ⟨q, mem, is.trans ?_⟩
      unfold heldFeeder
      rw [cfg, psq]
      rfl
    exact ⟨half, ⟨none, outcome, hold.trans (by simp), event⟩, target, still.trans psq,
      own.halfSent (show (4 : Nat) ≠ 5 by decide) (Nat.zero_le _)⟩
  · rw [if_neg warn]
    have swept := startStep_swept { l with index := l.index + 1 } (jointSent r (cycleBegun s))
    have half := half_queued swept (startStep_sent { l with index := l.index + 1 } (jointSent r (cycleBegun s))).1
    have started := startStep_started { l with index := l.index + 1 } (jointSent r (cycleBegun s))
    refine ⟨swept, ?_⟩
    obtain ⟨a, b, c, d, e, f, g, h, i, j, k⟩ := swept_sent measurer swept _ rfl
    generalize startStep _ _ = w at *
    refine ⟨a, b, c, d, e, f, g, h, i, j, k, ?_⟩
    rw [leads]
    dsimp only
    rw [if_pos phase, if_neg warn]
    refine ⟨half, StepStarted.halfSent (StepStarted.earlier started ?_ ?_ fli.symm)⟩
    · rw [cfg]; simp
    · rw [psq]; simp

/-- An evaluation in ALARM leaves the hold (R167). -/
theorem judgedHold_alarm {m : Imn} {e : Evaluation} (alarm : e.state = some .alarm) : judgedHold m e = m.hold := by
  unfold judgedHold
  rw [alarm]
  exact Bool.and_true _

/-- A result that decides no step: an entry to ALARM may start a sweep (R154). -/
theorem jointTaken_other (r : InsResult) (measurer : s.imn.mode = .measurer)
    (other : ∀ l, s.imn.sweep = .leading l → l.phase ≠ .measuring) :
    Swept (jointSent r (cycleBegun s)) (jointResult r (cycleBegun s)) ∧ JointTaken r s (halfSent (jointResult r (cycleBegun s))) := by
  obtain ⟨cfg, psq, fli, mode, sweep, net, hold, joint, shu⟩ := jointSent_keeps r s
  have queued := jointSent_queued r s
  rw [jointResult_other (s := cycleBegun s) (stepMeasuring_none other), alarmChange_eq _ (mode.trans measurer)]
  split
  next starts =>
    obtain ⟨none, free, alarm, change⟩ := starts
    have swept := startSweep_swept (jointSent r (cycleBegun s))
    have started := startSweep_started (jointSent r (cycleBegun s))
    refine ⟨swept, ?_⟩
    obtain ⟨a, b, c, d, e, f, g, h, i, j, k⟩ := swept_sent measurer swept _ rfl
    have alarmed : (startSweep (jointSent r (cycleBegun s))).imn.net.state = some .alarm := by
      rw [startSweep_imn]
      exact alarm
    generalize startSweep _ = w at *
    refine ⟨a, b, c, d, e, f, g, h, i, j, k, ?_⟩
    have none : s.imn.sweep = .none := sweep.symm.trans none
    have kept := hold.trans (judgedHold_alarm (net ▸ alarm))
    have free : s.imn.hold = false := kept.symm.trans free
    rw [none]
    refine (if_pos ⟨rfl, free, alarmed, change⟩).mpr (SweepStarted.halfSent (started.congr ?_ ?_ ?_ ?_ ?_ ?_ ?_))
    · rw [joint, enqueue_eq]
    · rw [kept, enqueue_eq]
    · rw [shu, enqueue_eq]
    · rw [shu, enqueue_eq]
    · rw [cfg, enqueue_eq]
    · rw [psq, enqueue_eq]
    · rw [fli, enqueue_eq, enqueue_eq]
      rfl
  next quiet =>
    have swept := Swept.refl (jointSent r (cycleBegun s))
    refine ⟨swept, ?_⟩
    obtain ⟨a, b, c, d, e, f, g, h, i, j, k⟩ := swept_sent measurer swept _ rfl
    have half := half_queued swept (Sent.of_fli rfl)
    have sent : JointSent r s (halfSent (jointSent r (cycleBegun s))) :=
      ⟨queued.halfSent (show (6 : Nat) ≠ 5 by decide) le_rfl, half⟩
    generalize jointSent r (cycleBegun s) = v at *
    have still : ¬ (s.imn.sweep = .none ∧ s.imn.hold = false ∧ (halfSent v).imn.net.state = some .alarm ∧
        s.imn.net.state ≠ some .alarm) := fun ⟨idle, free, alarm, change⟩ =>
      quiet ⟨sweep.trans idle, (hold.trans (judgedHold_alarm (net ▸ alarm))).trans free, alarm, change⟩
    have held : (halfSent v).imn.hold = (s.imn.hold && !((halfSent v).imn.net.state == some .ok && s.imn.net.state != some .ok)) := by
      have netSent : (halfSent v).imn.net = judge s.cfg r.rf s.imn.net := net
      rw [netSent]
      exact hold
    refine ⟨a, b, c, d, e, f, g, h, i, j, k, ?_⟩
    cases role : s.imn.sweep with
    | leading l =>
      dsimp only
      rw [if_neg (other l role)]
      exact ⟨sweep.trans role, psq, sent⟩
    | none =>
      dsimp only
      rw [if_neg (role ▸ still)]
      exact ⟨sweep.trans role, psq, sent, held⟩
    | following l x =>
      dsimp only
      rw [if_neg (role ▸ still)]
      exact ⟨sweep.trans role, psq, sent, held⟩

end Sys2Proof.Machine
end

section
/-! PROOF. VISO samples run the halves of a cycle (O41; R139 to R142, R148, R154, R157). -/

namespace Sys2Proof.Machine

variable {s t : State} {v : Int} {c : Cycle}

/-! ## A cycle's end (R139, R142, R148) -/

theorem jointTaken (r : InsResult) (measurer : s.imn.mode = .measurer) :
    Swept (jointSent r (cycleBegun s)) (jointResult r (cycleBegun s)) ∧
      JointTaken r s (halfSent (jointResult r (cycleBegun s))) := by
  by_cases decides : ∃ l, s.imn.sweep = .leading l ∧ l.phase = .measuring
  · obtain ⟨l, leads, phase⟩ := decides
    exact jointTaken_measuring r measurer leads phase
  · exact jointTaken_other r measurer fun l leads phase => decides ⟨l, leads, phase⟩

/-- A station that does not hold the role announces no half (R139). -/
theorem announceHalf_other (h : CycleHalf) (other : s.imn.mode ≠ .measurer) : announceHalf h s = s := if_neg other

/-- What the outcome left is announced where the next cycle still runs. -/
theorem endCycle_outcome (v : Int) (c : Cycle) (s : State) : endCycle v c s =
    if (cycleOutcome (c.uPlus.getD 0) v c.estimateAtEnd (cycleBegun s)).imn.cycle = some .following then
      announceHalf .positive (cycleOutcome (c.uPlus.getD 0) v c.estimateAtEnd (cycleBegun s))
    else cycleOutcome (c.uPlus.getD 0) v c.estimateAtEnd (cycleBegun s) := rfl

/-- An outcome that leaves the station without the role is the cycle's end. -/
theorem endCycle_quiet (outcome : cycleOutcome (c.uPlus.getD 0) v c.estimateAtEnd (cycleBegun s) = t)
    (other : t.imn.mode ≠ .measurer) : endCycle v c s = t := by
  rw [endCycle_outcome, outcome, announceHalf_other _ other, ite_self]

theorem endCycle_local (v : Int) (c : Cycle) (home : s.imn.mode = .localMode) :
    endCycle v c s =
      if c.uPlus.getD 0 - v < 0 then measureFault (cycleBegun s)
      else localResult (cycleResult s (c.uPlus.getD 0) v c.estimateAtEnd) (cycleBegun s) := by
  apply endCycle_quiet
  · unfold cycleOutcome
    dsimp only
    rw [home]
  · have away : ∀ t, AtHome t → t.imn.mode ≠ .measurer := fun t at_home => by rw [at_home]; decide
    apply away
    split
    · exact home
    · exact AtHome.localResult (s := cycleBegun s) home _

theorem endCycle_measurer (v : Int) (c : Cycle) (measurer : s.imn.mode = .measurer) :
    if c.uPlus.getD 0 - v < 0 then Interfered s (endCycle v c s)
    else JointTaken (cycleResult s (c.uPlus.getD 0) v c.estimateAtEnd) s (endCycle v c s) := by
  have outcome : cycleOutcome (c.uPlus.getD 0) v c.estimateAtEnd (cycleBegun s) =
      if c.uPlus.getD 0 - v < 0 then interference (cycleBegun s)
      else jointResult (cycleResult s (c.uPlus.getD 0) v c.estimateAtEnd) (cycleBegun s) := by
    unfold cycleOutcome
    dsimp only
    rw [measurer]
  split
  next negative =>
    rw [if_pos negative] at outcome
    have dropped := interference_interfered (s := cycleBegun s) measurer
    have passive : (interference (cycleBegun s)).imn.mode ≠ .measurer := by
      rw [dropped.1]
      decide
    rw [endCycle_quiet outcome passive]
    exact dropped
  next =>
    rw [if_neg ‹_›] at outcome
    obtain ⟨swept, taken⟩ := jointTaken (cycleResult s (c.uPlus.getD 0) v c.estimateAtEnd) measurer
    obtain ⟨mode, cycle⟩ := JointTaken.of_swept measurer swept
    rw [endCycle_outcome, outcome, if_pos cycle, announceHalf_measurer mode]
    exact taken

theorem endCycle_ended (v : Int) (c : Cycle) (s : State) :
    CycleEnded (c.uPlus.getD 0) v c.estimateAtEnd s (endCycle v c s) := by
  cases mode : s.imn.mode with
  | localMode =>
    unfold CycleEnded
    rw [mode]
    exact endCycle_local v c mode
  | measurer =>
    unfold CycleEnded
    rw [mode]
    exact endCycle_measurer v c mode
  | passive =>
    unfold CycleEnded
    rw [mode]
    trivial

/-! ## A sample (R139, R140) -/

theorem takeViso_awaiting (runs : s.imn.cycle = some c) (half : c.half = .awaiting) : takeViso v s =
    announceHalf .positive { s with imn.cycle := some { sampled v c with half := .positive }, imn.driver := .plus } := by
  unfold takeViso
  rw [runs]
  dsimp only
  rw [half]
  dsimp only
  rw [addSample_eq]

theorem takeViso_sampled (runs : s.imn.cycle = some c) (half : c.half ≠ .awaiting) : takeViso v s = sampleHalf v c s := by
  unfold takeViso
  rw [runs]
  dsimp only
  split
  next awaiting => exact absurd awaiting half
  · rfl

/-- A half goes on (R140). -/
theorem sampleHalf_runs (runs : (c.addSample v).ended s.cfg = false) :
    sampleHalf v c s = { s with imn.cycle := some (sampled v c) } := by
  unfold sampleHalf
  dsimp only
  rw [if_neg (by simp [runs]), addSample_eq]

/-- The positive half ends, and the negative one begins (R139). -/
theorem sampleHalf_positive (ended : (c.addSample v).ended s.cfg = true) (half : c.half = .positive) :
    sampleHalf v c s = announceHalf .negative
      { s with imn.cycle := some ⟨.negative, 0, 0, none, some v, (c.addSample v).estimateAtEnd⟩, imn.driver := .minus } := by
  have is : (c.addSample v).half = .positive := half
  unfold sampleHalf
  dsimp only
  rw [if_pos ended, is]

/-- The negative half ends, and the cycle with it (R139, R142). -/
theorem sampleHalf_negative (ended : (c.addSample v).ended s.cfg = true) (half : c.half = .negative) :
    sampleHalf v c s = endCycle v (c.addSample v) s := by
  have is : (c.addSample v).half = .negative := half
  unfold sampleHalf
  dsimp only
  rw [if_pos ended, is]

/-- Settles O41: a sample begins a half, counts in it, ends the positive one or ends the cycle. -/
theorem samplesRunTheHalves : Obligations.SamplesRunTheHalves := by
  intro s v upp
  refine ⟨rfl, ?_⟩
  cases runs : s.imn.cycle with
  | none =>
    unfold takeViso
    rw [runs]
  | some c =>
    dsimp only
    by_cases awaiting : c.half = .awaiting
    · rw [if_pos awaiting]
      exact halfStarted_of .positive _ _ s _ (takeViso_awaiting runs awaiting)
    · rw [if_neg awaiting, takeViso_sampled runs awaiting]
      split
      next going => exact sampleHalf_runs ((sampled_runs ..).2 going)
      next ends =>
        have ended : (c.addSample v).ended s.cfg = true := by
          rw [← Bool.not_eq_false]
          exact mt (sampled_runs ..).1 ends
        rw [← sampled_estimate]
        split
        next positive => exact halfStarted_of .negative _ _ s _ (sampleHalf_positive ended positive)
        next other =>
          have negative : c.half = .negative := by
            cases half : c.half with
            | awaiting => exact absurd half awaiting
            | positive => exact absurd half other
            | negative => rfl
          rw [sampleHalf_negative ended negative]
          exact endCycle_ended v (c.addSample v) s

end Sys2Proof.Machine
end

section
/-! PROOF. With the duplicate flag set, what a delivered frame does leaves the line where the flag has put it (R36, R37, R39). -/

namespace Sys2Proof.Machine

variable {f : Fli} {s t : State}

/-- What the line's state is decided by, besides the configuration and the identification (R36). -/
def lineView (s : State) := (s.fli, s.psq.prox, s.psq.seq)

/-- The duplicate flag of `f` holds the line out of ONLINE, and `s` has at most lost frames of its queue since. -/
structure Muted (f : Fli) (s : State) : Prop where
  flag : f.duplicate = true
  held : f.line = if f.silentTimer = true then .silent else .listen
  fli : s.fli = { f with queue := s.fli.queue }
  queue : s.fli.queue ⊆ f.queue
  plugged : lineOff s = false

theorem Muted.target (h : Muted f s) : lineTarget s = s.fli.line := by
  obtain ⟨flag, held, fli, -, plugged⟩ := h
  unfold lineTarget lineListens
  rw [plugged, fli]
  dsimp only
  rw [flag, held, Bool.or_true, if_neg Bool.false_ne_true, if_pos rfl]

theorem Muted.offLine (h : Muted f s) : s.fli.line ≠ .online := by
  rw [h.fli]
  dsimp only
  rw [h.held]
  split <;> decide

theorem Muted.plain (h : Muted f s) (e : lineView t = lineView s) : Muted f t := by
  unfold lineView at e
  simp only [Prod.mk.injEq] at e
  obtain ⟨fli, prox, seq⟩ := e
  obtain ⟨flag, held, only, queue, plugged⟩ := h
  refine ⟨flag, held, fli ▸ only, fli ▸ queue, ?_⟩
  unfold lineOff at plugged ⊢
  rw [prox, seq]
  exact plugged

theorem Muted.onlyIf (c : Bool) {g : State → State} (h : Muted f s) (k : Muted f (g s)) : Muted f (onlyIf c g s) :=
  onlyIf_ind (P := Muted f) c h k

/-- An evaluation of the chain leaves the line. -/
theorem Muted.onlyChain (h : Muted f s) (chain : OnlyChain s t) : Muted f t := by
  refine h.plain ?_
  rw [chain]
  rfl

theorem Muted.updateFallback (h : Muted f s) : Muted f (updateFallback s) := h.plain (by simp [lineView])

theorem Muted.refreshLine (h : Muted f s) : Muted f (refreshLine s) := by
  unfold Machine.refreshLine
  rw [if_pos h.target]
  exact h.updateFallback

theorem Muted.enqueue (h : Muted f s) (b : FrameBody) : Muted f (enqueue b s) := by
  unfold Machine.enqueue
  rw [if_neg fun taken => h.offLine taken.1]
  exact h

/-- Frames may leave the queue. -/
theorem Muted.removes (h : Muted f s) (p : Queued → Bool) : Muted f { s with fli.queue := s.fli.queue.filter p } := by
  obtain ⟨flag, held, fli, queue, plugged⟩ := h
  exact ⟨flag, held, congrArg (fun x : Fli => { x with queue := s.fli.queue.filter p }) fli,
    fun q mem => queue (List.mem_of_mem_filter mem), plugged⟩

/-! ## The sequencer (R1, R14, R21, R22, R24) -/

theorem setSeq_prox (q : SeqState) (s : State) : (setSeq q s).psq.prox = s.psq.prox := by
  rw [setSeq_psq]
  split
  · rfl
  · rw [leaveState_eq]

/-- A state in which the plug is settled (R36). -/
theorem Muted.setSeq (h : Muted f s) (q : SeqState) (settled : ¬ q.lineOff) : Muted f (setSeq q s) := by
  obtain ⟨flag, held, fli, queue, plugged⟩ := h
  have same : (Machine.setSeq q s).fli = s.fli := by simp
  refine ⟨flag, held, same ▸ fli, same ▸ queue, ?_⟩
  unfold lineOff at plugged ⊢
  simp only [Bool.or_eq_false_iff, beq_eq_false_iff_ne] at plugged ⊢
  rw [setSeq_prox, setSeq_seq]
  exact ⟨⟨plugged.1.1, fun e => settled (.inl e)⟩, fun e => settled (.inr e)⟩

theorem Muted.enterSeq (h : Muted f s) (q : SeqState) (settled : ¬ q.lineOff) (held : q ≠ .plugged) :
    Muted f (enterSeq q s) := by
  refine (Muted.setSeq ?_ q settled).refreshLine
  unfold identOnEntry
  split
  · exact absurd rfl held
  · exact absurd (.inl rfl) settled
  · exact h.plain rfl
  · exact h

theorem Muted.setPhase (h : Muted f s) (p : IsoPhase) : Muted f (setPhase p s) := by
  obtain ⟨flag, held, fli, queue, plugged⟩ := h
  refine ⟨flag, held, fli, queue, ?_⟩
  unfold lineOff at plugged ⊢
  simp only [Bool.or_eq_false_iff, beq_eq_false_iff_ne] at plugged ⊢
  exact ⟨⟨plugged.1.1, nofun⟩, nofun⟩

theorem Muted.takeRelease (h : Muted f s) : Muted f (takeRelease s) := by
  unfold Machine.takeRelease
  split
  · refine Muted.setPhase ?_ _
    exact h.plain rfl
  · exact h

theorem Muted.enterIsolation (h : Muted f s) (ret : ReturnState) : Muted f (enterIsolation ret s) := by
  refine Muted.setSeq ?_ _ (by simp)
  exact h.plain rfl

theorem Muted.stopInjection (h : Muted f s) : Muted f (stopInjection s) := h.plain rfl

end Sys2Proof.Machine
end

section
/-! PROOF. A delivered frame keeps a line that the duplicate flag holds (R34, R36, R37; R144 to R164). -/

namespace Sys2Proof.Machine

variable {f : Fli} {s t : State}

/-! ## Sweeps (R147, R154 to R164) -/

theorem Muted.endLeading (h : Muted f s) (r : LeaderRecord) (o : SweepOutcome) (hold : Bool) :
    Muted f (endLeading r o hold s) := by
  rw [endLeading_eq]
  exact (h.enqueue (endingFrame r o)).plain (by rw [enqueue_eq]; rfl)

theorem Muted.ownNotFound (h : Muted f s) (r : LeaderRecord) : Muted f (ownNotFound r s) := (h.endLeading r _ _).takeRelease

theorem Muted.stepAnnounced (h : Muted f s) (station : Nat) (r : LeaderRecord) : Muted f (stepAnnounced station r s) := by
  rw [stepAnnounced_frame]
  exact (h.enqueue (.sweepStep (BitVec.ofNat 8 station) (BitVec.ofNat 8 r.index))).plain (by rw [enqueue_eq]; rfl)

theorem Muted.reportTarget (h : Muted f s) : Muted f (reportTarget s) := h.plain (by simp [lineView])

theorem Muted.startStep (h : Muted f s) (r : LeaderRecord) : Muted f (startStep r s) := by
  by_cases own : r.index + 1 = r.list.length
  · rw [startStep_own own]
    have k := h.stepAnnounced s.cfg.station (ownStep r)
    split
    · have j : Muted f { Machine.stepAnnounced s.cfg.station (ownStep r) s with imn.target := some ⟨r.index, none⟩ } :=
        k.plain rfl
      exact (j.enterIsolation _).reportTarget
    · exact k.ownNotFound _
  · rw [startStep_peer own]
    exact h.stepAnnounced _ _

theorem Muted.checkSweepStart (h : Muted f s) : Muted f (checkSweepStart s) := by
  refine h.onlyIf _ ?_
  have k : Muted f (sweepAlerted s) := (h.enqueue (.alert (BitVec.ofNat 16 (jointRf s)))).plain rfl
  rw [startSweep_eq]
  exact k.startStep _

theorem Muted.abandonSweep (h : Muted f s) : Muted f (abandonSweep s) := by
  unfold Machine.abandonSweep
  split
  · exact h.endLeading _ _ _
  · exact h

theorem Muted.yieldRole (h : Muted f s) : Muted f (yieldRole s) := by
  rw [yieldRole_eq]
  split
  · have k : Muted f (droppedRole s) := (h.removes _).plain rfl
    exact k.abandonSweep
  · exact h

theorem Muted.releaseTarget (h : Muted f s) : Muted f (releaseTarget s) := by
  unfold Machine.releaseTarget
  have k : Muted f (endTargetReport { s with imn.target := none }) := h.plain rfl
  split
  · exact h
  · split
    · exact k.takeRelease
    · exact k.plain rfl
    · exact k.plain rfl
    · exact k

theorem Muted.clearTarget (h : Muted f s) : Muted f (clearTarget s) := h.plain (by simp [lineView])

theorem Muted.leftSweep (h : Muted f s) : Muted f (leftSweep s) := by
  unfold Machine.leftSweep
  split
  · split
    · exact (h.endLeading _ _ _).checkSweepStart
    · exact h.clearTarget
  · exact h.clearTarget

theorem Muted.leaveTarget (h : Muted f s) (q : SeqState) : Muted f (leaveTarget q s) := by
  unfold Machine.leaveTarget
  split
  · exact h.clearTarget
  · exact h.clearTarget
  · exact h.leftSweep
  · exact h

/-! ## Relays and stops (R14, R21, R24) -/

theorem Muted.contactorOpened (h : Muted f s) : Muted f (contactorOpened s) := by
  have entered : ∀ t, Muted f t → Muted f (enterLocal t) := fun t k =>
    k.plain (by simp [lineView])
  unfold Machine.contactorOpened
  dsimp only
  split
  · exact h.plain rfl
  · exact entered _ (h.plain rfl)
  · have k : Muted f (removeMeasureFrames { s with imn.contactorClosed := false }) := (h.removes _).plain rfl
    unfold loseRole
    split
    · split
      · exact entered _ k
      · exact (entered _ k).abandonSweep
    · exact entered _ k

theorem Muted.openRelays (h : Muted f s) : Muted f (openRelays s) := by
  have k : Muted f (openPrecharge s) := h.plain (by simp [lineView, openPrecharge_psq])
  unfold Machine.openRelays openContactor
  split
  · exact Muted.contactorOpened (k.plain rfl)
  · exact k

theorem Muted.finishStop (h : Muted f s) : Muted f (finishStop s) := by
  have k : Muted f (forgetStop (stopTimers (endSession (s.psq.stopCause.getD .hostStop)
      { s with imn.pendingRelease := false }))) := h.plain (by simp [lineView])
  have k := k.enterSeq .identified (by simp) (by simp)
  exact k.onlyIf _ (k.enqueue _)

theorem Muted.isolatedStop (h : Muted f s) : Muted f (isolatedStop s) := by
  unfold Machine.isolatedStop
  split
  · exact h.finishStop
  · have j : Muted f (stopTimers s) := h.plain rfl
    have k := j.openRelays
    unfold rejoinStopped
    split
    · exact k.finishStop
    · exact k
  · exact h

theorem Muted.recordIsolatedStop (h : Muted f s) (cause : EndCause) : Muted f (recordIsolatedStop cause s) := by
  have k : Muted f { s with
      psq.stopCause := some cause, psq.forced := s.psq.forced && !s.psq.stopCause.isNone } := h.plain rfl
  exact (k.onlyIf _ k.leftSweep).isolatedStop

theorem Muted.startStop (h : Muted f s) (cause : EndCause) : Muted f (startStop cause s) := by
  refine Muted.enterSeq ?_ .stopping (by simp) (by simp)
  exact (h.leaveTarget s.psq.seq).plain rfl

theorem Muted.ownFaultTold (h : Muted f s) : Muted f (ownFaultTold s) := by
  unfold Machine.ownFaultTold
  have j : Muted f (stopTimers s) := h.plain rfl
  split
  · refine Muted.enterSeq ?_ .identified (by simp) (by simp)
    exact j.openRelays.plain rfl
  · exact h.startStop _
  · exact h.startStop _
  · exact h.recordIsolatedStop _
  · exact h

theorem Muted.setOwnFault (h : Muted f s) : Muted f (setOwnFault s) := by
  unfold Machine.setOwnFault
  split
  · exact h
  · dsimp only
    have k : Muted f (raiseEvent .insulation { s with imn.ownFault := true }) := h.plain rfl
    have k := k.ownFaultTold
    generalize Machine.ownFaultTold _ = t at k ⊢
    have k : Muted f { t with imn.selfCheck := .pending } := k.plain rfl
    split
    · exact k.plain (by simp [lineView])
    · exact k

/-! ## Delivery (R34, R46, R49, R144, R148, R155 to R163) -/

theorem Muted.serveStep (h : Muted f s) (target index : Nat) : Muted f (serveStep target index s) := by
  have k : Muted f { s with imn.target := some ⟨index, none⟩ } := h.plain rfl
  unfold Machine.serveStep becomeTarget answerSweep
  split
  · split
    · exact h
    · split
      · exact (k.enterIsolation _).reportTarget.plain rfl
      · split
        · exact h.enqueue _
        · have j : Muted f (raiseEvent .sweep { s with imn.target := some ⟨index, none⟩ }) := k.plain rfl
          exact j.enqueue _
  · exact h.releaseTarget

theorem Muted.takeSweepStep (h : Muted f s) (sender target index : Nat) : Muted f (takeSweepStep sender target index s) := by
  unfold Machine.takeSweepStep
  split
  · have k : Muted f (follow sender s) := h.plain rfl
    exact k.serveStep _ _
  · split
    next leader _ _ _ =>
      have k : Muted f { s with imn.sweep := .following leader true } := h.plain rfl
      exact k.serveStep _ _
    · exact h
  · exact h

theorem Muted.takeSweepAnswer (h : Muted f s) (sender code : Nat) : Muted f (takeSweepAnswer sender code s) := by
  unfold Machine.takeSweepAnswer
  split
  · split
    · dsimp only
      split
      · exact h.startStep _
      · exact h.plain rfl
    · exact h
  · exact h

theorem Muted.endSweep (h : Muted f s) (o : SweepOutcome) (hold : Bool) : Muted f (endSweep o hold s) :=
  h.plain (by simp [lineView])

theorem Muted.foundHere (h : Muted f s) (o : SweepOutcome) : Muted f (foundHere o s) := by
  unfold Machine.foundHere
  dsimp only
  have k := h.setOwnFault
  refine Muted.endSweep (Muted.clearTarget (k.onlyIf _ ?_)) _ _
  exact k.plain rfl

theorem Muted.takeResult (h : Muted f s) (o : SweepOutcome) : Muted f (takeResult o s) := by
  unfold Machine.takeResult
  refine Muted.checkSweepStart ?_
  split
  · split
    · exact h.foundHere _
    · exact h.releaseTarget.endSweep _ _
  · exact h.releaseTarget.endSweep _ _
  · exact h.releaseTarget.endSweep _ _

theorem Muted.takeSweepResult (h : Muted f s) (sender code found : Nat) : Muted f (takeSweepResult sender code found s) := by
  unfold Machine.takeSweepResult
  split
  · split
    · exact h.takeResult _
    · exact h
  · exact h

theorem Muted.takeMeasureStart (h : Muted f s) : Muted f (takeMeasureStart s) := by
  have k : Muted f (hearMeasurer s) := h.plain rfl
  unfold Machine.takeMeasureStart
  dsimp only
  split
  · exact k.yieldRole.plain rfl
  · exact k

theorem Muted.electionAtBeacon (h : Muted f s) (station : Nat) (measurer : Bool) :
    Muted f (electionAtBeacon station measurer s) := by
  have t : Muted f (Machine.onlyIf measurer hearMeasurer s) := h.onlyIf _ (h.plain rfl)
  exact t.onlyIf _ t.yieldRole

theorem Muted.deliver (h : Muted f s) (x : Frame) : Muted f (deliver x s) := by
  unfold Machine.deliver
  dsimp only
  split
  · exact Muted.electionAtBeacon (h.plain (by simp [lineView])) _ _
  · exact h.plain (by simp [lineView])
  · exact h.plain (by simp [lineView])
  · exact h.takeSweepStep _ _ _
  · exact h.takeSweepAnswer _ _
  · exact h.takeSweepResult _ _ _
  · exact h.takeMeasureStart
  · exact h.plain (by simp [lineView])

end Sys2Proof.Machine
end

section
/-! PROOF. Frames received good, and bits that are dropped (O36; R33 to R37). -/

namespace Sys2Proof.Machine

variable {f : Frame} {s : State} {bits : List Bool}

/-! ## The rows -/

theorem exec_receivedRow (f : Frame) (running : s.power = .running) : exec (receivedRow f) s = .next (receive f s) := by
  obtain ⟨station, feeder, body⟩ := f
  have row : exec (receivedRow ⟨station, feeder, body⟩) s = whenRunning (receive ⟨station, feeder, body⟩) s := by
    cases body <;> rfl
  rw [row]
  exact whenRunning_running running

theorem exec_frameDropped (bits : List Bool) (running : s.power = .running) :
    exec (.frameDropped bits) s = .next (frameBits bits s) := whenRunning_running running

theorem receive_online (f : Frame) (on : s.fli.line ≠ .offline) :
    receive f s = takeGood f.station (if f.inRange = true then some f else none) s := if_neg on

theorem receive_offline (f : Frame) (off : s.fli.line = .offline) : receive f s = s := if_pos off

/-! ## A frame of another station number (R33, R34) -/

theorem detectDuplicate_other (other : ¬ DuplicateSeen f s) : detectDuplicate f.station (driveAck s) = Acked s := by
  refine if_neg fun seen => other ?_
  obtain ⟨configured, number, first⟩ := seen
  exact ⟨configured, number, by simpa using first⟩

/-- Without a feeder id held, or with a field out of range, a frame is delivered to no block (R33, R34). -/
theorem receive_undelivered (on : s.fli.line ≠ .offline) (other : ¬ DuplicateSeen f s)
    (dropped : f.inRange = false ∨ heldFeeder s = 0) : receive f s = Acked s := by
  rw [receive_online f on]
  unfold takeGood
  dsimp only
  rw [detectDuplicate_other other]
  split
  next g some =>
    obtain out | none := dropped
    · rw [out] at some
      cases some
    · exact if_pos none
  · rfl

/-- A frame of another feeder (R34). -/
theorem receive_foreign (on : s.fli.line ≠ .offline) (other : ¬ DuplicateSeen f s) (good : f.inRange = true)
    (held : heldFeeder s ≠ 0) (foreign : f.feeder.toNat ≠ heldFeeder s) : receive f s =
      if s.fli.foreignReported = true then Acked s
      else raiseEvent .foreignFeeder { s with fli := { (Acked s).fli with foreignReported := true } } := by
  rw [receive_online f on]
  unfold takeGood
  dsimp only
  rw [detectDuplicate_other other, if_pos good]
  dsimp only
  unfold route
  rw [if_neg (show heldFeeder (Acked s) ≠ 0 from held), if_neg (show f.feeder.toNat ≠ heldFeeder (Acked s) from foreign)]

/-! ## A frame of the own number (R35, R37) -/

/-- The duplicate flag and the SILENT timer outlast a decision of a line with a settled plug (R36). -/
theorem refreshLine_flags (plugged : lineOff s = false) :
    (refreshLine s).fli.duplicate = s.fli.duplicate ∧ (refreshLine s).fli.silentTimer = s.fli.silentTimer ∧
      (refreshLine s).fli.line = lineTarget s := by
  have fli : (refreshLine s).fli = (lineMoved s).fli := congrArg (·.fli) (updateFallback_onlyChain _)
  rw [fli]
  unfold lineMoved
  split
  next same => exact ⟨rfl, rfl, same.symm⟩
  next =>
    have online : lineTarget s ≠ .offline := by
      unfold lineTarget
      rw [plugged, if_neg Bool.false_ne_true]
      split
      · decide
      · split <;> decide
    obtain ⟨duplicate, silent⟩ := enterLine_flags (lineTarget s) s.cfg.station s.fli
    refine ⟨?_, ?_, changeLine_line _ s⟩
    · rw [changeLine_fli]
      exact duplicate
    · rw [changeLine_fli]
      exact silent online

/-- The state as the duplicate flag is set. -/
abbrev duplicated (s : State) : State := raiseEvent .duplicate { driveAck s with fli.duplicate := true }

theorem detectDuplicate_seen (seen : DuplicateSeen f s) : detectDuplicate f.station (driveAck s) =
    onlyIf (s.fli.line == .online) emptyForDuplicate (refreshLine (duplicated s)) := by
  obtain ⟨configured, number, first⟩ := seen
  exact if_pos ⟨configured, number, by simpa using first⟩

/-- What the duplicate flag makes of the line (R35 to R37). -/
abbrev DuplicateHeld (s t : State) : Prop :=
  t.fli.duplicate = true ∧ .duplicate ∈ t.cpt.events ∧
  t.fli.line = (if s.fli.silentTimer = true then .silent else .listen) ∧
  (s.fli.line = .online → t.fli.queue = [] ∧ t.fli.attempt = none)

theorem detectDuplicate_held (on : s.fli.line ≠ .offline) (settled : LineSettled s) (seen : DuplicateSeen f s) :
    Muted (detectDuplicate f.station (driveAck s)).fli (detectDuplicate f.station (driveAck s)) ∧
      DuplicateHeld s (detectDuplicate f.station (driveAck s)) := by
  have off := lineOff_of_settled settled on
  rw [detectDuplicate_seen seen]
  obtain ⟨duplicate, silent, line⟩ := refreshLine_flags (s := duplicated s) off
  have psq : (refreshLine (duplicated s)).psq = s.psq := (refreshLine_keeps _).2.2.1
  have event : .duplicate ∈ (refreshLine (duplicated s)).cpt.events := refreshLine_events _ (raised_mem ..)
  have target : lineTarget (duplicated s) = if s.fli.silentTimer = true then .silent else .listen := by
    have off : lineOff (duplicated s) = false := off
    unfold lineTarget lineListens
    rw [off, if_neg Bool.false_ne_true]
    simp [duplicated, driveAck]
  generalize refreshLine (duplicated s) = t at *
  have silent : t.fli.silentTimer = s.fli.silentTimer := silent
  have held : t.fli.line = if t.fli.silentTimer = true then .silent else .listen := by
    rw [line, target, silent]
  have plugged : lineOff t = false := by
    unfold lineOff at off ⊢
    rw [psq]
    exact off
  cases online : s.fli.line == .online with
  | true => exact ⟨⟨duplicate, held, rfl, List.Subset.refl _, plugged⟩, duplicate, event, line.trans target, fun _ => ⟨rfl, rfl⟩⟩
  | false =>
    exact ⟨⟨duplicate, held, rfl, List.Subset.refl _, plugged⟩, duplicate, event, line.trans target,
      fun is => absurd is (by simpa using online)⟩

/-- What is made of the frame itself leaves the line as the flag has put it (R34, R37). -/
theorem DuplicateHeld.muted {t u : State} (h : DuplicateHeld s t) (fli : u.fli = { t.fli with
      queue := u.fli.queue, foreignReported := u.fli.foreignReported })
    (queue : u.fli.queue ⊆ t.fli.queue) (events : ∀ e ∈ t.cpt.events, e ∈ u.cpt.events) : DuplicateHeld s u := by
  obtain ⟨duplicate, event, line, emptied⟩ := h
  refine ⟨?_, events _ event, ?_, fun online => ?_⟩
  · rw [fli]
    exact duplicate
  · rw [fli]
    exact line
  · obtain ⟨empty, attempt⟩ := emptied online
    refine ⟨List.subset_nil.1 (empty ▸ queue), ?_⟩
    rw [fli]
    exact attempt

theorem DuplicateHeld.route {t : State} (h : DuplicateHeld s t) (muted : Muted t.fli t) (f : Frame) :
    DuplicateHeld s (route f t) := by
  have events := fun e mem => route_events (e := e) f t mem
  refine h.muted ?_ ?_ events
  · unfold Machine.route
    split
    · rfl
    · split
      · have fli := (muted.deliver f).fli
        rw [fli]
      · split <;> rfl
  · unfold Machine.route
    split
    · exact List.Subset.refl _
    · split
      · exact (muted.deliver f).queue
      · split <;> exact List.Subset.refl _

theorem receive_duplicate (on : s.fli.line ≠ .offline) (settled : LineSettled s) (seen : DuplicateSeen f s) :
    DuplicateHeld s (receive f s) := by
  obtain ⟨muted, held⟩ := detectDuplicate_held on settled seen
  rw [receive_online f on]
  unfold takeGood
  dsimp only
  split
  · exact held.route muted _
  · exact held

/-! ## Bits (R33) -/

theorem receiveBits_checked {r : RawFrame} (good : receiveBits bits = some r) : receiveChecked bits = some (r, true) := by
  unfold receiveBits at good
  obtain ⟨⟨raw, recessive⟩, checked, passed⟩ := Option.bind_eq_some_iff.1 good
  cases recessive with
  | false => cases passed
  | true =>
    cases passed
    exact checked

/-- A well-formed frame bears the station number read, and its fields are in range (R33). -/
theorem RawFrame.frame?_some {r : RawFrame} (some : r.frame? = some f) : f.station = r.station ∧ f.inRange = true := by
  unfold RawFrame.frame? at some
  split at some
  · cases some
  · obtain ⟨b, -, taken⟩ := Option.bind_eq_some_iff.1 some
    dsimp only at taken
    split at taken
    next formed =>
      cases taken
      exact ⟨rfl, formed.2⟩
    · cases taken

theorem frameBits_failed (on : s.fli.line ≠ .offline) (failed : receiveChecked bits = none) :
    frameBits bits s = { s with fli.ackDriven := false } := by
  unfold frameBits
  rw [if_neg on, failed]

theorem frameBits_ended (on : s.fli.line ≠ .offline) {r : RawFrame} (ended : receiveChecked bits = some (r, false)) :
    frameBits bits s = Acked s := by
  unfold frameBits
  rw [if_neg on, ended]
  rfl

theorem frameBits_good (on : s.fli.line ≠ .offline) {r : RawFrame} (good : receiveBits bits = some r) :
    frameBits bits s = takeGood r.station r.frame? s := by
  unfold frameBits
  rw [if_neg on, receiveBits_checked good]

theorem frameBits_offline (bits : List Bool) (off : s.fli.line = .offline) : frameBits bits s = s := if_pos off

/-- Bits that pass every check act as their frame's own row (R33, log 44). -/
theorem frameBits_formed {r : RawFrame} (good : receiveBits bits = some r) (formed : r.frame? = some f) :
    frameBits bits s = receive f s := by
  by_cases off : s.fli.line = .offline
  · rw [frameBits_offline _ off, receive_offline _ off]
  · obtain ⟨station, range⟩ := RawFrame.frame?_some formed
    rw [frameBits_good off good, receive_online f off, formed, station, if_pos range]

/-- A good frame that is not well-formed is acknowledged and dropped (R33). -/
theorem frameBits_unformed {r : RawFrame} (on : s.fli.line ≠ .offline) (good : receiveBits bits = some r)
    (unformed : r.frame? = none) (other : ¬ DuplicateSeen ⟨r.station, 0, .leave⟩ s) : frameBits bits s = Acked s := by
  rw [frameBits_good on good, unformed]
  exact detectDuplicate_other other

/-- Settles O36: a frame goes by its feeder id and its station number, and bits by their checks. -/
theorem receivedFramesAreRouted : Obligations.ReceivedFramesAreRouted := by
  intro s f bits running settled
  rw [exec_receivedRow f running, exec_frameDropped bits running]
  refine ⟨fun off => ?_, fun on other => ⟨fun dropped => ?_, fun good held foreign => ?_⟩, fun on seen => ?_, fun off => ?_,
    fun on failed => ?_, fun on r ended => ?_, fun r good => ⟨fun f formed => ?_, fun unformed on other => ?_⟩⟩
  · rw [receive_offline f off]
  · rw [receive_undelivered on other dropped]
  · rw [receive_foreign on other good held foreign]
  · exact ⟨_, rfl, receive_duplicate on settled seen⟩
  · rw [frameBits_offline bits off]
  · rw [frameBits_failed on failed]
  · rw [frameBits_ended on ended]
  · rw [exec_receivedRow f running, frameBits_formed good formed]
  · rw [frameBits_unformed on good unformed other]

end Sys2Proof.Machine
end

section
/-! PROOF. The checks of a CONFIGURE payload (12.4, R198). -/

namespace Sys2Proof.Machine

variable {p : ConfigPayload} {n : Nat}

/-! ## Checks in index order (R198, log 33) -/

/-- The checks of an index pass. -/
def Passes (checks : List (Nat × Bool)) (n : Nat) : Prop := ∀ c ∈ checks, n = c.1 → c.2 = true

theorem passes_append {xs ys : List (Nat × Bool)} : Passes (xs ++ ys) n ↔ Passes xs n ∧ Passes ys n :=
  List.forall_mem_append

theorem passes_flatMap {α : Type} {f : α → List (Nat × Bool)} {xs : List α} :
    Passes (xs.flatMap f) n ↔ ∀ x ∈ xs, Passes (f x) n := by
  simp only [Passes, List.mem_flatMap]
  exact ⟨fun h x mem c of => h c ⟨x, mem, of⟩, fun h c ⟨x, mem, of⟩ => h x mem c of⟩

/-- The first failing check is of the lowest index that fails. -/
theorem first_failing {checks : List (Nat × Bool)} {c : Nat × Bool} (sorted : checks.Pairwise (·.1 < ·.1))
    (found : checks.find? (fun c => !c.2) = some c) : ¬ Passes checks c.1 ∧ ∀ j < c.1, Passes checks j := by
  obtain ⟨fails, before, after, rfl, pass⟩ := List.find?_eq_some_iff_append.1 found
  have fails : c.2 = false := by simpa using fails
  refine ⟨fun passes => ?_, fun j lower d mem index => ?_⟩
  · have := passes c (by simp) rfl
    simp [fails] at this
  · obtain earlier | later := List.mem_append.1 mem
    · simpa using pass d earlier
    · obtain rfl | later := List.mem_cons.1 later
      · omega
      · have := List.rel_of_pairwise_cons (List.pairwise_append.1 sorted).2.1 later
        omega

theorem none_failing {checks : List (Nat × Bool)} (none : checks.find? (fun c => !c.2) = none) (n : Nat) : Passes checks n :=
  fun c mem _ => by simpa using List.find?_eq_none.1 none c mem

/-! ## Fields (12.4) -/

theorem within_iff (lo x hi : Int) : within lo x hi = true ↔ lo ≤ x ∧ x ≤ hi := by
  simp [within]

theorem payloadSlot_of {i : Nat} {x : SlotPayload} (slot : p.slots[i]? = some x) : payloadSlot p i = x := by
  simp [payloadSlot, List.getD, slot]

theorem within_nat (lo x hi : Nat) : within lo x hi = true ↔ lo ≤ x ∧ x ≤ hi := by
  simp [within]

/-- A slot's refused fields (12.4). -/
theorem slotOk_iff (length : p.slots.length = 16) :
    (∀ (i : Fin 16) (x : SlotPayload), p.slots[i.val]? = some x →
      (n = 33 + 5 * i.val → -2048 ≤ x.offset.toInt ∧ x.offset.toInt ≤ 2047) ∧
      (n = 34 + 5 * i.val → 32768 ≤ x.gain.toNat ∧ x.gain.toNat ≤ 98304) ∧
      (n = 37 + 5 * i.val → x.action.toNat ≤ 2)) ↔
    ∀ i ∈ List.range 16, Passes (slotChecks p i) n := by
  have slot (i : Nat) : Passes (slotChecks p i) n ↔
      (n = 33 + 5 * i → -2048 ≤ (payloadSlot p i).offset.toInt ∧ (payloadSlot p i).offset.toInt ≤ 2047) ∧
      (n = 34 + 5 * i → 32768 ≤ (payloadSlot p i).gain.toNat ∧ (payloadSlot p i).gain.toNat ≤ 98304) ∧
      (n = 37 + 5 * i → (payloadSlot p i).action.toNat ≤ 2) := by
    simp only [Passes, slotChecks, List.forall_mem_cons, List.not_mem_nil, false_imp_iff, implies_true, and_true, within_iff]
    norm_cast
    simp only [zero_le, true_and]
  simp only [slot, List.mem_range]
  constructor
  · intro h i below
    have some : p.slots[i]? = some p.slots[i] := List.getElem?_eq_getElem (by omega)
    rw [payloadSlot_of some]
    exact h ⟨i, below⟩ _ some
  · intro h i x some
    rw [← payloadSlot_of some]
    exact h i i.isLt

theorem fieldOk_iff (length : p.slots.length = 16) : FieldOk p n ↔ Passes (fieldChecks p) n := by
  unfold fieldChecks FieldOk
  rw [passes_append, passes_flatMap, ← slotOk_iff length]
  simp only [Passes, List.forall_mem_cons, List.not_mem_nil, false_imp_iff, implies_true, and_true, within_iff]
  norm_cast
  simp only [zero_le, true_and, and_assoc]

/-! ## Cross checks (R198, log 33) -/

theorem limits_iff (i : Nat) (x : SlotPayload) : limitOf i x.low ≤ limitOf i x.high ↔
    if i ≤ 5 ∨ (10 ≤ i ∧ i ≤ 13) then x.low.toInt ≤ x.high.toInt else x.low.toNat ≤ x.high.toNat := by
  have signed : signedSlot i = true ↔ i ≤ 5 ∨ (10 ≤ i ∧ i ≤ 13) := by simp [signedSlot]
  unfold limitOf
  split
  next yes => rw [if_pos (signed.1 yes)]
  next no =>
    rw [if_neg (mt signed.2 no)]
    exact Int.ofNat_le

theorem crossOk_iff (length : p.slots.length = 16) : CrossOk p n ↔ Passes (crossChecks p) n := by
  have slots : Passes ((List.range 16).map fun i =>
      (35 + 5 * i, decide (limitOf i (payloadSlot p i).low ≤ limitOf i (payloadSlot p i).high))) n ↔
      ∀ i < 16, n = 35 + 5 * i → limitOf i (payloadSlot p i).low ≤ limitOf i (payloadSlot p i).high := by
    simp [Passes]
  unfold crossChecks CrossOk
  rw [Passes, List.forall_mem_cons, ← Passes, slots, decide_eq_true_iff]
  refine and_congr_right fun _ => ⟨fun h i below index => ?_, fun h i x some index => ?_⟩
  · have some : p.slots[i]? = some p.slots[i] := List.getElem?_eq_getElem (by omega)
    rw [payloadSlot_of some, limits_iff]
    exact h ⟨i, below⟩ _ some index
  · rw [← limits_iff, ← payloadSlot_of some]
    exact h i i.isLt index

/-! ## The index BAD_CONFIG carries -/

/-- The indices of the refused fields (12.4). -/
def refusedIndices : List Nat :=
  [1, 2, 3, 5, 6, 7, 8, 9, 10, 15, 16, 17, 18, 19, 22, 23, 24, 25, 26, 27, 28, 31, 32]
    ++ (List.range 16).flatMap fun i => [33 + 5 * i, 34 + 5 * i, 37 + 5 * i]

/-- The indices of the cross checks (R198). -/
def crossIndices : List Nat := 32 :: (List.range 16).map fun i => 35 + 5 * i

theorem fieldChecks_indices (p : ConfigPayload) : (fieldChecks p).map (·.1) = refusedIndices := by
  unfold fieldChecks refusedIndices
  rw [List.map_append, List.map_flatMap]
  rfl

theorem crossChecks_indices (p : ConfigPayload) : (crossChecks p).map (·.1) = crossIndices := by
  unfold crossChecks crossIndices
  rw [List.map_cons, List.map_map]
  rfl

theorem refusedIndices_sorted : refusedIndices.Pairwise (· < ·) ∧ ∀ i ∈ refusedIndices, 1 ≤ i ∧ i ≤ 112 := by
  decide +kernel

theorem crossIndices_sorted : crossIndices.Pairwise (· < ·) ∧ ∀ i ∈ crossIndices, 1 ≤ i ∧ i ≤ 112 := by
  decide +kernel

/-- A first failing check among checks of rising indices. -/
theorem failing_of_indices {checks : List (Nat × Bool)} {indices : List Nat} {c : Nat × Bool}
    (are : checks.map (·.1) = indices) (sorted : indices.Pairwise (· < ·) ∧ ∀ i ∈ indices, 1 ≤ i ∧ i ≤ 112)
    (found : checks.find? (fun c => !c.2) = some c) :
    1 ≤ c.1 ∧ c.1 ≤ 112 ∧ ¬ Passes checks c.1 ∧ ∀ j < c.1, Passes checks j := by
  obtain ⟨rising, bounds⟩ := sorted
  obtain ⟨low, high⟩ := bounds c.1 (are ▸ List.mem_map_of_mem (List.mem_of_find?_eq_some found))
  subst are
  exact ⟨low, high, first_failing (List.pairwise_map.1 rising) found⟩

/-- The first field out of range, or with all in range the first failing cross check (R198). -/
theorem badField_some {i : Nat} (length : p.slots.length = 16) (bad : badField p = some i) :
    1 ≤ i ∧ i ≤ 112 ∧
      ((¬ FieldOk p i ∧ ∀ j < i, FieldOk p j) ∨
        ((∀ j < 113, FieldOk p j) ∧ ¬ CrossOk p i ∧ ∀ j < i, CrossOk p j)) := by
  simp only [fieldOk_iff length, crossOk_iff length]
  unfold badField at bad
  rw [List.find?_append] at bad
  obtain ⟨c, found, rfl⟩ := Option.map_eq_some_iff.1 bad
  obtain field | ⟨none, cross⟩ := Option.or_eq_some_iff.1 found
  · obtain ⟨low, high, fails, before⟩ := failing_of_indices (fieldChecks_indices p) refusedIndices_sorted field
    exact ⟨low, high, .inl ⟨fails, before⟩⟩
  · obtain ⟨low, high, fails, before⟩ := failing_of_indices (crossChecks_indices p) crossIndices_sorted cross
    exact ⟨low, high, .inr ⟨fun j _ => none_failing none j, fails, before⟩⟩

theorem badField_none (length : p.slots.length = 16) (good : badField p = none) : ConfigPasses p := by
  intro n _
  rw [fieldOk_iff length, crossOk_iff length, ← passes_append]
  exact none_failing (Option.map_eq_none_iff.1 good) n

theorem badField_iff (length : p.slots.length = 16) : badField p = none ↔ ConfigPasses p := by
  refine ⟨badField_none length, fun passes => ?_⟩
  by_contra bad
  obtain ⟨i, bad⟩ := Option.ne_none_iff_exists'.1 bad
  obtain ⟨-, high, ⟨fails, -⟩ | ⟨-, fails, -⟩⟩ := badField_some length bad
  · exact fails (passes i (by omega)).1
  · exact fails (passes i (by omega)).2

end Sys2Proof.Machine
end

section
/-! PROOF. CONFIGURE is checked and taken (O12; 12.4, R198, R199). -/

namespace Sys2Proof.Machine

variable {p : ConfigPayload} {s : State}

/-! ## Clamps (12.4) -/

theorem clampNat_zero (x b : Nat) : clampNat x 0 b = min x b := by
  rw [clampNat_eq x (Nat.zero_le b), Nat.zero_max]

/-- The indices of the fields that settings do not take as they are sent (R198). -/
def clampedIndices (p : ConfigPayload) (c : Settings) : List Nat :=
  (if c.deadTime = p.deadTime.toNat then [] else [4])
    ++ (if c.margin = p.margin.toNat then [] else [11])
    ++ (if c.riseStep = p.riseStep.toNat then [] else [12])
    ++ (if c.joinCurrent = p.joinCurrent.toNat then [] else [13])
    ++ (if c.fallback = p.fallback.toNat then [] else [14])
    ++ (if c.rUp = p.rUp.toNat then [] else [21])
    ++ (if c.uInj = p.uInj.toNat then [] else [29])
    ++ (if c.tHalfMax = p.tHalfMax.toNat then [] else [30])

theorem clampedFields_eq (p : ConfigPayload) : clampedFields p = clampedIndices p (settingsOf p) := by
  have one (i sent used : Nat) (rest : List (Nat × Nat × Nat)) :
      ((((i, sent, used) :: rest).filter fun c => c.2.1 != c.2.2).map (·.1)) =
        (if used = sent then [] else [i]) ++ ((rest.filter fun c => c.2.1 != c.2.2).map (·.1)) := by
    by_cases same : used = sent
    · rw [List.filter_cons_of_neg (by simp [same]), if_pos same, List.nil_append]
    · rw [List.filter_cons_of_pos (by simpa using Ne.symm same), if_neg same, List.map_cons, List.singleton_append]
  unfold clampedFields clamps clampedIndices
  simp only [one, List.append_assoc, List.filter_nil, List.map_nil, List.append_nil]
  rfl

/-! ## Slots (R110) -/

theorem actionOf_eq (b : Byte) : actionOf b = if b = 0 then .none else if b = 1 then .event else .trip := by
  unfold actionOf
  split
  next zero =>
    have is : b = 0 := BitVec.eq_of_toNat_eq (y := 0#8) zero
    rw [is]
    rfl
  next one =>
    have is : b = 1 := BitVec.eq_of_toNat_eq (y := 1#8) one
    rw [is]
    rfl
  next zero one => rw [if_neg fun is => zero (by rw [is]; rfl), if_neg fun is => one (by rw [is]; rfl)]

theorem acceptSlots_get (v : Vector SlotRecord 16) (i : Fin 16) {x : SlotPayload}
    (slot : p.slots[i.val]? = some x) : (acceptSlots p v)[i] = { v[i] with
      next := some
        { offset := x.offset.toInt, gain := x.gain.toNat
          low := if signedSlot i then x.low.toInt else x.low.toNat
          high := if signedSlot i then x.high.toInt else x.high.toNat
          action := if x.action = 0 then .none else if x.action = 1 then .event else .trip } } := by
  rw [← actionOf_eq]
  unfold acceptSlots
  simp [slotSettingsOf, payloadSlot_of slot, limitOf]

/-! ## The blocks (R36, R199) -/

/-- The settings have reached the blocks, before the line and the heater have looked at them. -/
abbrev configTaken (p : ConfigPayload) (s : State) : State :=
  restartCycle (watchConflicts (raiseEvent .configDone (takeSettings p s)))

/-- What an unconfigured station's blocks are left with (R199). -/
structure ConfigKept (p : ConfigPayload) (s t : State) : Prop where
  configured : t.cpt.configured = true
  event : .configDone ∈ t.cpt.events
  cfg : t.cfg = settingsOf p
  psq : t.psq = s.psq
  mtr : t.mtr = s.mtr
  mst : t.mst = s.mst
  fresh : t.fresh = s.fresh
  fli : t.fli = s.fli
  slots : t.msq.slots = acceptSlots p s.msq.slots
  timing : t.ptu.nextTiming = some (p.fc.toNat, p.divider.toNat)
  carrier : t.ptu.fc = s.ptu.fc
  cycle : s.imn.cycle.isSome = true → t.imn.cycle = some ⟨.awaiting, 0, 0, none, none, false⟩
  heater : t.htr.permission = s.htr.permission ∧ t.htr.isolateReq = s.htr.isolateReq ∧
    t.htr.overcurrent = s.htr.overcurrent ∧ t.htr.openLatch = s.htr.openLatch

theorem configTaken_kept (p : ConfigPayload) (s : State) : ConfigKept p s (configTaken p s) := by
  have cpt : (configTaken p s).cpt = (raiseEvent .configDone (takeSettings p s)).cpt := by simp
  have ptu : (configTaken p s).ptu = (watchConflicts (raiseEvent .configDone (takeSettings p s))).ptu := by simp
  have htr : (configTaken p s).htr = s.htr := by simp [takeSettings]
  refine ⟨?_, ?_, by simp [takeSettings], by simp [takeSettings], by simp [takeSettings], by simp [takeSettings],
    by simp [takeSettings], by simp [takeSettings], by simp [takeSettings], ?_, ?_, ?_, ?_⟩
  · rw [cpt]
    rfl
  · rw [cpt]
    exact raised_mem ..
  · rw [ptu]
    rfl
  · rw [ptu]
    rfl
  · intro runs
    show (restartCycle (watchConflicts (raiseEvent .configDone (takeSettings p s)))).imn.cycle = _
    unfold restartCycle
    rw [show (watchConflicts (raiseEvent .configDone (takeSettings p s))).imn.cycle.isSome = true from runs]
    rfl
  · rw [htr]
    exact ⟨rfl, rfl, rfl, rfl⟩

theorem ConfigKept.selectHeater {u : State} (h : ConfigKept p s u) : ConfigKept p s (selectHeater u) := by
  have only := selectHeater_onlyHeater u
  obtain ⟨configured, event, cfg, psq, mtr, mst, fresh, fli, slots, timing, carrier, cycle, permission, isolate, current, latch⟩ := h
  generalize Machine.selectHeater u = t at only
  unfold OnlyHeater OnlyChain at only
  rw [only]
  exact ⟨configured, event, cfg, psq, mtr, mst, fresh, fli, slots, timing, carrier, cycle, permission, isolate, current, latch⟩

/-- Conditions that are settled change nothing (R61). -/
theorem updateFallback_settled {u : State} (settled : u.shu.conds = fallbackConds u) : updateFallback u = u := by
  have judged : judgedShu u = u.shu ∧ judgedMtr u = u.mtr ∧ judgedCpt u = u.cpt := by
    have same : u.shu.conds.any = (fallbackConds u).any := congrArg _ settled
    have still : ¬ (u.shu.conds.any = false ∧ (fallbackConds u).any = true) := by
      rintro ⟨off, on⟩
      rw [← same, off] at on
      cases on
    refine ⟨?_, if_neg still, if_pos same⟩
    unfold judgedShu
    rw [if_neg still, if_neg fun all => still ⟨all.1, all.2.1⟩, ← settled]
  rw [updateFallback_eq, if_pos (congrArg _ settled)]
  unfold fallbackJudged
  rw [judged.1, judged.2.1, judged.2.2]

/-- Without an identification the line stays as it is, whatever the settings (R36). -/
theorem line_unidentified {t : State} (settled : LineSettled s) (ident : s.psq.ident = none) (psq : t.psq = s.psq)
    (fli : t.fli = s.fli) : lineTarget t = t.fli.line := by
  obtain ⟨line, -⟩ := settled
  rw [fli, line]
  unfold lineTarget lineOff lineListens heldFeeder
  rw [psq, fli, ident]
  simp

/-- The settings leave SHU's conditions (R61). -/
theorem configTaken_conds (settled : LineSettled s) :
    (configTaken p s).shu.conds = fallbackConds (configTaken p s) := by
  have shu : (configTaken p s).shu = s.shu := by simp [takeSettings]
  have fli : (configTaken p s).fli = s.fli := by simp [takeSettings]
  obtain ⟨-, conds, -⟩ := settled
  rw [shu, conds]
  unfold fallbackConds unheard sameFeeder
  rw [shu, fli]

theorem applyConfig_eq (settled : LineSettled s) (ident : s.psq.ident = none) :
    applyConfig p s = selectHeater (configTaken p s) := by
  have kept := configTaken_kept p s
  unfold applyConfig refreshLine
  rw [if_pos (line_unidentified settled ident kept.psq kept.fli), updateFallback_settled (configTaken_conds settled)]

theorem applyConfig_kept (settled : LineSettled s) (ident : s.psq.ident = none) : ConfigKept p s (applyConfig p s) := by
  rw [applyConfig_eq settled ident]
  exact (configTaken_kept p s).selectHeater

/-- A heater without a permission, a request and a fault is off (R123). -/
theorem applyConfig_heater (settled : LineSettled s) (ident : s.psq.ident = none) (off : s.htr.permission = .off)
    (isolate : s.htr.isolateReq = false) (current : s.htr.overcurrent = false) (latch : s.htr.openLatch = false) :
    (applyConfig p s).htr.state = .off := by
  have htr : (configTaken p s).htr = s.htr := by simp [takeSettings]
  rw [applyConfig_eq settled ident, selectHeater_htr]
  show heaterChoice (configTaken p s).htr.isolateReq (configTaken p s) = .off
  unfold heaterChoice
  rw [htr, isolate, current, latch, off]
  simp

/-! ## The row -/

theorem configure_locked (p : ConfigPayload) (configured : s.cpt.configured = true) :
    configure p s = answerEmpty .locked s := if_pos configured

theorem configure_bad {i : Nat} (fresh : s.cpt.configured = false) (bad : badField p = some i) :
    configure p s = answer .badConfig (.badField i) s := by
  unfold configure
  rw [fresh, bad]
  rfl

theorem configure_good (fresh : s.cpt.configured = false) (good : badField p = none) :
    configure p s = answer .accepted (.clamped (clampedFields p)) (applyConfig p s) := by
  unfold configure
  rw [fresh, good]
  rfl

/-- Settles O12: a locked or a failing payload changes nothing, and one that passes reaches every block. -/
theorem configureIsCheckedAndTaken : Obligations.ConfigureIsCheckedAndTaken := by
  intro s p running
  have row : exec (.configure p) s = .next (configure p s) := whenRunning_running running
  rw [row]
  refine ⟨fun locked => ?_, fun fresh length fails => ?_, fun fresh length passes settled safe => ?_⟩
  · rw [configure_locked p locked]
  · obtain ⟨i, bad⟩ := Option.ne_none_iff_exists'.1 (mt (badField_iff length).1 fails)
    obtain ⟨low, high, which⟩ := badField_some length bad
    exact ⟨_, rfl, by rw [configure_bad fresh bad]; exact ⟨low, high, rfl, which⟩⟩
  · obtain ⟨-, ident, -⟩ := safe fresh
    have kept := applyConfig_kept (p := p) settled ident
    have line := line_unidentified settled ident kept.psq kept.fli
    have heater := applyConfig_heater (p := p) settled ident
    rw [configure_good fresh ((badField_iff length).2 passes)]
    refine ⟨_, rfl, ?_⟩
    generalize applyConfig p s = t at kept line heater ⊢
    obtain ⟨configured, event, cfg, psq, mtr, mst, fresh, fli, slots, timing, carrier, cycle, -⟩ := kept
    show t.cpt.configured = true ∧ .configDone ∈ t.cpt.events ∧ t.psq = s.psq ∧ t.mtr = s.mtr ∧ t.mst = s.mst ∧
      t.fresh = s.fresh ∧ t.fli.line = lineTarget t ∧ t.fli.queue = s.fli.queue ∧ _
    refine ⟨configured, event, psq, mtr, mst, fresh, line.symm, congrArg (·.queue) fli, ?_⟩
    have field {α : Type} (f : Settings → α) : f t.cfg = f (settingsOf p) := congrArg f cfg
    refine ⟨field (·.station), field (·.eta), field (·.floatOnTrip), field (·.extFilter), field (·.feLevel), field
      (·.dcLevel), field (·.heaterLevel), field (·.policy), field (·.vPre), field (·.vLinkTarget), field
      (·.linkCeiling), field (·.iFull), field (·.kCv), field (·.kpLink), field (·.kiLink), field (·.kpBat),
      field (·.kiBat), field (·.tCold), field (·.rc), field (·.rm), field (·.rWarn), field (·.rAlarm),
      (field (·.deadTime)).trans (clampNat_eq _ (by decide)), (field (·.margin)).trans (clampNat_zero ..),
      (field (·.riseStep)).trans (clampNat_eq _ (by decide)), (field (·.fallback)).trans (clampNat_zero ..),
      (field (·.joinCurrent)).trans ?_, (field (·.rUp)).trans (clampNat_eq _ (by decide)),
      (field (·.uInj)).trans (clampNat_eq _ (by decide)), (field (·.tHalfMax)).trans (clampNat_eq _ (by decide)),
      ?_, timing, carrier, fun i x slot => ?_, cycle, heater⟩
    · show clampNat _ 0 (clampNat p.fallback.toNat 0 160) = _
      rw [clampNat_zero, clampNat_zero]
    · have indices := (clampedFields_eq p).trans (field (clampedIndices p)).symm
      exact congrArg (fun l => (⟨.accepted, .clamped l⟩ : Reply)) indices
    · show t.msq.slots[i] = _
      rw [slots]
      exact acceptSlots_get _ i slot

end Sys2Proof.Machine
end

section
/-! PROOF. With the plug out, whatever moves the sequencer takes the line to OFFLINE once, and nothing brings a peer, a
frame or a sweep back (R36, R37, R51, R166). -/

namespace Sys2Proof.Machine

variable {s t x y : State}

/-! ## On the way to OFFLINE -/

/-- `x` is reached from `s` with the plug out: until the line goes OFFLINE it and the peers stay, and from then on they are
gone. -/
structure Unplugs (s x : State) : Prop where
  prox : x.psq.prox = .none
  on : x.fli.line ≠ .offline → x.fli.line = s.fli.line ∧ x.shu.peers = s.shu.peers
  off : s.fli.line ≠ .offline → x.fli.line = .offline → OfflineEntered s x

/-- What `OfflineEntered` reads of a state besides its events. -/
def offView (x : State) :=
  (x.fli, x.psq.prox, x.shu.peers, x.shu.overflow, x.shu.sweepTarget, x.imn.mode, x.imn.sweep, x.imn.target,
    x.imn.pendingRelease, x.imn.hold)

theorem Unplugs.plain (h : Unplugs s x) (e : offView y = offView x) (events : ∀ e ∈ x.cpt.events, e ∈ y.cpt.events) :
    Unplugs s y := by
  unfold offView at e
  simp only [Prod.mk.injEq] at e
  obtain ⟨fli, prox, peers, overflow, report, mode, sweep, target, pending, hold⟩ := e
  obtain ⟨out, on, off⟩ := h
  refine ⟨prox.trans out, ?_, fun was is => ?_⟩
  · rw [fli, peers]
    exact on
  · have entered := off was (by rw [← fli]; exact is)
    unfold OfflineEntered at entered ⊢
    rw [fli, peers, overflow, report, mode, sweep, target, pending, hold]
    obtain ⟨a, b, c, d, e, f, g, h, i, event, rest⟩ := entered
    exact ⟨a, b, c, d, e, f, g, h, i, fun some => events _ (event some), rest⟩

theorem Unplugs.same (h : Unplugs s x) (e : offView y = offView x) (events : y.cpt.events = x.cpt.events) : Unplugs s y :=
  h.plain e fun _ mem => events ▸ mem

theorem Unplugs.onlyIf (c : Bool) {f : State → State} (h : Unplugs s x) (k : Unplugs s (f x)) : Unplugs s (onlyIf c f x) :=
  onlyIf_ind (P := Unplugs s) c h k

theorem Unplugs.raiseEvent (h : Unplugs s x) (k : EventKind) : Unplugs s (raiseEvent k x) :=
  h.plain rfl fun _ mem => mem_raiseEvent _ mem

theorem Unplugs.updateFallback (h : Unplugs s x) : Unplugs s (updateFallback x) := by
  have only := updateFallback_onlyChain x
  refine h.plain ?_ fun _ mem => updateFallback_events x mem
  unfold OnlyChain at only
  unfold offView
  rw [only]
  rfl

theorem Unplugs.lineOff (h : Unplugs s x) : lineTarget x = .offline := by
  unfold lineTarget Machine.lineOff
  rw [h.prox]
  rfl

/-- The line in OFFLINE, before a role is dropped (R37, R51, R166). -/
abbrev wentOffline (x : State) : State := sweepOffline (emptyPeers { x with fli := enterLine .offline x.cfg.station x.fli })

theorem wentOffline_frame (x : State) : wentOffline x = { x with
    fli := enterLine .offline x.cfg.station x.fli
    shu := { x.shu with peers := [], overflow := 0, sweepTarget := false }
    imn := { x.imn with sweep := .none, hold := false, target := none, pendingRelease := false }
    cpt.events := (wentOffline x).cpt.events } := by
  unfold wentOffline emptyPeers
  dsimp only
  cases !x.shu.peers.isEmpty <;> rfl

theorem wentOffline_peers (some : x.shu.peers ≠ []) : .peers ∈ (wentOffline x).cpt.events := by
  have is : (!x.shu.peers.isEmpty) = true := by simpa using some
  unfold wentOffline emptyPeers
  dsimp only
  rw [is]
  exact raised_mem ..

theorem changeLine_wentOffline (x : State) : changeLine .offline x = Machine.onlyIf (x.fli.line == .online) yieldRole (wentOffline x) :=
  rfl

/-- A role is dropped, where no sweep is under way (R147). -/
theorem yieldRole_noSweep (none : y.imn.sweep = .none) : yieldRole y = if y.imn.mode = .measurer then droppedRole y else y := by
  rw [yieldRole_eq, abandonSweep_other (s := droppedRole y) fun r leads => by cases none.symm.trans leads]

/-- The line's entry to OFFLINE (R37, R51, R147, R166). -/
theorem changeLine_offline (x : State) : (changeLine .offline x).psq = x.psq ∧ (changeLine .offline x).fli.line = .offline ∧
    OfflineEntered x (changeLine .offline x) := by
  have frame := wentOffline_frame x
  have event := wentOffline_peers (x := x)
  rw [changeLine_wentOffline]
  generalize wentOffline x = y at frame event ⊢
  have sweep : y.imn.sweep = .none := by rw [frame]
  cases online : x.fli.line == .online with
  | false =>
    rw [onlyIf_false]
    have away : x.fli.line ≠ .online := by simpa using online
    refine ⟨?_, ?_, ?_, ?_, ?_, ?_, ?_, ?_, ?_, ?_, ?_, event, fun is => absurd is away, ?_, ?_, ?_, ?_, ?_⟩ <;> rw [frame] <;> rfl
  | true =>
    rw [onlyIf_true, yieldRole_noSweep sweep]
    split
    next measurer =>
      refine ⟨?_, ?_, ?_, ?_, ?_, ?_, ?_, ?_, ?_, ?_, ?_, event, fun _ => nofun, ?_, ?_, ?_, ?_, ?_⟩ <;> rw [frame] <;> rfl
    next other =>
      refine ⟨?_, ?_, ?_, ?_, ?_, ?_, ?_, ?_, ?_, ?_, ?_, event, fun _ => other, ?_, ?_, ?_, ?_, ?_⟩ <;> rw [frame] <;> rfl

theorem Unplugs.refreshLine (h : Unplugs s x) : Unplugs s (refreshLine x) := by
  unfold Machine.refreshLine
  rw [h.lineOff]
  refine Unplugs.updateFallback ?_
  split
  · exact h
  next on =>
    obtain ⟨line, peers⟩ := h.on (Ne.symm on)
    obtain ⟨psq, off, entered⟩ := changeLine_offline x
    unfold OfflineEntered at entered
    rw [line, peers] at entered
    exact ⟨psq ▸ h.prox, fun on => absurd off on, fun _ _ => entered⟩

theorem Unplugs.refreshed (h : Unplugs s x) : (Machine.refreshLine x).fli.line = .offline := by
  have fli : (Machine.refreshLine x).fli = (lineMoved x).fli := congrArg (·.fli) (updateFallback_onlyChain _)
  rw [fli]
  unfold lineMoved
  rw [h.lineOff]
  split
  next off => exact off.symm
  · exact changeLine_line _ x

/-! ## The sequencer's entries (R1, R8) -/

theorem Unplugs.setSeq (h : Unplugs s x) (q : SeqState) : Unplugs s (setSeq q x) := by
  by_cases same : x.psq.seq = q
  · rw [Machine.setSeq, if_pos same]
    exact h
  · have only := setSeq_onlyChain same
    refine h.plain ?_ fun _ mem => setSeq_events q x mem
    unfold OnlyChain at only
    unfold offView
    rw [setSeq_prox, only]
    rfl

/-- The identification is forgotten at most in OFFLINE's record of another feeder, which nobody reads. -/
theorem Unplugs.forgetIdent (h : Unplugs s x) : Unplugs s (forgetIdent x) :=
  ⟨h.prox, h.on, fun was is => h.off was is⟩

theorem Unplugs.enterSeq (h : Unplugs s x) (q : SeqState) : Unplugs s (enterSeq q x) := by
  refine (Unplugs.setSeq ?_ q).refreshLine
  unfold identOnEntry
  split
  · exact h.forgetIdent
  · exact h.forgetIdent
  · exact h.same rfl rfl
  · exact h

end Sys2Proof.Machine
end

section
/-! PROOF. What a loss of plug does at the sequencer takes the line to OFFLINE (R5, R18 to R20, R36, R99, R166). -/

namespace Sys2Proof.Machine

variable {s t x y : State}

/-! ## Sweeps and the monitor (R138, R147, R154 to R164) -/

/-- What a sweep's frames and steps leave: the line, the peers, the plug and the trip latch. -/
def lineRest (x : State) := (x.fli.line, x.shu.peers, x.psq.prox, x.ptu.trip)

theorem endLeading_rest (r : LeaderRecord) (o : SweepOutcome) (hold : Bool) (x : State) :
    lineRest (endLeading r o hold x) = lineRest x := by
  rw [endLeading_eq]
  rfl

theorem takeRelease_rest (x : State) : lineRest (takeRelease x) = lineRest x := by
  unfold takeRelease
  split <;> rfl

theorem startStep_rest (r : LeaderRecord) (x : State) : lineRest (startStep r x) = lineRest x := by
  have announced (n : Nat) (l : LeaderRecord) :
      lineRest (stepAnnounced n l x) = lineRest x ∧ (stepAnnounced n l x).psq = x.psq := by
    rw [stepAnnounced_frame]
    exact ⟨rfl, rfl⟩
  by_cases own : r.index + 1 = r.list.length
  · rw [startStep_own own]
    obtain ⟨first, psq⟩ := announced x.cfg.station (ownStep r)
    generalize stepAnnounced x.cfg.station (ownStep r) x = y at first psq ⊢
    split
    next away =>
      have only := isolation_onlyChain (s := { y with imn.target := some ⟨r.index, none⟩ })
        (ret := if x.psq.seq = .active then .active else .suspended) (by rw [psq]; exact away) (by rw [psq])
      generalize reportTarget _ = z at only ⊢
      unfold OnlyChain at only
      rw [← first, only]
      rfl
    · exact (takeRelease_rest _).trans ((endLeading_rest _ _ _ y).trans first)
  · rw [startStep_peer own]
    exact (announced _ _).1

theorem checkSweepStart_rest (x : State) : lineRest (checkSweepStart x) = lineRest x := by
  unfold checkSweepStart Machine.onlyIf
  split
  · rw [startSweep_eq]
    refine (startStep_rest _ _).trans ?_
    unfold lineRest
    rw [sweepAlerted_psq, sweepAlerted_frame]
  · rfl

theorem Unplugs.noSweep (h : Unplugs s x) (was : s.fli.line ≠ .offline) (off : x.fli.line = .offline) : x.imn.sweep = .none := by
  obtain ⟨-, -, -, -, -, -, -, -, -, -, -, none, -⟩ := h.off was off
  exact none

/-- Before OFFLINE the line, the peers and the plug are all that matters. -/
theorem Unplugs.rest (h : Unplugs s x) (e : lineRest y = lineRest x) (on : s.fli.line ≠ .offline → x.fli.line ≠ .offline) :
    Unplugs s y := by
  unfold lineRest at e
  simp only [Prod.mk.injEq] at e
  obtain ⟨line, peers, prox, -⟩ := e
  refine ⟨prox.trans h.prox, ?_, fun was off => absurd (line.symm.trans off) (on was)⟩
  rw [line, peers]
  exact h.on

theorem Unplugs.clearTarget (h : Unplugs s x) : Unplugs s (clearTarget x) := by
  refine ⟨h.prox, h.on, fun was off => ?_⟩
  obtain ⟨a, b, c, d, e, f, g, peers, none, event, role, sweep, -, -, -, hold⟩ := h.off was off
  exact ⟨a, b, c, d, e, f, g, peers, none, event, role, sweep, rfl, rfl, rfl, hold⟩

theorem Unplugs.leftSweep (h : Unplugs s x) : Unplugs s (leftSweep x) := by
  obtain ⟨r, leads, own⟩ | other := inOwnStep_cases x
  · have away : s.fli.line ≠ .offline → x.fli.line ≠ .offline := fun was off => by
      cases (h.noSweep was off).symm.trans leads
    unfold Machine.leftSweep
    rw [leads]
    dsimp only
    rw [if_pos own]
    exact h.rest ((checkSweepStart_rest _).trans (endLeading_rest ..)) away
  · rw [leftSweep_other other]
    exact h.clearTarget

theorem Unplugs.leaveTarget (h : Unplugs s x) (q : SeqState) : Unplugs s (leaveTarget q x) := by
  unfold Machine.leaveTarget
  split
  · exact h.clearTarget
  · exact h.clearTarget
  · exact h.leftSweep
  · exact h

theorem startSelfCheck_table (x : State) : (startSelfCheck x).shu.peers = x.shu.peers ∧
    (startSelfCheck x).shu.overflow = x.shu.overflow ∧ (startSelfCheck x).shu.sweepTarget = x.shu.sweepTarget := by
  have share := startSelfCheck_share x
  refine ⟨congrArg (·.peers) share, congrArg (·.overflow) share, ?_⟩
  unfold startSelfCheck
  split
  · split
    · rfl
    · exact setIsolate_target true { x with imn.selfCheck := .running 0 }
  · rfl

/-- The monitor leaves the role for LOCAL. -/
theorem Unplugs.enterLocal (h : Unplugs s x) : Unplugs s (enterLocal x) := by
  have imn := enterLocal_imn x
  obtain ⟨-, -, psq, fli, -⟩ := enterLocal_keeps x
  have table : (Machine.enterLocal x).shu.peers = x.shu.peers ∧ (Machine.enterLocal x).shu.overflow = x.shu.overflow ∧
      (Machine.enterLocal x).shu.sweepTarget = x.shu.sweepTarget := by
    rw [enterLocal_eq]
    exact startSelfCheck_table _
  have events := fun e (mem : e ∈ x.cpt.events) => mem_enterLocal mem
  generalize Machine.enterLocal x = y at *
  obtain ⟨table, overflow, out⟩ := table
  refine ⟨psq ▸ h.prox, fli ▸ table ▸ h.on, fun was off => ?_⟩
  obtain ⟨a, b, c, d, e, f, g, peers, none, event, role, sweep, target, pending, report, hold⟩ := h.off was (fli ▸ off)
  unfold OfflineEntered
  rw [fli, table, overflow, out, imn]
  exact ⟨a, b, c, d, e, f, g, peers, none, fun some => events _ (event some), fun _ => nofun, sweep, target, pending, report, hold⟩

theorem Unplugs.removeMeasureFrames (h : Unplugs s x) : Unplugs s (removeMeasureFrames x) := by
  refine ⟨h.prox, h.on, fun was off => ?_⟩
  obtain ⟨empty, rest⟩ := h.off was off
  refine ⟨?_, rest⟩
  show x.fli.queue.filter _ = []
  rw [empty]
  rfl

theorem Unplugs.loseRole (h : Unplugs s x) : Unplugs s (loseRole x) := by
  unfold Machine.loseRole
  split
  next r leads =>
    split
    · exact h
    · rw [abandonSweep_leading leads]
      exact h.rest (endLeading_rest ..) fun was off => by cases (h.noSweep was off).symm.trans leads
  · exact h

theorem Unplugs.contactorOpened (h : Unplugs s x) : Unplugs s (contactorOpened x) := by
  have k : Unplugs s { x with imn.contactorClosed := false } := h.same rfl rfl
  unfold Machine.contactorOpened
  dsimp only
  split
  · exact k
  · exact k.enterLocal
  · exact k.removeMeasureFrames.enterLocal.loseRole

theorem Unplugs.openRelays (h : Unplugs s x) : Unplugs s (openRelays x) := by
  rw [openRelays_eq]
  have k : Unplugs s (relaysCut x) := h.same rfl rfl
  split
  · exact k.contactorOpened
  · exact k

/-! ## FAULT and the latch (R5, R18 to R20, R99) -/

theorem Unplugs.clearEnable (h : Unplugs s x) : Unplugs s (clearEnable x) := h.same (by simp [offView]) (by simp)

theorem Unplugs.endSession (h : Unplugs s x) (cause : EndCause) : Unplugs s (endSession cause x) := by
  have only := endSession_onlyChain cause x
  refine h.plain ?_ fun _ mem => endSession_events cause x mem
  unfold OnlyChain at only
  unfold offView
  rw [only]

theorem Unplugs.enterFault (h : Unplugs s x) (cause : FaultCause) : Unplugs s (enterFault cause x) := by
  have stopped : Unplugs s (stopTimers (Machine.openRelays (Machine.clearEnable x))) := h.clearEnable.openRelays.same rfl rfl
  refine Unplugs.enterSeq ?_ .fault
  exact ((stopped.endSession _).leaveTarget x.psq.seq).same rfl rfl

theorem Unplugs.raiseTrip (h : Unplugs s x) (c : TripCause) : Unplugs s (raiseTrip c x) := by
  unfold Machine.raiseTrip
  split
  · have set : Unplugs s (latchSet c x) := by
      have k : Unplugs s { x with ptu.trip := some ⟨c, []⟩ } := h.same rfl rfl
      exact k.clearEnable.raiseEvent _
    have told : Unplugs s (tripTold (latchSet c x)) := set.onlyIf _ (set.enterFault _)
    rw [setTrip_eq]
    exact told.same (by simp [offView]) (by simp)
  · exact h.same rfl rfl

theorem Unplugs.weldAtOnce (h : Unplugs s x) : Unplugs s (weldAtOnce x) := by
  unfold Machine.weldAtOnce
  split
  · exact h.enterFault _
  · exact h

theorem Unplugs.deadLoss (h : Unplugs s x) : Unplugs s (deadLoss x) := by
  refine Unplugs.enterSeq ?_ .unplugged
  exact (h.endSession _).same rfl rfl

theorem Unplugs.plugLost (h : Unplugs s x) : Unplugs s (plugLost x) := by
  unfold Machine.plugLost
  split
  · exact h.raiseTrip _
  · split
    · exact h.forgetIdent
    · exact h
    · exact h.deadLoss

theorem Unplugs.lossOfPlug (h : Unplugs s x) : Unplugs s (lossOfPlug x) := by
  have k : Unplugs s (endSupervisions x) := h.same rfl rfl
  exact k.plugLost.weldAtOnce

end Sys2Proof.Machine
end

section
/-! PROOF. The level of a proximity result and plug detection (R2, R3). -/

namespace Sys2Proof.Machine

variable {s t x : State} {v : Nat}

/-! ## The level is the sequencer's own (R2) -/

theorem enterSeq_prox (q : SeqState) (s : State) : (enterSeq q s).psq.prox = s.psq.prox := by
  have onEntry : (identOnEntry q s).psq.prox = s.psq.prox := by rw [identOnEntry_psq]
  rw [enterSeq_psq]
  split
  · exact onEntry
  · rw [leaveState_eq]
    exact onEntry

theorem leftSweep_prox (s : State) : (leftSweep s).psq.prox = s.psq.prox := by
  obtain ⟨r, leads, own⟩ | other := inOwnStep_cases s
  · unfold leftSweep
    rw [leads]
    dsimp only
    rw [if_pos own]
    exact congrArg (·.2.2.1) ((checkSweepStart_rest _).trans (endLeading_rest r .abandoned false s))
  · rw [leftSweep_other other]
    rfl

theorem leaveTarget_prox (q : SeqState) (s : State) : (leaveTarget q s).psq.prox = s.psq.prox := by
  unfold leaveTarget
  split
  · rfl
  · rfl
  · exact leftSweep_prox s
  · rfl

theorem finishStop_prox (s : State) : (finishStop s).psq.prox = s.psq.prox := by
  have entered := enterSeq_prox .identified (stopReady (s.psq.stopCause.getD .hostStop) s)
  rw [stopReady_psq] at entered
  rw [finishStop_eq]
  unfold onlyIf
  split
  · rw [enqueue_eq]
    exact entered
  · exact entered

theorem isolatedStop_prox (s : State) : (isolatedStop s).psq.prox = s.psq.prox := by
  unfold isolatedStop
  split
  · exact finishStop_prox s
  · have opened : (openRelays (stopTimers s)).psq.prox = s.psq.prox := by
      rw [openRelays_psq]
      rfl
    unfold rejoinStopped
    split
    · exact (finishStop_prox _).trans opened
    · exact opened
  · rfl

theorem stopRequest_prox (cause : EndCause) (s : State) : (stopRequest cause s).psq.prox = s.psq.prox := by
  have started : (startStop cause s).psq.prox = s.psq.prox := (enterSeq_prox _ _).trans (leaveTarget_prox _ s)
  unfold stopRequest
  split
  · exact started
  · exact started
  · split
    · rfl
    · refine (isolatedStop_prox _).trans ?_
      unfold onlyIf
      split
      · exact leftSweep_prox _
      · rfl
  · rfl

theorem releaseButton_prox (s : State) : (releaseButton s).psq.prox = s.psq.prox := by
  unfold releaseButton
  split
  · exact stopRequest_prox ..
  · exact stopRequest_prox ..
  · exact stopRequest_prox ..
  · rfl
  · rfl
  · rw [enqueue_eq]

theorem detectPlug_prox (old new : ProxLevel) (s : State) : (detectPlug old new s).psq.prox = s.psq.prox := by
  unfold detectPlug
  split
  · split
    · rfl
    · exact enterSeq_prox ..
  · rfl
  · rfl
  · rfl

/-! ## A result by its level (R2, R3, R17, R18) -/

/-- The state with a new level. -/
abbrev leveled (l : ProxLevel) (s : State) : State := { s with psq.prox := l }

theorem takeProximity_latched (due : settleDue s = false) (low : v < 2000) : takeProximity v s =
    if s.psq.prox = .latched then detectPlug .latched .latched (leveled .latched s)
    else refreshLine (detectPlug s.psq.prox .latched (leveled .latched s)) := by
  have level : classify (v : Int) = .latched := if_pos (by omega)
  have still : plugSettled s = s := by
    unfold plugSettled
    rw [due]
    rfl
  unfold takeProximity
  dsimp only
  rw [still, level]
  cases s.psq.prox <;> rfl

theorem takeProximity_release (due : settleDue s = false) (low : 2000 ≤ v) (high : v < 3500) : takeProximity v s =
    match s.psq.prox with
    | .release => detectPlug .release .release (leveled .release s)
    | .latched => refreshLine (releaseButton (detectPlug .latched .release (leveled .release s)))
    | .none => refreshLine (detectPlug .none .release (leveled .release s)) := by
  have level : classify (v : Int) = .release := (if_neg (by omega)).trans (if_pos (by omega))
  have still : plugSettled s = s := by
    unfold plugSettled
    rw [due]
    rfl
  unfold takeProximity
  dsimp only
  rw [still, level]
  cases s.psq.prox <;> rfl

theorem detectPlug_none (old : ProxLevel) (s : State) : detectPlug old .none s = s := by
  unfold detectPlug
  cases s.psq.seq <;> rfl

theorem takeProximity_none (due : settleDue s = false) (high : 3500 ≤ v) : takeProximity v s =
    if s.psq.prox = .none then leveled .none s else refreshLine (lossOfPlug (leveled .none s)) := by
  have level : classify (v : Int) = .none := (if_neg (by omega)).trans (if_neg (by omega))
  have still : plugSettled s = s := by
    unfold plugSettled
    rw [due]
    rfl
  unfold takeProximity
  dsimp only
  rw [still, level, detectPlug_none]
  cases s.psq.prox <;> rfl

/-! ## Plug detection (R3) -/

theorem detectPlug_other {old new : ProxLevel} (unplugged : s.psq.seq ≠ .unplugged) (settles : s.psq.seq ≠ .plugSettle) :
    detectPlug old new s = s := by
  unfold detectPlug
  split
  next is => exact absurd is unplugged
  next is => exact absurd is settles
  next is => exact absurd is settles
  · rfl

theorem detectPlug_settles (old : ProxLevel) (settles : s.psq.seq = .plugSettle) :
    detectPlug old .latched s = { s with psq.settleMs := s.psq.settleMs + 10 } ∧
      detectPlug old .release s = { s with psq.settleMs := 0 } := by
  unfold detectPlug
  rw [settles]
  exact ⟨rfl, rfl⟩

theorem detectPlug_unplugged (old : ProxLevel) (unplugged : s.psq.seq = .unplugged) :
    detectPlug old .latched s =
        (if old = .latched then s else enterSeq .plugSettle { s with psq.settleMs := 0 }) ∧
      detectPlug old .release s = s := by
  unfold detectPlug
  rw [unplugged]
  exact ⟨rfl, rfl⟩

theorem releaseButton_undetected (undetected : s.psq.seq = .unplugged ∨ s.psq.seq = .plugSettle) : releaseButton s = s := by
  unfold releaseButton
  obtain h | h := undetected <;> rw [h]

theorem unplugs_leveled (s : State) : Unplugs s (leveled .none s) :=
  ⟨rfl, fun _ => ⟨rfl, rfl⟩, fun was is => absurd is was⟩

/-- The level of R2. -/
theorem takeProximity_prox (due : settleDue s = false) : (takeProximity v s).psq.prox =
    if v < 2000 then .latched else if v < 3500 then .release else .none := by
  by_cases low : v < 2000
  · rw [takeProximity_latched due low, if_pos low]
    split
    · exact detectPlug_prox ..
    · rw [(refreshLine_keeps _).2.2.1]
      exact detectPlug_prox ..
  · rw [if_neg low]
    by_cases high : v < 3500
    · rw [takeProximity_release due (by omega) high, if_pos high]
      split
      · exact detectPlug_prox ..
      · rw [(refreshLine_keeps _).2.2.1]
        exact (releaseButton_prox _).trans (detectPlug_prox ..)
      · rw [(refreshLine_keeps _).2.2.1]
        exact detectPlug_prox ..
    · rw [takeProximity_none due (by omega), if_neg high]
      split
      · rfl
      · exact ((unplugs_leveled s).lossOfPlug.refreshLine).prox

/-- A result that is no loss of plug, in PLUG_SETTLE (R3). -/
theorem takeProximity_settling (due : settleDue s = false) (settles : s.psq.seq = .plugSettle) (in' : v < 3500) :
    (takeProximity v s).psq = { s.psq with
      prox := if v < 2000 then .latched else .release, settleMs := if v < 2000 then s.psq.settleMs + 10 else 0 } := by
  by_cases low : v < 2000
  · rw [takeProximity_latched due low, if_pos low, if_pos low]
    split
    · rw [(detectPlug_settles (s := leveled .latched s) _ settles).1]
    · rw [(refreshLine_keeps _).2.2.1, (detectPlug_settles (s := leveled .latched s) _ settles).1]
  · rw [takeProximity_release due (by omega) in', if_neg low, if_neg low]
    have zero old := (detectPlug_settles (s := leveled .release s) old settles).2
    split
    · rw [zero]
    · rw [(refreshLine_keeps _).2.2.1, zero, releaseButton_undetected]
      exact .inr settles
    · rw [(refreshLine_keeps _).2.2.1, zero]

/-- A result that is no loss of plug, in UNPLUGGED (R3). -/
theorem takeProximity_unplugged (due : settleDue s = false) (unplugged : s.psq.seq = .unplugged) (in' : v < 3500) :
    (takeProximity v s).psq.seq = if v < 2000 ∧ s.psq.prox ≠ .latched then .plugSettle else .unplugged := by
  by_cases low : v < 2000
  · rw [takeProximity_latched due low]
    split
    next latched =>
      rw [if_neg fun h => h.2 latched, (detectPlug_unplugged (s := leveled .latched s) _ unplugged).1, if_pos rfl]
      exact unplugged
    next other =>
      rw [if_pos ⟨low, other⟩, (refreshLine_keeps _).2.2.1, (detectPlug_unplugged (s := leveled .latched s) _ unplugged).1,
        if_neg other]
      exact enterSeq_seq _ _
  · rw [takeProximity_release due (by omega) in', if_neg fun h => low h.1]
    have still old := (detectPlug_unplugged (s := leveled .release s) old unplugged).2
    split
    · rw [still]
      exact unplugged
    · rw [(refreshLine_keeps _).2.2.1, still, releaseButton_undetected]
      · exact unplugged
      · exact .inl unplugged
    · rw [(refreshLine_keeps _).2.2.1, still]
      exact unplugged

end Sys2Proof.Machine
end

section
/-! PROOF. A loss of plug without a relay commanded closed: what is plugged in is forgotten, or the contactor is welded (R5,
R18, log 12). -/

namespace Sys2Proof.Machine

variable {s t x : State}

/-! ## A weld found where nothing is under way (R5, R20) -/

/-- A state in which FAULT finds nothing to open, to close or to end. -/
structure Rested (x : State) : Prop where
  contactor : x.psq.contactorCmd = false
  precharge : x.psq.prechargeCmd = false
  supervised : x.psq.contactorSup = false ∧ x.psq.prechargeSup = false
  stays : ¬ LeavesTarget x.psq.seq
  other : x.psq.seq ≠ .fault

theorem faultReady_rested (h : Rested x) (c : FaultCause) :
    faultReady c x = { forgetStop (dropPrefetched (driveEnded (faultEndCause c) x)) with psq.faultCause := some c } := by
  show { forgetStop (dropPrefetched (leaveTarget x.psq.seq (driveEnded (faultEndCause c) x))) with
    psq.faultCause := some c } = _
  rw [leaveTarget_other h.stays]

theorem enterFault_rested (h : Rested x) (c : FaultCause) :
    (enterFault c x).psq = leaveState .fault (faultPsq c x.psq) := by
  have psq : (faultReady c x).psq = faultPsq c x.psq := by
    rw [faultReady_rested h]
    show { (driveEnded (faultEndCause c) x).psq with
      stopCause := none, forced := false, start := none, isoReturn := none, cancelPending := false, cancelContactor := false
      faultCause := some c } = _
    rw [driveEnded_psq]
  have ident : identOnEntry .fault (faultReady c x) = faultReady c x := rfl
  rw [enterFault_eq, enterSeq_psq, ident, psq, if_neg h.other]

/-- What a weld leaves of the sequencer's record. -/
theorem enterFault_rested_psq (h : Rested x) (c : FaultCause) :
    (enterFault c x).psq.seq = .fault ∧ (enterFault c x).psq.faultCause = some c ∧
      (enterFault c x).psq.ident = x.psq.ident ∧ (enterFault c x).psq.contactorSup = false ∧
      (enterFault c x).psq.prechargeSup = false := by
  have psq := enterFault_rested h c
  obtain ⟨contactor, precharge, ⟨first, second⟩, -, -⟩ := h
  rw [psq, leaveState_eq]
  refine ⟨rfl, rfl, rfl, ?_, ?_⟩
  · show (x.psq.contactorCmd || x.psq.contactorSup) = false
    rw [contactor, first]
    rfl
  · show (x.psq.prechargeCmd || x.psq.prechargeSup) = false
    rw [precharge, second]
    rfl

/-- A session that has ended stays so as the weld is found. -/
theorem SessionEnded.welded {cause : EndCause} {forced : Bool} (ended : SessionEnded cause forced s x) (h : Rested x)
    (c : FaultCause) : SessionEnded cause forced s (enterFault c x) := by
  have closed := ended.1
  have opened : (stopTimers (openRelays (clearEnable x))).mst = x.mst ∧
      (stopTimers (openRelays (clearEnable x))).mtr.session = none := by
    obtain ⟨-, -, -, -, -, -, -, -, mtr, mst, -⟩ := clearEnable_keeps x
    obtain ⟨-, -, -, mtr', mst', -⟩ := openRelays_keeps (clearEnable x)
    refine ⟨mst'.trans mst, ?_⟩
    show (openRelays (clearEnable x)).mtr.session = none
    rw [mtr', mtr]
    exact closed
  have mst : (driveEnded (faultEndCause c) x).mst = x.mst := by
    obtain ⟨same, none⟩ := opened
    unfold driveEnded
    generalize stopTimers (openRelays (clearEnable x)) = y at same none ⊢
    have still : closeSession (faultEndCause c) y.psq.forced y = y := by
      unfold closeSession
      rw [none]
    have only := endSession_onlyChain (faultEndCause c) y
    exact (congrArg (·.mst) only).trans ((congrArg (·.mst) still).trans same)
  have events := fun e (mem : e ∈ x.cpt.events) => enterFault_events (e := e) c x mem
  have gone := enterSeq_gone .fault (s := faultReady c x) (by rw [faultReady_rested h]; exact driveEnded_gone (faultEndCause c) x)
  have none : (faultReady c x).mtr.session = none := by
    rw [faultReady_rested h]
    exact endSession_session _ _
  rw [enterFault_eq] at events ⊢
  refine ended.later ?_ gone ?_ events
  · rw [enterSeq_mtr .fault none]
    exact none
  · rw [(enterSeq_keeps .fault _).2.2.2.1, faultReady_rested h]
    exact mst

/-! ## The plug goes with every relay open (R18) -/

/-- What a dead loss of plug leaves (R5, R18). -/
structure PlugGone (s t : State) : Prop where
  ident : t.psq.ident = none
  supervised : t.psq.contactorSup = false ∧ t.psq.prechargeSup = false
  ends : s.psq.seq ≠ .fault → s.psq.seq ≠ .unplugged → SessionEnded .unplugged s.psq.forced s t
  seq : t.psq.seq = if s.psq.seq = .fault ∨ s.psq.contactorFb = true then .fault else .unplugged
  weld : s.psq.seq ≠ .fault → s.psq.contactorFb = true → t.psq.faultCause = some .contactorWeld

theorem deadLoss_psq (s : State) (other : s.psq.seq ≠ .unplugged) : (deadLoss s).psq = leaveState .unplugged { s.psq with
    ident := none, prechargeTimer := false, contactorTimer := false, stopTimer := false, stopCause := none, forced := false
    start := none, isoReturn := none, cancelPending := false, cancelContactor := false } := by
  have psq : (forgetStop (stopTimers (dropPrefetched (endSession .unplugged s)))).psq = { s.psq with
      prechargeTimer := false, contactorTimer := false, stopTimer := false, stopCause := none, forced := false
      start := none, isoReturn := none, cancelPending := false, cancelContactor := false } := by
    show { (endSession .unplugged s).psq with
      prechargeTimer := false, contactorTimer := false, stopTimer := false, stopCause := none, forced := false
      start := none, isoReturn := none, cancelPending := false, cancelContactor := false } = _
    rw [show (endSession .unplugged s).psq = s.psq from congrArg (·.psq) (endSession_onlyChain .unplugged s)]
  unfold deadLoss
  rw [enterSeq_psq, identOnEntry_psq, psq]
  exact if_neg other

theorem deadLoss_ended (s : State) : SessionEnded .unplugged s.psq.forced s (deadLoss s) := by
  have none : (forgetStop (stopTimers (dropPrefetched (endSession .unplugged s)))).mtr.session = none := endSession_session _ _
  obtain ⟨-, off, joint, share, -⟩ := endSession_ended .unplugged s
  refine (endSession_ended .unplugged s).later ?_ (enterSeq_gone .unplugged ⟨off, joint, share⟩) ?_ fun e mem => ?_
  · unfold deadLoss
    rw [enterSeq_mtr .unplugged none]
    exact none
  · unfold deadLoss
    rw [(enterSeq_keeps .unplugged _).2.2.2.1]
    rfl
  · exact enterSeq_events .unplugged _ mem

/-- The loss before a weld is looked for. -/
structure PlugLeft (s t : State) : Prop where
  psq : t.psq.ident = none ∧ t.psq.contactorSup = false ∧ t.psq.prechargeSup = false ∧ t.psq.contactorCmd = false ∧
    t.psq.prechargeCmd = false ∧ t.psq.contactorFb = s.psq.contactorFb
  seq : t.psq.seq = if s.psq.seq = .fault then .fault else .unplugged
  ends : s.psq.seq ≠ .fault → s.psq.seq ≠ .unplugged → SessionEnded .unplugged s.psq.forced s t

section
variable (contactor : s.psq.contactorCmd = false) (precharge : s.psq.prechargeCmd = false)
  (unidentified : s.psq.seq = .unplugged → s.psq.ident = none)
include contactor precharge unidentified

theorem plugLost_left : PlugLeft s (plugLost (endSupervisions s)) := by
  unfold plugLost
  rw [if_neg (by rintro (on | on) <;> simp_all [endSupervisions])]
  split
  next fault =>
    have fault : s.psq.seq = .fault := fault
    exact ⟨⟨rfl, rfl, rfl, contactor, precharge, rfl⟩, fault.trans (if_pos fault).symm, fun other => absurd fault other⟩
  next unplugged =>
    have unplugged : s.psq.seq = .unplugged := unplugged
    refine ⟨⟨unidentified unplugged, rfl, rfl, contactor, precharge, rfl⟩, unplugged.trans ?_, fun _ other => absurd unplugged other⟩
    rw [unplugged]
    rfl
  next other away =>
    have psq := deadLoss_psq (endSupervisions s) away
    rw [leaveState_eq] at psq
    refine ⟨?_, ?_, fun _ _ => deadLoss_ended (endSupervisions s)⟩
    · rw [psq]
      exact ⟨rfl, rfl, rfl, contactor, precharge, rfl⟩
    · rw [psq, if_neg (show s.psq.seq ≠ .fault from other)]

theorem lossOfPlug_gone : PlugGone s (lossOfPlug s) := by
  obtain ⟨⟨ident, sup, sup', cmd, cmd', fb⟩, seq, ends⟩ := plugLost_left contactor precharge unidentified
  unfold lossOfPlug
  generalize plugLost (endSupervisions s) = x at *
  unfold weldAtOnce
  rw [fb, cmd, sup]
  by_cases fault : s.psq.seq = .fault
  · rw [if_pos fault] at seq
    rw [if_neg fun weld => weld.2.2.2 seq]
    exact ⟨ident, ⟨sup, sup'⟩, fun other => absurd fault other, seq.trans (if_pos (.inl fault)).symm, fun other => absurd fault other⟩
  · rw [if_neg fault] at seq
    have rested : Rested x := ⟨cmd, cmd', ⟨sup, sup'⟩, by rw [seq]; nofun, by rw [seq]; decide⟩
    split
    next weld =>
      have closed : s.psq.contactorFb = true := weld.1
      obtain ⟨in', cause, kept, off, off'⟩ := enterFault_rested_psq rested .contactorWeld
      exact ⟨kept.trans ident, ⟨off, off'⟩, fun a b => (ends a b).welded rested _, in'.trans (if_pos (.inr closed)).symm,
        fun _ _ => cause⟩
    next open' =>
      have opened : ¬ s.psq.contactorFb = true := fun fb => open' ⟨fb, nofun, nofun, by rw [seq]; decide⟩
      exact ⟨ident, ⟨sup, sup'⟩, ends, seq.trans (if_neg (by tauto)).symm, fun _ fb => absurd fb opened⟩

end

end Sys2Proof.Machine
end

section
/-! PROOF. A live loss of plug is a trip (R18 to R20, R99, R162, R164, log 71). -/

namespace Sys2Proof.Machine

variable {s t x : State}

/-! ## The end of a sweep led here (R162, R164) -/

/-- The line and the conditions stay where they are settled. -/
theorem refreshLine_still (held : LineHeld x) : refreshLine x = x := by
  unfold refreshLine
  rw [if_pos held.1.symm, updateFallback_settled held.2]

/-- An entry keeps the outcome of a sweep that has ended (R36, R166). -/
theorem enterSeq_outcome (q : SeqState) (home : x.imn.mode ≠ .measurer) : (enterSeq q x).imn.outcome = x.imn.outcome := by
  have ident : (identOnEntry q x).imn = x.imn := by rw [identOnEntry_frame]
  have set : (setSeq q (identOnEntry q x)).imn = x.imn := by rw [(setSeq_keeps _ _).2.2.2.2.1, ident]
  have moved : (enterSeq q x).imn = (lineMoved (setSeq q (identOnEntry q x))).imn :=
    congrArg (·.imn) (updateFallback_onlyChain _)
  rw [moved]
  generalize setSeq q (identOnEntry q x) = y at set
  unfold lineMoved
  split
  · rw [set]
  · rw [(changeLine_home (lineTarget y) (by rw [set]; exact home)).1, set]
    split <;> rfl

/-- A sweep that this station led has ended ABANDONED. -/
abbrev Abandoned (t : State) : Prop := t.imn.outcome = .abandoned ∧ .sweep ∈ t.cpt.events

theorem driveEnded_abandons (cause : EndCause) {r : LeaderRecord} (leads : x.imn.sweep = .leading r)
    (step : r.phase ≠ .ownStep) (measurer : x.imn.mode = .measurer) (cmd : x.psq.contactorCmd = true) :
    Abandoned (driveEnded cause x) ∧ (driveEnded cause x).imn.sweep = .none := by
  obtain ⟨-, -, psq, -, -, -, -, imn, -⟩ := clearEnable_keeps x
  have loses : LosesSweep (relaysCut (clearEnable x)) r := by
    refine ⟨?_, ?_, step⟩
    · show (clearEnable x).imn.mode = _
      rw [imn]
      exact measurer
    · show (clearEnable x).imn.sweep = _
      rw [imn]
      exact leads
  have events := fun e mem => (driveEnded_home cause x).2.2.1 e mem
  have opened := openRelays_eq (clearEnable x)
  rw [if_pos (by rw [psq]; exact cmd), contactorOpened_loses loses] at opened
  obtain ⟨⟨none, outcome, -, event⟩, -⟩ := endLeading_ended r .abandoned false (roleLeft (relaysCut (clearEnable x)))
  rw [← opened] at none outcome event
  unfold Abandoned
  rw [driveEnded_imn]
  exact ⟨⟨outcome, events _ event⟩, none⟩

theorem Abandoned.leaveTarget (h : Abandoned x) (none : x.imn.sweep = .none) (q : SeqState) : Abandoned (leaveTarget q x) := by
  unfold Machine.leaveTarget
  split
  · exact h
  · exact h
  · rw [leftSweep_other fun r leads => by cases none.symm.trans leads]
    exact h
  · exact h

theorem enterFault_abandons (cause : FaultCause) (home : HomeUnlessClosed x) {r : LeaderRecord} (leads : x.imn.sweep = .leading r)
    (ends : if r.phase = .ownStep then x.psq.seq.isolated = true else x.imn.mode = .measurer ∧ x.psq.contactorCmd = true) :
    Abandoned (enterFault cause x) := by
  have mode := faultReady_mode cause home
  have ready : Abandoned (leaveTarget x.psq.seq (driveEnded (faultEndCause cause) x)) := by
    split at ends
    next own =>
      obtain ⟨sweep, -⟩ := openRelays_ownStep (InOwnStep.cleared ⟨leads, own⟩)
      obtain ⟨⟨-, outcome, -, event⟩, -⟩ := endLeading_ended r .abandoned false (driveEnded (faultEndCause cause) x)
      rw [leaveTarget_isolated ends, leftSweep_own (driveEnded_unheld home _) ((congrArg (·.sweep) (driveEnded_imn _ x)).trans sweep) own]
      exact ⟨outcome, event⟩
    next step =>
      obtain ⟨abandoned, none⟩ := driveEnded_abandons (faultEndCause cause) leads step ends.1 ends.2
      exact abandoned.leaveTarget none _
  exact ⟨(enterSeq_outcome .fault (by rw [mode]; decide)).trans ready.1, enterSeq_events .fault _ ready.2⟩

/-! ## The trip (R18, R99) -/

theorem setTrip_lineHeld (c : TripCause) (faults : x.psq.seq.tripsToFault = true) : LineHeld (setTrip c x) := by
  have drive := latchSet_drive c x
  have held := refreshLine_settled (setSeq .fault (identOnEntry .fault (faultReady .trip (latchSet c x))))
  rw [setTrip_eq, tripTold_faults (by rw [drive.psq]; exact faults)]
  have entered : LineHeld (enterFault .trip (latchSet c x)) := held
  generalize enterFault .trip (latchSet c x) = y at entered
  exact entered

theorem DriveSafe.live (h : DriveSafe s) (live : s.psq.contactorCmd = true ∨ s.psq.prechargeCmd = true) :
    s.psq.seq.tripsToFault = true ∧ s.ptu.trip = none := by
  have energizes : s.psq.seq.energizes = true → s.psq.seq.tripsToFault = true := by
    cases s.psq.seq with
    | precharge => exact fun _ => rfl
    | sweepIsolated p => exact fun _ => rfl
    | _ => exact nofun
  have drives : s.psq.seq.drives = true → s.psq.seq.tripsToFault = true := by
    cases s.psq.seq with
    | active => exact fun _ => rfl
    | suspended => exact fun _ => rfl
    | stopping => exact fun _ => rfl
    | sweepIsolated p => exact fun _ => rfl
    | _ => exact nofun
  obtain ⟨-, ⟨-, closed, charged, -⟩, -⟩ := id h
  have trips : s.psq.seq.tripsToFault = true := live.elim (fun cmd => (closed cmd).elim drives energizes) fun cmd => energizes (charged cmd)
  refine ⟨trips, ?_⟩
  have off := h.untripped trips
  unfold tripped at off
  simpa using off

/-- A live loss in a safe part: the latch is set, and the sequencer is in FAULT (R18 to R20, R99). -/
theorem lossOfPlug_live (h : DriveSafe s) (live : s.psq.contactorCmd = true ∨ s.psq.prechargeCmd = true) :
    lossOfPlug (leveled .none s) = setTrip .plugLost (endSupervisions (leveled .none s)) ∧
      LineHeld (lossOfPlug (leveled .none s)) ∧ LiveLoss s (lossOfPlug (leveled .none s)) := by
  obtain ⟨faults, clear⟩ := h.live live
  have home : HomeUnlessClosed (endSupervisions (leveled .none s)) := h.home
  have asks : (endSupervisions (leveled .none s)).psq.query = true → (endSupervisions (leveled .none s)).psq.seq = .identifying := h.asks
  obtain ⟨trip, acts, -⟩ := setTrip_acts .plugLost home
  obtain ⟨taken, -⟩ := setTrip_faults .plugLost home asks faults
  have held := setTrip_lineHeld (x := endSupervisions (leveled .none s)) .plugLost faults
  have abandons : ∀ r, s.imn.sweep = .leading r →
      (if r.phase = .ownStep then s.psq.seq.isolated = true else s.imn.mode = .measurer ∧ s.psq.contactorCmd = true) →
      Abandoned (setTrip .plugLost (endSupervisions (leveled .none s))) := by
    intro r leads ends
    have drive := latchSet_drive .plugLost (endSupervisions (leveled .none s))
    have home' : HomeUnlessClosed (latchSet .plugLost (endSupervisions (leveled .none s))) := by
      unfold HomeUnlessClosed
      rw [drive.psq, drive.imn]
      exact home
    rw [setTrip_eq, tripTold_faults (by rw [drive.psq]; exact faults)]
    have done := enterFault_abandons .trip home' (r := r) (by rw [drive.imn]; exact leads) (by rw [drive.psq, drive.imn]; exact ends)
    generalize enterFault .trip _ = y at done
    exact done
  have lost : lossOfPlug (leveled .none s) = setTrip .plugLost (endSupervisions (leveled .none s)) := by
    have raised : plugLost (endSupervisions (leveled .none s)) = setTrip .plugLost (endSupervisions (leveled .none s)) :=
      (if_pos live).trans (raiseTrip_none clear)
    unfold lossOfPlug weldAtOnce
    rw [raised, if_neg fun weld => weld.2.2.2 taken.1]
  refine ⟨lost, ?_⟩
  rw [lost]
  generalize setTrip .plugLost (endSupervisions (leveled .none s)) = y at *
  exact ⟨held, trip, acts, taken, abandons⟩

end Sys2Proof.Machine
end

section
/-! PROOF. A loss of plug (R5, R18, R36, R37, R51, R99, R166). -/

namespace Sys2Proof.Machine

variable {s t x : State} {v : Nat}

/-! ## The latch holds PLUG_LOST (R18, R99) -/

theorem leaveTarget_trip (q : SeqState) (x : State) : (leaveTarget q x).ptu.trip = x.ptu.trip := by
  have left : (leftSweep x).ptu.trip = x.ptu.trip := by
    obtain ⟨r, leads, own⟩ | other := inOwnStep_cases x
    · unfold leftSweep
      rw [leads]
      dsimp only
      rw [if_pos own]
      exact congrArg (·.2.2.2) ((checkSweepStart_rest _).trans (endLeading_rest r .abandoned false x))
    · rw [leftSweep_other other]
      rfl
  unfold leaveTarget
  split
  · rfl
  · rfl
  · exact left
  · rfl

theorem StagesKept.trip (h : StagesKept s t) : t.ptu.trip = s.ptu.trip := by rw [h]

theorem enterFault_trip (c : FaultCause) (x : State) : (enterFault c x).ptu.trip = x.ptu.trip := by
  rw [enterFault_eq]
  refine (enterSeq_stages .fault _).trip.trans ?_
  refine (leaveTarget_trip x.psq.seq (driveEnded (faultEndCause c) x)).trans ?_
  exact (driveEnded_stages (faultEndCause c) x).trip.trans (clearEnable_trip x)

theorem weldAtOnce_trip (x : State) : (weldAtOnce x).ptu.trip = x.ptu.trip := by
  unfold weldAtOnce
  split
  · exact enterFault_trip ..
  · rfl

theorem setTrip_trip (c : TripCause) (x : State) : (setTrip c x).ptu.trip = some ⟨c, []⟩ := by
  have set : (latchSet c x).ptu.trip = some ⟨c, []⟩ := clearEnable_trip _
  rw [setTrip_eq]
  show (tripTold (latchSet c x)).ptu.trip = _
  unfold tripTold onlyIf
  split
  · rw [enterFault_trip]
    exact set
  · exact set

theorem raiseTrip_holds (c : TripCause) (x : State) : LatchHolds c (raiseTrip c x) := by
  unfold LatchHolds
  cases latch : x.ptu.trip with
  | none =>
    rw [raiseTrip_none latch, setTrip_trip]
    simp [TripLatch.holds]
  | some l =>
    rw [raiseTrip_some latch]
    have held : (l.add c).holds c = true := by
      unfold TripLatch.holds
      rw [TripLatch.add_first, Bool.or_eq_true, beq_iff_eq, List.contains_iff_mem, TripLatch.mem_add]
      tauto
    exact congrArg some held

/-! ## The loss (R18) -/

theorem refreshLine_closed (closed : x.mtr.session = none) : (refreshLine x).mtr.session = none := by
  have mtr : (lineMoved x).mtr = x.mtr := congrArg (·.mtr) (lineMoved_frame x)
  rw [refreshLine_eq, updateFallback_mtr (by rw [mtr]; exact closed), mtr]
  exact closed

theorem SessionEnded.refreshed {cause : EndCause} {forced : Bool} (h : SessionEnded cause forced s x) :
    SessionEnded cause forced s (refreshLine x) := by
  obtain ⟨closed, off, joint, share, -⟩ := id h
  exact h.later (refreshLine_closed closed) (refreshLine_gone ⟨off, joint, share⟩) (refreshLine_keeps x).2.2.2.2.1
    fun _ mem => refreshLine_events x mem

/-- A loss of plug with a relay commanded closed. -/
theorem lossOfPlug_trips (live : s.psq.contactorCmd = true ∨ s.psq.prechargeCmd = true) :
    LatchHolds .plugLost (refreshLine (lossOfPlug (leveled .none s))) ∧
      (DriveSafe s → LiveLoss s (refreshLine (lossOfPlug (leveled .none s)))) := by
  constructor
  · unfold LatchHolds lossOfPlug plugLost
    rw [(refreshLine_stages _).trip, weldAtOnce_trip, if_pos (by exact live)]
    exact raiseTrip_holds ..
  · intro drive
    obtain ⟨-, held, lost⟩ := lossOfPlug_live drive live
    rw [refreshLine_still held]
    exact lost

/-- A loss of plug takes the line to OFFLINE, and is a trip, or ends what was plugged in. -/
theorem takeProximity_lost (settled : LineSettled s) (due : settleDue s = false) (high : 3500 ≤ v) (some : s.psq.prox ≠ .none) :
    (takeProximity v s).fli.line = .offline ∧
    (s.fli.line ≠ .offline → OfflineEntered s (takeProximity v s)) ∧
    if s.psq.contactorCmd = true ∨ s.psq.prechargeCmd = true then
      LatchHolds .plugLost (takeProximity v s) ∧ (DriveSafe s → LiveLoss s (takeProximity v s))
    else PlugGone s (takeProximity v s) := by
  rw [takeProximity_none due high, if_neg some]
  have out := (unplugs_leveled s).lossOfPlug
  refine ⟨out.refreshed, fun was => out.refreshLine.off was out.refreshed, ?_⟩
  split
  next live => exact lossOfPlug_trips live
  next dead =>
    have unidentified : (leveled .none s).psq.seq = .unplugged → (leveled .none s).psq.ident = none := fun is =>
      settled.2.2 (.inl is)
    obtain ⟨ident, supervised, ends, seq, weld⟩ := lossOfPlug_gone (s := leveled .none s)
      (by simpa using fun on => dead (.inl on)) (by simpa using fun on => dead (.inr on)) unidentified
    have psq := (refreshLine_keeps (lossOfPlug (leveled .none s))).2.2.1
    refine ⟨?_, ?_, fun a b => (ends a b).refreshed, ?_, ?_⟩
    · rw [psq]
      exact ident
    · rw [psq]
      exact supervised
    · rw [psq]
      exact seq
    · rw [psq]
      exact weld

end Sys2Proof.Machine
end

section
/-! PROOF. The release button and the end of plug settling (R3, R13, R14, R17, R24, R160). -/

namespace Sys2Proof.Machine

variable {s t x : State} {v : Nat}

/-! ## The release button (R17, R24) -/

/-- A press of the release button leaves the line as it was decided (R2, R36). -/
theorem leveled_settled (settled : LineSettled s) (was : s.psq.prox = .latched) : LineSettled (leveled .release s) := by
  have off : lineOff (leveled .release s) = lineOff s := by
    unfold lineOff
    rw [was]
    rfl
  have target : lineTarget (leveled .release s) = lineTarget s := by
    unfold lineTarget
    rw [off]
    rfl
  obtain ⟨line, conds, ident⟩ := settled
  exact ⟨line.trans target.symm, conds, ident⟩

theorem LineSettled.held (h : LineSettled s) : LineHeld s := ⟨h.1, h.2.1⟩

theorem takeProximity_pressed (due : settleDue s = false) (low : 2000 ≤ v) (high : v < 3500) (was : s.psq.prox = .latched)
    (unplugged : s.psq.seq ≠ .unplugged) (settles : s.psq.seq ≠ .plugSettle) :
    takeProximity v s = refreshLine (releaseButton (leveled .release s)) := by
  rw [takeProximity_release due low high, was]
  dsimp only
  rw [detectPlug_other (s := leveled .release s) unplugged settles]

/-- In ACTIVE and SUSPENDED the button stops the charge (R13, R14, R17). -/
theorem pressed_charging (settled : LineSettled s) (charging : s.psq.seq = .active ∨ s.psq.seq = .suspended) :
    OnlyChain (stopBegun .released s) (refreshLine (releaseButton s)) := by
  have button : releaseButton s = stopRequest .released s := by
    unfold releaseButton
    obtain h | h := charging <;> rw [h]
  have held : LineHeld (startStop .released s) := refreshLine_settled _
  rw [button, stopRequest_charging _ charging, refreshLine_still held]
  exact startStop_onlyChain _ settled charging

theorem releaseButton_isolated (isolated : s.psq.seq.isolated = true) : releaseButton s =
    if s.psq.stopCause.isSome = true then s else recordIsolatedStop .released s := by
  unfold releaseButton stopRequest
  cases seq : s.psq.seq with
  | sweepIsolated p => rfl
  | _ =>
    rw [seq] at isolated
    cases isolated

/-- A stop that completes as it is recorded queues LEAVE (R14, R24). -/
theorem isolatedStop_leave (recorded : x.psq.stopCause = some .released) (line : x.fli.line = lineTarget x)
    (isolated : x.psq.seq.isolated = true) (home : x.psq.seq.energizes = true → x.imn.mode = .localMode)
    (identified : (isolatedStop x).psq.seq = .identified) : QueuedOwn .leave x (isolatedStop x) := by
  unfold isolatedStop at identified ⊢
  cases phase : x.psq.seq with
  | sweepIsolated p =>
    rw [phase] at identified
    cases p with
    | isoRamp => cases phase.symm.trans identified
    | isoOpen => cases phase.symm.trans identified
    | isoWait =>
      obtain ⟨-, -, -, -, -, -, -, leave, -⟩ := (finishStop_done line (.inr isolated) recorded).1
      exact leave rfl
    | isoRejoin =>
      dsimp only at identified ⊢
      have away := home (by rw [phase]; rfl)
      rw [rejoinCut_eq away, rejoinStopped_cases (s := rejoinCut x) phase (by show x.psq.stopCause.isSome = true; rw [recorded]; rfl)]
        at identified ⊢
      split at identified
      next both =>
        rw [if_pos both]
        obtain ⟨-, -, -, -, -, -, -, leave, -⟩ := (finishStop_done (s := rejoinCut x) line (.inr isolated) recorded).1
        exact leave rfl
      next => cases phase.symm.trans identified
  | _ =>
    rw [phase] at isolated
    cases isolated

/-- Without a sweep led here the target's part goes, and the line stays (R160). -/
theorem stopRecorded_quiet (cause : EndCause) (quiet : ∀ r, s.imn.sweep ≠ .leading r) :
    (stopRecorded cause s).fli = s.fli ∧ (stopRecorded cause s).cfg = s.cfg ∧ (stopRecorded cause s).imn.mode = s.imn.mode := by
  unfold stopRecorded
  cases s.psq.stopCause.isNone with
  | false => exact ⟨rfl, rfl, rfl⟩
  | true =>
    rw [onlyIf_true, leftSweep_other (s := { s with psq := recordedPsq cause s.psq }) fun r leads => absurd leads (quiet r)]
    exact ⟨rfl, rfl, rfl⟩

theorem recordIsolatedStop_leave (drive : DriveSafe s) (settled : LineSettled s) (isolated : s.psq.seq.isolated = true)
    (quiet : ∀ r, s.imn.sweep ≠ .leading r) (identified : (recordIsolatedStop .released s).psq.seq = .identified) :
    QueuedOwn .leave s (recordIsolatedStop .released s) := by
  have leaves := drive.leaves isolated
  have psq := stopRecorded_psq .released leaves
  have line := (stopRecorded_frame .released leaves).line settled.1
  obtain ⟨fli, cfg, mode⟩ := stopRecorded_quiet .released quiet
  rw [recordIsolatedStop_eq] at identified ⊢
  generalize stopRecorded .released s = u at *
  have home : u.psq.seq.energizes = true → u.imn.mode = .localMode := by
    rw [psq, mode]
    exact drive.2.2.1.2.2.2.2.2.2.2
  have leave := isolatedStop_leave (by rw [psq]) line (by rw [psq]; exact isolated) home identified
  exact leave.congr fli.symm cfg.symm (by rw [psq]) rfl

/-- In a sweep isolation the button records a stop, once (R17, R24). -/
theorem pressed_isolated (drive : DriveSafe s) (settled : LineSettled s) (isolated : s.psq.seq.isolated = true) :
    if s.psq.stopCause ≠ none then refreshLine (releaseButton s) = s
    else
      (refreshLine (releaseButton s)).imn.target = none ∧ (refreshLine (releaseButton s)).imn.pendingRelease = false ∧
      IsolatedStop .released false s (refreshLine (releaseButton s)) ∧
      ((refreshLine (releaseButton s)).psq.seq = .identified → (∀ r, s.imn.sweep ≠ .leading r) →
        QueuedOwn .leave s (refreshLine (releaseButton s))) := by
  rw [releaseButton_isolated isolated]
  split
  next recorded =>
    rw [if_pos (Option.isSome_iff_ne_none.2 recorded), refreshLine_still settled.held]
  next first =>
    have none : s.psq.stopCause = none := by simpa using first
    have held : LineHeld (recordIsolatedStop .released s) :=
      ((Sound.refl (line := True) True s fun _ => settled.held).recordIsolatedStop .released).settled trivial
    rw [none, if_neg (by simp), refreshLine_still held]
    obtain ⟨stop, gone⟩ := recordIsolatedStop_stop .released drive settled.1 isolated
    rw [none] at stop
    obtain ⟨target, pending, -⟩ := gone none
    refine ⟨target, pending, ?_, fun identified quiet => recordIsolatedStop_leave drive settled isolated quiet identified⟩
    rw [show (s.psq.forced && (Option.none : Option EndCause).isSome) = false from Bool.and_false _] at stop
    exact stop

/-- In the other states the button queues LEAVE (R17). -/
theorem pressed_elsewhere (settled : LineSettled s) (button : releaseButton s = enqueue .leave s) :
    refreshLine (releaseButton s) = { s with fli.queue := (refreshLine (releaseButton s)).fli.queue } ∧
      QueuedOwn .leave s (refreshLine (releaseButton s)) := by
  have held : LineHeld (enqueue .leave s) := by
    rw [enqueue_eq]
    exact settled.held
  rw [button, refreshLine_still held]
  exact ⟨by rw [enqueue_eq], enqueue_queued rfl⟩

/-! ## The end of plug settling (R3) -/

theorem settleDue_iff : settleDue s = true ↔ s.psq.seq = .plugSettle ∧ s.psq.prox = .latched ∧ 100 ≤ s.psq.settleMs := by
  simp [settleDue, and_assoc]

theorem enterPlugged_psq (settles : s.psq.seq = .plugSettle) :
    (enterSeq .plugged s).psq = { s.psq with seq := .plugged, ident := none, batteryLow := false } := by
  have seq : s.psq.seq ≠ .plugged := by rw [settles]; decide
  have other : s.psq.seq ≠ .identifying := by rw [settles]; decide
  rw [enterSeq_psq, identOnEntry_psq]
  refine (if_neg seq).trans ?_
  rw [leaveState_psq (by exact other)]
  simp

theorem enterPlugged_line (settles : s.psq.seq = .plugSettle) (latched : s.psq.prox = .latched) :
    (enterSeq .plugged s).fli.line = if s.fli.silentTimer = true then .silent else .listen := by
  have psq : (setSeq .plugged (identOnEntry .plugged s)).psq = { s.psq with seq := .plugged, ident := none, batteryLow := false } :=
    (refreshLine_keeps _).2.2.1.symm.trans (enterPlugged_psq settles)
  have fli : (setSeq .plugged (identOnEntry .plugged s)).fli = { s.fli with foreignReported := false } := (setSeq_keeps _ _).2.2.1
  have entered : enterSeq .plugged s = refreshLine (setSeq .plugged (identOnEntry .plugged s)) := rfl
  rw [entered]
  generalize setSeq .plugged (identOnEntry .plugged s) = y at psq fli ⊢
  have on : lineOff y = false := by
    unfold lineOff
    rw [psq, latched]
    rfl
  rw [(refreshLine_flags on).2.2]
  unfold lineTarget lineListens heldFeeder
  rw [on, psq, fli]
  simp

theorem enterSeq_table (q : SeqState) (s : State) : (enterSeq q s).mtr.table = s.mtr.table := by
  have moved : (lineMoved (setSeq q (identOnEntry q s))).mtr = s.mtr := by
    refine (congrArg (·.mtr) (lineMoved_frame _)).trans ((setSeq_keeps _ _).2.2.2.2.2.1.trans ?_)
    rw [identOnEntry_frame]
  have entered : enterSeq q s = updateFallback (lineMoved (setSeq q (identOnEntry q s))) := rfl
  rw [entered, updateFallback_mtr', judgedMtr_table, moved]

/-- PLUG_SETTLE becomes PLUGGED (R3). -/
theorem plugSettled_plugged (due : s.psq.seq = .plugSettle ∧ s.psq.prox = .latched ∧ 100 ≤ s.psq.settleMs) :
    (plugSettled s).psq = { s.psq with seq := .plugged, ident := none, batteryLow := false } ∧
      .plug ∈ (plugSettled s).cpt.events ∧ .seqState ∈ (plugSettled s).cpt.events ∧
      (plugSettled s).fli.line = (if s.fli.silentTimer = true then .silent else .listen) ∧
      (plugSettled s).mtr.table = s.mtr.table ∧ (plugSettled s).mst = s.mst ∧ (plugSettled s).msq = s.msq ∧
      (plugSettled s).cfg = s.cfg := by
  have entered : plugSettled s = raiseEvent .plug (enterSeq .plugged s) := if_pos (settleDue_iff.2 due)
  obtain ⟨settles, latched, -⟩ := due
  obtain ⟨-, cfg, msq, mst, -⟩ := enterSeq_keeps .plugged s
  have raised := enterSeq_raised (q := .plugged) (s := s) (by rw [settles]; decide)
  rw [entered]
  exact ⟨enterPlugged_psq settles, raised_mem .., mem_raiseEvent _ raised, enterPlugged_line settles latched, enterSeq_table .plugged s,
    mst, msq, cfg⟩

/-! ## The obligation -/

/-- A loss in UNPLUGGED moves the sequencer where it finds a weld alone (R5, log 12). -/
theorem lossOfPlug_unplugged (unplugged : s.psq.seq = .unplugged) : (lossOfPlug s).psq.seq =
    if s.psq.contactorFb = true ∧ s.psq.contactorCmd = false then .fault else .unplugged := by
  have raised (c : TripCause) : (raiseTrip c (endSupervisions s)).psq = (endSupervisions s).psq := by
    cases latch : (endSupervisions s).ptu.trip with
    | none =>
      rw [raiseTrip_none latch]
      exact (setTrip_stays c (by show s.psq.seq.tripsToFault = false; rw [unplugged]; rfl)).1
    | some l => rw [raiseTrip_some latch]
  have psq : (plugLost (endSupervisions s)).psq = (endSupervisions s).psq := by
    unfold plugLost
    split
    · exact raised _
    · rw [show (endSupervisions s).psq.seq = _ from unplugged]
  unfold lossOfPlug weldAtOnce
  rw [psq]
  by_cases weld : s.psq.contactorFb = true ∧ s.psq.contactorCmd = false
  · rw [if_pos weld, if_pos ⟨weld.1, by rw [show (endSupervisions s).psq.contactorCmd = _ from weld.2]; decide, nofun,
      by rw [show (endSupervisions s).psq.seq = _ from unplugged]; decide⟩]
    exact enterSeq_seq _ _
  · rw [if_neg weld, if_neg fun h => weld ⟨h.1, Bool.eq_false_iff.2 h.2.1⟩, psq]
    exact unplugged

/-- UNPLUGGED follows a level that is no loss, and a weld at a loss (R3, R5). -/
theorem takeProximity_fromUnplugged (due : settleDue s = false) (unplugged : s.psq.seq = .unplugged) : (takeProximity v s).psq.seq =
    if v < 2000 ∧ s.psq.prox ≠ .latched then .plugSettle
    else if 3500 ≤ v ∧ s.psq.prox ≠ .none ∧ s.psq.contactorFb = true ∧ s.psq.contactorCmd = false then .fault
    else .unplugged := by
  by_cases in' : v < 3500
  · rw [takeProximity_unplugged due unplugged in', if_neg (c := 3500 ≤ v ∧ _) (by omega)]
  · rw [if_neg (by omega), takeProximity_none due (by omega)]
    split
    next out => rw [if_neg fun lost => lost.2.1 out]; exact unplugged
    next some =>
      have same : (if 3500 ≤ v ∧ s.psq.prox ≠ .none ∧ s.psq.contactorFb = true ∧ s.psq.contactorCmd = false
          then SeqState.fault else .unplugged) =
          if s.psq.contactorFb = true ∧ s.psq.contactorCmd = false then .fault else .unplugged := by
        refine if_congr ⟨fun h => h.2.2, fun h => ⟨by omega, some, h⟩⟩ rfl rfl
      rw [same, (refreshLine_keeps _).2.2.1]
      exact lossOfPlug_unplugged (s := leveled .none s) unplugged

section
variable (settled : LineSettled s) (due : settleDue s = false)
include settled due

/-- PLUG_SETTLE follows the level (R3, R5, R18). -/
theorem takeProximity_fromSettling (settles : s.psq.seq = .plugSettle) (contactor : s.psq.contactorCmd = false)
    (precharge : s.psq.prechargeCmd = false) : (takeProximity v s).psq.seq =
    if v < 3500 ∨ s.psq.prox = .none then .plugSettle else if s.psq.contactorFb = true then .fault else .unplugged := by
  by_cases in' : v < 3500
  · rw [takeProximity_settling due settles in']
    exact settles.trans (if_pos (.inl in')).symm
  · by_cases out : s.psq.prox = .none
    · rw [takeProximity_none due (by omega), if_pos out]
      exact settles.trans (if_pos (.inr out)).symm
    · obtain ⟨-, -, lost⟩ := takeProximity_lost (v := v) settled due (by omega) out
      rw [if_neg (by simp [contactor, precharge])] at lost
      have kept : ¬ (v < 3500 ∨ s.psq.prox = .none) := by tauto
      have found : s.psq.seq = .fault ∨ s.psq.contactorFb = true ↔ s.psq.contactorFb = true := by
        rw [settles]
        simp
      rw [lost.seq, if_neg kept]
      exact if_congr found rfl rfl

/-- A loss of plug as R18 says it. -/
theorem takeProximity_plugOut (high : 3500 ≤ v) (was : s.psq.prox ≠ .none) :
    (takeProximity v s).fli.line = .offline ∧
    (s.fli.line ≠ .offline → OfflineEntered s (takeProximity v s)) ∧
    if s.psq.contactorCmd = true ∨ s.psq.prechargeCmd = true then
      LatchHolds .plugLost (takeProximity v s) ∧ (DriveSafe s → LiveLoss s (takeProximity v s))
    else
      (takeProximity v s).psq.contactorSup = false ∧ (takeProximity v s).psq.prechargeSup = false ∧
      if s.psq.seq = .fault then
        (takeProximity v s).psq.seq = .fault ∧ (takeProximity v s).psq.ident = none
      else
        (takeProximity v s).psq.ident = none ∧
        (s.psq.seq ≠ .unplugged → SessionEnded .unplugged s.psq.forced s (takeProximity v s)) ∧
        if s.psq.contactorFb = true then
          (takeProximity v s).psq.seq = .fault ∧ (takeProximity v s).psq.faultCause = some .contactorWeld
        else (takeProximity v s).psq.seq = .unplugged := by
  obtain ⟨offline, entered, lost⟩ := takeProximity_lost settled due high was
  refine ⟨offline, entered, ?_⟩
  split at lost
  next live => rw [if_pos live]; exact lost
  next dead =>
    rw [if_neg dead]
    obtain ⟨ident, ⟨sup, sup'⟩, ends, seq, weld⟩ := lost
    refine ⟨sup, sup', ?_⟩
    split
    next fault => exact ⟨seq.trans (if_pos (.inl fault)), ident⟩
    next other =>
      refine ⟨ident, ends other, ?_⟩
      split
      next closed => exact ⟨seq.trans (if_pos (.inr closed)), weld other closed⟩
      next opened => exact seq.trans (if_neg (by tauto))

end

/-- Settles O21: the level, plug detection, the release button, a loss of plug, and the end of plug settling. -/
theorem proximityMovesPlugDetection : Obligations.ProximityMovesPlugDetection := by
  intro s v settled
  refine ⟨fun due => ⟨takeProximity_prox due, takeProximity_fromUnplugged due,
    fun settles contactor precharge => ⟨takeProximity_fromSettling settled due settles contactor precharge, fun low => ?_, fun low high => ?_⟩,
    fun low high was drive => ?_, takeProximity_plugOut settled due⟩, fun running => ?_⟩
  · rw [takeProximity_settling due settles (by omega), if_pos low]
    exact if_pos low
  · rw [takeProximity_settling due settles high]
    exact if_neg (by omega)
  · have settledNow := leveled_settled settled was
    have driveNow : DriveSafe (leveled .release s) := drive
    have press := takeProximity_pressed due low high was
    cases seq : s.psq.seq with
    | unplugged => trivial
    | plugSettle => trivial
    | active =>
      rw [press (by rw [seq]; decide) (by rw [seq]; decide)]
      exact pressed_charging settledNow (.inl seq)
    | suspended =>
      rw [press (by rw [seq]; decide) (by rw [seq]; decide)]
      exact pressed_charging settledNow (.inr seq)
    | sweepIsolated p =>
      dsimp only
      rw [press (by rw [seq]; nofun) (by rw [seq]; nofun)]
      exact pressed_isolated driveNow settledNow (by show s.psq.seq.isolated = true; rw [seq]; rfl)
    | _ =>
      dsimp only
      rw [press (by rw [seq]; decide) (by rw [seq]; decide)]
      exact pressed_elsewhere settledNow (by unfold releaseButton; rw [show (leveled .release s).psq.seq = _ from seq])
  · have row : exec .plugSettleComplete s = .next (plugSettled s) := whenRunning_running running
    rw [row]
    split
    next ripe => exact ⟨_, rfl, plugSettled_plugged ripe⟩
    next early =>
      have still : plugSettled s = s := if_neg (mt settleDue_iff.1 early)
      rw [still]

end Sys2Proof.Machine
end

section
/-! PROOF. Every change of the sequencer's state or phase raises SEQ_STATE: its own operations and the sweep's (R1, R8, R13, R14,
R22, R24, R154 to R162). -/

namespace Sys2Proof.Machine

variable {r s t : State}

/-! ## The event of a change (R1) -/

/-- Between `r` and `s` the sequencer has not moved without its event. -/
def Raised (r s : State) : Prop := s.psq.seq ≠ r.psq.seq → .seqState ∈ s.cpt.events

theorem Raised.refl (s : State) : Raised s s := fun moved => absurd rfl moved

theorem Raised.told (event : .seqState ∈ s.cpt.events) : Raised r s := fun _ => event

/-- An operation leaves the sequencer where it is, and the events it finds. -/
theorem Raised.still (h : Raised r s) (seq : t.psq.seq = s.psq.seq)
    (events : EventKind.seqState ∈ s.cpt.events → .seqState ∈ t.cpt.events) : Raised r t :=
  fun moved => events (h (seq ▸ moved))

theorem Raised.kept (h : Raised r s) (psq : t.psq = s.psq)
    (events : EventKind.seqState ∈ s.cpt.events → .seqState ∈ t.cpt.events) : Raised r t :=
  h.still (congrArg Psq.seq psq) events

theorem Raised.plain (h : Raised r s) (e : (t.psq.seq, t.cpt.events) = (s.psq.seq, s.cpt.events)) : Raised r t :=
  h.still (Prod.mk.inj e).1 fun mem => (Prod.mk.inj e).2 ▸ mem

theorem Raised.quiet (h : Raised r s) (psq : t.psq = s.psq) (cpt : t.cpt = s.cpt) : Raised r t :=
  h.plain (by rw [psq, cpt])

theorem Raised.onlyIf (c : Bool) {f : State → State} (h : Raised r s) (k : Raised r (f s)) : Raised r (onlyIf c f s) :=
  onlyIf_ind (P := Raised r) c h k

theorem Raised.raiseEvent (h : Raised r s) (k : EventKind) : Raised r (raiseEvent k s) := h.kept rfl (mem_raiseEvent k)

theorem Raised.enqueue (h : Raised r s) (b : FrameBody) : Raised r (enqueue b s) := h.quiet (by simp) (by simp)

/-! ## The sequencer's state and phase (R1, R8, R44) -/

theorem Raised.setSeq (h : Raised r s) (q : SeqState) : Raised r (setSeq q s) := by
  by_cases there : s.psq.seq = q
  · rw [Machine.setSeq, if_pos there]
    exact h
  · exact .told (setSeq_raised there)

theorem Raised.identOnEntry (h : Raised r s) (q : SeqState) : Raised r (identOnEntry q s) :=
  h.still (identOnEntry_seq q s) fun mem => by rw [show (Machine.identOnEntry q s).cpt = s.cpt by simp]; exact mem

theorem Raised.refreshLine (h : Raised r s) : Raised r (refreshLine s) := h.kept (by simp) (refreshLine_events s)

theorem Raised.enterSeq (h : Raised r s) (q : SeqState) : Raised r (enterSeq q s) := ((h.identOnEntry q).setSeq q).refreshLine

theorem setPhase_raised (r : State) (p : IsoPhase) (s : State) : Raised r (setPhase p s) := .told (raised_mem ..)

theorem Raised.takeRelease (h : Raised r s) : Raised r (takeRelease s) := by
  unfold Machine.takeRelease
  split
  · exact setPhase_raised _ _ _
  · exact h

/-! ## What a stop and FAULT give up (R4, R5, R16, R52, R97, R98) -/

theorem Raised.clearEnable (h : Raised r s) : Raised r (clearEnable s) := h.quiet (by simp) (by simp)

theorem Raised.openRelays (h : Raised r s) : Raised r (openRelays s) :=
  h.still (by rw [openRelays_psq]) (openRelays_events s)

theorem Raised.stopTimers (h : Raised r s) : Raised r (stopTimers s) := h.plain rfl

theorem Raised.forgetStop (h : Raised r s) : Raised r (forgetStop s) := h.plain rfl

theorem Raised.dropPrefetched (h : Raised r s) : Raised r (dropPrefetched s) := h.quiet (by simp) (by simp)

theorem Raised.endSession (h : Raised r s) (cause : EndCause) : Raised r (endSession cause s) :=
  h.kept (by simp) (endSession_events cause s)

theorem Raised.clearTarget (h : Raised r s) : Raised r (clearTarget s) := h.plain rfl

theorem Raised.startCycle (h : Raised r s) : Raised r (startCycle s) := h.plain rfl

/-! ## The steps of a sweep (R154, R156, R162) -/

theorem Raised.enterIsolation (h : Raised r s) (ret : ReturnState) : Raised r (enterIsolation ret s) := by
  refine Raised.setSeq ?_ _
  exact h.plain rfl

theorem Raised.reportTarget (h : Raised r s) : Raised r (reportTarget s) := h.quiet (by simp) (by simp)

theorem Raised.endLeading (h : Raised r s) (l : LeaderRecord) (o : SweepOutcome) (hold : Bool) :
    Raised r (endLeading l o hold s) := h.kept (by simp) (endLeading_events l o hold s)

theorem Raised.ownNotFound (h : Raised r s) (l : LeaderRecord) : Raised r (ownNotFound l s) :=
  (h.endLeading l _ _).takeRelease

theorem Raised.startOwnStep (h : Raised r s) (l : LeaderRecord) : Raised r (startOwnStep l s) := by
  unfold Machine.startOwnStep
  dsimp only
  have led : Raised r { s with imn.sweep := .leading { l with
      phase := .ownStep, answerTimer := false, cycleTimer := false, ownResults := 0 } } := h.plain rfl
  have told := (led.enqueue (.sweepStep (BitVec.ofNat 8 s.cfg.station) (BitVec.ofNat 8 l.index))).raiseEvent .sweep
  split
  · refine Raised.reportTarget (Raised.enterIsolation ?_ _)
    exact told.plain rfl
  · exact told.ownNotFound _

theorem Raised.startStep (h : Raised r s) (l : LeaderRecord) : Raised r (startStep l s) := by
  unfold Machine.startStep
  split
  · exact h.startOwnStep l
  · refine (Raised.enqueue ?_ _).raiseEvent _
    exact h.plain rfl

theorem Raised.nextStep (h : Raised r s) (l : LeaderRecord) : Raised r (nextStep l s) := h.startStep _

theorem Raised.checkSweepStart (h : Raised r s) : Raised r (checkSweepStart s) := by
  refine h.onlyIf _ (Raised.startStep (Raised.raiseEvent (Raised.enqueue ?_ _) _) _)
  exact h.plain rfl

theorem Raised.leftSweep (h : Raised r s) : Raised r (leftSweep s) := by
  unfold Machine.leftSweep
  split
  · split
    · exact (h.endLeading _ _ _).checkSweepStart
    · exact h.clearTarget
  · exact h.clearTarget

theorem Raised.leaveTarget (h : Raised r s) (q : SeqState) : Raised r (leaveTarget q s) := by
  unfold Machine.leaveTarget
  split
  · exact h.clearTarget
  · exact h.clearTarget
  · exact h.leftSweep
  · exact h

/-! ## FAULT and trips (R5, R19, R20, R99) -/

theorem Raised.enterFault (h : Raised r s) (cause : FaultCause) : Raised r (enterFault cause s) := by
  have given := (((h.clearEnable.openRelays.stopTimers.endSession (faultEndCause cause)).leaveTarget
    s.psq.seq).dropPrefetched).forgetStop
  refine Raised.enterSeq ?_ .fault
  exact given.plain rfl

theorem Raised.weldAtOnce (h : Raised r s) : Raised r (weldAtOnce s) := by
  unfold Machine.weldAtOnce
  split
  · exact h.enterFault _
  · exact h

theorem Raised.tripTold (h : Raised r s) : Raised r (tripTold s) := h.onlyIf _ (h.enterFault _)

theorem Raised.heaterTripped (h : Raised r s) : Raised r (heaterTripped s) := h.quiet (by simp) (by simp)

theorem Raised.raiseTrip (h : Raised r s) (c : TripCause) : Raised r (raiseTrip c s) := by
  unfold Machine.raiseTrip
  split
  · have latched : Raised r { s with ptu.trip := some ⟨c, []⟩ } := h.plain rfl
    exact (latched.clearEnable.raiseEvent .trip).tripTold.heaterTripped
  · exact h.plain rfl

/-! ## Stops (R13, R14, R22, R24) -/

theorem Raised.finishStop (h : Raised r s) : Raised r (finishStop s) := by
  have quiet : Raised r { s with imn.pendingRelease := false } := h.plain rfl
  have stopped := (quiet.endSession (s.psq.stopCause.getD .hostStop)).stopTimers.forgetStop.enterSeq .identified
  exact Raised.onlyIf _ stopped (stopped.enqueue _)

theorem Raised.isolationReached (h : Raised r s) : Raised r (isolationReached s) := by
  unfold Machine.isolationReached
  split
  · refine Raised.takeRelease ?_
    exact h.plain rfl
  · split
    · exact h.plain rfl
    · refine Raised.startCycle (Raised.enqueue ?_ _)
      exact h.plain rfl
    · exact h

theorem Raised.contactorReadsOpen (h : Raised r s) : Raised r (contactorReadsOpen s) := by
  unfold Machine.contactorReadsOpen
  split
  · exact h
  · split
    · exact h.finishStop
    · unfold isolationOpen
      split
      · exact h.finishStop
      · exact (setPhase_raised _ _ _).isolationReached
    · exact h

theorem Raised.openContactor (h : Raised r s) : Raised r (openContactor s) :=
  h.still (by rw [openContactor_psq]) (openContactor_events s)

theorem Raised.rampDown (h : Raised r s) (expired : Bool) : Raised r (rampDown expired s) := by
  unfold Machine.rampDown
  split
  · split
    · refine Raised.contactorReadsOpen (Raised.openContactor (Raised.clearEnable ?_))
      exact h.plain rfl
    · exact h
  · exact (setPhase_raised _ _ _).contactorReadsOpen
  · exact h

theorem Raised.rejoinStopped (h : Raised r s) : Raised r (rejoinStopped s) := by
  unfold Machine.rejoinStopped
  split
  · exact h.finishStop
  · exact h

theorem Raised.isolatedStop (h : Raised r s) : Raised r (isolatedStop s) := by
  unfold Machine.isolatedStop
  split
  · exact h.finishStop
  · exact h.stopTimers.openRelays.rejoinStopped
  · exact h

theorem Raised.recordIsolatedStop (h : Raised r s) (cause : EndCause) : Raised r (recordIsolatedStop cause s) := by
  have recorded : Raised r { s with
      psq.stopCause := some cause, psq.forced := s.psq.forced && !s.psq.stopCause.isNone } := h.plain rfl
  exact (recorded.onlyIf _ recorded.leftSweep).isolatedStop

theorem Raised.startStop (h : Raised r s) (cause : EndCause) : Raised r (startStop cause s) := by
  refine Raised.enterSeq ?_ .stopping
  exact (h.leaveTarget s.psq.seq).plain rfl

theorem Raised.stopRequest (h : Raised r s) (cause : EndCause) : Raised r (stopRequest cause s) := by
  unfold Machine.stopRequest
  split
  · exact h.startStop _
  · exact h.startStop _
  · split
    · exact h
    · exact h.recordIsolatedStop _
  · exact h

theorem Raised.suspendRequest (h : Raised r s) : Raised r (suspendRequest s) := by
  unfold Machine.suspendRequest
  split
  · exact h.enterSeq .suspended
  · exact h.plain rfl
  · exact h

theorem Raised.takeRequest (h : Raised r s) (q : Option MeterRequest) : Raised r (takeRequest q s) := by
  unfold Machine.takeRequest
  split
  · exact h
  · exact h.suspendRequest
  · exact h.stopRequest _

end Sys2Proof.Machine
end

section
/-! PROOF. Every change of the sequencer's state or phase raises SEQ_STATE: energizing, the plug, the monitor's results and
the frames (R2, R3, R10 to R18, R21 to R24, R142 to R167). -/

namespace Sys2Proof.Machine

variable {r s t : State}

/-! ## Energizing and withdrawing (R10, R11, R16, R21, R23) -/

theorem Raised.startPrecharge (h : Raised r s) : Raised r (startPrecharge s) := by
  refine Raised.enterSeq ?_ .precharge
  exact h.plain rfl

theorem Raised.joinNetwork (h : Raised r s) : Raised r (joinNetwork s) := h.kept (by simp) (joinNetwork_events s)

theorem Raised.openPrecharge (h : Raised r s) : Raised r (openPrecharge s) := by
  rw [openPrecharge_frame]
  exact h.plain rfl

theorem Raised.openSession (h : Raised r s) (stamp : Word32) (c : Option DescCopy) : Raised r (openSession stamp c s).1 :=
  h.kept (by simp) (openSession_events stamp c s)

theorem Raised.becomeActive (h : Raised r s) : Raised r (becomeActive s) := by
  have closed : Raised r { s with psq.contactorTimer := false } := h.plain rfl
  have opened := closed.openPrecharge.openSession (startStamp (Machine.openPrecharge { s with psq.contactorTimer := false }))
    (Machine.openPrecharge { s with psq.contactorTimer := false }).mtr.prefetched
  refine Raised.joinNetwork (Raised.enterSeq ?_ .active)
  exact opened.plain rfl

theorem Raised.rejoin (h : Raised r s) : Raised r (rejoin s) := by
  have back : Raised r { s with psq.contactorTimer := false, psq.isoReturn := none } := h.plain rfl
  exact (back.openPrecharge.enterSeq _).joinNetwork

theorem Raised.contactorReadsClosed (h : Raised r s) : Raised r (contactorReadsClosed s) := by
  unfold Machine.contactorReadsClosed
  split
  · split
    · exact h.becomeActive
    · exact h.rejoin
    · exact h
  · exact h

theorem Raised.prechargeResult (h : Raised r s) : Raised r (prechargeResult s) := by
  unfold Machine.prechargeResult
  split
  · refine Raised.contactorReadsClosed ?_
    exact h.plain rfl
  · exact h

theorem Raised.cancelComplete (h : Raised r s) : Raised r (cancelComplete s) :=
  h.onlyIf _ (h.forgetStop.enterSeq .identified)

theorem Raised.withdraw (h : Raised r s) : Raised r (withdraw s) := h.stopTimers.openRelays.dropPrefetched

theorem Raised.ownFaultTold (h : Raised r s) : Raised r (ownFaultTold s) := by
  unfold Machine.ownFaultTold
  split
  · exact h.withdraw.forgetStop.enterSeq .identified
  · exact h.startStop _
  · exact h.startStop _
  · exact h.recordIsolatedStop _
  · exact h

theorem Raised.startSelfCheck (h : Raised r s) : Raised r (startSelfCheck s) := h.quiet (by simp) (by simp)

theorem Raised.setOwnFault (h : Raised r s) : Raised r (setOwnFault s) := by
  unfold Machine.setOwnFault
  split
  · exact h
  · dsimp only
    have latched : Raised r { s with imn.ownFault := true } := h.plain rfl
    have told := (latched.raiseEvent .insulation).ownFaultTold
    generalize Machine.ownFaultTold _ = t at told ⊢
    have pending : Raised r { t with imn.selfCheck := .pending } := told.plain rfl
    split
    · exact pending.startSelfCheck
    · exact pending

/-! ## The plug (R2, R3, R17, R18) -/

theorem Raised.plugSettled (h : Raised r s) : Raised r (plugSettled s) := by
  unfold Machine.plugSettled
  split
  · exact (h.enterSeq .plugged).raiseEvent _
  · exact h

theorem Raised.releaseButton (h : Raised r s) : Raised r (releaseButton s) := by
  unfold Machine.releaseButton
  split
  · exact h.stopRequest _
  · exact h.stopRequest _
  · exact h.stopRequest _
  · exact h
  · exact h
  · exact h.enqueue _

theorem Raised.plugLost (h : Raised r s) : Raised r (plugLost s) := by
  unfold Machine.plugLost
  split
  · exact h.raiseTrip _
  · split
    · exact h.identOnEntry .unplugged
    · exact h
    · exact (h.endSession .unplugged).dropPrefetched.stopTimers.forgetStop.enterSeq .unplugged

theorem Raised.lossOfPlug (h : Raised r s) : Raised r (lossOfPlug s) := by
  have unwatched : Raised r (endSupervisions s) := h.plain rfl
  exact unwatched.plugLost.weldAtOnce

theorem Raised.detectPlug (h : Raised r s) (old new : ProxLevel) : Raised r (detectPlug old new s) := by
  unfold Machine.detectPlug
  split
  · split
    · exact h
    · refine Raised.enterSeq ?_ .plugSettle
      exact h.plain rfl
  · exact h.plain rfl
  · exact h.plain rfl
  · exact h

theorem Raised.takeProximity (h : Raised r s) (v : Int) : Raised r (takeProximity v s) := by
  unfold Machine.takeProximity
  dsimp only
  have level : Raised r { Machine.plugSettled s with psq.prox := classify v } := h.plugSettled.plain rfl
  have taken := level.detectPlug (Machine.plugSettled s).psq.prox (classify v)
  split
  · exact taken
  · refine Raised.refreshLine ?_
    split
    · exact taken.releaseButton
    · exact taken.lossOfPlug
    · exact taken

/-! ## Results of the monitor (R142 to R150, R157, R162) -/

theorem Raised.clearingResult (h : Raised r s) (rf : Nat) : Raised r (clearingResult rf s) :=
  h.kept (by simp) (clearingResult_events rf s)

theorem Raised.selfCheckResult (h : Raised r s) (rf passed : Nat) : Raised r (selfCheckResult rf passed s) :=
  h.kept (by simp) (selfCheckResult_events rf passed s)

theorem Raised.ownConsequence (h : Raised r s) (before : Evaluation) : Raised r (ownConsequence before s) := by
  unfold Machine.ownConsequence
  split
  · unfold ownStepResult
    split
    · exact (h.endLeading _ _ _).setOwnFault
    · split
      · exact h.ownNotFound _
      · exact h.plain rfl
  · exact h.onlyIf _ h.setOwnFault

theorem Raised.judgeOwn (h : Raised r s) (rf : Nat) : Raised r (judgeOwn rf s) := h.kept (by simp) (judgeOwn_events rf s)

theorem Raised.localResult (h : Raised r s) (x : InsResult) : Raised r (localResult x s) := by
  unfold Machine.localResult
  dsimp only
  have stored : Raised r { s with imn.localResult := some x, imn.localFlag := true } := h.plain rfl
  have judged : Raised r (noteVerdict x.rf (Machine.judgeOwn x.rf
      { s with imn.localResult := some x, imn.localFlag := true })) := (stored.judgeOwn x.rf).plain rfl
  have done := judged.ownConsequence s.imn.own
  split
  · exact (done.selfCheckResult _ _).onlyIf _ ((done.selfCheckResult _ _).clearingResult _)
  · exact done.onlyIf _ (done.clearingResult _)

theorem Raised.decideStep (h : Raised r s) (rf : Nat) (l : LeaderRecord) : Raised r (decideStep rf l s) := by
  unfold Machine.decideStep
  split
  · exact h.endLeading _ _ _
  · exact h.nextStep _

theorem Raised.judgeNet (h : Raised r s) (rf : Nat) : Raised r (judgeNet rf s) := h.kept (by simp) (judgeNet_events rf s)

theorem Raised.jointResult (h : Raised r s) (x : InsResult) : Raised r (jointResult x s) := by
  unfold Machine.jointResult
  dsimp only
  have stored : Raised r { s with imn.jointResult := some x, imn.resultInRole := true } := h.plain rfl
  have sent := (stored.judgeNet x.rf).enqueue (.measureResult (BitVec.ofNat 16 x.rf) (if x.estimate then 1 else 0))
  split
  · exact sent.decideStep _ _
  · exact sent.onlyIf _ sent.checkSweepStart

theorem Raised.interference (h : Raised r s) : Raised r (interference s) := h.kept (by simp) (interference_events s)

theorem Raised.cycleOutcome (h : Raised r s) (uPlus uMinus : Int) (estimate : Bool) :
    Raised r (cycleOutcome uPlus uMinus estimate s) := by
  unfold Machine.cycleOutcome
  dsimp only
  split
  · split
    · exact h.kept (by simp) (measureFault_events s)
    · exact h.localResult _
  · split
    · exact h.interference
    · exact h.jointResult _
  · exact h

theorem Raised.announceHalf (h : Raised r s) (x : CycleHalf) : Raised r (announceHalf x s) := h.quiet (by simp) (by simp)

theorem Raised.endCycle (h : Raised r s) (v : Int) (c : Cycle) : Raised r (endCycle v c s) := by
  unfold Machine.endCycle
  dsimp only
  have ended : Raised r { s with imn.cycle := some .following, imn.driver := .plus } := h.plain rfl
  have told := ended.cycleOutcome (c.uPlus.getD 0) v c.estimateAtEnd
  split
  · exact told.announceHalf _
  · exact told

theorem Raised.takeViso (h : Raised r s) (v : Int) : Raised r (takeViso v s) := by
  unfold Machine.takeViso sampleHalf
  dsimp only
  split
  · exact h
  next c _ =>
    have at_ (c : Cycle) (level : DriverLevel) : Raised r { s with imn.cycle := some c, imn.driver := level } := h.plain rfl
    split
    · exact (at_ _ _).announceHalf _
    · split
      · split
        · exact h.endCycle _ _
        · exact (at_ _ _).announceHalf _
      · exact h.plain rfl

/-! ## Frames delivered to the monitor (R148, R155 to R163) -/

theorem Raised.releaseTarget (h : Raised r s) : Raised r (releaseTarget s) := by
  unfold Machine.releaseTarget
  split
  · exact h
  · dsimp only
    have left : Raised r (endTargetReport { s with imn.target := none }) := h.plain rfl
    split
    · exact left.takeRelease
    · exact left.plain rfl
    · exact left.plain rfl
    · exact left

theorem Raised.follow (h : Raised r s) (leader : Nat) : Raised r (follow leader s) := h.kept (by simp) (follow_events leader s)

theorem Raised.serveStep (h : Raised r s) (target index : Nat) : Raised r (serveStep target index s) := by
  unfold Machine.serveStep
  split
  · unfold becomeTarget
    have served : Raised r { s with imn.target := some ⟨index, none⟩ } := h.plain rfl
    split
    · exact h
    · split
      · exact (served.enterIsolation _).reportTarget.raiseEvent _
      · split
        · exact h.enqueue _
        · exact (served.raiseEvent _).enqueue _
  · exact h.releaseTarget

theorem Raised.takeSweepStep (h : Raised r s) (sender target index : Nat) : Raised r (takeSweepStep sender target index s) := by
  unfold Machine.takeSweepStep
  split
  · exact (h.follow _).serveStep _ _
  · split
    · refine Raised.serveStep ?_ _ _
      exact h.plain rfl
    · exact h
  · exact h

theorem Raised.takeSweepAnswer (h : Raised r s) (sender code : Nat) : Raised r (takeSweepAnswer sender code s) := by
  unfold Machine.takeSweepAnswer
  split
  · split
    · dsimp only
      split
      · exact h.nextStep _
      · exact h.plain rfl
    · exact h
  · exact h

theorem Raised.endSweep (h : Raised r s) (o : SweepOutcome) (hold : Bool) : Raised r (endSweep o hold s) :=
  h.kept (by simp) (endSweep_events o hold s)

theorem Raised.takeResult (h : Raised r s) (o : SweepOutcome) : Raised r (takeResult o s) := by
  unfold Machine.takeResult
  refine Raised.checkSweepStart ?_
  split
  · split
    · unfold foundHere
      have faulty := h.setOwnFault
      generalize Machine.setOwnFault s = t at faulty ⊢
      have disagrees : Raised r { t with imn.disagreement := true } := faulty.plain rfl
      exact (Raised.onlyIf _ faulty (disagrees.raiseEvent _)).clearTarget.endSweep _ _
    · exact h.releaseTarget.endSweep _ _
  · exact h.releaseTarget.endSweep _ _
  · exact h.releaseTarget.endSweep _ _

theorem Raised.takeSweepResult (h : Raised r s) (sender code found : Nat) : Raised r (takeSweepResult sender code found s) := by
  unfold Machine.takeSweepResult
  split
  · split
    · exact h.takeResult _
    · exact h
  · exact h

theorem Raised.electionAtBeacon (h : Raised r s) (station : Nat) (measurer : Bool) : Raised r (electionAtBeacon station measurer s) :=
  h.kept (by simp) (electionAtBeacon_events station measurer s)

theorem Raised.deliver (h : Raised r s) (f : Frame) : Raised r (deliver f s) := by
  unfold Machine.deliver
  dsimp only
  split
  · exact (h.kept (by simp) (takeBeacon_events _ _ _ _ _ _ _ s)).electionAtBeacon _ _
  · exact h.kept (by simp) (takeLeave_events _ s)
  · exact h.kept (by simp) (takeAlert_events _ s)
  · exact h.takeSweepStep _ _ _
  · exact h.takeSweepAnswer _ _
  · exact h.takeSweepResult _ _ _
  · exact h.kept (by simp) (takeMeasureStart_events s)
  · exact h.kept (by simp) (takeMeasureResult_events _ _ s)

theorem Raised.route (h : Raised r s) (f : Frame) : Raised r (route f s) := by
  unfold Machine.route
  repeat' split
  · exact h
  · exact h.deliver _
  · exact h
  · exact h.kept rfl (mem_raiseEvent _)

theorem Raised.takeGood (h : Raised r s) (station : BitVec 6) (f : Option Frame) : Raised r (takeGood station f s) := by
  have driven : Raised r (driveAck s) := h.plain rfl
  have heard : Raised r (detectDuplicate station (driveAck s)) := driven.kept (by simp) (detectDuplicate_events station _)
  unfold Machine.takeGood
  dsimp only
  split
  · exact heard.route _
  · exact heard

theorem Raised.receive (h : Raised r s) (f : Frame) : Raised r (receive f s) := by
  unfold Machine.receive
  split
  · exact h
  · exact h.takeGood _ _

theorem Raised.frameBits (h : Raised r s) (bits : List Bool) : Raised r (frameBits bits s) := by
  unfold Machine.frameBits
  split
  · exact h
  · split
    · exact h.plain rfl
    · exact h.plain rfl
    · exact h.takeGood _ _

/-! ## The beacon period and the sweep's timers (R50, R57, R146, R156, R162, R165) -/

theorem Raised.endUnmonitored (h : Raised r s) : Raised r (endUnmonitored s) := h.kept (by simp) (endUnmonitored_events s)

theorem Raised.measuringRoleTake (h : Raised r s) : Raised r (measuringRoleTake s) := by
  unfold Machine.measuringRoleTake
  split
  · split
    · have taken : Raised r { s with imn.mode := .measurer, imn.clearCount := 0, imn.resultInRole := false } := h.plain rfl
      exact taken.endUnmonitored.startCycle.checkSweepStart
    · exact h.plain rfl
  · exact h

theorem Raised.beaconPeriod (h : Raised r s) : Raised r (beaconPeriod s) := by
  unfold Machine.beaconPeriod
  split
  · exact h
  · have timed : Raised r { s with fli.beaconTimer := some 250 } := h.plain rfl
    exact (timed.measuringRoleTake.kept (by simp) (sharePeriod_events _)).plain rfl

theorem Raised.sweepAnswerTimeout (h : Raised r s) : Raised r (sweepAnswerTimeout s) := by
  unfold Machine.sweepAnswerTimeout
  split
  · split
    · exact h.nextStep _
    · exact h
  · exact h

theorem Raised.sweepCycleTimeout (h : Raised r s) : Raised r (sweepCycleTimeout s) := by
  unfold Machine.sweepCycleTimeout
  split
  · split
    · split
      · exact h.ownNotFound _
      · exact h.nextStep _
    · exact h
  · exact h

theorem Raised.leaderSilenceExpiry (h : Raised r s) : Raised r (leaderSilenceExpiry s) := by
  unfold Machine.leaderSilenceExpiry
  split
  · exact (h.endSweep _ _).releaseTarget.checkSweepStart
  · exact h

theorem Raised.sweepHoldExpiry (h : Raised r s) : Raised r (sweepHoldExpiry s) := by
  unfold Machine.sweepHoldExpiry
  split
  · refine Raised.checkSweepStart ?_
    exact h.plain rfl
  · exact h

end Sys2Proof.Machine
end

section
/-! PROOF. Every change of the sequencer's state or phase raises SEQ_STATE: the scans, the Plug Sequencer's rows, the meter
and every row (R1, R5 to R24, R89 to R112, R179). -/

namespace Sys2Proof.Machine

variable {r s t : State}

/-! ## Scans (R108 to R112) -/

theorem Raised.limitAction (h : Raised r s) (i : Fin 16) : Raised r (limitAction i s) := by
  unfold Machine.limitAction
  split
  · split
    · exact h
    · exact h.raiseEvent _
    · exact h.raiseTrip _
  · exact h

theorem Raised.limitActions (is : List (Fin 16)) (h : Raised r s) :
    Raised r (is.foldl (fun t i => Machine.limitAction i t) s) := by
  induction is generalizing s with
  | nil => exact h
  | cons i is ih => exact ih (h.limitAction i)

theorem Raised.publishScan (h : Raised r s) (k : ScanKind) (pairs : List (Word16 × Word16)) :
    Raised r (publishScan k pairs s) := by
  refine Raised.limitActions _ ?_
  exact h.plain rfl

theorem Raised.spanLapse (h : Raised r s) (k : Phase) : Raised r (spanLapse k s) := h.kept (by simp) (spanLapse_events k s)

theorem Raised.phaseResult (h : Raised r s) (k : Phase) : Raised r (phaseResult k s) := h.kept (by simp) (phaseResult_events k s)

theorem Raised.linkResult (h : Raised r s) : Raised r (linkResult s) := h.onlyIf _ (h.raiseTrip _)

theorem Raised.currentResult (h : Raised r s) : Raised r (currentResult s) := h.onlyIf _ (h.rampDown _)

theorem Raised.publishFast (h : Raised r s) (pairs : List (Word16 × Word16)) : Raised r (publishFast pairs s) := by
  unfold Machine.publishFast
  dsimp only
  have lapsed := (((h.kept (by simp) (linePeriodLapse_events s)).spanLapse .u).spanLapse .v).spanLapse .w
  have charged := (lapsed.publishScan .fast pairs).prechargeResult.linkResult
  generalize Machine.linkResult _ = c at charged ⊢
  have battery : Raised r (batteryResult c) := charged.plain rfl
  have drawn := battery.currentResult
  generalize Machine.currentResult _ = d at drawn ⊢
  have heated : Raised r (accumulateHeat d) := drawn.plain rfl
  have judged := heated.onlyIf (heaterOver (accumulateHeat d)) (heated.kept (by simp) (heaterOvercurrent_events _))
  exact ((judged.phaseResult .u).phaseResult .v).phaseResult .w

theorem Raised.publishSlow (h : Raised r s) (pairs : List (Word16 × Word16)) : Raised r (publishSlow pairs s) := by
  unfold Machine.publishSlow
  dsimp only
  have scanned := h.publishScan .slow pairs
  generalize Machine.publishScan .slow pairs s = t at scanned ⊢
  have judged : Raised r (judgeSensors t) := scanned.plain rfl
  exact ((judged.quiet (by simp) (by simp)).takeViso _).takeProximity _

theorem Raised.pairDone (h : Raised r s) (a b : Word16) : Raised r (pairDone a b s) := by
  have taken (m : Msq) : Raised r { s with msq := m } := h.plain rfl
  unfold Machine.pairDone
  split
  · exact h
  · unfold fastPair
    dsimp only
    split
    · exact taken _
    · exact (taken _).publishFast _
  · unfold slowPair
    dsimp only
    split
    · exact taken _
    · exact (taken _).publishSlow _

/-! ## Identification and the host's commands (R6 to R9, R11, R13, R15, R16, R20) -/

theorem Raised.answerEmpty (h : Raised r s) (x : Status) : Raised r (answerEmpty x s) := h.plain rfl

theorem Raised.goIdentify (h : Raised r s) : Raised r (goIdentify s) := by
  unfold Machine.goIdentify
  repeat' split
  · exact h.plain rfl
  · exact h.plain rfl
  · exact h.plain rfl
  · refine Raised.answerEmpty (Raised.enterSeq ?_ .identifying) _
    exact h.plain rfl

theorem Raised.identify (h : Raised r s) (i : Identification) : Raised r (identify i s) := by
  have known : Raised r { s with psq.ident := some i } := h.plain rfl
  exact (known.enterSeq .identified).raiseEvent _

theorem Raised.pilotCodeComplete (h : Raised r s) : Raised r (pilotCodeComplete s) := by
  unfold Machine.pilotCodeComplete
  split
  · split
    · unfold takeCode
      split
      · exact h.identify _
      · exact h.plain rfl
    · exact h
  · exact h

theorem Raised.pilotEdge (h : Raised r s) (span : PilotSpan) (w : Nat) : Raised r (pilotEdge span w s) := by
  have coded := h.pilotCodeComplete
  unfold Machine.pilotEdge
  dsimp only
  generalize Machine.pilotCodeComplete s = t at coded ⊢
  split
  · split
    · rw [takePulse_eq]; exact coded.plain rfl
    · rw [takeRest_eq]; exact coded.plain rfl
  · exact coded

theorem Raised.identTimeout (h : Raised r s) : Raised r (identTimeout s) := by
  unfold Machine.identTimeout
  split
  · split
    · exact h.enterFault _
    · exact h.identify _
  · exact h

theorem Raised.activatePrefetched (h : Raised r s) : Raised r (activatePrefetched s).1 :=
  h.kept (by simp) (activatePrefetched_events s)

theorem Raised.goEnergize (h : Raised r s) (slot : Byte) (stamp : Word32) : Raised r (goEnergize slot stamp s) := by
  unfold Machine.goEnergize
  split
  · exact h.plain rfl
  next c _ =>
    dsimp only
    have fetched : Raised r { s with mtr.prefetched := some c, psq.start := some (c.slot, stamp) } := h.plain rfl
    split
    · unfold resume
      dsimp only
      refine Raised.answerEmpty (Raised.takeRequest (Raised.activatePrefetched (Raised.enterSeq ?_ .active)) _) _
      exact h.plain rfl
    · exact fetched.startPrecharge.answerEmpty _

theorem Raised.goStop (h : Raised r s) : Raised r (goStop s) := by
  unfold Machine.goStop
  repeat' split
  · exact h.plain rfl
  · exact (h.stopRequest _).answerEmpty _
  · exact h.plain rfl

theorem Raised.idle (h : Raised r s) : Raised r (idle s) := by
  unfold Machine.idle
  dsimp only
  have cut := h.clearEnable.openRelays.stopTimers
  have left := cut.onlyIf ((Machine.stopTimers (Machine.openRelays (Machine.clearEnable s))).psq.seq == .precharge)
    cut.dropPrefetched
  exact ((((left.endSession .hostIdle).leaveTarget s.psq.seq).enqueue .leave).forgetStop).enterSeq .plugged

theorem Raised.idleFromFault (h : Raised r s) : Raised r (idleFromFault s) := by
  unfold Machine.idleFromFault
  split
  · exact h.plain rfl
  · split
    · exact h.plain rfl
    · refine Raised.answerEmpty (Raised.enterSeq ?_ _) _
      exact (h.enqueue .leave).plain rfl

theorem Raised.goIdle (h : Raised r s) : Raised r (goIdle s) := by
  unfold Machine.goIdle
  split
  · exact h.plain rfl
  · split
    · exact h.plain rfl
    · exact h.plain rfl
    · exact h.plain rfl
    · exact h.idleFromFault
    · exact h.idle.answerEmpty _

theorem Raised.startCancel (h : Raised r s) : Raised r (startCancel s) := by
  have pending : Raised r { s with psq.cancelPending := true, psq.cancelContactor := s.psq.contactorCmd } := h.plain rfl
  exact pending.withdraw.cancelComplete

theorem Raised.cancel (h : Raised r s) : Raised r (cancel s) := by
  unfold Machine.cancel
  split
  · exact (h.enterSeq .plugged).answerEmpty _
  · split
    · exact h.plain rfl
    · exact h.startCancel.answerEmpty _
  all_goals exact h.plain rfl

/-! ## Timers and relay contacts (R5, R10, R13, R14, R16, R22 to R24) -/

theorem Raised.prechargeTimeout (h : Raised r s) : Raised r (prechargeTimeout s) := by
  unfold Machine.prechargeTimeout
  split
  · exact h.enterFault _
  · exact h

theorem Raised.contactorTimeout (h : Raised r s) : Raised r (contactorTimeout s) := by
  unfold Machine.contactorTimeout
  split
  · exact h.enterFault _
  · exact h

theorem Raised.batteryLowTimeout (h : Raised r s) : Raised r (batteryLowTimeout s) := by
  unfold Machine.batteryLowTimeout
  split
  · refine Raised.stopRequest ?_ _
    exact h.plain rfl
  · exact h

theorem Raised.stopTimerExpiry (h : Raised r s) : Raised r (stopTimerExpiry s) := by
  unfold Machine.stopTimerExpiry
  split
  · exact h.rampDown _
  · exact h

theorem Raised.relayFeedback (h : Raised r s) (relay : PlugRelay) (closed : Bool) : Raised r (relayFeedback relay closed s) := by
  unfold Machine.relayFeedback
  split
  · split
    · exact h
    · have reads : Raised r { s with psq.contactorFb := true } := h.plain rfl
      unfold contactorCloses
      split
      · exact reads.contactorReadsClosed
      · exact reads.weldAtOnce
  · split
    · have reads : Raised r { s with psq.contactorFb := false, psq.contactorSup := false } := h.plain rfl
      exact reads.contactorReadsOpen.rejoinStopped.cancelComplete
    · exact h
  · exact h.plain rfl
  · split
    · refine Raised.cancelComplete (Raised.rejoinStopped ?_)
      exact h.plain rfl
    · exact h

theorem Raised.readContact (h : Raised r s) (relay : PlugRelay) (closed : Bool) : Raised r (readContact relay closed s) := by
  unfold Machine.readContact
  split <;> exact h.plain rfl

theorem Raised.supervisionExpiry (h : Raised r s) (relay : PlugRelay) : Raised r (supervisionExpiry relay s) := by
  have contactor : Raised r { s with psq.contactorSup := false } := h.plain rfl
  have precharge : Raised r { s with psq.prechargeSup := false } := h.plain rfl
  unfold Machine.supervisionExpiry
  split
  · split
    · exact contactor.onlyIf _ (contactor.enterFault _)
    · exact h
  · split
    · exact precharge.onlyIf _ (precharge.enterFault _)
    · exact h

/-! ## Trips, the meter and the monitor's commands (R89 to R101, R150, R179) -/

theorem Raised.deadTimeEnd (h : Raised r s) (k : Leg) : Raised r (deadTimeEnd k s) := by
  unfold Machine.deadTimeEnd
  split
  · exact h
  · dsimp only
    have ended : Raised r { s with ptu.legs := (s.ptu.legs.set k { s.ptu.legs.get k with deadTime := none }) } := h.plain rfl
    exact (ended.onlyIf _ (ended.raiseTrip _)).plain rfl

theorem Raised.conflictExpiry (h : Raised r s) (k : Leg) : Raised r (conflictExpiry k s) := by
  unfold Machine.conflictExpiry
  split
  · refine Raised.raiseTrip ?_ _
    exact h.plain rfl
  · exact h.plain rfl
  · exact h

theorem Raised.extFilterExpiry (h : Raised r s) : Raised r (extFilterExpiry s) := by
  unfold Machine.extFilterExpiry
  split
  · refine Raised.raiseTrip ?_ _
    exact h.plain rfl
  · exact h

theorem Raised.gridExpiry (h : Raised r s) : Raised r (gridExpiry s) := by
  unfold Machine.gridExpiry
  split
  · refine Raised.raiseTrip ?_ _
    exact h.plain rfl
  · exact h

theorem Raised.meteringInterval (h : Raised r s) : Raised r (meteringInterval s) := by
  unfold Machine.meteringInterval
  split
  · exact (h.kept (by simp) (meterInterval_events s)).takeRequest _
  · exact h

/-! ## Every row (O13) -/

/-- A row that leaves the sequencer where it is; READ_EVENTS empties the set (R200). -/
theorem Raised.unmoved (psq : t.psq = s.psq) : Raised s t := fun moved => absurd (congrArg Psq.seq psq) moved

theorem Raised.row {f : State → State} (run : Raised s (f s)) : Completes (whenRunning f s) (Raised s) :=
  whenRunning_completes (.refl s) run

theorem Raised.rowOr {g f : State → State} (held : Raised s (g s)) (run : Raised s (f s)) :
    Completes (whenRunningOr g f s) (Raised s) := whenRunningOr_completes held run

/-- Every row but a start and a power loss. -/
theorem exec_raised (c : Instr) (live : isReset c = false) : Completes (exec c s) (Raised s) := by
  have h := Raised.refl s
  cases c with
  | powerOn => cases live
  | brownOut => cases live
  | resetLine => cases live
  | powerLoss => cases live
  | setCharge _ _ => exact Raised.row (.unmoved (by simp))
  | setBatteryLimit _ => exact Raised.row (.unmoved (by simp))
  | setHeating _ _ _ _ _ _ => exact Raised.row (.unmoved (by simp))
  | writeDescriptor _ _ _ _ _ _ _ => exact Raised.row (.unmoved (by simp))
  | configure _ => exact Raised.row (.unmoved (by simp))
  | heaterEvent => exact Raised.row (.unmoved (by simp))
  | chipSelectAssert => exact Raised.row (f := chipSelect) (.unmoved rfl)
  | readOnlyTransaction _ => exact Raised.row (.unmoved (by simp))
  | requestRejected _ => exact Raised.row (.unmoved (by simp))
  | getStatus => exact Raised.row (.unmoved rfl)
  | readEvents => exact Raised.row (f := readEvents) (.unmoved rfl)
  | goIdentify => exact Raised.row h.goIdentify
  | goEnergize _ _ => exact Raised.row (h.goEnergize _ _)
  | goStop => exact Raised.row h.goStop
  | goIdle => exact Raised.row h.goIdle
  | cancel => exact Raised.row h.cancel
  | tripClear => exact Raised.row (.unmoved (by simp))
  | extend _ => exact Raised.row (.unmoved (by simp))
  | sessionSplit _ _ => exact Raised.row (.unmoved (by simp))
  | readReport => exact Raised.row (.unmoved (by simp))
  | removeReport => exact Raised.row (.unmoved (by simp))
  | readMeter => exact Raised.row (.unmoved rfl)
  | readPeers => exact Raised.row (.unmoved rfl)
  | readShare => exact Raised.row (.unmoved rfl)
  | readMeasure _ _ => exact Raised.row (.unmoved (by simp))
  | readInsulation => exact Raised.row (f := readInsulation) (.unmoved rfl)
  | clearInsulation => exact Raised.row (.unmoved (by simp))
  | carrierTrough => exact Raised.row (.unmoved (by simp))
  | loopComputationEvent => exact Raised.row (.unmoved (by simp))
  | linePeriodLapse => exact Raised.row (.unmoved (by simp))
  | legCommandChange _ _ => exact Raised.row (f := legCommandChange _ _) (.unmoved rfl)
  | deadTimeEnd _ => exact Raised.row (h.deadTimeEnd _)
  | gateFeedbackChange _ _ _ => exact Raised.rowOr (.unmoved (by simp)) (.unmoved (by simp))
  | legConflictTimerExpiry _ => exact Raised.row (h.conflictExpiry _)
  | heaterPeriodStart => exact Raised.row (f := heaterPeriodStart) (.unmoved rfl)
  | heaterDutyEnd => exact Raised.row (f := heaterDutyEnd) (.unmoved rfl)
  | extTripLineChange b => exact Raised.rowOr (g := fun s => { s with ptu.extActive := b }) (.unmoved rfl) (.unmoved (by simp))
  | extTripFilterExpiry => exact Raised.row h.extFilterExpiry
  | extInactiveTimerExpiry => exact Raised.row (.unmoved (by simp))
  | gridSupervisionExpiry => exact Raised.row h.gridExpiry
  | slowScanTimerExpiry => exact Raised.row (.unmoved (by simp))
  | pairConversionDone _ _ => exact Raised.row (h.pairDone _ _)
  | spanLapse _ => exact Raised.row (.unmoved (by simp))
  | plugSettleComplete => exact Raised.row h.plugSettled
  | pilotCodeComplete => exact Raised.row (h.pilotCodeComplete)
  | identTimeout => exact Raised.row (h.identTimeout)
  | prechargeTimeout => exact Raised.row h.prechargeTimeout
  | contactorTimeout => exact Raised.row h.contactorTimeout
  | relayFeedbackChange relay closed =>
    show Completes (whenRunningOr _ _ s) _
    unfold whenRunningOr
    split
    · exact ⟨_, rfl, h.relayFeedback _ _⟩
    · exact ⟨_, rfl, h.readContact _ _⟩
  | openSupervisionExpiry _ => exact Raised.row (h.supervisionExpiry _)
  | batteryLowTimeout => exact Raised.row h.batteryLowTimeout
  | stopTimerExpiry => exact Raised.row h.stopTimerExpiry
  | txAttemptStart => exact Raised.row (.unmoved (by simp))
  | txArbitrationLost => exact Raised.row (f := dropAttempt) (.unmoved rfl)
  | txBitError => exact Raised.row (.unmoved (by simp))
  | txComplete _ => exact Raised.row (.unmoved (by simp))
  | silentTimerExpiry => exact Raised.row (.unmoved (by simp))
  | frameDropped _ => exact Raised.row (h.frameBits _)
  | beaconReceived _ _ _ _ _ _ _ => exact Raised.row (h.receive _)
  | leaveReceived _ _ => exact Raised.row (h.receive _)
  | alertReceived _ _ _ => exact Raised.row (h.receive _)
  | sweepStepReceived _ _ _ _ => exact Raised.row (h.receive _)
  | sweepAnswerReceived _ _ _ _ => exact Raised.row (h.receive _)
  | sweepResultReceived _ _ _ _ _ => exact Raised.row (h.receive _)
  | measureStartReceived _ _ _ _ => exact Raised.row (h.receive _)
  | measureResultReceived _ _ _ _ => exact Raised.row (h.receive _)
  | beaconPeriodEvent => exact Raised.row h.beaconPeriod
  | peerAgedOut => exact Raised.row (.unmoved (by simp))
  | overflowEnd => exact Raised.row (.unmoved (by simp))
  | measuringRoleTake => exact Raised.row h.measuringRoleTake
  | backoffEnd => exact Raised.row (f := id) h
  | rampEvent => exact Raised.row (.unmoved (by simp))
  | freshnessTimerExpiry => exact Raised.row (.unmoved (by simp))
  | relaySettleExpiry => exact Raised.row (f := relaySettleExpiry) (.unmoved rfl)
  | heaterOpenDetect => exact Raised.row (.unmoved (by simp))
  | unmonitoredTimerExpiry => exact Raised.row (.unmoved (by simp))
  | sweepAnswerTimeout => exact Raised.row h.sweepAnswerTimeout
  | sweepCycleTimeout => exact Raised.row h.sweepCycleTimeout
  | leaderSilenceExpiry => exact Raised.row h.leaderSilenceExpiry
  | sweepHoldExpiry => exact Raised.row h.sweepHoldExpiry
  | meterSample => exact Raised.row (f := meterSample) (h.meteringInterval.plain rfl)
  | meteringInterval => exact Raised.row h.meteringInterval
  | storeWriteComplete => exact Raised.row (.unmoved (by simp))
  | pilotSenseEdge _ _ => exact Raised.row (h.pilotEdge _ _)

/-- Settles O13: one of the sequencer's own writes of its state raises the event, and every other operation leaves the state
where it is. -/
theorem sequencerChangesAreRaised : Obligations.SequencerChangesAreRaised := by
  unfold Obligations.SequencerChangesAreRaised
  exact fun c s live => exec_raised c live

end Sys2Proof.Machine
end

section
/-! PROOF. Samples, and the start of a metering interval: its energies, carries and counters (R86, R169 to R171, R188). -/

namespace Sys2Proof.Machine

variable {s t : State}

/-! ## Samples (R169) -/

theorem meteringInterval_early (early : s.mtr.sampleCount < 8000) : meteringInterval s = s := by
  unfold meteringInterval intervalDue
  rw [decide_eq_false (by omega)]
  rfl

theorem meteringInterval_due (due : 8000 ≤ s.mtr.sampleCount) :
    meteringInterval s = takeRequest (meterInterval s).2 (meterInterval s).1 := by
  unfold meteringInterval intervalDue
  rw [decide_eq_true due]
  rfl

/-! ## The interval's energies (R170) -/

/-- The sum with its carry, in mW-samples. -/
abbrev importSum (s : State) : Int := s.mtr.importCarry + s.mtr.powerSum

theorem formEnergies_import (s : State) : (formEnergies s).2.1 = intervalEnergy s := by
  unfold formEnergies wholeMwh samplesPerMwh intervalEnergy
  dsimp only
  split <;> rfl

theorem formEnergies_heater (s : State) : (formEnergies s).2.2 = (s.mtr.heaterCarry + s.mtr.heaterSum) / 28800000 := rfl

/-- The carry that an interval leaves (R170). -/
abbrev carryLeft (s : State) : Nat := if importSum s ≤ 0 then 0 else (importSum s).toNat % 28800000

/-- A sum below -1 mWh (R170, R185). -/
abbrev flowsBack (s : State) : Bool := decide (importSum s < -28800000)

/-- A session's context as an interval begins: counted, and marked where energy has flowed back (R170, R171). -/
def intervalBase (s : State) (b : SessionBase) : SessionBase :=
  { b with elapsed := b.elapsed + 1, flags := { b.flags with reverseFlow := b.flags.reverseFlow || flowsBack s } }

/-- The state in which the pair is applied: the sums are empty, the counters and the context count the interval (R86, R170,
R171, R188). -/
def intervalStarted (s : State) : State :=
  { s with
    mtr := { s.mtr with
      sampleCount := 0, powerSum := 0, heaterSum := 0, importCarry := carryLeft s
      heaterCarry := (s.mtr.heaterCarry + s.mtr.heaterSum) % 28800000
      session := s.mtr.session.map fun ss => { ss with base := intervalBase s ss.base } }
    crg.pMeter := intervalEnergy s * 3600 / 1000
    mst := { s.mst with
      working := { s.mst.working with
        imported := min (s.mst.working.imported + intervalEnergy s) (2 ^ 48 - 1)
        conditioning := min (s.mst.working.conditioning +
          if s.mtr.session = none then 0 else intervalConditioning s) (2 ^ 48 - 1) }
      lifeEnergy := s.mst.lifeEnergy + intervalEnergy s
      sessionEnergy := s.mst.sessionEnergy + if s.mtr.session = none then 0 else intervalEnergy s } }

theorem formEnergies_state (s : State) : (formEnergies s).1 = { s with
    mtr := { s.mtr with
      sampleCount := 0, powerSum := 0, heaterSum := 0, importCarry := carryLeft s
      heaterCarry := (s.mtr.heaterCarry + s.mtr.heaterSum) % 28800000
      session := s.mtr.session.map fun ss => { ss with base := { ss.base with
        flags := { ss.base.flags with reverseFlow := ss.base.flags.reverseFlow || flowsBack s } } } } } := by
  have carry : (wholeMwh (importSum s)).2 = carryLeft s := by
    unfold wholeMwh samplesPerMwh carryLeft
    split <;> rfl
  unfold formEnergies
  dsimp only
  rw [carry]
  cases back : flowsBack s with
  | false =>
    have kept : s.mtr.session = s.mtr.session.map fun ss => { ss with base := { ss.base with
        flags := { ss.base.flags with reverseFlow := ss.base.flags.reverseFlow || false } } } := by
      cases s.mtr.session <;> simp
    rw [show decide (importSum s < -(samplesPerMwh : Int)) = false from back, onlyIf_false, ← kept]
    rfl
  | true =>
    rw [show decide (importSum s < -(samplesPerMwh : Int)) = true from back, onlyIf_true]
    have marked : (fun ss : Session => { ss with base := { ss.base with
        flags := { ss.base.flags with reverseFlow := ss.base.flags.reverseFlow || true } } }) =
        fun ss => { ss with base := { ss.base with flags := { ss.base.flags with reverseFlow := true } } } := by
      funext ss
      rw [Bool.or_true]
    rw [marked]
    rfl

/-- The counters rise before the pair is applied (R86, R171, R188). -/
theorem countElapsed_started (s : State) :
    countElapsed (countInterval (intervalEnergy s) (if sessionOpen (formEnergies s).1 then some (intervalConditioning s) else none)
      { (formEnergies s).1 with crg.pMeter := intervalEnergy s * 3600 / 1000 }) = intervalStarted s := by
  rw [formEnergies_state]
  unfold countElapsed countInterval intervalStarted addHeld sessionOpen
  cases s.mtr.session <;> rfl

/-- An interval: the pair is applied in the started state, and a checkpoint taken where it is due (R177, R188). -/
theorem meterInterval_eq (s : State) : meterInterval s =
    (checkpointIfDue (applyPair 18 true (intervalEnergy s) (intervalConditioning s) (intervalStarted s)).1,
      (applyPair 18 true (intervalEnergy s) (intervalConditioning s) (intervalStarted s)).2) := by
  have started := countElapsed_started s
  unfold meterInterval
  dsimp only
  rw [formEnergies_import, formEnergies_heater]
  have open' : sessionOpen { (formEnergies s).1 with crg.pMeter := intervalEnergy s * 3600 / 1000 } = sessionOpen (formEnergies s).1 := rfl
  rw [open', started]

end Sys2Proof.Machine
end

section
/-! PROOF. Line items and the checks of an interval: portions, overruns, near ends, and checkpoints that replace one another
(R175 to R179, R187, R188). -/

namespace Sys2Proof.Machine

variable {s t : State} {m n p : Mst} {ws vs : List PageWrite} {is : List LineItem}

/-! ## The last line item (R177, R179) -/

theorem onLast_concat (f : LineItem → LineItem) (is : List LineItem) (i : LineItem) : onLast f (is ++ [i]) = is ++ [f i] := by
  simp [onLast]

theorem onLast_nil (f : LineItem → LineItem) : onLast f [] = [] := rfl

/-- Items are none, or they have a last. -/
theorem items_cases (is : List LineItem) : is = [] ∨ ∃ js i, is = js ++ [i] := by
  rcases List.eq_nil_or_concat is with none | ⟨js, i, last⟩
  · exact .inl none
  · exact .inr ⟨js, i, by rw [last, List.concat_eq_append]⟩

theorem updateLast_eq_onLast (f : LineItem → LineItem) (is : List LineItem) : updateLast f is = onLast f is := by
  induction is using updateLast.induct with
  | case1 => rfl
  | case2 i => rfl
  | case3 i j js ih => simp [updateLast, onLast, ih]

theorem onLast_length (f : LineItem → LineItem) (is : List LineItem) : (onLast f is).length = is.length := by
  rw [← updateLast_eq_onLast, updateLast_length]

theorem onLast_onLast (f g : LineItem → LineItem) (is : List LineItem) : onLast f (onLast g is) = onLast (f ∘ g) is := by
  obtain rfl | ⟨js, i, rfl⟩ := items_cases is
  · rfl
  · rw [onLast_concat, onLast_concat, onLast_concat]
    rfl

theorem onLast_ne_nil (f : LineItem → LineItem) (some : is ≠ []) : onLast f is ≠ [] := by
  intro none
  have length := onLast_length f is
  rw [none] at length
  exact some (List.eq_nil_of_length_eq_zero length.symm)

/-- A portion at the copy's own rates (R177). -/
theorem add_eq_withPortion {d : Descriptor} {i : LineItem} (chg cond : Nat) (rate : i.rateChg = d.rateChg)
    (rateCond : i.rateCond = d.rateCond) : i.add chg cond = withPortion d chg cond i := by
  unfold LineItem.add withPortion
  rw [rate, rateCond, Nat.add_assoc]

theorem addOverrun_eq (e c : Nat) : LineItem.addOverrun e c = withOverrun e c := by
  funext i
  unfold LineItem.addOverrun withOverrun
  split
  · rfl
  · dsimp only
    rw [Nat.add_assoc]
    cases i.overrun <;> rfl

/-! ## The energies of the items (R177 to R179) -/

theorem itemsEnergy_concat (is : List LineItem) (i : LineItem) :
    itemsEnergy (is ++ [i]) = itemsEnergy is + (i.charging + i.conditioning + (i.overrun.map fun o => o.1 + o.2).getD 0) := by
  simp [itemsEnergy]

theorem itemsConditioning_concat (is : List LineItem) (i : LineItem) :
    itemsConditioning (is ++ [i]) = itemsConditioning is + (i.conditioning + (i.overrun.map (·.2)).getD 0) := by
  simp [itemsConditioning]

/-- A portion raises the items' energies by its parts. -/
theorem onLast_add_energy (chg cond : Nat) (some : is ≠ []) :
    itemsEnergy (onLast (.add chg cond) is) = itemsEnergy is + (chg + cond) ∧
      itemsConditioning (onLast (.add chg cond) is) = itemsConditioning is + cond := by
  obtain rfl | ⟨js, i, rfl⟩ := items_cases is
  · exact absurd rfl some
  · rw [onLast_concat, itemsEnergy_concat, itemsEnergy_concat, itemsConditioning_concat, itemsConditioning_concat]
    unfold LineItem.add
    dsimp only
    constructor <;> omega

/-- An overrun raises the items' energies by the whole pair. -/
theorem onLast_overrun_energy {e c : Nat} (within : c ≤ e) (some : is ≠ []) :
    itemsEnergy (onLast (withOverrun e c) is) = itemsEnergy is + e ∧
      itemsConditioning (onLast (withOverrun e c) is) = itemsConditioning is + c := by
  obtain rfl | ⟨js, i, rfl⟩ := items_cases is
  · exact absurd rfl some
  · rw [onLast_concat, itemsEnergy_concat, itemsEnergy_concat, itemsConditioning_concat, itemsConditioning_concat]
    unfold withOverrun
    split
    next none => omega
    next =>
      dsimp only
      cases i.overrun <;> simp only [Option.map_some, Option.map_none, Option.getD_some, Option.getD_none] <;>
        constructor <;> omega

/-- A line item with nothing applied to it. -/
def emptied (i : LineItem) : LineItem := { i with charging := 0, conditioning := 0, accumulator := 0, overrun := none }

theorem emptied_add (chg cond : Nat) : emptied ∘ LineItem.add chg cond = emptied := rfl

theorem emptied_overrun (e c : Nat) : emptied ∘ withOverrun e c = emptied := by
  funext i
  show emptied (withOverrun e c i) = emptied i
  unfold withOverrun
  split <;> rfl

/-! ## The near-end check (R176) -/

theorem near_eq (r : Running) : r.near = decide (NearEnd r.copy.desc r.quotaLeft r.timeLeft) := by
  rw [Bool.eq_iff_iff]
  unfold Running.near
  simp

/-- The near-end check of the running descriptor, as the interval's walk has it (R176). -/
theorem nearEndCheck_running {base : SessionBase} {r : Running} (runs : s.mtr.session = some ⟨base, some r⟩) :
    nearEndCheck s = onlyIf (raisesLowQuota r) (raiseEvent .lowQuota) { s with
      mtr.session := some ⟨base, some (checked r)⟩
      mtr.prefetched := prefetches s r s.mtr.prefetched } := by
  have near : (r.nearEnd || r.near) = (checked r).nearEnd := by rw [near_eq]; rfl
  have fetched : (if ((checked r).nearEnd && r.copy.desc.chain && s.mtr.prefetched.isNone) = true then
      copySlot r.copy.desc.next s else s.mtr.prefetched) = prefetches s r s.mtr.prefetched := by
    unfold prefetches Follower
    cases (checked r).nearEnd <;> cases r.copy.desc.chain <;> cases s.mtr.prefetched <;> rfl
  unfold nearEndCheck
  rw [runs]
  dsimp only
  rw [near, fetched]
  rfl

/-! ## Writes that replace one another (R187, R188) -/

theorem PageWrite.keepSnapshot_twice (w : PageWrite) : w.keepSnapshot.keepSnapshot = w.keepSnapshot := by
  cases w <;> rfl

theorem snapshotKept_twice (m : Mst) : snapshotKept (snapshotKept m) = snapshotKept m := by
  unfold snapshotKept
  have writes : (m.writes.map (·.keepSnapshot)).map (·.keepSnapshot) = m.writes.map (·.keepSnapshot) := by
    rw [List.map_map]
    exact List.map_congr_left fun w _ => w.keepSnapshot_twice
  have flight : (m.inFlight.map fun f => { f with write := f.write.keepSnapshot }).map
      (fun f => { f with write := f.write.keepSnapshot }) = m.inFlight.map fun f => { f with write := f.write.keepSnapshot } := by
    rw [Option.map_map]
    refine congrArg (m.inFlight.map ·) (funext fun f => ?_)
    show ({ f with write := f.write.keepSnapshot.keepSnapshot } : Flight) = _
    rw [PageWrite.keepSnapshot_twice]
  dsimp only
  rw [writes, flight]

/-- Checkpoints of an interval, one for each activation (R175). -/
def checkpoints (n : Nat) (k : Counters) (b : SessionBase) : List PageWrite :=
  (List.replicate n [.counters k, .checkpoint (.opened b)]).flatten

theorem checkpoints_succ (n : Nat) (k : Counters) (b : SessionBase) :
    checkpoints (n + 1) k b = [.counters k, .checkpoint (.opened b)] ++ checkpoints n k b := by
  unfold checkpoints
  rw [List.replicate_succ, List.flatten_cons]

theorem checkpoints_last (n : Nat) (k : Counters) (b : SessionBase) :
    checkpoints (n + 1) k b = checkpoints n k b ++ [.counters k, .checkpoint (.opened b)] := by
  unfold checkpoints
  rw [List.replicate_succ', List.flatten_concat]

theorem checkpoints_keep (n : Nat) (k : Counters) (b : SessionBase) :
    (checkpoints n k b).map (·.keepSnapshot) = checkpoints n k b := by
  induction n with
  | zero => rfl
  | succ n ih =>
    rw [checkpoints_succ, List.map_append, ih]
    rfl

/-- A pending checkpoint of other contents. -/
def withCheckpoint (b : SessionBase) : PageWrite → PageWrite
  | .checkpoint _ => .checkpoint (.opened b)
  | w => w

theorem withCheckpoint_sameTarget (b : SessionBase) (v w : PageWrite) :
    (withCheckpoint b v).sameTarget (withCheckpoint b w) = v.sameTarget w := by
  cases v <;> cases w <;> rfl

theorem withCheckpoint_twice (b : SessionBase) (w : PageWrite) : withCheckpoint b (withCheckpoint b w) = withCheckpoint b w := by
  cases w <;> rfl

theorem putWrite_withCheckpoint (b : SessionBase) (w : PageWrite) (q : List PageWrite) :
    (putWrite w q).map (withCheckpoint b) = putWrite (withCheckpoint b w) (q.map (withCheckpoint b)) := by
  unfold putWrite
  have found : (q.map (withCheckpoint b)).any (withCheckpoint b w).sameTarget = q.any w.sameTarget := by
    rw [List.any_map]
    exact congrArg (q.any ·) (funext (withCheckpoint_sameTarget b w))
  rw [found]
  split
  · rw [List.map_map, List.map_map]
    refine List.map_congr_left fun x _ => ?_
    simp only [Function.comp, withCheckpoint_sameTarget]
    exact apply_ite (withCheckpoint b) ..
  · rw [List.map_append, List.map_singleton]

theorem putWrites_withCheckpoint (b : SessionBase) (ws q : List PageWrite) :
    (ws.foldl (fun q w => putWrite w q) q).map (withCheckpoint b) =
      (ws.map (withCheckpoint b)).foldl (fun q w => putWrite w q) (q.map (withCheckpoint b)) := by
  induction ws generalizing q with
  | nil => rfl
  | cons w ws ih =>
    have rest := ih (putWrite w q)
    rw [putWrite_withCheckpoint] at rest
    exact rest

/-- A checkpoint queued replaces the contents of a pending one (R187). -/
theorem putCheckpoint_withCheckpoint (b : SessionBase) (q : List PageWrite) :
    putWrite (.checkpoint (.opened b)) q = putWrite (.checkpoint (.opened b)) (q.map (withCheckpoint b)) := by
  have found : (q.map (withCheckpoint b)).any (PageWrite.checkpoint (.opened b)).sameTarget =
      q.any (PageWrite.checkpoint (.opened b)).sameTarget := by
    rw [List.any_map]
    exact congrArg (q.any ·) (funext (withCheckpoint_sameTarget b (.checkpoint (.opened b))))
  unfold putWrite
  rw [found]
  split
  · rw [List.map_map]
    refine List.map_congr_left fun w _ => ?_
    cases w <;> rfl
  next none =>
    have kept : q.map (withCheckpoint b) = q := by
      refine (List.map_congr_left fun w mem => ?_).trans (List.map_id q)
      have other : (PageWrite.checkpoint (.opened b)).sameTarget w ≠ true := fun same => none (List.any_eq_true.2 ⟨w, mem, same⟩)
      cases w with
      | checkpoint c => exact absurd rfl other
      | counters k => rfl
      | place q x clear => rfl
    rw [kept]

/-- Where a checkpoint is queued last, those queued before it may be read with its contents (R175, R187, log 57). -/
theorem WritesQueued.replaced {w : PageWrite} {b : SessionBase}
    (h : WritesQueued (w :: ws ++ [PageWrite.checkpoint (.opened b)]) m n) :
    WritesQueued (w :: ws.map (withCheckpoint b) ++ [PageWrite.checkpoint (.opened b)]) m n := by
  have last (q : List PageWrite) : (ws ++ [PageWrite.checkpoint (.opened b)]).foldl (fun q w => putWrite w q) q =
      (ws.map (withCheckpoint b) ++ [PageWrite.checkpoint (.opened b)]).foldl (fun q w => putWrite w q) q := by
    rw [List.foldl_append, List.foldl_append, List.foldl_cons, List.foldl_cons, List.foldl_nil, List.foldl_nil,
      putCheckpoint_withCheckpoint, putWrites_withCheckpoint,
      putCheckpoint_withCheckpoint b ((ws.map (withCheckpoint b)).foldl _ q), putWrites_withCheckpoint, List.map_map]
    have twice : withCheckpoint b ∘ withCheckpoint b = withCheckpoint b := funext (withCheckpoint_twice b)
    rw [twice]
  obtain ⟨busy, idle⟩ := h
  refine ⟨fun flying => ?_, fun rests empty => ?_⟩
  · obtain ⟨flight, writes⟩ := busy flying
    refine ⟨flight, writes.trans ?_⟩
    rw [List.cons_append, List.foldl_cons, last]
    rfl
  · obtain ⟨flight, writes⟩ := idle rests empty
    refine ⟨flight, writes.trans ?_⟩
    rw [List.cons_append, List.tail_cons, last]
    rfl

/-- One activation's checkpoint, and those of the activations that follow it (R175, log 57). -/
theorem WritesQueued.activations {k : Counters} {a b : SessionBase} {c : Nat}
    (first : WritesQueued [.counters k, .checkpoint (.opened a)] (snapshotKept m) n)
    (later : WritesQueued (checkpoints (c + 1) k b) (snapshotKept n) p) :
    WritesQueued (checkpoints (c + 2) k b) (snapshotKept m) p := by
  have kept := first.kept
  rw [snapshotKept_twice] at kept
  have all := kept.trans later
  rw [checkpoints_last, ← List.append_assoc] at all
  have split : [PageWrite.counters k, .checkpoint (.opened a)].map (·.keepSnapshot) ++ checkpoints c k b ++
      [.counters k, .checkpoint (.opened b)] =
      .counters k :: (.checkpoint (.opened a) :: checkpoints c k b ++ [.counters k]) ++ [.checkpoint (.opened b)] := by
    simp [PageWrite.keepSnapshot]
  rw [split] at all
  have done := all.replaced (b := b)
  have same : (checkpoints c k b).map (withCheckpoint b) = checkpoints c k b := by
    clear done split all kept later first
    induction c with
    | zero => rfl
    | succ c ih =>
      rw [checkpoints_succ, List.map_append, ih]
      rfl
  rw [List.map_append, List.map_cons, same] at done
  have goal : checkpoints (c + 2) k b = .counters k :: (withCheckpoint b (.checkpoint (.opened a)) :: checkpoints c k b ++
      [.counters k].map (withCheckpoint b)) ++ [.checkpoint (.opened b)] := by
    rw [checkpoints_succ, checkpoints_last]
    simp [withCheckpoint]
  rw [goal]
  exact done

end Sys2Proof.Machine
end

section
/-! PROOF. The pair of an interval through the chain of descriptors, as the walk has it (R175 to R179, R188). -/

namespace Sys2Proof.Machine

variable {S s t : State} {P : Prop} {w : WalkEnd} {b : SessionBase} {is : List LineItem} {e c : Nat}
  {y : State × Option MeterRequest}

/-! ## What the walk's end means (R177 to R179) -/

/-- The descriptor that runs on after a walk. -/
def walkRunning (w : WalkEnd) : Option Running :=
  match w.next with
  | .inl r => some r
  | .inr _ => none

/-- What a walk's end asks of the sequencer (R179). -/
def walkRequest (w : WalkEnd) : Option MeterRequest :=
  match w.next with
  | .inl _ => none
  | .inr (cause, suspend) => some (if suspend then .suspend else .stop cause)

/-- The store after a walk: as it was, or with the checkpoints of the activations (R175, R188). -/
def WalkStored (n : Nat) (b : SessionBase) (is : List LineItem) (m m' : Mst) : Prop :=
  if n = 0 then m' = m ∧ onLast emptied is = onLast emptied b.items
  else m'.sessionEnergy = 0 ∧ m'.lifeEnergy = 0 ∧
    WritesQueued (checkpoints n m.working { b with items := onLast emptied is }) (snapshotKept m) m'

/-- The pair (e, c) has been applied in `s`, with the context `b` open, as the walk `w` says: it stands in the items `is`. `P` says that
the walk has the session's own items. -/
structure Walked (P : Prop) (s : State) (b : SessionBase) (w : WalkEnd) (e c : Nat) (is : List LineItem)
    (y : State × Option MeterRequest) : Prop where
  frame : y.1 = { s with
    mtr := { s.mtr with session := some ⟨{ b with items := is }, walkRunning w⟩, prefetched := w.prefetched }
    mst := { s.mst with
      writes := y.1.mst.writes, inFlight := y.1.mst.inFlight
      sessionEnergy := y.1.mst.sessionEnergy, lifeEnergy := y.1.mst.lifeEnergy }
    cpt.events := y.1.cpt.events }
  asks : y.2 = walkRequest w
  suspends : y.2 = some .suspend → .sessionEnd ∈ y.1.cpt.events
  drops : ∀ p, w.next = .inr p → w.prefetched = none
  low : .lowQuota ∈ y.1.cpt.events ↔ .lowQuota ∈ s.cpt.events ∨ w.lowQuota = true
  items : P → is = w.items
  energy : b.items ≠ [] → itemsEnergy is = itemsEnergy b.items + e ∧ itemsConditioning is = itemsConditioning b.items + c
  store : WalkStored w.activations b is s.mst y.1.mst

/-! ## A portion (R177) -/

/-- The running descriptor has taken its portion. -/
abbrev portioned (s : State) (b : SessionBase) (r : Running) (chg cond : Nat) : State :=
  { s with mtr := { s.mtr with session := some ⟨{ b with items := onLast (.add chg cond) b.items }, some r⟩ } }

/-- What follows a portion follows the state before it. -/
theorem Walked.portion {r : Running} {chg cond : Nat}
    (h : Walked P (portioned s b r chg cond) { b with items := onLast (.add chg cond) b.items } w e c is y) :
    Walked P s b w (chg + cond + e) (cond + c) is y := by
  obtain ⟨frame, asks, suspends, drops, low, items, energy, store⟩ := h
  refine ⟨frame, asks, suspends, drops, low, items, fun some => ?_, ?_⟩
  · obtain ⟨all, conditioned⟩ := energy (onLast_ne_nil _ some)
    obtain ⟨added, addedCond⟩ := onLast_add_energy chg cond some
    dsimp only at all conditioned
    rw [added] at all
    rw [addedCond] at conditioned
    exact ⟨by omega, by omega⟩
  · have same : onLast emptied (onLast (.add chg cond) b.items) = onLast emptied b.items := by
      rw [onLast_onLast, emptied_add]
    unfold WalkStored at store ⊢
    dsimp only at store
    rw [same] at store
    exact store

/-! ## The three ends of a step (R175 to R179) -/

/-- The descriptor runs on, checked (R176). -/
theorem walked_goesOn {r : Running} {held : List LineItem} (none : e = 0 ∧ c = 0) (runs : s.mtr.session = some ⟨b, some r⟩)
    (table : s.mtr.table = S.mtr.table) (same : P → b.items = held) :
    Walked P s b (goesOn S r s.mtr.prefetched held) e c b.items (nearEndCheck s, .none) := by
  obtain ⟨rfl, rfl⟩ := none
  have follows : prefetches s r s.mtr.prefetched = prefetches S r s.mtr.prefetched := by
    unfold prefetches Follower SlotCopy
    rw [table]
  have check := nearEndCheck_running runs
  rw [follows] at check
  have low : (goesOn S r s.mtr.prefetched held).lowQuota = raisesLowQuota r := rfl
  refine ⟨?_, rfl, nofun, nofun, ?_, same, fun _ => ⟨rfl, rfl⟩, ?_⟩
  · dsimp only
    rw [check]
    cases raisesLowQuota r <;> rfl
  · dsimp only
    rw [check, low]
    cases raisesLowQuota r with
    | false => simp [Machine.onlyIf]
    | true => exact ⟨fun _ => .inr rfl, fun _ => raised_mem ..⟩
  · refine (if_pos rfl).mpr ⟨?_, rfl⟩
    dsimp only
    rw [check]
    cases raisesLowQuota r <;> rfl

/-- The chain ends, and what is left of the pair is the last item's overrun (R179). -/
theorem walked_ends {r : Option Running} {held : List LineItem} {cause : EndCause} {suspend : Bool}
    (runs : s.mtr.session = some ⟨b, r⟩) (asks : cause = .lineLimit → suspend = false) (within : c ≤ e) (same : P → b.items = held) :
    Walked P s b (endsChain cause suspend e c held) e c (onLast (withOverrun e c) b.items)
      (onLastItem (.addOverrun e c) (chainEnd cause suspend s).1, (chainEnd cause suspend s).2) := by
  have request : chainEndRequest cause suspend = if suspend then .suspend else .stop cause := by
    unfold chainEndRequest
    cases suspend with
    | false => simp
    | true =>
      have other : cause ≠ .lineLimit := fun limit => absurd (asks limit) (by decide)
      simp [other]
  have ended : (chainEnd cause suspend s).1 = onlyIf suspend (raiseEvent .sessionEnd) (endChain s) := by
    unfold chainEnd chainEndEvent
    rw [request]
    cases suspend <;> rfl
  have applied : onLastItem (.addOverrun e c) (endChain s) = { s with mtr := { s.mtr with
      session := some ⟨{ b with items := onLast (withOverrun e c) b.items }, none⟩, prefetched := none } } := by
    unfold onLastItem endChain
    rw [runs, Option.map_some, Option.map_some, updateLast_eq_onLast, addOverrun_eq]
  have after : onLastItem (.addOverrun e c) (chainEnd cause suspend s).1 = onlyIf suspend (raiseEvent .sessionEnd)
      { s with mtr := { s.mtr with
        session := some ⟨{ b with items := onLast (withOverrun e c) b.items }, none⟩, prefetched := none } } := by
    rw [ended, ← applied]
    cases suspend <;> rfl
  refine ⟨?_, ?_, fun asked => ?_, fun _ _ => rfl, ?_, fun p => ?_, onLast_overrun_energy within, (if_pos rfl).mpr ⟨?_, ?_⟩⟩
  · dsimp only
    rw [after]
    cases suspend <;> rfl
  · show some (chainEndRequest cause suspend) = _
    rw [request]
    rfl
  · have asked : some (chainEndRequest cause suspend) = some .suspend := asked
    rw [request] at asked
    dsimp only
    rw [after]
    cases suspend with
    | false => cases asked
    | true => exact raised_mem ..
  · dsimp only
    rw [after]
    cases suspend with
    | false => simp [Machine.onlyIf, endsChain]
    | true => simp [Machine.onlyIf, endsChain]
  · rw [same p]
    rfl
  · dsimp only
    rw [after]
    cases suspend <;> rfl
  · rw [onLast_onLast, emptied_overrun]

/-- What follows an activation, with the activation counted (R175, R176, R188). -/
theorem Walked.activated {f : DescCopy} (h : Walked P t { b with items := b.items ++ [LineItem.start f] } w e c is y)
    (frame : ActivationFrame f b s t)
    (writes : WritesQueued [.counters t.mst.working,
      .checkpoint (.opened { b with items := b.items ++ [LineItem.start f] })] (snapshotKept s.mst) t.mst)
    (low : .lowQuota ∈ t.cpt.events ↔ .lowQuota ∈ s.cpt.events ∨ raisesLowQuota (Running.start f) = true) :
    Walked P s b { w with lowQuota := raisesLowQuota (Running.start f) || w.lowQuota, activations := w.activations + 1 }
      e c is y := by
  obtain ⟨after, asks, suspends, drops, lowAfter, items, energy, store⟩ := h
  unfold ActivationFrame at frame
  have mst : t.mst = { s.mst with
      writes := t.mst.writes, inFlight := t.mst.inFlight, sessionEnergy := 0, lifeEnergy := 0 } := congrArg (·.mst) frame
  have working : t.mst.working = s.mst.working := congrArg (·.working) mst
  refine ⟨?_, asks, suspends, drops, ?_, items, fun some => ?_, ?_⟩
  · refine after.trans ?_
    rw [frame]
    rfl
  · rw [lowAfter, low, Bool.or_eq_true, or_assoc]
  · obtain ⟨all, conditioned⟩ := energy (by simp)
    dsimp only at all conditioned
    rw [itemsEnergy_concat] at all
    rw [itemsConditioning_concat] at conditioned
    exact ⟨all, conditioned⟩
  · have fresh : onLast emptied (b.items ++ [LineItem.start f]) = b.items ++ [LineItem.start f] := by
      rw [onLast_concat]
      rfl
    unfold WalkStored at store ⊢
    dsimp only at store ⊢
    rw [if_neg (Nat.succ_ne_zero _)]
    rw [working] at writes
    split at store
    next none =>
      obtain ⟨kept, still⟩ := store
      rw [fresh] at still
      rw [none, still, kept, mst]
      rw [mst] at writes
      exact ⟨rfl, rfl, writes⟩
    next =>
      obtain ⟨session, life, queued⟩ := store
      refine ⟨session, life, ?_⟩
      rw [working] at queued
      obtain ⟨n, is⟩ := Nat.exists_eq_succ_of_ne_zero ‹w.activations ≠ 0›
      rw [is] at queued ⊢
      exact writes.activations queued

end Sys2Proof.Machine
end

section
/-! PROOF. The model applies an interval's pair as the walk does (R175 to R179). -/

namespace Sys2Proof.Machine

variable {S s t : State} {P : Prop} {b : SessionBase} {r : Running} {first : Bool} {e c fuel : Nat}

/-! ## A descriptor's portion (R177) -/

/-- What a descriptor takes of the interval's energy. -/
abbrev partOf (r : Running) (e : Nat) : Nat := if r.copy.desc.quota = 0 then e else min e r.quotaLeft

/-- The descriptor after its portion. -/
abbrev afterPart (r : Running) (first : Bool) (e : Nat) : Running :=
  { r with
    quotaLeft := if r.copy.desc.quota = 0 then r.quotaLeft else r.quotaLeft - partOf r e
    timeLeft := if r.copy.desc.duration ≠ 0 ∧ first = true then r.timeLeft - 1 else r.timeLeft }

/-- It has used up its quota or its duration. -/
abbrev UsedUp (r : Running) : Prop :=
  (r.copy.desc.quota ≠ 0 ∧ r.quotaLeft = 0) ∨ (r.copy.desc.duration ≠ 0 ∧ r.timeLeft = 0)

theorem partOf_le (r : Running) (e : Nat) : partOf r e ≤ e := by
  unfold partOf
  split <;> omega

theorem ended_iff (r : Running) : r.ended = true ↔ UsedUp r := by
  unfold Running.ended
  simp

/-- A descriptor that has quota and time left has taken all of the energy. -/
theorem partOf_all (goes : ¬ UsedUp (afterPart r first e)) : partOf r e = e := by
  by_contra short
  have quota : r.copy.desc.quota ≠ 0 := fun none => short (if_pos none)
  have part : partOf r e = min e r.quotaLeft := if_neg quota
  refine goes (.inl ⟨quota, ?_⟩)
  show (if r.copy.desc.quota = 0 then r.quotaLeft else r.quotaLeft - partOf r e) = 0
  rw [if_neg quota]
  omega

/-- The state in which a descriptor has taken its portion. -/
abbrev tookPart (s : State) (b : SessionBase) (r : Running) (first : Bool) (e c : Nat) : State :=
  portioned s b (afterPart r first e) (partOf r e - min c (partOf r e)) (min c (partOf r e))

theorem take_eq (r : Running) (first : Bool) (e c : Nat) :
    r.take first e c = (afterPart r first e, partOf r e - min c (partOf r e), min c (partOf r e)) := rfl

theorem part_sum (r : Running) (e c : Nat) : partOf r e - min c (partOf r e) + min c (partOf r e) = partOf r e := by omega

theorem tookPart_eq (s : State) (b : SessionBase) (r : Running) (first : Bool) (e c : Nat) :
    onLastItem (.add (partOf r e - min c (partOf r e)) (min c (partOf r e)))
      { s with mtr.session := some ⟨b, some (afterPart r first e)⟩ } = tookPart s b r first e c := by
  unfold onLastItem
  rw [Option.map_some, updateLast_eq_onLast]

theorem successor_tookPart (s : State) (b : SessionBase) (r : Running) (first : Bool) (e c : Nat) :
    successor r.copy (tookPart s b r first e c) = Follower s r.copy s.mtr.prefetched := rfl

/-! ## The model's step for the running descriptor (R177 to R179) -/

section
variable (runs : s.mtr.session = some ⟨b, some r⟩)
include runs

theorem applyPair_goes (goes : ¬ UsedUp (afterPart r first e)) :
    applyPair (fuel + 1) first e c s = (nearEndCheck (tookPart s b r first e c), none) := by
  rw [applyPair, runs]
  dsimp only
  rw [take_eq]
  dsimp only
  rw [tookPart_eq, if_neg (by rw [ended_iff]; exact goes)]

theorem applyPair_unchained (used : UsedUp (afterPart r first e)) (chain : r.copy.desc.chain = false) :
    applyPair (fuel + 1) first e c s =
      (onLastItem (.addOverrun (e - partOf r e) (c - min c (partOf r e)))
          (chainEnd .quotaEnd r.copy.desc.endSuspend (tookPart s b r first e c)).1,
        (chainEnd .quotaEnd r.copy.desc.endSuspend (tookPart s b r first e c)).2) := by
  rw [applyPair, runs]
  dsimp only
  rw [take_eq]
  dsimp only
  rw [part_sum, tookPart_eq, if_pos ((ended_iff _).2 used), chain]
  rfl

theorem applyPair_broken (used : UsedUp (afterPart r first e)) (chain : r.copy.desc.chain = true)
    (none : Follower s r.copy s.mtr.prefetched = none) :
    applyPair (fuel + 1) first e c s =
      (onLastItem (.addOverrun (e - partOf r e) (c - min c (partOf r e)))
          (chainEnd .chainBroken r.copy.desc.endSuspend (tookPart s b r first e c)).1,
        (chainEnd .chainBroken r.copy.desc.endSuspend (tookPart s b r first e c)).2) := by
  rw [applyPair, runs]
  dsimp only
  rw [take_eq]
  dsimp only
  rw [part_sum, tookPart_eq, if_pos ((ended_iff _).2 used), if_pos chain, successor_tookPart, none]

/-- Without room for a line item the chain ends (R175, R179). -/
theorem applyPair_full {f : DescCopy} (used : UsedUp (afterPart r first e)) (chain : r.copy.desc.chain = true)
    (some : Follower s r.copy s.mtr.prefetched = some f) (full : 16 ≤ b.items.length) :
    applyPair (fuel + 1) first e c s =
      (onLastItem (.addOverrun (e - partOf r e) (c - min c (partOf r e)))
          (chainEnd .lineLimit false (tookPart s b r first e c)).1,
        (chainEnd .lineLimit false (tookPart s b r first e c)).2) := by
  have ends : activate f (tookPart s b r first e c) = (endChain (tookPart s b r first e c), Option.some (.stop .lineLimit)) :=
    activate_full rfl (by rw [onLast_length]; exact full)
  rw [applyPair, runs]
  dsimp only
  rw [take_eq]
  dsimp only
  rw [part_sum, tookPart_eq, if_pos ((ended_iff _).2 used), if_pos chain, successor_tookPart, some]
  dsimp only
  rw [ends]
  rfl

/-- With room, the follower takes what is left of the pair. -/
theorem applyPair_follows {f : DescCopy} (used : UsedUp (afterPart r first e)) (chain : r.copy.desc.chain = true)
    (some : Follower s r.copy s.mtr.prefetched = some f) (room : ¬ 16 ≤ b.items.length) :
    applyPair (fuel + 1) first e c s =
      if e - partOf r e = 0 ∧ c - min c (partOf r e) = 0 then ((activate f (tookPart s b r first e c)).1, none)
      else applyPair fuel false (e - partOf r e) (c - min c (partOf r e)) (activate f (tookPart s b r first e c)).1 := by
  have quiet : (activate f (tookPart s b r first e c)).2 = none := by
    rw [activate_room rfl (by rw [onLast_length]; exact room)]
  rw [applyPair, runs]
  dsimp only
  rw [take_eq]
  dsimp only
  rw [part_sum, tookPart_eq, if_pos ((ended_iff _).2 used), if_pos chain, successor_tookPart, some]
  dsimp only
  generalize activate f (tookPart s b r first e c) = x at quiet ⊢
  obtain ⟨t, q⟩ := x
  dsimp only at quiet
  rw [quiet]

end

/-! ## The walk's step (R177 to R179) -/

/-- The walk's items with the running descriptor's portion. -/
abbrev heldItems (r : Running) (e c : Nat) (items : List LineItem) : List LineItem :=
  onLast (withPortion r.copy.desc (partOf r e - min c (partOf r e)) (min c (partOf r e))) items

/-- The walk's line item of a follower. -/
theorem start_item (f : DescCopy) : LineItem.start f = ⟨f.slot, f.desc.rateChg, f.desc.rateCond, 0, 0, 0, none⟩ := rfl

section
variable {items : List LineItem} {prefetched : Option DescCopy}

theorem chainWalk_goes (goes : ¬ UsedUp (afterPart r first e)) :
    chainWalk S (fuel + 1) items r prefetched first e c =
      goesOn S (afterPart r first e) prefetched (heldItems r e c items) := by
  rw [chainWalk]
  exact if_pos goes

theorem chainWalk_unchained (used : UsedUp (afterPart r first e)) (chain : r.copy.desc.chain = false) :
    chainWalk S (fuel + 1) items r prefetched first e c =
      endsChain .quotaEnd r.copy.desc.endSuspend (e - partOf r e) (c - min c (partOf r e)) (heldItems r e c items) := by
  rw [chainWalk]
  exact (if_neg (not_not.2 used)).trans (if_pos chain)

theorem chainWalk_broken (used : UsedUp (afterPart r first e)) (chain : r.copy.desc.chain = true)
    (none : Follower S r.copy prefetched = none) :
    chainWalk S (fuel + 1) items r prefetched first e c =
      endsChain .chainBroken r.copy.desc.endSuspend (e - partOf r e) (c - min c (partOf r e)) (heldItems r e c items) := by
  rw [chainWalk, none]
  exact (if_neg (not_not.2 used)).trans (if_neg (by rw [chain]; decide))

theorem chainWalk_full {f : DescCopy} (used : UsedUp (afterPart r first e)) (chain : r.copy.desc.chain = true)
    (some : Follower S r.copy prefetched = some f) (full : 16 ≤ items.length) :
    chainWalk S (fuel + 1) items r prefetched first e c =
      endsChain .lineLimit false (e - partOf r e) (c - min c (partOf r e)) (heldItems r e c items) := by
  rw [chainWalk, some]
  exact ((if_neg (not_not.2 used)).trans (if_neg (by rw [chain]; decide))).trans (if_pos full)

/-- What the walk does with a follower. -/
abbrev followerWalk (S : State) (fuel : Nat) (f : DescCopy) (opened : List LineItem) (e c : Nat) : WalkEnd :=
  if e = 0 ∧ c = 0 then goesOn S (.start f) none opened
  else chainWalk S fuel opened (checked (.start f)) (prefetches S (.start f) none) false e c

theorem chainWalk_follows {f : DescCopy} (used : UsedUp (afterPart r first e)) (chain : r.copy.desc.chain = true)
    (some : Follower S r.copy prefetched = some f) (room : ¬ 16 ≤ items.length) :
    chainWalk S (fuel + 1) items r prefetched first e c =
      { followerWalk S fuel f (heldItems r e c items ++ [LineItem.start f]) (e - partOf r e) (c - min c (partOf r e)) with
        lowQuota := raisesLowQuota (.start f) || (followerWalk S fuel f (heldItems r e c items ++ [LineItem.start f])
          (e - partOf r e) (c - min c (partOf r e))).lowQuota
        activations := (followerWalk S fuel f (heldItems r e c items ++ [LineItem.start f])
          (e - partOf r e) (c - min c (partOf r e))).activations + 1 } := by
  rw [chainWalk, some]
  exact ((if_neg (not_not.2 used)).trans (if_neg (by rw [chain]; decide))).trans (if_neg room)

end

/-! ## The pair through the chain (R177 to R179) -/

/-- The last item is at the copy's rates. -/
def AtRates (c : DescCopy) (is : List LineItem) : Prop :=
  ∀ i, is.getLast? = some i → i.rateChg = c.desc.rateChg ∧ i.rateCond = c.desc.rateCond

theorem onLast_congr {f g : LineItem → LineItem} {is : List LineItem} (same : ∀ i, is.getLast? = some i → f i = g i) :
    onLast f is = onLast g is := by
  obtain rfl | ⟨js, i, rfl⟩ := items_cases is
  · rfl
  · rw [onLast_concat, onLast_concat, same i (by simp)]

theorem heldItems_eq {is : List LineItem} (rates : AtRates r.copy is) :
    onLast (.add (partOf r e - min c (partOf r e)) (min c (partOf r e))) is = heldItems r e c is :=
  onLast_congr fun i last => add_eq_withPortion _ _ (rates i last).1 (rates i last).2

/-- A copy just activated, with its check (R175, R176). -/
theorem checked_start (f : DescCopy) : checked (.start f) = { Running.start f with nearEnd := decide (startsNear f) } := by
  unfold checked Running.start
  simp

theorem prefetches_start (S : State) (f : DescCopy) : prefetches S (.start f) none =
    if startsNear f ∧ f.desc.chain = true then SlotCopy f.desc.next S else none := by
  refine if_congr ?_ rfl rfl
  rw [checked_start]
  exact and_congr decide_eq_true_iff Iff.rfl

theorem raisesLowQuota_start (f : DescCopy) :
    raisesLowQuota (.start f) = true ↔ startsNear f ∧ f.desc.notice = true := by
  unfold raisesLowQuota
  rw [checked_start, Bool.and_eq_true, Bool.and_eq_true]
  exact and_congr ((and_iff_left rfl).trans decide_eq_true_iff) Iff.rfl

/-- The state after a follower's activation, as the walk has it (R175, R176). -/
theorem activated_follower {f : DescCopy} (table : s.mtr.table = S.mtr.table) (frame : ActivationFrame f b s t) :
    t.mtr.session = some ⟨{ b with items := b.items ++ [LineItem.start f] }, some (checked (.start f))⟩ ∧
      t.mtr.prefetched = prefetches S (.start f) none ∧ t.mtr.table = S.mtr.table := by
  unfold ActivationFrame at frame
  have mtr := congrArg (·.mtr) frame
  dsimp only at mtr
  rw [mtr, checked_start, prefetches_start]
  unfold SlotCopy
  rw [table]
  exact ⟨rfl, rfl, rfl⟩

/-- A follower that has nothing left to take runs on (R177). -/
theorem walked_rests {f : DescCopy} {opened : List LineItem} (none : e = 0 ∧ c = 0) (runs : t.mtr.session = some ⟨b, some (checked (.start f))⟩)
    (fetched : t.mtr.prefetched = prefetches S (.start f) .none) (told : raisesLowQuota (.start f) = true → .lowQuota ∈ t.cpt.events)
    (same : P → b.items = opened) :
    Walked P t b (goesOn S (.start f) .none opened) e c b.items (t, .none) := by
  obtain ⟨rfl, rfl⟩ := none
  refine ⟨?_, rfl, nofun, nofun, ⟨.inl, fun h => h.elim id told⟩, same, fun _ => ⟨rfl, rfl⟩, (if_pos rfl).mpr ⟨rfl, rfl⟩⟩
  have session : t.mtr.session = some ⟨b, walkRunning (goesOn S (.start f) .none opened)⟩ := runs
  have prefetched : t.mtr.prefetched = (goesOn S (.start f) .none opened).prefetched := fetched
  dsimp only
  rw [← session, ← prefetched]

/-- The pair goes through the chain as the walk says (R177 to R179). -/
theorem applyPair_walked (fuel : Nat) (first : Bool) (e c : Nat) (s : State) (b : SessionBase) (r : Running)
    (items : List LineItem) (runs : s.mtr.session = some ⟨b, some r⟩) (table : s.mtr.table = S.mtr.table)
    (length : items.length = b.items.length) (same : P → b.items = items ∧ AtRates r.copy b.items) (within : c ≤ e)
    (enough : fuel ≠ 0 ∧ 17 ≤ fuel + b.items.length) :
    ∃ is, Walked P s b (chainWalk S fuel items r s.mtr.prefetched first e c) e c is (applyPair fuel first e c s) := by
  induction fuel generalizing first e c s b r items with
  | zero => exact absurd rfl enough.1
  | succ fuel ih =>
    have part := partOf_le r e
    have whole : partOf r e - min c (partOf r e) + min c (partOf r e) + (e - partOf r e) = e := by omega
    have conditioned : min c (partOf r e) + (c - min c (partOf r e)) = c := by omega
    have within' : c - min c (partOf r e) ≤ e - partOf r e := by omega
    have held : P → (onLast (.add (partOf r e - min c (partOf r e)) (min c (partOf r e))) b.items) = heldItems r e c items :=
      fun p => by rw [heldItems_eq (same p).2, (same p).1]
    have follower : Follower s r.copy s.mtr.prefetched = Follower S r.copy s.mtr.prefetched := by
      unfold Follower SlotCopy
      rw [table]
    have step {w : WalkEnd} {is : List LineItem} {y : State × Option MeterRequest}
        (h : Walked P (tookPart s b r first e c)
          { b with items := onLast (.add (partOf r e - min c (partOf r e)) (min c (partOf r e))) b.items } w
          (e - partOf r e) (c - min c (partOf r e)) is y) : Walked P s b w e c is y := by
      have all := h.portion
      rw [whole, conditioned] at all
      exact all
    by_cases used : UsedUp (afterPart r first e)
    · cases chain : r.copy.desc.chain with
      | false =>
        rw [applyPair_unchained runs used chain, chainWalk_unchained used chain]
        exact ⟨_, step (walked_ends rfl nofun within' held)⟩
      | true =>
        cases follows : Follower s r.copy s.mtr.prefetched with
        | none =>
          rw [applyPair_broken runs used chain follows, chainWalk_broken used chain (follower.symm.trans follows)]
          exact ⟨_, step (walked_ends rfl nofun within' held)⟩
        | some f =>
          by_cases full : 16 ≤ b.items.length
          · rw [applyPair_full runs used chain follows full,
              chainWalk_full used chain (follower.symm.trans follows) (by rw [length]; exact full)]
            exact ⟨_, step (walked_ends rfl (fun _ => rfl) within' held)⟩
          · rw [applyPair_follows runs used chain follows full,
              chainWalk_follows used chain (follower.symm.trans follows) (by rw [length]; exact full)]
            obtain ⟨-, frame, writes, -, low⟩ := activate_activated (c := f) (s := tookPart s b r first e c) rfl
              (by rw [onLast_length]; exact full) (WritesQueued.start s.mst)
            obtain ⟨next, fetched, slots⟩ := activated_follower (S := S) table frame
            rw [← raisesLowQuota_start] at low
            have opened : P → onLast (.add (partOf r e - min c (partOf r e)) (min c (partOf r e))) b.items ++ [LineItem.start f] =
                heldItems r e c items ++ [LineItem.start f] := fun p => by rw [held p]
            unfold followerWalk
            by_cases none : e - partOf r e = 0 ∧ c - min c (partOf r e) = 0
            · rw [if_pos none, if_pos none]
              have rests := walked_rests (P := P) none next fetched (fun raised => low.2 (.inr raised)) opened
              exact ⟨_, step (rests.activated frame writes low)⟩
            · rw [if_neg none, if_neg none]
              have rates : AtRates f (onLast (.add (partOf r e - min c (partOf r e)) (min c (partOf r e))) b.items ++
                  [LineItem.start f]) := fun i last => by
                rw [List.getLast?_concat] at last
                cases last
                exact ⟨rfl, rfl⟩
              obtain ⟨is, walked⟩ := ih false (e - partOf r e) (c - min c (partOf r e)) _ _ (checked (.start f))
                (heldItems r e c items ++ [LineItem.start f]) next slots
                (by simp only [List.length_append, onLast_length, length]) (fun p => ⟨opened p, rates⟩) within'
                (by simp only [List.length_append, onLast_length, List.length_singleton]; omega)
              rw [fetched] at walked
              exact ⟨is, step (walked.activated frame writes low)⟩
    · have all := partOf_all used
      rw [applyPair_goes runs used, chainWalk_goes used]
      have none : e - partOf r e = 0 ∧ c - min c (partOf r e) = 0 := by omega
      exact ⟨_, step (walked_goesOn none rfl table held)⟩

end Sys2Proof.Machine
end

section
/-! PROOF. What an interval has metered before the sequencer is asked (R169 to R171, R175 to R179, R188). -/

namespace Sys2Proof.Machine

variable {s t x : State} {a b : SessionBase} {r : Running} {ss : Session} {is : List LineItem} {y : State × Option MeterRequest}

/-! ## The checkpoint at 100,000 mWh (R188) -/

theorem checkpointIfDue_open (opened : x.mtr.session = some ss) :
    checkpointIfDue x = if 100000 ≤ x.mst.sessionEnergy then takeCheckpoint x else x := by
  by_cases due : 100000 ≤ x.mst.sessionEnergy <;> simp [checkpointIfDue, sessionOpen, opened, due, onlyIf]

theorem checkpointIfDue_closed (closed : x.mtr.session = none) :
    checkpointIfDue x = if 100000 ≤ x.mst.lifeEnergy then takeCheckpoint x else x := by
  by_cases due : 100000 ≤ x.mst.lifeEnergy <;> simp [checkpointIfDue, sessionOpen, closed, due, onlyIf]

/-- The store's queue and energies, and the events. -/
abbrev CheckpointFrame (s t : State) : Prop :=
  t = { s with
    mst := { s.mst with
      writes := t.mst.writes, inFlight := t.mst.inFlight, sessionEnergy := t.mst.sessionEnergy, lifeEnergy := t.mst.lifeEnergy }
    cpt.events := t.cpt.events }

theorem checkpointIfDue_frame (x : State) : CheckpointFrame x (checkpointIfDue x) := by
  refine onlyIf_ind (P := CheckpointFrame x) _ rfl ?_
  unfold CheckpointFrame
  have frame := takeCheckpoint_frame x
  rw [frame]

theorem checkpointIfDue_low (x : State) : .lowQuota ∈ (checkpointIfDue x).cpt.events ↔ .lowQuota ∈ x.cpt.events :=
  onlyIf_ind (P := AddsOnly .storeBusy x) _ (fun _ _ => Iff.rfl) (takeCheckpoint_onlyBusy x) .lowQuota (by decide)

/-! ## The pair applied (R177 to R179) -/

theorem started_session (s : State) :
    (intervalStarted s).mtr.session = s.mtr.session.map fun ss => { ss with base := intervalBase s ss.base } := rfl

/-- Conditioning is never more than the energy (R171). -/
theorem conditioning_le (s : State) : intervalConditioning s ≤ intervalEnergy s := Nat.min_le_left _ _

/-- The interval's walk from the running descriptor. -/
abbrev walkFrom (s : State) (a : SessionBase) (r : Running) : WalkEnd :=
  chainWalk s 18 a.items r s.mtr.prefetched true (intervalEnergy s) (intervalConditioning s)

theorem intervalWalk_running (opened : s.mtr.session = some ⟨a, some r⟩) : intervalWalk s = some (walkFrom s a r) := by
  unfold intervalWalk
  rw [opened]

theorem intervalWalk_resting (opened : s.mtr.session = some ⟨a, none⟩) : intervalWalk s = none := by
  unfold intervalWalk
  rw [opened]

theorem intervalWalk_closed (closed : s.mtr.session = none) : intervalWalk s = none := by
  unfold intervalWalk
  rw [closed]

/-- With a running descriptor the pair goes through its chain. -/
theorem applied_running (opened : s.mtr.session = some ⟨a, some r⟩) :
    ∃ is, Walked (ItemsSound s) (intervalStarted s) (intervalBase s a) (walkFrom s a r) (intervalEnergy s) (intervalConditioning s) is
      (applyPair 18 true (intervalEnergy s) (intervalConditioning s) (intervalStarted s)) := by
  refine applyPair_walked 18 true _ _ (intervalStarted s) (intervalBase s a) r a.items ?_ rfl rfl (fun sound => ⟨rfl, ?_⟩)
    (conditioning_le s) (by omega)
  · rw [started_session, opened]
    rfl
  · obtain ⟨-, running⟩ := sound _ opened
    obtain ⟨rates, -⟩ := running r rfl
    intro i last
    have last : a.items.getLast? = some i := last
    rw [last] at rates
    simp only [Option.map_some, Option.some.injEq, Prod.mk.injEq] at rates
    exact ⟨rates.2.1, rates.2.2⟩

/-- Without one the pair is the last item's overrun (R179). -/
theorem applied_resting (opened : s.mtr.session = some ⟨a, none⟩) :
    applyPair 18 true (intervalEnergy s) (intervalConditioning s) (intervalStarted s) =
      ({ intervalStarted s with mtr := { (intervalStarted s).mtr with
          session := some ⟨{ intervalBase s a with
            items := onLast (withOverrun (intervalEnergy s) (intervalConditioning s)) a.items }, none⟩ } }, none) := by
  have runs : (intervalStarted s).mtr.session = some ⟨intervalBase s a, none⟩ := by
    rw [started_session, opened]
    rfl
  rw [applyPair, runs]
  dsimp only
  unfold onLastItem
  rw [runs, Option.map_some, updateLast_eq_onLast, addOverrun_eq]
  rfl

theorem applied_closed (closed : s.mtr.session = none) :
    applyPair 18 true (intervalEnergy s) (intervalConditioning s) (intervalStarted s) = (intervalStarted s, none) := by
  have none : (intervalStarted s).mtr.session = none := by
    rw [started_session, closed]
    rfl
  rw [applyPair, none]

/-! ## What stands in an open session (R170, R171, R175 to R179, R188) -/

theorem metered_base (items : ItemsSound s → is = intervalItems s a.items)
    (energy : a.items ≠ [] → itemsEnergy is = itemsEnergy a.items + intervalEnergy s ∧
      itemsConditioning is = itemsConditioning a.items + intervalConditioning s) :
    Metered s a { intervalBase s a with items := is } :=
  ⟨rfl, rfl, fun _ => rfl, items, energy⟩

/-- What an interval leaves of the state before the sequencer is asked. -/
abbrev MeterFrame (s x : State) : Prop :=
  x = { intervalStarted s with
    mtr := { (intervalStarted s).mtr with session := x.mtr.session, prefetched := x.mtr.prefetched }
    mst := { (intervalStarted s).mst with
      writes := x.mst.writes, inFlight := x.mst.inFlight, sessionEnergy := x.mst.sessionEnergy, lifeEnergy := x.mst.lifeEnergy }
    cpt.events := x.cpt.events }

theorem CheckpointFrame.meter {x z : State} (h : CheckpointFrame x z) (k : MeterFrame s x) : MeterFrame s z := by
  unfold CheckpointFrame at h
  unfold MeterFrame at k ⊢
  rw [h, k]

/-- The checkpoints of an interval with its session open (R175, R188). -/
theorem stored_open {n : Nat} (opened : s.mtr.session ≠ none) (frame : MeterFrame s x)
    (session : x.mtr.session = some ss) (base : ss.base = { intervalBase s a with items := is })
    (count : n = ((intervalWalk s).map (·.activations)).getD 0)
    (store : WalkStored n (intervalBase s a) is (intervalStarted s).mst x.mst) : IntervalStored s (checkpointIfDue x) := by
  have energy : (intervalStarted s).mst.sessionEnergy = s.mst.sessionEnergy + intervalEnergy s := by
    show s.mst.sessionEnergy + (if s.mtr.session = none then 0 else intervalEnergy s) = _
    rw [if_neg opened]
  have working : x.mst.working = (intervalStarted s).mst.working := by rw [frame]
  have check := checkpointIfDue_open session
  have after := checkpointIfDue_frame x
  unfold IntervalStored
  intro ss' is'
  have same : (checkpointIfDue x).mtr.session = x.mtr.session := congrArg (·.mtr.session) after
  rw [same, session] at is'
  obtain rfl := Option.some.inj is'
  rw [← count]
  dsimp only
  unfold WalkStored at store
  by_cases none : n = 0
  · rw [if_pos none] at store ⊢
    obtain ⟨kept, -⟩ := store
    have sum : x.mst.sessionEnergy = s.mst.sessionEnergy + intervalEnergy s := by rw [kept, energy]
    by_cases early : s.mst.sessionEnergy + intervalEnergy s < 100000
    · rw [if_neg (by omega)] at check
      rw [if_pos ⟨none, early⟩, check, kept]
      show (intervalStarted s).mst = _
      rw [← energy]
      rfl
    · rw [if_pos (by omega)] at check
      rw [if_neg (fun h => early h.2), check]
      obtain ⟨session', life, writes⟩ := takeCheckpoint_taken session (WritesQueued.start x.mst)
      have moved := congrArg (·.mst) (takeCheckpoint_frame x)
      dsimp only at moved
      generalize takeCheckpoint x = z at *
      refine ⟨?_, session', life, ?_⟩
      · rw [moved, kept]
        rfl
      · rw [kept] at writes
        exact writes
  · rw [if_neg none] at store ⊢
    obtain ⟨session', life, writes⟩ := store
    rw [if_neg (by omega)] at check
    rw [if_neg (fun h => none h.1), check]
    obtain ⟨k, rfl⟩ := Nat.exists_eq_succ_of_ne_zero none
    rw [← working, Nat.succ_eq_add_one, checkpoints_last] at writes
    have emptied : asActivated ss.base = { intervalBase s a with items := onLast Machine.emptied is } := by
      rw [base]
      rfl
    have mst := congrArg (·.mst) frame
    dsimp only at mst
    rw [emptied]
    refine ⟨?_, session', life, writes⟩
    rw [session', life] at mst
    refine mst.trans ?_
    rw [working]
    rfl

/-- An interval in an open session, before the sequencer is asked: the context `b` after it (R170, R171, R175 to R179, R188). -/
structure Metering (s x : State) (q : Option MeterRequest) (a b : SessionBase) : Prop where
  session : x.mtr.session = some ⟨b, (intervalWalk s).bind walkRunning⟩
  prefetched : x.mtr.prefetched = ((intervalWalk s).map (·.prefetched)).getD s.mtr.prefetched
  asks : q = (intervalWalk s).bind walkRequest
  suspends : q = some .suspend → .sessionEnd ∈ x.cpt.events
  drops : ∀ w p, intervalWalk s = some w → w.next = .inr p → w.prefetched = none
  metered : Metered s a b
  stored : IntervalStored s x
  frame : MeterFrame s x
  low : ∀ w, intervalWalk s = some w → (.lowQuota ∈ x.cpt.events ↔ .lowQuota ∈ s.cpt.events ∨ w.lowQuota = true)

/-- The checkpoint that is due then leaves the session's context and the events as they are. -/
theorem Metering.checked {q : Option MeterRequest} (session : x.mtr.session = some ⟨b, (intervalWalk s).bind walkRunning⟩)
    (prefetched : x.mtr.prefetched = ((intervalWalk s).map (·.prefetched)).getD s.mtr.prefetched)
    (asks : q = (intervalWalk s).bind walkRequest) (suspends : q = some .suspend → .sessionEnd ∈ x.cpt.events)
    (drops : ∀ w p, intervalWalk s = some w → w.next = .inr p → w.prefetched = none) (metered : Metered s a b)
    (stored : IntervalStored s (checkpointIfDue x)) (frame : MeterFrame s x)
    (low : ∀ w, intervalWalk s = some w → (.lowQuota ∈ x.cpt.events ↔ .lowQuota ∈ s.cpt.events ∨ w.lowQuota = true)) :
    Metering s (checkpointIfDue x) q a b := by
  have after := checkpointIfDue_frame x
  refine ⟨?_, ?_, asks, fun asked => checkpointIfDue_events x (suspends asked), drops, metered, stored, after.meter frame, fun w is => (checkpointIfDue_low x).trans (low w is)⟩
  · exact (congrArg (·.mtr.session) after).trans session
  · exact (congrArg (·.mtr.prefetched) after).trans prefetched

theorem meterInterval_open (opened : s.mtr.session = some ss) :
    ∃ b, Metering s (meterInterval s).1 (meterInterval s).2 ss.base b := by
  have some' : s.mtr.session ≠ none := by
    rw [opened]
    exact nofun
  rw [meterInterval_eq]
  obtain ⟨a, running⟩ := ss
  cases running with
  | none =>
    have walk := intervalWalk_resting opened
    rw [applied_resting opened]
    dsimp only
    refine ⟨_, Metering.checked (b := { intervalBase s a with
      items := onLast (withOverrun (intervalEnergy s) (intervalConditioning s)) a.items }) ?_ ?_ ?_ nofun (fun w p is => ?_)
      (metered_base (fun _ => ?_) (onLast_overrun_energy (conditioning_le s)))
      (stored_open (n := 0) (a := a) some' rfl rfl rfl ?_ ((if_pos rfl).mpr ⟨rfl, ?_⟩)) rfl fun w is => ?_⟩
    · rw [walk]
      rfl
    · rw [walk]
      rfl
    · rw [walk]
      rfl
    · rw [walk] at is
      cases is
    · unfold intervalItems
      rw [walk]
    · rw [walk]
      rfl
    · rw [onLast_onLast, emptied_overrun]
      rfl
    · rw [walk] at is
      cases is
  | some r =>
    have walk := intervalWalk_running opened
    obtain ⟨is, frame, asks, suspends, drops, low, items, energy, store⟩ := applied_running opened
    generalize applyPair _ _ _ _ _ = y at *
    have session : y.1.mtr.session = some ⟨{ intervalBase s a with items := is }, walkRunning (walkFrom s a r)⟩ :=
      congrArg (·.mtr.session) frame
    have prefetched : y.1.mtr.prefetched = (walkFrom s a r).prefetched := congrArg (·.mtr.prefetched) frame
    have framed : MeterFrame s y.1 := by
      unfold MeterFrame
      rw [session, prefetched]
      exact frame
    refine ⟨_, Metering.checked (b := { intervalBase s a with items := is }) ?_ ?_ ?_ suspends (fun w p is => ?_)
      (metered_base (fun sound => ?_) energy)
      (stored_open some' framed session rfl ?_ store) framed fun w is => ?_⟩
    · rw [walk]
      exact session
    · rw [walk]
      exact prefetched
    · rw [walk]
      exact asks
    · rw [walk] at is
      obtain rfl := Option.some.inj is
      exact drops p
    · unfold intervalItems
      rw [walk]
      exact items sound
    · rw [walk]
      rfl
    · rw [walk] at is
      obtain rfl := Option.some.inj is
      exact low

/-! ## With no session open (R169, R188) -/

theorem meterInterval_closed (closed : s.mtr.session = none) :
    (meterInterval s).2 = none ∧ MeterFrame s (meterInterval s).1 ∧ (meterInterval s).1.mtr.session = none ∧
      (meterInterval s).1.mtr.prefetched = s.mtr.prefetched ∧
      if s.mst.lifeEnergy + intervalEnergy s < 100000 then
        (meterInterval s).1.mst = { s.mst with
          working := (meterInterval s).1.mst.working, lifeEnergy := s.mst.lifeEnergy + intervalEnergy s }
      else
        (meterInterval s).1.mst = { s.mst with
          working := (meterInterval s).1.mst.working, sessionEnergy := 0, lifeEnergy := 0
          writes := (meterInterval s).1.mst.writes, inFlight := (meterInterval s).1.mst.inFlight } ∧
        WritesQueued [.counters (meterInterval s).1.mst.working] s.mst (meterInterval s).1.mst := by
  have free : (intervalStarted s).mtr.session = none := by
    rw [started_session, closed]
    rfl
  have still : (intervalStarted s).mst.sessionEnergy = s.mst.sessionEnergy := by
    show s.mst.sessionEnergy + (if s.mtr.session = none then 0 else intervalEnergy s) = _
    rw [if_pos closed]
    rfl
  have check := checkpointIfDue_closed free
  have after := checkpointIfDue_frame (intervalStarted s)
  have frame : MeterFrame s (checkpointIfDue (intervalStarted s)) := after.meter rfl
  rw [meterInterval_eq, applied_closed closed]
  dsimp only
  refine ⟨rfl, frame, (congrArg (·.mtr.session) after).trans free, congrArg (·.mtr.prefetched) after, ?_⟩
  have life : (intervalStarted s).mst.lifeEnergy = s.mst.lifeEnergy + intervalEnergy s := rfl
  by_cases early : s.mst.lifeEnergy + intervalEnergy s < 100000
  · rw [if_neg (by omega)] at check
    rw [if_pos early, check]
    show (intervalStarted s).mst = { (intervalStarted s).mst with sessionEnergy := s.mst.sessionEnergy }
    rw [← still]
  · rw [if_pos (by omega)] at check
    have moved := congrArg (·.mst) (takeCheckpoint_frame (intervalStarted s))
    have queued : (takeCheckpoint (intervalStarted s)).mst =
        { (queueCounters (intervalStarted s)).mst with sessionEnergy := 0, lifeEnergy := 0 } := by
      unfold takeCheckpoint
      rw [free]
    have write := (WritesQueued.start (intervalStarted s).mst).queue (.counters (intervalStarted s).mst.working)
    rw [← queueWrite_mst] at write
    have working : (takeCheckpoint (intervalStarted s)).mst.working = (intervalStarted s).mst.working := by rw [moved]
    rw [if_neg early, check, working]
    dsimp only at moved
    refine ⟨moved, ?_⟩
    rw [queued]
    exact write

end Sys2Proof.Machine
end

section
/-! PROOF. What the sequencer's answer to the meter leaves of the meter: sums, carries, counters and LOW_QUOTA (R12, R13, R24, R169 to
R176). -/

namespace Sys2Proof.Machine

variable {r s t : State}

/-! ## The meter's values (R86, R169 to R172, R188) -/

/-- What an interval alone writes of the meter and the store, with the settings and the scans. -/
def meterView (s : State) :=
  (s.cfg, s.msq, s.crg.pMeter, s.mst.page, s.mst.working, s.mtr.sampleCount, s.mtr.powerSum, s.mtr.heaterSum, s.mtr.importCarry,
    s.mtr.heaterCarry, s.mtr.table)

/-- Between `r` and `s` nothing has been metered, and LOW_QUOTA not raised. -/
structure Unmetered (r s : State) : Prop where
  view : meterView s = meterView r
  low : EventKind.lowQuota ∈ s.cpt.events ↔ EventKind.lowQuota ∈ r.cpt.events

theorem Unmetered.refl (s : State) : Unmetered s s := ⟨rfl, Iff.rfl⟩

theorem Unmetered.plain (h : Unmetered r s) (view : meterView t = meterView s) (events : t.cpt.events = s.cpt.events) :
    Unmetered r t :=
  ⟨view.trans h.view, by rw [events]; exact h.low⟩

theorem Unmetered.onlyIf (c : Bool) {f : State → State} (h : Unmetered r s) (k : Unmetered r (f s)) : Unmetered r (onlyIf c f s) :=
  onlyIf_ind (P := Unmetered r) c h k

theorem Unmetered.raiseEvent {k : EventKind} (h : Unmetered r s) (other : k ≠ .lowQuota) : Unmetered r (raiseEvent k s) :=
  ⟨h.view, mem_raiseEvent_iff.trans ((or_iff_right other.symm).trans h.low)⟩

/-- An evaluation of the chain meters nothing. -/
theorem Unmetered.onlyChain (h : Unmetered r s) (only : OnlyChain s t) : Unmetered r t := by
  refine h.plain ?_ (congrArg (·.cpt.events) only)
  unfold OnlyChain at only
  unfold meterView
  rw [only]

theorem Unmetered.enqueue (h : Unmetered r s) (b : FrameBody) : Unmetered r (enqueue b s) := by
  rw [enqueue_frame]
  exact h.plain rfl rfl

/-! ## The line, and entries to a state (R1, R36, R37, R61) -/

theorem Unmetered.endSweep (h : Unmetered r s) (o : SweepOutcome) (hold : Bool) : Unmetered r (endSweep o hold s) := by
  refine Unmetered.raiseEvent ?_ (by decide)
  exact h.plain rfl rfl

theorem Unmetered.endLeading (h : Unmetered r s) (l : LeaderRecord) (o : SweepOutcome) (hold : Bool) :
    Unmetered r (endLeading l o hold s) := ((h.enqueue _).endSweep o hold).plain rfl rfl

theorem Unmetered.abandonSweep (h : Unmetered r s) : Unmetered r (abandonSweep s) := by
  unfold Machine.abandonSweep
  split
  · exact h.endLeading _ _ _
  · exact h

theorem Unmetered.yieldRole (h : Unmetered r s) : Unmetered r (yieldRole s) := by
  rw [yieldRole_eq]
  split
  · refine Unmetered.abandonSweep ?_
    exact h.plain rfl rfl
  · exact h

theorem Unmetered.emptyPeers (h : Unmetered r s) : Unmetered r (emptyPeers s) := by
  have empty : Unmetered r { s with shu.peers := [], shu.overflow := 0 } := h.plain rfl rfl
  exact empty.onlyIf _ (empty.raiseEvent (by decide))

theorem Unmetered.changeLine (h : Unmetered r s) (target : LineState) : Unmetered r (changeLine target s) := by
  have entered : Unmetered r { s with fli := enterLine target s.cfg.station s.fli } := h.plain rfl rfl
  have told := entered.onlyIf (target == .online && s.fli.line == .silent) (entered.raiseEvent (k := .lineResumed) (by decide))
  unfold Machine.changeLine
  dsimp only
  have moved := told.onlyIf (target == .offline) (f := fun x => sweepOffline (Machine.emptyPeers x))
    (told.emptyPeers.plain rfl rfl)
  exact moved.onlyIf _ moved.yieldRole

theorem Unmetered.updateFallback (h : Unmetered r s) : Unmetered r (updateFallback s) := by
  unfold Machine.updateFallback
  dsimp only
  have judged : Unmetered r { s with shu.conds := fallbackConds s } := h.plain rfl rfl
  split
  · unfold enterFallback
    have told : Unmetered r (Machine.raiseEvent .shareFallback { s with shu.conds := fallbackConds s, shu.pendingRise := none }) :=
      Unmetered.raiseEvent (h.plain rfl rfl) (by decide)
    refine Unmetered.onlyChain (Unmetered.onlyChain ?_ (keepFallback_onlyChain _)) (evaluate_onlyChain _)
    exact told.plain rfl rfl
  · exact (judged.raiseEvent (by decide)).onlyChain (evaluate_onlyChain _)
  · exact judged

theorem Unmetered.refreshLine (h : Unmetered r s) : Unmetered r (refreshLine s) := by
  unfold Machine.refreshLine
  refine Unmetered.updateFallback ?_
  split
  · exact h
  · exact h.changeLine _

theorem Unmetered.setSeq (h : Unmetered r s) (q : SeqState) : Unmetered r (setSeq q s) := by
  by_cases there : s.psq.seq = q
  · rw [Machine.setSeq, if_pos there]
    exact h
  · refine Unmetered.onlyChain (Unmetered.raiseEvent ?_ (by decide)) (setSeq_onlyChain there)
    exact h.plain rfl rfl

theorem Unmetered.enterSeq (h : Unmetered r s) (q : SeqState) : Unmetered r (enterSeq q s) := by
  refine ((Unmetered.setSeq ?_ q)).refreshLine
  rw [identOnEntry_frame]
  exact h.plain rfl rfl

theorem Unmetered.takeRelease (h : Unmetered r s) : Unmetered r (takeRelease s) := by
  unfold Machine.takeRelease
  split
  · refine Unmetered.raiseEvent ?_ (by decide)
    exact h.plain rfl rfl
  · exact h

/-! ## The steps of a sweep (R154, R156, R162) -/

theorem Unmetered.enterIsolation (h : Unmetered r s) (ret : ReturnState) : Unmetered r (enterIsolation ret s) := by
  refine Unmetered.setSeq ?_ _
  exact h.plain rfl rfl

theorem Unmetered.reportTarget (h : Unmetered r s) : Unmetered r (reportTarget s) := by
  have told : Unmetered r { s with shu.sweepTarget := true } := h.plain rfl rfl
  exact (told.onlyChain (extraComputation_onlyChain _)).onlyChain (evaluate_onlyChain _)

theorem Unmetered.startOwnStep (h : Unmetered r s) (l : LeaderRecord) : Unmetered r (startOwnStep l s) := by
  unfold Machine.startOwnStep
  dsimp only
  have led : Unmetered r { s with imn.sweep := .leading { l with
      phase := .ownStep, answerTimer := false, cycleTimer := false, ownResults := 0 } } := h.plain rfl rfl
  have told := (led.enqueue (.sweepStep (BitVec.ofNat 8 s.cfg.station) (BitVec.ofNat 8 l.index))).raiseEvent (k := .sweep) (by decide)
  split
  · refine Unmetered.reportTarget (Unmetered.enterIsolation ?_ _)
    exact told.plain rfl rfl
  · exact (told.endLeading _ _ _).takeRelease

theorem Unmetered.startStep (h : Unmetered r s) (l : LeaderRecord) : Unmetered r (startStep l s) := by
  unfold Machine.startStep
  split
  · exact h.startOwnStep l
  · refine (Unmetered.enqueue ?_ _).raiseEvent (by decide)
    exact h.plain rfl rfl

theorem Unmetered.checkSweepStart (h : Unmetered r s) : Unmetered r (checkSweepStart s) := by
  refine h.onlyIf _ (Unmetered.startStep (Unmetered.raiseEvent (Unmetered.enqueue ?_ _) (by decide)) _)
  exact h.plain rfl rfl

theorem Unmetered.clearTarget (h : Unmetered r s) : Unmetered r (clearTarget s) := h.plain rfl rfl

theorem Unmetered.leftSweep (h : Unmetered r s) : Unmetered r (leftSweep s) := by
  unfold Machine.leftSweep
  split
  · split
    · exact (h.endLeading _ _ _).checkSweepStart
    · exact h.clearTarget
  · exact h.clearTarget

theorem Unmetered.leaveTarget (h : Unmetered r s) (q : SeqState) : Unmetered r (leaveTarget q s) := by
  unfold Machine.leaveTarget
  split
  · exact h.clearTarget
  · exact h.clearTarget
  · exact h.leftSweep
  · exact h

/-! ## The relays (R5, R97, R98, R138) -/

theorem Unmetered.endUnmonitored (h : Unmetered r s) : Unmetered r (endUnmonitored s) := by
  have ended : Unmetered r { s with imn.unmonitored := false, imn.unmonTimer := false } := h.plain rfl rfl
  exact ended.onlyIf _ (ended.raiseEvent (by decide))

theorem Unmetered.forgetNet (h : Unmetered r s) : Unmetered r (forgetNet s) := by
  have none : Unmetered r { s with imn.net := .none } := h.plain rfl rfl
  exact none.onlyIf _ (none.raiseEvent (by decide))

theorem Unmetered.setIsolate (h : Unmetered r s) (b : Bool) : Unmetered r (setIsolate b s) := by
  have stages := setIsolate_stages b s
  have pMeter : (Machine.setIsolate b s).crg.pMeter = s.crg.pMeter := congrArg (·.crg.pMeter) stages
  have cpt : (Machine.setIsolate b s).cpt = s.cpt := by simp
  refine h.plain ?_ (by rw [cpt])
  simp [meterView, pMeter]

theorem Unmetered.startSelfCheck (h : Unmetered r s) : Unmetered r (startSelfCheck s) := by
  unfold Machine.startSelfCheck
  split
  · split
    · exact h.plain rfl rfl
    · refine Unmetered.plain (s := Machine.setIsolate true _) (Unmetered.setIsolate ?_ _) rfl rfl
      exact h.plain rfl rfl
  · exact h

theorem Unmetered.enterLocal (h : Unmetered r s) : Unmetered r (enterLocal s) := by
  have local' : Unmetered r { s with imn.mode := .localMode, imn.clearCount := 0 } := h.plain rfl rfl
  exact Unmetered.startSelfCheck (local'.endUnmonitored.forgetNet.plain rfl rfl)

theorem Unmetered.loseRole (h : Unmetered r s) : Unmetered r (loseRole s) := by
  unfold Machine.loseRole
  split
  · split
    · exact h
    · exact h.abandonSweep
  · exact h

theorem Unmetered.contactorOpened (h : Unmetered r s) : Unmetered r (contactorOpened s) := by
  have opened : Unmetered r { s with imn.contactorClosed := false } := h.plain rfl rfl
  unfold Machine.contactorOpened
  dsimp only
  split
  · exact opened
  · exact opened.enterLocal
  · have left : Unmetered r (removeMeasureFrames { s with imn.contactorClosed := false }) := opened.plain rfl rfl
    exact left.enterLocal.loseRole

theorem Unmetered.openRelays (h : Unmetered r s) : Unmetered r (openRelays s) := by
  rw [openRelays_eq]
  split
  · refine Unmetered.contactorOpened ?_
    exact h.plain rfl rfl
  · exact h.plain rfl rfl

/-! ## Stops and suspensions (R12 to R14, R24, R183) -/

theorem Unmetered.queueWrite (h : Unmetered r s) (w : PageWrite) : Unmetered r (queueWrite w s) := by
  refine ⟨?_, (queueWrite_onlyBusy w s _ (by decide)).trans h.low⟩
  rw [queueWrite_frame]
  exact h.view

theorem Unmetered.joinQueue (h : Unmetered r s) (p : Place) (x : SessionRecord) : Unmetered r (joinQueue p x s) := by
  refine Unmetered.raiseEvent ?_ (by decide)
  exact h.plain rfl rfl

theorem Unmetered.placeRecord (h : Unmetered r s) (b : SessionBase) (cause : EndCause) (stored : Bool) :
    Unmetered r (placeRecord b cause stored s) := by
  unfold Machine.placeRecord queueCounters
  dsimp only
  split
  · exact ((h.joinQueue _ _).queueWrite _).queueWrite _
  · split
    · refine Unmetered.queueWrite (Unmetered.queueWrite ?_ _) _
      exact h.plain rfl rfl
    · have waits : Unmetered r { s with mst.waiting := some (recordOf b cause) } := h.plain rfl rfl
      have counted := waits.queueWrite (.counters s.mst.working)
      refine Unmetered.onlyIf _ counted ?_
      generalize Machine.queueWrite _ _ = x at counted ⊢
      exact Unmetered.queueWrite (s := cancelClears x) (counted.plain rfl rfl) _

theorem Unmetered.endSession (h : Unmetered r s) (cause : EndCause) : Unmetered r (endSession cause s) := by
  have closed : Unmetered r (closeSession cause s.psq.forced s) := by
    unfold closeSession
    split
    · exact h
    · refine Unmetered.raiseEvent (Unmetered.placeRecord ?_ _ _ _) (by decide)
      exact h.plain rfl rfl
  unfold Machine.endSession
  generalize closeSession cause s.psq.forced s = x at closed ⊢
  have gone : Unmetered r { x with shu := shareGone x.shu } := closed.plain rfl rfl
  exact gone.onlyChain (clearSession_onlyChain x)

theorem Unmetered.finishStop (h : Unmetered r s) : Unmetered r (finishStop s) := by
  have quiet : Unmetered r { s with imn.pendingRelease := false } := h.plain rfl rfl
  have ended := quiet.endSession (s.psq.stopCause.getD .hostStop)
  have stopped := Unmetered.enterSeq (s := forgetStop (stopTimers _)) (ended.plain rfl rfl) .identified
  exact Unmetered.onlyIf _ stopped (stopped.enqueue _)

theorem Unmetered.isolatedStop (h : Unmetered r s) : Unmetered r (isolatedStop s) := by
  unfold Machine.isolatedStop
  split
  · exact h.finishStop
  · have cut : Unmetered r (Machine.openRelays (stopTimers s)) := Unmetered.openRelays (h.plain rfl rfl)
    unfold rejoinStopped
    split
    · exact cut.finishStop
    · exact cut
  · exact h

theorem Unmetered.takeRequest (h : Unmetered r s) (q : Option MeterRequest) : Unmetered r (takeRequest q s) := by
  have starts (cause : EndCause) : Unmetered r (startStop cause s) := by
    refine Unmetered.enterSeq ?_ .stopping
    exact (h.leaveTarget s.psq.seq).plain rfl rfl
  have records (cause : EndCause) : Unmetered r (recordIsolatedStop cause s) := by
    have recorded : Unmetered r { s with
        psq.stopCause := some cause, psq.forced := s.psq.forced && !s.psq.stopCause.isNone } := h.plain rfl rfl
    exact (recorded.onlyIf _ recorded.leftSweep).isolatedStop
  unfold Machine.takeRequest
  split
  · exact h
  · unfold suspendRequest
    split
    · exact h.enterSeq _
    · exact h.plain rfl rfl
    · exact h
  · unfold stopRequest
    split
    · exact starts _
    · exact starts _
    · split
      · exact h
      · exact records _
    · exact h

end Sys2Proof.Machine
end

section
/-! PROOF. What the sequencer's answer to the meter leaves of the session: its context but for the fallback mark, or its record (R12,
R13, R24, R63, R183, R189). -/

namespace Sys2Proof.Machine

variable {s t u x : State} {b : SessionBase} {run : Option Running}

/-! ## The fallback mark (R63, R174) -/

/-- The open session is as it was, but for a mark of fallback; nothing else of the meter and nothing of the store moves. -/
def Marked (s t : State) : Prop :=
  t.mst = s.mst ∧ (t.mtr = s.mtr ∨ t.mtr = (markSession (fun f => { f with fallbackUsed := true }) s).mtr)

theorem Marked.same (mst : t.mst = s.mst) (mtr : t.mtr = s.mtr) : Marked s t := ⟨mst, .inl mtr⟩

theorem Marked.of (h : Marked s t) (mst : s.mst = x.mst) (mtr : s.mtr = x.mtr) : Marked x t := by
  unfold Marked markSession at *
  rw [← mst, ← mtr]
  exact h

theorem updateFallback_marked (s : State) : Marked s (updateFallback s) := by
  have mtr : (updateFallback s).mtr = judgedMtr s := congrArg (·.mtr) (updateFallback_onlyChain s)
  refine ⟨congrArg (·.mst) (updateFallback_onlyChain s), ?_⟩
  rw [mtr]
  unfold judgedMtr
  split
  · exact .inr rfl
  · exact .inl rfl

theorem enterSeq_marked (q : SeqState) (s : State) : Marked s (enterSeq q s) := by
  have entered : enterSeq q s = updateFallback (lineMoved (setSeq q (identOnEntry q s))) := refreshLine_eq _
  have moved := lineMoved_frame (setSeq q (identOnEntry q s))
  have mst : (lineMoved (setSeq q (identOnEntry q s))).mst = (setSeq q (identOnEntry q s)).mst := congrArg (·.mst) moved
  have mtr : (lineMoved (setSeq q (identOnEntry q s))).mtr = (setSeq q (identOnEntry q s)).mtr := congrArg (·.mtr) moved
  rw [entered]
  exact (updateFallback_marked _).of (mst.trans (by simp)) (mtr.trans (by simp))

/-- The context of a session that stays open. -/
theorem Marked.session (h : Marked s t) (opened : s.mtr.session = some ⟨b, run⟩) :
    ∃ b', t.mtr.session = some ⟨b', run⟩ ∧ b' = { b with flags := b'.flags } ∧ b'.flags.reverseFlow = b.flags.reverseFlow ∧
      t.mst = s.mst ∧ t.mtr.prefetched = s.mtr.prefetched := by
  obtain ⟨mst, mtr | mtr⟩ := h
  · exact ⟨b, by rw [mtr, opened], rfl, rfl, mst, by rw [mtr]⟩
  · refine ⟨{ b with flags := { b.flags with fallbackUsed := true } }, ?_, rfl, rfl, mst, by rw [mtr]; rfl⟩
    rw [mtr]
    unfold markSession
    rw [opened]
    rfl

/-! ## A recorded stop within an isolation (R24) -/

/-- The recorded stop stays. -/
abbrev StopKept (s t : State) : Prop := t.psq.stopCause = s.psq.stopCause ∧ t.psq.forced = s.psq.forced

theorem takeRelease_stopKept (s : State) : StopKept s (takeRelease s) := by
  unfold StopKept
  rw [takeRelease_psq]
  split <;> exact ⟨rfl, rfl⟩

theorem startStep_stopKept (l : LeaderRecord) (isolated : s.psq.seq.isolated = true) : StopKept s (startStep l s) := by
  have away : ¬ (s.psq.seq = .active ∨ s.psq.seq = .suspended) := by
    rintro (h | h) <;> rw [h] at isolated <;> cases isolated
  by_cases own : l.index + 1 = l.list.length
  · rw [startStep_own own, if_neg away]
    have kept := takeRelease_stopKept (endLeading { ownStep l with unresponsive := l.unresponsive + 1 } .notFound true
      (stepAnnounced s.cfg.station (ownStep l) s))
    unfold StopKept at kept
    rw [endLeading_psq, stepAnnounced_frame] at kept
    rw [stepAnnounced_frame]
    exact kept
  · rw [startStep_peer own, stepAnnounced_frame]
    exact ⟨rfl, rfl⟩

theorem leftSweep_stopKept (isolated : s.psq.seq.isolated = true) : StopKept s (leftSweep s) := by
  obtain ⟨l, leads, own⟩ | other := inOwnStep_cases s
  · have ended : leftSweep s = checkSweepStart (endLeading l .abandoned false s) := by
      unfold leftSweep
      rw [leads]
      exact if_pos own
    have psq := endLeading_psq l .abandoned false s
    rw [ended]
    by_cases ready : sweepReady (endLeading l .abandoned false s) = true
    · have kept := startStep_stopKept (sweepRecord (endLeading l .abandoned false s))
        (s := sweepAlerted (endLeading l .abandoned false s)) (by rw [sweepAlerted_psq, psq]; exact isolated)
      unfold StopKept at kept
      rw [sweepAlerted_psq, psq] at kept
      rw [checkSweepStart_ready ready, startSweep_eq]
      exact kept
    · rw [checkSweepStart_unready ready, StopKept, psq]
      exact ⟨rfl, rfl⟩
  · rw [leftSweep_other other]
    exact ⟨rfl, rfl⟩

/-! ## A stop's end (R24, R183, R189) -/

/-- Whatever the line does, a stop's end ends the session with the recorded cause. -/
theorem finishStop_ended {cause : EndCause} (recorded : s.psq.stopCause = some cause) :
    SessionEnded cause s.psq.forced s (finishStop s) := by
  have ended : SessionEnded cause s.psq.forced s (sessionStopped cause s) :=
    endSession_ended cause { s with imn.pendingRelease := false }
  have frame := stopReady_frame cause s
  rw [finishStop_eq, recorded, Option.getD_some]
  generalize sessionStopped cause s = y at ended frame
  generalize stopReady cause s = z at frame ⊢
  obtain ⟨closed, off, joint, share, -⟩ := id ended
  have session : z.mtr.session = none := by rw [frame]; exact closed
  have gone : ShareGone z := by rw [frame]; exact ⟨off, joint, share⟩
  have now : SessionEnded cause s.psq.forced s (enterSeq .identified z) := by
    refine ended.later ?_ (enterSeq_gone .identified gone) ?_ fun e mem => enterSeq_events .identified z (by rw [frame]; exact mem)
    · rw [enterSeq_mtr .identified session]
      exact session
    · rw [(enterSeq_marked .identified z).1, frame]
  generalize enterSeq .identified z = v at now ⊢
  refine onlyIf_ind (P := SessionEnded cause s.psq.forced s) _ now ?_
  rw [enqueue_frame]
  exact now

/-- The session has been closed by a stop, unforced: its record is held. -/
def ClosedBy (cause : EndCause) (b : SessionBase) (t : State) : Prop :=
  t.mtr.session = none ∧ t.mtr.prefetched = none ∧ .sessionEnd ∈ t.cpt.events ∧
    RecordHeld (recordOf { b with flags := { b.flags with forcedStop := false } } cause) t

/-- With its session a prefetched copy goes (R174, R183). -/
theorem finishStop_prefetched {ss : Session} (opened : s.mtr.session = some ss) : (finishStop s).mtr.prefetched = none := by
  have ended : (sessionStopped (s.psq.stopCause.getD .hostStop) s).mtr = { s.mtr with
      session := none, prefetched := if s.mtr.session = none then s.mtr.prefetched else none } :=
    congrArg (·.mtr) (endSession_onlyChain (s.psq.stopCause.getD .hostStop) { s with imn.pendingRelease := false })
  have kept : (stopReady (s.psq.stopCause.getD .hostStop) s).mtr = (sessionStopped (s.psq.stopCause.getD .hostStop) s).mtr := rfl
  rw [opened] at ended
  rw [finishStop_eq]
  generalize stopReady _ _ = z at kept ⊢
  generalize sessionStopped _ _ = y at ended kept
  have closed : z.mtr.session = none := by rw [kept, ended]
  have entered : (enterSeq .identified z).mtr.prefetched = none := by
    rw [enterSeq_mtr .identified closed, kept, ended]
    rfl
  generalize enterSeq .identified z = v at entered ⊢
  refine onlyIf_ind (P := fun w : State => w.mtr.prefetched = none) _ entered ?_
  rw [enqueue_frame]
  exact entered

theorem finishStop_closed {cause : EndCause} (recorded : s.psq.stopCause = some cause) (unforced : s.psq.forced = false)
    (opened : s.mtr.session = some ⟨b, run⟩) : ClosedBy cause b (finishStop s) := by
  obtain ⟨closed, -, -, -, held⟩ := finishStop_ended recorded
  obtain ⟨record, event⟩ := held _ opened
  rw [unforced] at record
  exact ⟨closed, finishStop_prefetched opened, event, record⟩

/-- A stop recorded in an isolation ends the session, or leaves the meter and the store (R24). -/
theorem isolatedStop_session {cause : EndCause} (recorded : s.psq.stopCause = some cause) (unforced : s.psq.forced = false)
    (opened : s.mtr.session = some ⟨b, run⟩) :
    ((isolatedStop s).mst = s.mst ∧ (isolatedStop s).mtr = s.mtr) ∨ ClosedBy cause b (isolatedStop s) := by
  unfold isolatedStop
  split
  · exact .inr (finishStop_closed recorded unforced opened)
  · have mst : (openRelays (stopTimers s)).mst = s.mst := by simp
    have mtr : (openRelays (stopTimers s)).mtr = s.mtr := by simp
    have psq := openRelays_psq (stopTimers s)
    generalize openRelays (stopTimers s) = z at mst mtr psq ⊢
    unfold rejoinStopped
    split
    · exact .inr (finishStop_closed (by rw [psq]; exact recorded) (by rw [psq]; exact unforced) (by rw [mtr]; exact opened))
    · exact .inl ⟨mst, mtr⟩
  · exact .inl ⟨rfl, rfl⟩

theorem recordIsolatedStop_session {cause : EndCause} (first : s.psq.stopCause = none) (isolated : s.psq.seq.isolated = true)
    (opened : s.mtr.session = some ⟨b, run⟩) :
    ((recordIsolatedStop cause s).mst = s.mst ∧ (recordIsolatedStop cause s).mtr = s.mtr) ∨ ClosedBy cause b (recordIsolatedStop cause s) := by
  have whole : stopRecorded cause s = leftSweep { s with psq := recordedPsq cause s.psq } := by
    unfold stopRecorded
    rw [first]
    rfl
  obtain ⟨kept, forced⟩ := leftSweep_stopKept (s := { s with psq := recordedPsq cause s.psq }) isolated
  rw [recordIsolatedStop_eq, whole]
  have mst : (leftSweep { s with psq := recordedPsq cause s.psq }).mst = s.mst := by simp
  have mtr : (leftSweep { s with psq := recordedPsq cause s.psq }).mtr = s.mtr := by simp
  generalize leftSweep _ = z at kept forced mst mtr ⊢
  obtain ⟨mst', mtr'⟩ | closed := isolatedStop_session (s := z) (cause := cause) kept
    (forced.trans (by show (s.psq.forced && s.psq.stopCause.isSome) = false; rw [first]; exact Bool.and_false _))
    (by rw [mtr]; exact opened)
  · exact .inl ⟨mst'.trans mst, mtr'.trans mtr⟩
  · exact .inr closed

/-! ## The meter's request (R12, R13, R179) -/

/-- A session that stays open: but for a mark of fallback, and in a settled part with no mark. -/
def StaysOpen (s t : State) : Prop := Marked s t ∧ (LineSettled s → t.mtr = s.mtr)

theorem StaysOpen.same (mst : t.mst = s.mst) (mtr : t.mtr = s.mtr) : StaysOpen s t := ⟨.same mst mtr, fun _ => mtr⟩

theorem startStop_staysOpen (cause : EndCause) (charging : s.psq.seq = .active ∨ s.psq.seq = .suspended) :
    StaysOpen s (startStop cause s) := by
  refine ⟨(enterSeq_marked .stopping _).of (by simp) (by simp), fun settled => ?_⟩
  have only := startStop_onlyChain cause settled charging
  exact congrArg (·.mtr) only

/-- ACTIVE is suspended, and only the chain moves with it (R12). -/
theorem suspend_onlyChain (settled : LineSettled s) (active : s.psq.seq = .active) :
    OnlyChain (raiseEvent .seqState { s with psq := { s.psq with seq := .suspended, batteryLow := false } })
      (enterSeq .suspended s) := by
  have entered := enterSeq_onlyChain (q := .suspended) (s := s) ⟨settled.1, settled.2.1⟩ (by simp [active]) (by simp) (by decide)
    (by decide) (by simp [active])
  have left : leaveState .suspended s.psq = { s.psq with seq := .suspended, batteryLow := false } := by
    rw [leaveState_psq (by simp [active])]
    simp
  rw [left] at entered
  exact entered

/-- The meter's request leaves the session open, or closes it as a stop with its cause. -/
theorem takeRequest_session (q : Option MeterRequest) (opened : s.mtr.session = some ⟨b, run⟩) :
    StaysOpen s (takeRequest q s) ∨ ∃ cause, q = some (.stop cause) ∧ ClosedBy cause b (takeRequest q s) := by
  unfold takeRequest
  split
  · exact .inl (.same rfl rfl)
  · unfold suspendRequest
    split
    next active => exact .inl ⟨enterSeq_marked _ _, fun settled => congrArg (·.mtr) (suspend_onlyChain settled active)⟩
    · exact .inl (.same rfl rfl)
    · exact .inl (.same rfl rfl)
  next cause =>
    unfold stopRequest
    split
    next active => exact .inl (startStop_staysOpen _ (.inl active))
    next suspended => exact .inl (startStop_staysOpen _ (.inr suspended))
    next isolated =>
      split
      · exact .inl (.same rfl rfl)
      next first =>
        have first : s.psq.stopCause = none := Option.not_isSome_iff_eq_none.1 first
        obtain ⟨mst, mtr⟩ | closed := recordIsolatedStop_session (cause := cause) first (by rw [isolated]; rfl) opened
        · exact .inl (.same mst mtr)
        · exact .inr ⟨cause, rfl, closed⟩
    · exact .inl (.same rfl rfl)

end Sys2Proof.Machine
end

section
/-! PROOF. The metering interval (R12, R13, R24, R86, R169 to R179, R188). -/

namespace Sys2Proof.Machine

variable {s t x : State} {a b : SessionBase} {w : WalkEnd} {cause : EndCause} {suspend : Bool}

/-! ## A part that has metered (R4, R36) -/

/-- What the sequencer and the line look at is not metered. -/
theorem MeterFrame.parts (frame : MeterFrame s x) :
    x.psq = s.psq ∧ x.imn = s.imn ∧ x.fli = s.fli ∧ (LineSettled s → LineSettled x) := by
  unfold MeterFrame at frame
  rw [frame]
  exact ⟨rfl, rfl, rfl, id⟩

theorem MeterFrame.leaves (frame : MeterFrame s x) (drive : DriveSafe s) (isolated : s.psq.seq.isolated = true) : Leaves x := by
  obtain ⟨psq, imn, -, -⟩ := frame.parts
  have leaves := drive.leaves isolated
  unfold Leaves at leaves ⊢
  rw [psq, imn]
  exact leaves

theorem MeterFrame.joins (frame : MeterFrame s x) (drive : DriveSafe s) (energizes : x.psq.seq.energizes = true) :
    x.imn.mode = .localMode := by
  obtain ⟨psq, imn, -, -⟩ := frame.parts
  rw [psq] at energizes
  rw [imn]
  exact drive.2.2.1.2.2.2.2.2.2.2 energizes

/-! ## Chain ends (R12, R13, R24, R179) -/

theorem suspendRequest_active (active : x.psq.seq = .active) : suspendRequest x = enterSeq .suspended x := by
  unfold suspendRequest
  rw [active]

theorem suspendRequest_ramping (ramps : x.psq.seq = .sweepIsolated .isoRamp) :
    suspendRequest x = { x with psq.isoReturn := some .suspended } := by
  unfold suspendRequest
  rw [ramps]

theorem suspendRequest_other (rests : x.psq.seq ≠ .active) (stays : x.psq.seq ≠ .sweepIsolated .isoRamp) : suspendRequest x = x := by
  unfold suspendRequest
  split
  next active => exact absurd active rests
  next ramps => exact absurd ramps stays
  · rfl

theorem suspendRequest_mtr (settled : LineSettled x) : (suspendRequest x).mtr = x.mtr := by
  by_cases active : x.psq.seq = .active
  · rw [suspendRequest_active active]
    exact congrArg (·.mtr) (suspend_onlyChain settled active)
  by_cases ramps : x.psq.seq = .sweepIsolated .isoRamp
  · rw [suspendRequest_ramping ramps]
  rw [suspendRequest_other active ramps]

/-- END_SUSPEND suspends the station, or has its isolation return to SUSPENDED (R12, R179). -/
theorem chainEnded_suspend (cause : EndCause) (settled : LineSettled x) (psq : x.psq = s.psq) (dropped : x.mtr.prefetched = none)
    (rests : x.mtr.session.bind (·.running) = none) (told : .sessionEnd ∈ x.cpt.events) :
    ChainEnded cause true s (suspendRequest x) := by
  have mtr := suspendRequest_mtr settled
  unfold ChainEnded
  rw [mtr, if_pos rfl]
  refine ⟨dropped, rests, suspendRequest_events x told, ?_⟩
  split
  next active =>
    rw [← psq] at active ⊢
    have only := suspend_onlyChain settled active
    have cpt : (enterSeq .suspended x).cpt = (raiseEvent .seqState x).cpt := congrArg (·.cpt) only
    rw [suspendRequest_active active]
    refine ⟨congrArg (·.psq) only, ?_⟩
    rw [cpt]
    exact raised_mem ..
  next ramps =>
    rw [← psq] at ramps ⊢
    rw [suspendRequest_ramping ramps]
  next active ramps =>
    rw [suspendRequest_other (by rw [psq]; exact active) (by rw [psq]; exact ramps), psq]

/-- What a stop does in an isolation reads of the meter only the session it ends. -/
theorem IsolatedStop.metered (frame : MeterFrame s x) (stop : IsolatedStop cause false x t) :
    IsolatedStop cause false { s with mtr := t.mtr } t := by
  have ended (h : SessionEnded cause false x t) : SessionEnded cause false { s with mtr := t.mtr } t := by
    obtain ⟨closed, off, joint, share, -⟩ := h
    refine ⟨closed, off, joint, share, fun ss opened => ?_⟩
    have opened : t.mtr.session = some ss := opened
    rw [closed] at opened
    cases opened
  obtain ⟨psq, -⟩ := frame.parts
  unfold MeterFrame at frame
  unfold IsolatedStop at stop ⊢
  rw [psq] at stop
  split
  next waits =>
    rw [show s.psq.seq = _ from waits] at stop
    obtain ⟨identified, pending, session⟩ := stop
    exact ⟨identified, pending, ended session⟩
  next rejoins =>
    rw [show s.psq.seq = _ from rejoins] at stop
    obtain ⟨relays, precharge, contactor, rest⟩ := stop
    refine ⟨?_, precharge, contactor, ?_⟩
    · rw [frame] at relays
      exact relays
    · split
      next both =>
        rw [if_pos both] at rest
        obtain ⟨identified, pending, session⟩ := rest
        exact ⟨identified, pending, ended session⟩
      next waits =>
        rw [if_neg waits] at rest
        obtain ⟨rejoins, recorded, forced, -⟩ := rest
        exact ⟨rejoins, recorded, forced, rfl⟩
  next waits rejoins =>
    split at stop
    next is => exact absurd is waits
    next is => exact absurd is rejoins
    · exact ⟨stop.1, rfl⟩

/-- Without END_SUSPEND a chain's end is a stop request (R13, R24, R179). -/
theorem chainEnded_stop {run : Option Running} (frame : MeterFrame s x) (drive : DriveSafe s) (settled : LineSettled s)
    (opened : x.mtr.session = some ⟨b, run⟩) (rests : run = none) (dropped : x.mtr.prefetched = none) :
    ChainEnded cause false s (stopRequest cause x) := by
  obtain ⟨psq, -, -, line⟩ := frame.parts
  have session := takeRequest_session (some (.stop cause)) opened
  have meter : (stopRequest cause x).mtr.prefetched = none ∧ (stopRequest cause x).mtr.session.bind (·.running) = none := by
    have asked : takeRequest (some (.stop cause)) x = stopRequest cause x := rfl
    rw [asked] at session
    obtain stays | ⟨-, -, closed, gone, -⟩ := session
    · rw [stays.2 (line settled), opened, rests]
      exact ⟨dropped, rfl⟩
    · rw [closed]
      exact ⟨gone, rfl⟩
  unfold ChainEnded
  rw [if_neg (by decide)]
  refine ⟨meter.1, meter.2, ?_⟩
  have charges (charging : s.psq.seq = .active ∨ s.psq.seq = .suspended) :
      (stopRequest cause x).psq = (stopBegun cause s).psq ∧ NoTarget (stopRequest cause x) ∧
        .seqState ∈ (stopRequest cause x).cpt.events := by
    rw [← psq] at charging
    rw [stopRequest_charging cause charging]
    have only := startStop_onlyChain cause (line settled) charging
    have cpt : (startStop cause x).cpt = (stopBegun cause x).cpt := congrArg (·.cpt) only
    refine ⟨?_, ⟨congrArg (·.imn.target) only, congrArg (·.imn.pendingRelease) only, congrArg (·.shu.sweepTarget) only⟩, ?_⟩
    · refine (congrArg (·.psq) only).trans ?_
      unfold stopBegun
      rw [psq]
      rfl
    · rw [cpt]
      exact raised_mem ..
  split
  next active => exact charges (.inl active)
  next suspended => exact charges (.inr suspended)
  next p isolated =>
    have here : x.psq.seq = .sweepIsolated p := by
      rw [psq]
      exact isolated
    have asked : stopRequest cause x = if x.psq.stopCause.isSome = true then x else recordIsolatedStop cause x := by
      unfold stopRequest
      rw [here]
    rw [asked, psq]
    split
    next recorded =>
      rw [if_pos (Option.isSome_iff_ne_none.2 recorded), psq]
    next first =>
      have first : s.psq.stopCause = none := not_not.1 first
      obtain ⟨stop, none⟩ := recordIsolatedStop_taken cause (frame.leaves drive (by rw [isolated]; rfl)) (frame.joins drive)
        (line settled).1 (by rw [here]; rfl)
      have unforced : (x.psq.forced && x.psq.stopCause.isSome) = false := by
        rw [psq, first]
        exact Bool.and_false _
      rw [unforced] at stop
      rw [if_neg (by rw [first]; decide)]
      exact ⟨none (by rw [psq]; exact first), stop.metered frame⟩
  next active suspended away =>
    have still : stopRequest cause x = x := by
      unfold stopRequest
      rw [psq]
      split
      next is => exact absurd is active
      next is => exact absurd is suspended
      next is => exact absurd is (away _)
      · rfl
    rw [still, psq]

/-! ## The interval event (R169 to R179, O48) -/

/-- With no session open only the counters move (R169, R188). -/
theorem interval_closed (closed : s.mtr.session = none) :
    (takeRequest (meterInterval s).2 (meterInterval s).1).mtr.session = none ∧
      (takeRequest (meterInterval s).2 (meterInterval s).1).psq = s.psq ∧
      (takeRequest (meterInterval s).2 (meterInterval s).1).mtr.prefetched = s.mtr.prefetched ∧
      takeRequest (meterInterval s).2 (meterInterval s).1 = (meterInterval s).1 := by
  obtain ⟨quiet, frame, none, fetched, -⟩ := meterInterval_closed closed
  have asked : takeRequest (meterInterval s).2 (meterInterval s).1 = (meterInterval s).1 := by
    rw [quiet]
    rfl
  rw [asked]
  exact ⟨none, frame.parts.1, fetched, rfl⟩

/-- What the walk asks, by its end. -/
theorem walkRequest_stop {o : Option WalkEnd} (asks : some (.stop cause) = o.bind walkRequest) :
    o.map (·.next) = some (.inr (cause, false)) := by
  cases o with
  | none => cases asks
  | some w =>
    have asks : some (.stop cause) = walkRequest w := asks
    unfold walkRequest at asks
    show some w.next = _
    cases next : w.next with
    | inl r =>
      rw [next] at asks
      cases asks
    | inr p =>
      obtain ⟨why, suspend⟩ := p
      rw [next] at asks
      cases suspend with
      | false =>
        cases asks
        rfl
      | true => cases asks

/-- A context that stays open after the sequencer's answer is metered all the same (R170 to R179). -/
theorem Metered.kept {b' : SessionBase} (h : Metered s a b) (kept : b' = { b with flags := b'.flags })
    (reverse : b'.flags.reverseFlow = b.flags.reverseFlow) (same : LineSettled s → b' = b) : Metered s a b' := by
  obtain ⟨base, flow, flags, items, energy⟩ := h
  have held : b'.items = b.items := congrArg (·.items) kept
  refine ⟨?_, reverse.trans flow, fun settled => ?_, ?_, ?_⟩
  · rw [kept, base]
  · rw [same settled]
    exact flags settled
  · rw [held]
    exact items
  · rw [held]
    exact energy

section
variable {q : Option MeterRequest} (h : Metering s x q a b)
include h

/-- What the sequencer's answer leaves of the context, or of its record (R170 to R179, R183). -/
theorem Metering.answered : match (takeRequest q x).mtr.session with
    | some c => Metered s a c.base
    | none => .sessionEnd ∈ (takeRequest q x).cpt.events ∧ ∃ (b : SessionBase) (cause : EndCause), Metered s a b ∧
        (intervalWalk s).map (·.next) = some (.inr (cause, false)) ∧
        RecordHeld (recordOf { b with flags := { b.flags with forcedStop := false } } cause) (takeRequest q x) := by
  obtain ⟨-, -, -, line⟩ := h.frame.parts
  obtain ⟨marked, settled⟩ | ⟨cause, asked, closed, -, event, record⟩ := takeRequest_session q h.session
  · obtain ⟨b', session, kept, reverse, -⟩ := marked.session h.session
    rw [session]
    refine Metered.kept h.metered kept reverse fun calm => ?_
    have same := settled (line calm)
    rw [same, h.session] at session
    cases session
    rfl
  · rw [closed]
    exact ⟨event, b, cause, h.metered, walkRequest_stop (asked.symm.trans h.asks), record⟩

/-- The checkpoints stand as the interval has taken them (R175, R188). -/
theorem Metering.answeredStore (settled : LineSettled s) : IntervalStored s (takeRequest q x) := by
  obtain ⟨-, -, -, line⟩ := h.frame.parts
  obtain ⟨⟨mst, -⟩, same⟩ | ⟨-, -, closed, -⟩ := takeRequest_session q h.session
  · have stored := h.stored
    unfold IntervalStored CheckpointTaken at stored ⊢
    rw [same (line settled)]
    dsimp only at stored ⊢
    rw [mst]
    exact stored
  · intro ss opened
    rw [closed] at opened
    cases opened

/-- The running descriptor and the sequencer follow the walk (R12, R13, R176 to R179). -/
theorem Metering.answeredMoves (drive : DriveSafe s) (settled : LineSettled s) : IntervalMovesSequencer s (takeRequest q x) := by
  obtain ⟨psq, -, -, line⟩ := h.frame.parts
  have low := ((Unmetered.refl x).takeRequest q).low
  have session := h.session
  have fetched := h.prefetched
  have asks := h.asks
  have told := h.low
  unfold IntervalMovesSequencer
  cases walk : intervalWalk s with
  | none =>
    rw [walk] at session fetched asks
    subst asks
    exact ⟨psq, by rw [show (takeRequest _ x).mtr.session = x.mtr.session from rfl, session]; rfl, fetched⟩
  | some w =>
    rw [walk] at session fetched asks
    refine ⟨low.trans (told w walk), ?_⟩
    have asks : q = walkRequest w := asks
    have session : x.mtr.session = some ⟨b, walkRunning w⟩ := session
    have fetched : x.mtr.prefetched = w.prefetched := fetched
    have drops := h.drops w
    cases next : w.next with
    | inl r =>
      unfold walkRequest at asks
      unfold walkRunning at session
      rw [next] at asks session
      subst asks
      exact ⟨psq, (congrArg (·.bind (·.running)) session).trans rfl, fetched⟩
    | inr p =>
      obtain ⟨cause, suspend⟩ := p
      have dropped : x.mtr.prefetched = none := fetched.trans (drops _ walk next)
      have rests : walkRunning w = none := by
        unfold walkRunning
        rw [next]
      have suspends := h.suspends
      unfold walkRequest at asks
      rw [next] at asks
      subst asks
      cases suspend with
      | false => exact chainEnded_stop h.frame drive settled session rests dropped
      | true =>
        refine chainEnded_suspend cause (line settled) psq dropped ?_ (suspends rfl)
        rw [session, rests]
        rfl

end

/-- What every interval leaves of the meter's sums, counters and table, and of the rest (R86, R170, R171, R188). -/
theorem interval_meters (frame : MeterFrame s x) (q : Option MeterRequest) :
    (takeRequest q x).mtr.sampleCount = 0 ∧ (takeRequest q x).mtr.powerSum = 0 ∧ (takeRequest q x).mtr.heaterSum = 0 ∧
      (takeRequest q x).mtr.importCarry = carryLeft s ∧
      (takeRequest q x).mtr.heaterCarry = (s.mtr.heaterCarry + s.mtr.heaterSum) % 28800000 ∧
      (takeRequest q x).crg.pMeter = intervalEnergy s * 3600 / 1000 ∧
      (takeRequest q x).mst.working = (intervalStarted s).mst.working ∧
      (takeRequest q x).mtr.table = s.mtr.table ∧ (takeRequest q x).cfg = s.cfg ∧ (takeRequest q x).msq = s.msq ∧
      (takeRequest q x).mst.page = s.mst.page := by
  have view := ((Unmetered.refl x).takeRequest q).view
  unfold MeterFrame at frame
  generalize takeRequest q x = t at view ⊢
  rw [frame] at view
  unfold meterView at view
  simp only [Prod.mk.injEq] at view
  obtain ⟨cfg, msq, pMeter, page, working, count, power, heater, carry, heaterCarry, table⟩ := view
  exact ⟨count, power, heater, carry, heaterCarry, pMeter, working, table, cfg, msq, page⟩

/-- Settles O48: the pair of an interval is applied as the walk says, descriptor by descriptor, and the sequencer then takes the request
of a chain's end. -/
theorem intervalsMeterEveryPair : Obligations.IntervalsMeterEveryPair := by
  unfold Obligations.IntervalsMeterEveryPair
  intro s run
  have interval : exec .meteringInterval s = .next (meteringInterval s) := whenRunning_running run
  have sample : exec .meterSample s = .next (meterSample s) := whenRunning_running run
  refine ⟨fun early => ?_, fun due => ?_⟩
  · rw [interval, sample, meterSample, meteringInterval_early early]
    exact ⟨rfl, rfl⟩
  · rw [interval, meteringInterval_due due]
    refine ⟨_, rfl, ?_⟩
    obtain session | ⟨ss, session⟩ := Option.eq_none_or_eq_some s.mtr.session
    · obtain ⟨quiet, frame, closed, fetched, store⟩ := meterInterval_closed session
      obtain ⟨count, power, heater, carry, heaterCarry, pMeter, working, table, cfg, msq, page⟩ :=
        interval_meters frame (meterInterval s).2
      have psq := frame.parts.1
      have crg : (meterInterval s).1.crg = { s.crg with pMeter := (meterInterval s).1.crg.pMeter } := by
        unfold MeterFrame at frame
        rw [frame]
        rfl
      rw [quiet] at count power heater carry heaterCarry pMeter working table cfg msq page ⊢
      generalize (meterInterval s).1 = x at *
      refine ⟨count, power, heater, carry, heaterCarry, pMeter, working, table, cfg, msq, page,
        fun _ => ⟨closed, psq, crg, store⟩, fun _ _ => ⟨?_, fun ss opened => ?_⟩, fun a opened => ?_⟩
      · unfold IntervalMovesSequencer
        rw [intervalWalk_closed session]
        exact ⟨psq, (congrArg (·.bind (·.running)) closed).trans rfl, fetched⟩
      · have opened : x.mtr.session = some ss := opened
        rw [closed] at opened
        cases opened
      · rw [session] at opened
        cases opened
    · obtain ⟨b, h⟩ := meterInterval_open session
      obtain ⟨count, power, heater, carry, heaterCarry, pMeter, working, table, cfg, msq, page⟩ :=
        interval_meters h.frame (meterInterval s).2
      refine ⟨count, power, heater, carry, heaterCarry, pMeter, working, table, cfg, msq, page, fun none => ?_,
        fun drive settled => ⟨h.answeredMoves drive settled, h.answeredStore settled⟩, fun a opened => ?_⟩
      · rw [session] at none
        cases none
      · rw [session] at opened
        obtain rfl := Option.some.inj opened
        exact h.answered

end Sys2Proof.Machine
end

section
/-! PROOF. The fast scan's publication trips the link at the rejoining of a leader's own step (R23, R102, R112,
R162): one publication both returns the sequencer to ACTIVE and enters FAULT from there. -/

namespace Sys2Proof.Machine

/-! ## A leader that rejoins after its own step, with its link above the ceiling -/

/-- A configured leader of a sweep in ISO_REJOIN of its own step (R23, R162): its precharge timer runs, and its
contactor, commanded open and supervised, still reads closed (R5). -/
def rejoiningLeader : State :=
  { State.reset with
    cpt.configured := true
    cfg.station := 5
    cfg.vPre := 6500
    psq.seq := .sweepIsolated .isoRejoin
    psq.isoReturn := some .active
    psq.prox := .latched
    psq.prechargeCmd := true
    psq.prechargeTimer := true
    psq.contactorFb := true
    psq.contactorSup := true
    psq.ident := some ⟨9, 4000, 3, false⟩
    shu.identCopy := some ⟨9, 4000, 160⟩
    shu.conds := ⟨false, false, false, false⟩
    shu.session := true
    shu.sweepTarget := true
    fli.line := .online
    fli.beaconTimer := some 250
    imn.localFlag := true
    imn.target := some ⟨5, none⟩
    imn.sweep := .leading ⟨[8, 5], 1, .ownStep, 0, false, false, 0⟩ }

/-- Its fast scan stands before its last pair: the pair of VLINK and VBAT has read a VLINK above V_pre and above
the link ceiling (R23, R102). -/
def overVoltageAtRejoin : State :=
  { rejoiningLeader with
    msq.converting := some .fast
    msq.fastScan := some [(0, 0), (0, 0), (0, 0), (8500, 4000)] }

/-- The state that the last pair's end leaves. -/
def trippedAtRejoin : State := pairDone 0 0 overVoltageAtRejoin

theorem overVoltageAtRejoin_driveSafe : DriveSafe overVoltageAtRejoin := by
  refine ⟨?trip, ?relays, ?timers, ?ownFault, ?unconfigured, ?session⟩ <;> decide +kernel

theorem overVoltageAtRejoin_lineSettled : LineSettled overVoltageAtRejoin := by decide +kernel

theorem exec_pairConversionDone_overVoltageAtRejoin :
    exec (.pairConversionDone 0 0) overVoltageAtRejoin = .next trippedAtRejoin := rfl

/-- The publication sets the latch by the link ceiling (R102). -/
theorem trippedAtRejoin_trip : trippedAtRejoin.ptu.trip = some ⟨.linkOver, []⟩ := by decide +kernel

/-- VLINK reaches V_pre first, so that the trip finds the sequencer in ACTIVE, and the sweep that the part leads
stays in its own step (R160). -/
theorem trippedAtRejoin_sweep :
    trippedAtRejoin.imn.sweep = .leading ⟨[8, 5], 1, .ownStep, 0, false, false, 0⟩ := by decide +kernel

/-! ## What a trip in isolation is said to leave -/

/-- A trip that finds a settled leader isolated in its own step ends the sweep (R162). -/
theorem TripTaken.sweep_none {s t : State} {r : LeaderRecord} {p : IsoPhase} (taken : TripTaken s t)
    (seq : s.psq.seq = .sweepIsolated p) (settled : LineSettled s) (leads : s.imn.sweep = .leading r)
    (own : r.phase = .ownStep) : t.imn.sweep = .none := by
  obtain ⟨-, entered⟩ := taken
  simp only [seq] at entered
  obtain ⟨-, abandoned⟩ := entered
  have abandoned := abandoned (by simp [seq, SeqState.isolated]) settled
  simp only [OwnStepAbandoned, leads] at abandoned
  obtain ⟨⟨ended, -⟩, -⟩ := abandoned own
  exact ended

/-- Refutes O30: a publication whose VLINK reaches both V_pre and the link ceiling rejoins a leader in its own
step before it trips, and the trip, which finds ACTIVE, leaves the sweep running; the statement, which reads the
isolation off the state before the publication, has the sweep ended ABANDONED (R162). -/
theorem not_scansConvertAndPublish : ¬ Obligations.ScansConvertAndPublish := by
  unfold Obligations.ScansConvertAndPublish
  intro holds
  obtain ⟨-, -, publishes⟩ := holds overVoltageAtRejoin 0 0 rfl overVoltageAtRejoin_driveSafe
    overVoltageAtRejoin_lineSettled
  obtain ⟨t, run, -, -, -, -, -, trips, -⟩ := publishes rfl
  obtain rfl : trippedAtRejoin = t :=
    Host.Outcome.next.inj (exec_pairConversionDone_overVoltageAtRejoin.symm.trans run)
  have taken : TripTaken overVoltageAtRejoin trippedAtRejoin :=
    trips rfl (by simp [trippedAtRejoin_trip])
  have ended : trippedAtRejoin.imn.sweep = .none :=
    TripTaken.sweep_none taken rfl overVoltageAtRejoin_lineSettled rfl rfl
  rw [trippedAtRejoin_sweep] at ended
  cases ended

end Sys2Proof.Machine
end
